-- ==== Sys2Proof/Word.lean ====
section
/-!
DEFINITION. Word.lean: the word types of the module (spec/00_scope.md R7) and the place of a register field.
-/
namespace Sys2Proof

/-- A BAR0 register word, 32 bits (00 R4). -/
abbrev Word := BitVec 32

/-- A byte, 8 bits (00 R7). -/
abbrev Byte := BitVec 8

/-- The place of a register field: the word's offset in PF BAR0, the lowest bit and the width in bits. -/
structure Fld where
  /-- BAR0 offset of the word. -/
  off : Nat
  /-- Lowest bit of the field. -/
  lo : Nat
  /-- Width in bits. -/
  width : Nat
  deriving DecidableEq, Repr

end Sys2Proof
end

