-- ==== Sys2Proof/Config.lean ====
section
/-!
DEFINITION. Config.lean: the values the spec leaves open, as constants without a body, so that nothing can be proved of them.
-/
namespace Sys2Proof

/-- Whether a quotient is rounded up where the spec gives a result in whole units and no rounding: `site` names the place, `num` over `den` is the exact value. -/
opaque Config.roundsUp (site : Nat) (num : Int) (den : Nat) : Bool

/-- The clear nonce PSH2 derives from its free-running counter (13 R361). -/
opaque Config.clearNonce (fresh : Nat) : BitVec 32

/-- A 64-bit seed from the entropy source (08 R203). -/
opaque Config.entropySeed (fresh : Nat) : BitVec 64

/-- SHA-384 (14 R375, 13 R360): 48 bytes of a published standard whose text the spec does not repeat (00 "What this manual covers"). -/
opaque Config.sha384 (data : List Byte) : List Byte

/-- Does the ECDSA P-384 signature verify over SHA-384 of the data under the key (13 R360, 14 R379)? -/
opaque Config.ecdsaVerify (key data signature : List Byte) : Bool

/-- The key vault's ECDSA P-384 signature (14 R373). -/
opaque Config.vaultSign (fresh : Nat) (data : List Byte) : List Byte

/-- Amplitude, start and duration of a step notice GLD1 makes of its own accord: the spec gives the fields and their ranges, not the figures (03 R65). -/
opaque Config.noticeFigure (use fresh : Nat) : Nat × Nat × Nat

/-- The converter code of rail PL1 to PL4 at its set voltage, which the spec does not give (12 R327). -/
opaque Config.railSetCode (rail : Nat) : Nat

/-- A byte of the firmware slots or of the certificate chain as the module was manufactured (14 Table 14-4). -/
opaque Config.factoryByte (addr : Nat) : BitVec 8

/-- SHA-384 digest of the firmware-signing key fused in GLD1 (0) or programmed in PSH2 OTP (1) (14 R379). -/
opaque Config.signerDigest (image : Nat) : List Byte

/-- SHA-384 digest of the root CA fused in GLD1 (14 Table 14-1). -/
opaque Config.rootDigest : List Byte

/-- Is the byte string the certificate chain of Table 14-1 for the serial number, apart from its root (14 R390)? -/
opaque Config.chainGood (chain : List Byte) (serial : Nat) : Bool

/-- The public key of the leaf certificate of a chain (14 Table 14-1). -/
opaque Config.leafKey (chain : List Byte) : List Byte

/-- What an LPDDR5X byte reads as while nothing has been written there since its channel last lost its contents, `era` naming that loss: the spec gives no such contents. -/
opaque Config.dramByte (era addr : Nat) : BitVec 8

/-- The channel that holds an LPDDR5X address: the spec gives no interleaving (12 Table 12-4). -/
opaque Config.dramChannel (addr : Nat) : Nat

/-- The energy of a state in shape-order mode, in units of 2^w: recomputed in binary32 in an order the spec does not give (08 R198). -/
opaque Config.shapeEnergy (exactEnergy : Int) (levels : List Nat) : Int

/-- The coupling of two positions of a rotated model whose image has this CRC, in units of 2^w: the spec does not give the layout of the dev_bytes area (08 R206, Table 08-3). -/
opaque Config.rotCoupling (image : Nat) (row column : Nat) : Int

/-- Bytes of tile and commons storage a model uses: the spec gives no rule of count (08 Table 08-4). -/
opaque Config.storageUsed (image : Nat) (tiles : Nat) : Nat

/-- Predicted sweep times of a model in ns, at full rate and limited by LPDDR5X: the spec gives no rule (08 Table 08-4). -/
opaque Config.predictedSweep (image : Nat) : Nat × Nat

/-- Bytes 4 to 35 of the load report of an image refused before it was graded: the spec gives no content (08 R196). -/
opaque Config.openReport (code image : Nat) : Nat

/-- An int64 master value whose exact sum lies outside int64: the spec states no result (08 R217). -/
opaque Config.wideMaster (v : Int) : BitVec 64

/-- The seed the positive phase of a training step runs from: the spec gives generators to replicas and chains only (08 R216). -/
opaque Config.positiveSeed (seed : Nat) : BitVec 64

/-- Payload units of 16 bytes of an Akgal frame whose layout the spec does not give (11 Table 11-3). -/
opaque Config.framePayload (kind fresh : Nat) : Nat

/-- Bytes of a mirror snapshot's delta: the spec gives no layout (11 R292). -/
opaque Config.deltaBytes (run epoch : Nat) : Nat

/-- Does placing the exact entries of a rule image fail: the spec gives no number of buckets (09 R245)? -/
opaque Config.placeFails (image seed : Nat) : Bool

/-- Identification and don't-fragment bit of an IPv4 context packet, or the flow label of an IPv6 one: the spec gives no value (09 R248). -/
opaque Config.packetOpen (fresh : Nat) : Nat

/-- Nanoseconds from the start of a Recess entry to its commit point, within the 2 ms of the entry (05 R122). -/
opaque Config.commitDelay (fresh : Nat) : Nat

/-- The address of the next instruction of a core that halts: no firmware is part of the spec (15 R406). -/
opaque Config.nextInstruction (fresh : Nat) : BitVec 32

/-- A general register of a core as it halts (15 Table 15-4). -/
opaque Config.coreReg (fresh x : Nat) : BitVec 32

/-- A word of core memory, `era` naming the run or load that left it (15 R406). -/
opaque Config.coreWord (era addr : Nat) : BitVec 32

/-- Bytes a memory channel has moved since its traffic counter was read, units of 64 KiB: the spec gives no share of accesses per channel (16 R423). -/
opaque Config.channelTraffic (fresh channel : Nat) : BitVec 32

end Sys2Proof
end

