-- ==== Sys2Proof/Machine/Num.lean ====
section
/-!
DEFINITION. Machine/Num.lean: exact arithmetic the families share: rounding of quotients, LINEAR11, CRC-32 and CRC-32C.
-/
namespace Sys2Proof.Machine

open Sys2Proof

/-- The quotient in whole units where the spec gives no rounding: the floor, or one more when it is not exact. -/
def roundOpen (site : Nat) (num : Int) (den : Nat) : Int :=
  num / (den : Int) + (if num % (den : Int) ≠ 0 ∧ Config.roundsUp site num den = true then 1 else 0)

/-- The quotient rounded to nearest, ties to even; the denominator is positive. -/
def roundEven (num : Int) (den : Nat) : Int :=
  let q := num / (den : Int)
  let r := num % (den : Int)
  if 2 * r < den then q else if den < 2 * r then q + 1 else if q % 2 = 0 then q else q + 1

/-- A LINEAR11 word: exponent in bits [15:11], mantissa in [10:0]; a value beyond the mantissa reads as the largest mantissa of its sign (04 R93). `num / den` is the value, `e` the (negative) exponent. -/
def linear11 (e : Int) (num : Int) (den : Nat) : Nat :=
  let m := roundEven (num * 2 ^ (-e).toNat) den
  let m := if m < -1024 then -1024 else if 1023 < m then 1023 else m
  ((e % 32).toNat) * 2048 + (m % 2048).toNat

/-- One step of a reflected CRC over a byte. -/
def crcByte (poly : Nat) (crc : Nat) (b : Byte) : Nat :=
  (List.range 8).foldl (fun c _ => if c % 2 = 1 then (c / 2) ^^^ poly else c / 2) (crc ^^^ b.toNat)

/-- Reflected CRC of 32 bits with all-ones start and final inversion. -/
def crcOver (poly : Nat) (data : List Byte) : Nat :=
  (data.foldl (crcByte poly) 0xFFFFFFFF) ^^^ 0xFFFFFFFF

/-- CRC-32 with the IEEE 802.3 polynomial (13 Table 13-3). -/
def crc32 (data : List Byte) : Nat := crcOver 0xEDB88320 data

/-- CRC-32C (Castagnoli). -/
def crc32c (data : List Byte) : Nat := crcOver 0x82F63B78 data

end Sys2Proof.Machine
end

