-- ==== Sys2Proof/Machine/Flt.lean ====
section
/-!
DEFINITION. Machine/Flt.lean: exact dyadic numbers, their rounding to IEEE 754 binary32 and binary64, and the functions the fabric and the sampler round (spec/07_cell_fabric_arithmetic.md R171, R181; 08_sampling_tempering.md R201, R220).
-/
namespace Sys2Proof.Machine

open Sys2Proof

/-- The number m × 2^e. -/
structure Dy where
  m : Int
  e : Int
  deriving DecidableEq, Repr

/-- Zero. -/
def Dy.zero : Dy := ⟨0, 0⟩

/-- An integer. -/
def Dy.ofInt (n : Int) : Dy := ⟨n, 0⟩

/-- The mantissa of `a` on the grid 2^e, for e at most its exponent. -/
def Dy.onGrid (a : Dy) (e : Int) : Int := a.m * 2 ^ (a.e - e).toNat

/-- Sum. -/
def Dy.add (a b : Dy) : Dy := let e := min a.e b.e; ⟨a.onGrid e + b.onGrid e, e⟩

/-- Negation. -/
def Dy.neg (a : Dy) : Dy := ⟨-a.m, a.e⟩

/-- Difference. -/
def Dy.sub (a b : Dy) : Dy := a.add b.neg

/-- Product. -/
def Dy.mul (a b : Dy) : Dy := ⟨a.m * b.m, a.e + b.e⟩

/-- Magnitude. -/
def Dy.abs (a : Dy) : Dy := ⟨a.m.natAbs, a.e⟩

/-- Is `a` below `b`? -/
def Dy.lt (a b : Dy) : Bool := decide ((a.sub b).m < 0)

/-- The larger of two. -/
def Dy.max (a b : Dy) : Dy := if a.lt b then b else a

/-- floor(a ÷ 2^k). -/
def Dy.floorAt (a : Dy) (k : Int) : Int :=
  if k ≤ a.e then a.m * 2 ^ (a.e - k).toNat else a.m / (2 ^ (k - a.e).toNat : Nat)

/-- Round to a multiple of 2^g, to nearest, ties to even. -/
def Dy.roundAt (a : Dy) (g : Int) : Dy :=
  if g ≤ a.e then a else ⟨roundEven a.m (2 ^ (g - a.e).toNat), g⟩

/-- Round to an integer, ties to even. -/
def Dy.toIntEven (a : Dy) : Int := let r := a.roundAt 0; r.onGrid 0

/-- Exponent of the leading bit. -/
def Dy.top (a : Dy) : Int := (Nat.log2 a.m.natAbs : Int) + a.e

/-- Round to `p` significant bits, to nearest, ties to even. -/
def Dy.roundP (p : Nat) (a : Dy) : Dy := if a.m = 0 then Dy.zero else a.roundAt (a.top + 1 - p)

/-- The binary32 addition of shape-order mode (07 R181); R183 keeps it within range. -/
def Dy.add32 (a b : Dy) : Dy := (a.add b).roundP 24

/-- Quotient rounded to `p` bits, to nearest, ties to even; 0 for a zero divisor. -/
def Dy.divP (p : Nat) (a b : Dy) : Dy :=
  if b.m = 0 then Dy.zero
  else
    let k : Nat := Nat.log2 b.m.natAbs + p + 3
    let n : Nat := a.m.natAbs * 2 ^ k
    let q : Nat := 2 * (n / b.m.natAbs) + (if n % b.m.natAbs = 0 then 0 else 1)
    let s : Int := if (a.m < 0) != (b.m < 0) then -1 else 1
    (Dy.mk (s * q) (a.e - b.e - k - 1)).roundP p

/-- The value of a finite binary32; none for an infinity or a NaN. -/
def f32val (bits : Nat) : Option Dy :=
  let x : Nat := bits / 2 ^ 23 % 256
  let f : Nat := bits % 2 ^ 23
  let s : Int := if bits.testBit 31 then -1 else 1
  if x = 255 then none
  else if x = 0 then some ⟨s * (f : Int), -149⟩
  else some ⟨s * ((f + 2 ^ 23 : Nat) : Int), (x : Int) - 150⟩

/-- Binary32 bits of a number, to nearest even; beyond range an infinity. -/
def f32bits (a : Dy) : Nat :=
  let s : Nat := if a.m < 0 then 2 ^ 31 else 0
  if a.m = 0 then 0
  else
    let g : Int := max (a.top - 23) (-149)
    let n : Nat := ((a.abs.roundAt g).onGrid g).toNat
    let g' : Int := if n = 2 ^ 24 then g + 1 else g
    let n' : Nat := if n = 2 ^ 24 then 2 ^ 23 else n
    if 104 < g' then s + 0x7F800000
    else if n' < 2 ^ 23 then s + n'
    else s + ((g' + 150).toNat * 2 ^ 23 + (n' - 2 ^ 23))

/-- Is the binary32 finite and above 0? -/
def f32pos (bits : Nat) : Bool :=
  match f32val bits with
  | some v => decide (0 < v.m)
  | none => false

/-- Is the binary32 finite? -/
def f32finite (bits : Nat) : Bool := (f32val bits).isSome

/-- Its value, 0 for an infinity or a NaN. -/
def f32get (bits : Nat) : Dy := (f32val bits).getD Dy.zero

/-- The binary32 +∞. -/
def f32inf : Nat := 0x7F800000

/-- floor of the n-th root, bit by bit from bit `k` down. -/
def natRoot (n a : Nat) : Nat → Nat → Nat
  | 0, r => r
  | k + 1, r => natRoot n a k (if (r + 2 ^ k) ^ n ≤ a then r + 2 ^ k else r)

/-- The n-th root of a positive number, rounded to `p` bits. -/
def Dy.rootP (p n : Nat) (a : Dy) : Dy :=
  let pad := n * (p + 4) + ((a.e % (n : Int)).toNat)
  let m := a.m.natAbs * 2 ^ pad
  let e := (a.e - pad) / (n : Int)
  let r := natRoot n m (Nat.log2 m / n + 2) 0
  (Dy.mk (2 * r + (if r ^ n = m then 0 else 1)) (e - 1)).roundP p

/-- Terms of the exponential series in fixed point of 320 bits: `t` is the running term, `i` its index. -/
def expSeries (x : Nat) : Nat → Nat → Nat → Nat → Nat
  | 0, _, _, acc => acc
  | k + 1, i, t, acc => let t' := t * x / 2 ^ 320 / (i + 1); expSeries x k (i + 1) t' (acc + t')

/-- e^z in fixed point of 320 bits, for 0 ≤ z < 64: the series at z ÷ 256, squared eight times. -/
def expFixed (z : Dy) : Nat :=
  let x := ((z.mul ⟨1, -8⟩).floorAt (-320)).toNat
  let y := expSeries x 64 0 (2 ^ 320) (2 ^ 320)
  (List.range 8).foldl (fun v _ => v * v / 2 ^ 320) y

/-- e^z correctly rounded to binary64, for |z| < 64 (PRESUMED, log: R201 names binary64 and no function library). -/
def exp64 (z : Dy) : Dy :=
  let v : Dy := ⟨expFixed z.abs, -320⟩
  if z.m < 0 then (Dy.ofInt 1).divP 53 v else v.roundP 53

end Sys2Proof.Machine
end

