-- ==== Sys2Proof/Machine/Store.lean ====
section
/-!
DEFINITION. Machine/Store.lean: sparse storage in one canonical form, used for register words, for bytes of memory and for Hall Pass entries.
-/
namespace Sys2Proof.Machine

/-- A sparse array: pairs of key and value, keys strictly rising, no value equal to what an unlisted key reads as. -/
abbrev Store (β : Type) := List (Nat × β)

/-- What key `a` reads as; `d` gives an unlisted key's value. -/
def Store.read {β : Type} (d : Nat → β) : Store β → Nat → β
  | [], a => d a
  | (k, v) :: t, a => if k = a then v else Store.read d t a

/-- The store without key `a`. -/
def Store.without {β : Type} (c : Store β) (a : Nat) : Store β := c.filter (fun p => decide (p.1 ≠ a))

/-- A pair put before the first larger key. -/
def Store.place {β : Type} (a : Nat) (b : β) : Store β → Store β
  | [] => [(a, b)]
  | (k, v) :: t => if a < k then (a, b) :: (k, v) :: t else (k, v) :: Store.place a b t

/-- Write `b` at key `a`, keeping the canonical form: writing the unlisted value removes the pair. -/
def Store.write {β : Type} [DecidableEq β] (d : Nat → β) (c : Store β) (a : Nat) (b : β) : Store β :=
  if b = d a then c.without a else (c.without a).place a b

/-- Every pair of `c` lies at a key of at least `lo`, the keys rise, and no value is the unlisted one. -/
def Store.wfFrom {β : Type} [DecidableEq β] (d : Nat → β) (lo : Nat) : Store β → Bool
  | [] => true
  | (k, v) :: t => decide (lo ≤ k) && decide (v ≠ d k) && Store.wfFrom d (k + 1) t

/-- The canonical form. -/
def Store.wf {β : Type} [DecidableEq β] (d : Nat → β) (c : Store β) : Bool := Store.wfFrom d 0 c

/-- Write consecutive values from key `a` on. -/
def Store.writeList {β : Type} [DecidableEq β] (d : Nat → β) (c : Store β) (a : Nat) : List β → Store β
  | [] => c
  | b :: t => Store.writeList d (Store.write d c a b) (a + 1) t

/-- Read `n` consecutive values from key `a` on. -/
def Store.readList {β : Type} (d : Nat → β) (c : Store β) (a : Nat) : Nat → List β
  | 0 => []
  | n + 1 => Store.read d c a :: Store.readList d c (a + 1) n

/-- Return the keys of [lo, lo + n) to what an unlisted key reads as. -/
def Store.clear {β : Type} (c : Store β) (lo n : Nat) : Store β :=
  c.filter (fun p => !(decide (lo ≤ p.1) && decide (p.1 < lo + n)))

end Sys2Proof.Machine
end

