-- ==== Sys2Proof/Machine/StFabric.lean ====
section
/-!
DEFINITION. Machine/StFabric.lean: descriptors in flight, completion entries, loaded models, running fabric work, sampler paths and the Hall Pass banks (spec/06_host_rings.md, 07_cell_fabric_arithmetic.md, 08_sampling_tempering.md, 10_hall_pass_deadlines.md).
-/
namespace Sys2Proof.Machine

/-- How far a fetched descriptor has come (06 R147 to R149). -/
inductive FlightStage where
  /-- Accepted, its work not begun. -/
  | waiting
  /-- Its work runs. -/
  | running
  /-- Its work has ended; its entry waits to be written. -/
  | ended
  deriving DecidableEq, Repr

/-- The completion kinds of Table 06-9. -/
inductive EntryKind where
  | descriptor | verdict | event
  deriving DecidableEq, Repr

/-- A completion entry but for its phase and sq_head, which are set as it is written (06 R144). -/
structure Entry where
  tag : Nat
  status : Nat
  kind : EntryKind
  infoShort : Bool
  infoReplayed : Bool
  infoCancel : Bool
  sq : Nat
  part : Nat
  replay : Nat
  result0 : Nat
  result1 : Nat
  time : Nat
  deriving DecidableEq, Repr

/-- An entry waiting on-die for its CQ (06 R147, R158). -/
structure Held where
  cq : Nat
  entry : Entry
  /-- It counts toward moderation: not an entry of a no_irq descriptor (R153). -/
  counted : Bool
  /-- A verdict of priority class 7 (R153). -/
  urgent : Bool
  /-- The stream of a verdict entry, for R158's hold of 64. -/
  stream : Option Nat
  /-- The in-flight descriptor that ends with this entry. -/
  flight : Option Nat
  /-- The record a verdict entry reports. -/
  record : Option Nat
  /-- Its CQ was full, stopped or waiting for resume as the work ended (R158, 11 R297). -/
  waited : Bool
  deriving DecidableEq, Repr

/-- The default-Timetable fields of SMP_DEFAULTS (08 Table 08-9). -/
structure SmpDefaults where
  metropolis : Bool
  interval : Nat
  epochSweeps : Nat
  epochTime : Nat
  rungs : Nat
  deriving DecidableEq, Repr

/-- A descriptor in flight, copied on-die (06 R136, R149). -/
structure Flight where
  id : Nat
  sq : Nat
  part : Nat
  bytes : List Byte
  stage : FlightStage
  /-- The status it ended with. -/
  status : Nat
  /-- It is a standing CLASSIFY_STREAM (R146). -/
  standing : Bool
  /-- Fetched during the handover: held until full service (05 R118). -/
  heldBack : Bool
  /-- A chained descriptor's predecessor, while that is in flight (R141). -/
  chainOn : Option Nat
  /-- The predecessor ended with a status of 0x10 or more. -/
  chainBad : Bool
  /-- SMP_DEFAULTS as it stood at the fetch (08 R221). -/
  smp : SmpDefaults
  deriving DecidableEq, Repr

/-- A xoshiro128++ generator (08 R202). -/
structure Xo where
  s0 : BitVec 32
  s1 : BitVec 32
  s2 : BitVec 32
  s3 : BitVec 32
  deriving DecidableEq, Repr

/-- One rung of a Timetable: β, field shift q, exchange shift q_x (08 Table 08-6). -/
structure Rung where
  beta : Dy
  shift : Nat
  exch : Nat
  deriving DecidableEq, Repr

/-- A Timetable (08 R207). -/
structure TimeTable where
  metropolis : Bool
  interval : Nat
  epochSweeps : Nat
  epochTime : Nat
  rungs : List Rung
  deriving DecidableEq, Repr

/-- A variable: its first position, the positions it takes (1 for a two-level variable, else its levels), colour, home gang row and home model column (08 R194, R202). -/
structure Var where
  first : Nat
  levels : Nat
  colour : Nat
  row : Nat
  col : Nat
  deriving DecidableEq, Repr

/-- The verdict section of a model image (08 Table 08-3). -/
structure VerdictSec where
  cls : Nat
  ref : Int
  scale : Nat
  replicas : Nat
  k : Nat
  deriving DecidableEq, Repr

/-- A rotation block: first position, position count, and the offsets of its coefficients, states and boundary fields in the dev_bytes area (08 Table 08-3, R206). -/
structure RotBlock where
  first : Nat
  count : Nat
  coeffs : Nat
  states : Nat
  bounds : Nat
  deriving DecidableEq, Repr

/-- A kept state of a tracker (08 R212). -/
structure Tracked where
  energy : Int
  packed : Nat
  visits : Nat
  rung : Nat
  deriving DecidableEq, Repr

/-- A replica: the level of every variable, its energy in units of 2^w, and its rung (08 R198, R208). -/
structure Replica where
  levels : List Nat
  energy : Int
  rung : Nat
  deriving DecidableEq, Repr

/-- The last completed run on a slot: its result header and states (08 R213, R214). -/
structure LastRun where
  header : List Byte
  states : List Tracked
  sat : Bool
  deriving DecidableEq, Repr

/-- A loaded model (08 R195, R196; 07 R169 to R178). -/
structure Model where
  part : Nat
  gangs : List Nat
  /-- 0, 1 or 2: gangs of 1, 4 or 16 tiles. -/
  size : Nat
  kind : Nat
  colours : Nat
  positions : Nat
  exactDefault : Bool
  rotation : Bool
  trainable : Bool
  columnLen : Nat
  blockSweeps : Nat
  betaCold : Nat
  betaHot : Nat
  offset : Int
  opsPerByte : Nat
  epochs : Nat
  posSweeps : Nat
  devBase : Nat
  devBytes : Nat
  /-- CRC of the image, which names its rotation couplings. -/
  image : Nat
  eMin : Nat
  /-- Mantissas by bank index, exponents by block. -/
  mants : Store Int
  exps : Store Nat
  columns : List Nat
  rows : List Nat
  vars : List Var
  blocks : List RotBlock
  own : Option TimeTable
  /-- The Timetable the slot's last run used, or the one in force at its load (08 R228). -/
  table : TimeTable
  /-- Trainable couplings and data positions (08 Table 08-3). -/
  trainMap : List Nat
  dataPos : List Nat
  verdict : Option VerdictSec
  exactOk : Bool
  boundLog2 : Nat
  homeroom : Bool
  last : Option LastRun
  kept : List Replica
  chains : List Replica
  /-- Master values of trainable couplings, where they differ from the loaded ones (08 R217). -/
  masters : List (Nat × Int)
  trained : Bool
  deriving DecidableEq, Repr

/-- The state of a run that an epoch boundary makes consistent (08 R210). -/
structure Path where
  /-- The run's Timetable, and that table as the present annealing point scales it. -/
  base : TimeTable
  table : TimeTable
  /-- Annealing points still to run: beta_scale, sweeps, reshift (08 R211). -/
  points : List (Dy × Nat × Bool)
  /-- Sweeps done in the present point. -/
  pointSweeps : Nat
  reps : List Replica
  /-- The replica whose sweep is next. -/
  next : Nat
  gens : Store Xo
  ladders : Store Xo
  sweeps : Nat
  rounds : Nat
  /-- Sweeps since the epoch began. -/
  inEpoch : Nat
  track : List Tracked
  attempts : Nat
  accepted : Nat
  deriving DecidableEq, Repr

/-- What a run does. -/
inductive RunKind where
  | mac | sample | anneal
  /-- A record verdict: its stream and the record's number (08 R215). -/
  | record (stream rec : Nat)
  deriving DecidableEq, Repr

/-- Work on a gang set, or waiting for one (10 R266). -/
structure Run where
  /-- The descriptor's flight, or a record's own number. -/
  id : Nat
  /-- Its place in the order in which work became ready: fetch, or the end of Syllabus (10 R266). -/
  ready : Nat
  kind : RunKind
  part : Nat
  prio : Nat
  slot : Nat
  /-- Gang size and gang count of its model. -/
  size : Nat
  count : Nat
  /-- Gangs held; none while it waits. -/
  gangs : Option (List Nat)
  /-- It has held gangs before: its replicas are in flight (08 R208). -/
  live : Bool
  /-- The gang named, or 0xFF. -/
  gang : Nat
  /-- Its step notice has been granted and the step has started (03 R65). -/
  started : Bool
  /-- Stopped by a fault of this tile until a spare or partner stands in (12 R330). -/
  stopped : Option Nat
  exact : Bool
  seed : Nat
  /-- Vectors to run and done, and flags of shape-order and exact outputs. -/
  vectors : Nat
  done : Nat
  /-- Bursts loaded for a record (09 R251). -/
  loaded : Nat
  cancel : Bool
  sat : Bool
  inExp : Int
  /-- The descriptor's shape-order group, 0 for none; and the group of each gang in the present pass (07 R181, R188). -/
  group : Nat
  groups : List Nat
  /-- Sweeps to run, tracker size. -/
  total : Nat
  k : Nat
  /-- The record's bias by position, in units of 2^w (08 R215). -/
  bias : List (Nat × Dy)
  path : Path
  /-- The path at the epoch's start (08 R224). -/
  saved : Path
  /-- It waits for its epoch boundary. -/
  boundary : Bool
  /-- Epochs repeated, and repeats of the present epoch (12 R331). -/
  replays : Nat
  repeats : Nat
  /-- Held at a boundary for a mirror snapshot (11 R292). -/
  held : Bool
  /-- The status its work ended with, while its verdict is not yet produced; 0 while it runs (10 R266). -/
  failed : Nat
  deriving DecidableEq, Repr

/-- Replicas a standing CLASSIFY_STREAM holds between records (08 R215). -/
structure StreamHold where
  stream : Nat
  slot : Nat
  count : Nat
  seed : Nat
  reps : List Replica
  gens : Store Xo
  ladders : Store Xo
  deriving DecidableEq, Repr

/-- The fabric and the sampler beside the FAB and SMP registers. -/
structure Fabric where
  /-- Loaded models by slot, ascending. -/
  models : List (Nat × Model)
  /-- Work on gangs or waiting, in the order it became ready. -/
  runs : List Run
  holds : List StreamHold
  /-- Accumulators after the last pass or sweep, by tile × 4,096 + row × 64 + column; unlisted 0 (07 R186). -/
  accs : Store Int
  /-- A latched accumulator: 68-bit value (07 R186); and a capture asked for and not yet made. -/
  captured : Option Int
  capturing : Bool
  /-- The fabric is powered: not in Recess, not after a thermal shutdown. -/
  powered : Bool
  /-- Tiles a partner stands for: (fenced tile, partner tile) (12 R330). -/
  partners : List (Nat × Nat)
  /-- Tiles fenced on a ledger order rather than a fault. -/
  faulted : List Nat
  deriving DecidableEq, Repr

/-- One write that waits for the Hall Pass copy: entry, value, and whether it is a refresh (10 R264). -/
structure PassWrite where
  index : Nat
  value : Nat
  refresh : Bool
  deriving DecidableEq, Repr

/-- A publish between fetch and flip (10 R265). -/
structure Publish where
  flight : Nat
  /-- The request has been launched through X11. -/
  launched : Bool
  deriving DecidableEq, Repr

/-- The Hall Pass port beside the HPS registers. -/
structure HallPass where
  /-- Banks 0 and 1: entries that are not 0. -/
  bank0 : Store Nat
  bank1 : Store Nat
  /-- The running publish and those that wait for its copy, oldest first. -/
  publishes : List Publish
  queue : List PassWrite
  /-- A shadow_fill that waits for the copy: how many queued writes go before it, and its code. -/
  fill : Option (Nat × Nat)
  /-- Flipped, the done indication not yet across X13: flight, bank, time. -/
  done : Option (Nat × Nat × Nat)
  /-- The copy waits for HP_CLK (R272). -/
  copyWaits : Bool
  /-- The answer driven: HP_VERDICT and HP_TAGV. -/
  verdict : Nat
  tagv : Bool
  /-- Triggers and default answers counted while X12 is held (01 R21). -/
  heldTriggers : Nat
  heldDefaults : Nat
  deriving DecidableEq, Repr

/-- An LPDDR5X range the module has last written with contents whose layout the spec does not give, and the mark of that writing (08 R196, R206, R217). -/
structure DevArea where
  base : Nat
  len : Nat
  mark : Nat
  deriving DecidableEq, Repr

/-- Marks that name what unlisted LPDDR5X bytes read as: per channel the last loss of contents, and the areas written by the module. -/
structure DramEra where
  channels : List Nat
  areas : List DevArea
  deriving DecidableEq, Repr

/-- No loss and no area yet. -/
def DramEra.reset : DramEra := ⟨[0, 0, 0, 0], []⟩

/-- No models, no work. -/
def Fabric.reset : Fabric := ⟨[], [], [], [], none, false, true, [], []⟩

/-- Both banks 0, nothing published, the outputs low. -/
def HallPass.reset : HallPass := ⟨[], [], [], [], none, none, false, 0, false, 0, 0⟩

end Sys2Proof.Machine
end

