-- ==== Sys2Proof/Syntax.lean ====
section
/-!
DEFINITION. Syntax.lean: the commands of the module, one constructor per row of spec/opcode_table.json, with the operands each carries.
-/
namespace Sys2Proof

/-- A PCI configuration control that the rules name (spec/06_host_rings.md R153, 05 R121). -/
inductive CfgField where
  | msixEnable (on : Bool)
  | funcMask (on : Bool)
  | busMaster (on : Bool)
  | aspmL1 (on : Bool)
  | numVfs (n : Nat)
  | d3hot (on : Bool)
  | maxPayload (bytes : Nat)
  | maxRead (bytes : Nat)
  deriving DecidableEq, Repr

/-- What a configuration read names (06 Table 06-1). -/
inductive CfgItem where
  | ids | classCode | msixControl | command | powerState | maxPayload | maxRead | aspm | totalVfs | vfStride | firstVf | numVfs
  deriving DecidableEq, Repr

/-- What a host write addresses: BAR0 or BAR2 of the function, or one of its configuration controls (06 R132). -/
inductive BusTarget where
  | bar0 (off : Nat)
  | bar2 (off : Nat)
  | config (f : CfgField)
  deriving DecidableEq, Repr

/-- Who reads a register: a function of the host (0 PF, 1 to 8 VF), in BAR0, in the doorbells of BAR2 or in configuration space, or a sequencer core (00 R3, 06 R132). -/
inductive Reader where
  | host (fn : Nat)
  | doorbells (fn : Nat)
  | config (fn : Nat) (item : CfgItem)
  | core
  deriving DecidableEq, Repr

/-- The two management paths to PSH2 (06 R155, 03 R70). -/
inductive MgmtPath where
  | bar0 | pmbus
  deriving DecidableEq, Repr

/-- How a PMBus write ends: whole, with a failed PEC check, or short of its data bytes (16 R425). -/
inductive PmbEnd where
  | whole | badPec | short
  deriving DecidableEq, Repr

/-- A PMBus transaction of a read and write command (16 Table 16-4). -/
inductive PmbAcc where
  | read
  | write (fin : PmbEnd) (value : Nat)
  deriving DecidableEq, Repr

/-- A clock GLD1 watches (01 R20). -/
inductive WatchedClock where
  | refclk | capture | hpClk | eth0 | eth1
  | akgal (port : Nat)
  deriving DecidableEq, Repr

/-- The content of a GP link frame (01 R11, Table 01-3). -/
inductive GpMsg where
  /-- An idle frame (01 R12). -/
  | idle
  /-- A ledger mgmt_state value, PSH2 to GLD1 (12 R324). -/
  | mgmt (unit value : Nat)
  /-- A power-good value, PSH2 to GLD1 (12 R327). -/
  | pgood (unit : Nat) (good : Bool)
  /-- A PWR or RCD word for the mirror, PSH2 to GLD1 (03 R80). -/
  | mirror (off : Nat) (word : Word)
  /-- A step notice, GLD1 to PSH2 (03 Table 03-5a). -/
  | notice (id amplitude start duration : Nat)
  /-- PSH2's answer to a step notice (03 R65). -/
  | answer (id : Nat) (accepted : Bool)
  /-- A BAR0 write to PWR or RCD, GLD1 to PSH2 (03 R80). -/
  | write (off : Nat) (word : Word)
  /-- The clear of an RC field read through the mirror (03 R80). -/
  | rcClear (off lo width amount : Nat)
  /-- Six bytes of the GLD1 image or a manifest (01 R11). -/
  | image (bytes : List Byte)
  /-- GLD1 asks for a calibration (05 Table 05-2). -/
  | calRequest
  /-- GLD1 asks PSH2 for IN_SERVICE of a unit (12 R328). -/
  | unitRequest (unit : Nat)
  /-- GLD1's data_state of a unit, for the Report Card (01 Table 01-2). -/
  | dataState (unit value : Nat)
  deriving DecidableEq, Repr

/-- One evaluation of trip rules (03 Table 03-9): a 1 µs sample of the fast monitors (10 mA, 10 mV), a power result, `since` 1/64 ns after the last power-pair result and `period` 1/64 ns after the last evaluation, or the 100 ms temperature evaluation. -/
inductive EvalTick where
  | fast (iin vin : Nat)
  | power (since period : Nat)
  | temperature
  deriving DecidableEq, Repr

/-- A change that lets a vector send (06 R153). -/
inductive MsixChange where
  | vector (v : Nat)
  | config (f : CfgField)
  deriving DecidableEq, Repr

/-- A PMBus transaction PSH2 does not support or accept (16 R425): a code it does not have, a direction a command does not have, or an OPERATION value of no meaning (03 Table 03-12). -/
inductive Unsupported where
  | code (c : Nat)
  | direction (c : Nat)
  | operation (v : Nat)
  deriving DecidableEq, Repr


/-- The identity record of an Akgal port (11 Table 11-2). -/
structure IdRecord where
  serial : Nat
  slotId : Nat
  port : Nat
  systemId : Nat
  index : Nat
  sizeM1 : Nat
  topology : Nat
  profile : Nat
  mirrorEpoch : Nat
  deriving DecidableEq, Repr

/-- What an Akgal DATA frame carries (11 R280, R288 to R296, 14 R390); the spec gives contents, and byte layouts for exact partials only. -/
inductive AkMsg where
  /-- Class 0: an exact partial of an output or position (R288). -/
  | partialSum (slot index : Nat) (value : Int)
  /-- Class 1: this member has loaded an image with the CRC (R287). -/
  | shareLoaded (slot crc : Nat)
  /-- Class 1: this member has fetched its descriptor of a shared run (R288). -/
  | shareFetched (slot : Nat) (desc : List Byte)
  /-- Class 1: this member gives up the load (or the descriptor alone) it had announced (R287). -/
  | shareDropped (slot : Nat) (load : Bool)
  /-- Class 1: this member has visited its blocks of a wave; its updates went before (R288). -/
  | shareWave (slot : Nat)
  /-- Class 1: this member's part of an offer: its energy, and which kept states its part matches. -/
  | shareOffer (slot : Nat) (energy : Int) (same : List Bool)
  /-- Class 1: the leader's decision: the whole energy, the state visited again, or the place where the new one is kept. -/
  | shareDecide (slot : Nat) (energy : Int) (visit place : Option Nat)
  /-- Class 2: a configuration register write, and whether the Prefect's block was in Expert (Table 11-6). -/
  | register (off : Nat) (word : Word) (expert : Bool)
  /-- Class 2: a bank swap: the image now active. -/
  | rules (image : List (Nat × Byte))
  /-- Class 2: the model now in a slot. -/
  | model (slot : Nat) (m : Machine.Model)
  /-- Class 2: the Hall Pass table published. -/
  | table (entries : List (Nat × Nat))
  /-- Class 2: a refresh write. -/
  | refresh (index value : Nat)
  /-- Class 2: a run's boundary state. -/
  | snapshot (r : Machine.Run)
  /-- Class 2: descriptors in flight and the entries of those that have ended, SQ heads, CQ tails and phases by ring, records released per stream, and the counts of each standing CLASSIFY_STREAM. -/
  | rings (flights : List Machine.Flight) (entries : List Machine.Held) (heads : List (Nat × Nat)) (tails : List (Nat × Nat × Nat))
      (release : List Nat) (standing : List (List Nat))
  /-- Class 2, of a full copy: every mirrored register, and the partition fields in force. -/
  | config (words : List (Nat × Word)) (parts : List (List Nat))
  /-- Class 2, of a full copy: LPDDR5X bytes of the dev_bytes areas of loaded models. -/
  | memory (cells : List (Nat × Byte))
  /-- Class 2: the full copy is complete. -/
  | copyDone
  /-- Class 3: a doorbell write the Deputy received. -/
  | doorbell (cq : Bool) (n value : Nat)
  /-- Class 3: the role this member was asked to take. -/
  | want (role : Nat)
  /-- Class 3: pairing has failed on this member, with its code of Table 11-8 (R293). -/
  | pairFailed (code : Nat)
  /-- Class 3: pair authentication (14 R390). -/
  | chain (bytes : List Byte)
  | nonce (bytes : List Byte)
  | signature (bytes : List Byte)
  /-- Class 3: answers and requests between the members. -/
  | snapshotAck (stream : Option Nat) (n : Nat)
  | copyAck
  | unpair
  | swap
  /-- SQ tails by ring. -/
  | swapState (sqTails : List (Nat × Nat))
  | swapAck
  /-- A claim; `cut` when it was made, or is answered, by a member that stands as Prefect already (R302). -/
  | claim (cut : Bool)
  deriving DecidableEq, Repr

/-- An Akgal frame's header and content (11 Table 11-3). -/
structure AkFrame where
  cls : Nat
  src : Nat
  dst : Nat
  context : Nat
  msg : AkMsg
  deriving DecidableEq, Repr

/-- How a record on the Capture link ends (09 R231, R232). -/
inductive RecEnd where
  /-- An EOR block with its CRC-32. -/
  | eor (crc : Nat)
  /-- A premature SOR block. -/
  | sor
  /-- A bad block. -/
  | bad
  deriving DecidableEq, Repr

/-- What causes a warm reset other than PERST_N (05 Table 05-6). -/
inductive WarmCause where
  | hotReset | linkDown | flr | glbReset
  deriving DecidableEq, Repr

/-- The locked sequences of Table 15-5 a halt can meet (15 R408). -/
inductive LockSeq where
  | ringPointer | descriptor | unlockPair | spiErase
  deriving DecidableEq, Repr

/-- The commands: every row of the opcode table, those with operands first and within each part in the order of the table. -/
inductive Instr where
  /-- REGISTER_WRITE (R1). -/
  | registerWrite (fn : Nat) (target : BusTarget) (size : Nat) (value : Nat)
  /-- RC_READ (R3). -/
  | rcRead (reader : Reader) (off : Nat) (size : Nat)
  /-- GP_LINK_FRAME (R12). -/
  | gpLinkFrame (toGld : Bool) (seq : Nat) (crcOk : Bool) (msg : GpMsg)
  /-- GP_LINK_REFUSAL (R12). -/
  | gpLinkRefusal (toGld : Bool) (expected : Nat)
  /-- GP_LINK_IDLE (R12). -/
  | gpLinkIdle (toGld : Bool)
  /-- CLOCK_LOST (R20). -/
  | clockLost (c : WatchedClock)
  /-- CLOCK_PRESENT (R20). -/
  | clockPresent (c : WatchedClock)
  /-- MFR_SLOT_STATUS (R49). -/
  | mfrSlotStatus (x : PmbAcc)
  /-- FAST_TRIP (R57). -/
  | fastTrip (rules : List Nat)
  /-- RULE_EVALUATION (R59). -/
  | ruleEvaluation (t : EvalTick)
  /-- RULE_FIRES (R60). -/
  | ruleFires (rules : List Nat)
  /-- CONFIRM_WINDOW_END (R60). -/
  | confirmWindowEnd (rules : List Nat)
  /-- LIMIT_ACTION_RELEASE (R59). -/
  | limitActionRelease (n : Nat)
  /-- CLEAR_FAULTS (R79). -/
  | clearFaults (fin : PmbEnd)
  /-- STEP_NOTICE (R66). -/
  | stepNotice (id amplitude start duration : Nat)
  /-- STEP_NOTICE_ANSWER (R65). -/
  | stepNoticeAnswer (id : Nat) (accepted : Bool)
  /-- STEP_START (R65). -/
  | stepStart (id : Nat)
  /-- STEP_NOTICE_RETRY (R66). -/
  | stepNoticeRetry (id : Nat)
  /-- NOTICE_CLOSE (R67). -/
  | noticeClose (id : Nat)
  /-- PWR_PROFILE (R68). -/
  | pwrProfile (value : Nat)
  /-- RULE_COMMIT (R70). -/
  | ruleCommit (path : MgmtPath) (alsoReload : Bool)
  /-- RULE_RELOAD (R70). -/
  | ruleReload (path : MgmtPath)
  /-- OPERATION_ON (R29). -/
  | operationOn (fin : Option PmbEnd)
  /-- OPERATION_SOFT_OFF (R430). -/
  | operationSoftOff (fin : PmbEnd)
  /-- OPERATION_IMMEDIATE_OFF (R78). -/
  | operationImmediateOff (fin : PmbEnd)
  /-- MFR_BREAKER_PROFILE (R70). -/
  | mfrBreakerProfile (x : PmbAcc)
  /-- MFR_EXPERT_UNLOCK (R155). -/
  | mfrExpertUnlock (fin : PmbEnd) (key : Nat)
  /-- MFR_REG_ADDR (R79). -/
  | mfrRegAddr (x : PmbAcc)
  /-- MFR_REG_DATA (R79). -/
  | mfrRegData (x : PmbAcc)
  /-- PSH2_REGISTER_WRITE (R80). -/
  | psh2RegisterWrite (off : Nat) (value : Nat)
  /-- CONVERSION_END (R83). -/
  | conversionEnd (a : Option Int) (b : Option Int) (dt : Nat)
  /-- ACC_SNAP (R90). -/
  | accSnap (alsoClear : Bool)
  /-- MFR_ADC_CAL (R94). -/
  | mfrAdcCal (fin : PmbEnd)
  /-- CALIBRATION_END (R94). -/
  | calibrationEnd (offA : Int) (gainA : Int) (offB : Int) (gainB : Int)
  /-- CAL_VALUE_WRITE (R94). -/
  | calValueWrite (conv : Nat) (isGain : Bool) (value : Nat)
  /-- LP_GATE_OFF_WRITE (R96). -/
  | lpGateOffWrite (on : Bool)
  /-- PWR_ADC_PROFILE (R99). -/
  | pwrAdcProfile (value : Nat)
  /-- MFR_ADC_PROFILE (R99). -/
  | mfrAdcProfile (x : PmbAcc)
  /-- PWR_ADC_URGENT (R101). -/
  | pwrAdcUrgent (conv : Nat) (value : Nat)
  /-- MFR_METER_ADDR (R107). -/
  | mfrMeterAddr (x : PmbAcc)
  /-- MFR_METER_DATA (R107). -/
  | mfrMeterData (x : PmbAcc)
  /-- STAGE_COMPLETE (R112). -/
  | stageComplete (failed : List Nat)
  /-- WARM_RESET (R120). -/
  | warmReset (cause : WarmCause)
  /-- VF_FLR (R119). -/
  | vfFlr (vf : Nat)
  /-- RECESS_BAR0_WAKE (R124). -/
  | recessBar0Wake (fn : Nat) (off : Nat)
  /-- RECESS_PROFILE (R156). -/
  | recessProfile (value : Nat)
  /-- SQ_DOORBELL (R157). -/
  | sqDoorbell (fn : Nat) (n : Nat) (value : Nat)
  /-- CQ_DOORBELL (R159). -/
  | cqDoorbell (fn : Nat) (n : Nat) (value : Nat)
  /-- DESCRIPTOR_FETCH (R143). -/
  | descriptorFetch (data : Option (List Byte))
  /-- LOAD_MODEL (R196). -/
  | loadModel (id : Nat) (image : Option (List Byte))
  /-- LOAD_COEFF (R171). -/
  | loadCoeff (id : Nat) (data : Option (List Byte))
  /-- RUN_MAC (R173). -/
  | runMac (id : Nat)
  /-- RUN_SAMPLE (R213). -/
  | runSample (id : Nat) (table : Option (List Byte))
  /-- RUN_ANNEAL (R211). -/
  | runAnneal (id : Nat) (schedule : Option (List Byte))
  /-- CLASSIFY_STREAM (R146). -/
  | classifyStream (id : Nat)
  /-- TRAIN_STEP (R216). -/
  | trainStep (id : Nat) (batch : Option (List Byte))
  /-- READ_STATES (R214). -/
  | readStates (id : Nat)
  /-- SYL_BANK_SWAP (R246). -/
  | sylBankSwap (id : Nat) (data : Option (List Byte))
  /-- HPS_TABLE_PUBLISH (R265). -/
  | hpsTablePublish (id : Nat) (data : Option (List Byte))
  /-- FENCE (R148). -/
  | fence (id : Nat)
  /-- NOP (R142). -/
  | nop (id : Nat)
  /-- ADOPT (R328). -/
  | adopt (id : Nat)
  /-- RETEST (R328). -/
  | retest (id : Nat) (pass : Bool)
  /-- REQUEST (R328). -/
  | request (id : Nat)
  /-- STATUS (R293). -/
  | status (id : Nat)
  /-- PAIR_PREFECT (R293). -/
  | pairPrefect (id : Nat)
  /-- PAIR_DEPUTY (R293). -/
  | pairDeputy (id : Nat)
  /-- UNPAIR (R293). -/
  | unpair (id : Nat)
  /-- SWAP (R295). -/
  | swap (id : Nat)
  /-- CLAIM (R296). -/
  | claim (id : Nat)
  /-- FW_STAGE_WRITE_CHUNK (R384). -/
  | fwStageWriteChunk (id : Nat) (data : Option (List Byte)) (timedOut : Bool)
  /-- FW_STAGE_VERIFY (R385). -/
  | fwStageVerify (id : Nat)
  /-- FW_STAGE_ACTIVATE (R386). -/
  | fwStageActivate (id : Nat)
  /-- COMPLETION_WRITE (R138). -/
  | completionWrite (cq : Nat) (parityOk : Bool)
  /-- COALESCE_TIMER (R153). -/
  | coalesceTimer (cq : Nat)
  /-- MSIX_UNMASK (R153). -/
  | msixUnmask (fn : Nat) (change : MsixChange)
  /-- SQ_CFG_WRITE (R139). -/
  | sqCfgWrite (fn : Nat) (n : Nat) (value : Nat)
  /-- CQ_CFG_WRITE (R139). -/
  | cqCfgWrite (fn : Nat) (n : Nat) (value : Nat)
  /-- SQ_ERROR_CLEAR (R157). -/
  | sqErrorClear (fn : Nat) (n : Nat)
  /-- CQ_ERROR_CLEAR (R159). -/
  | cqErrorClear (fn : Nat) (n : Nat)
  /-- EXPERT_UNLOCK (R155). -/
  | expertUnlock (block : Nat) (key : Nat)
  /-- HIF_PROFILE (R162). -/
  | hifProfile (value : Nat)
  /-- FAB_GANG_CFG (R166). -/
  | fabGangCfg (value : Nat)
  /-- FAB_PROFILE (R187). -/
  | fabProfile (value : Nat)
  /-- SPARE_QUAD_WRITE (R188). -/
  | spareQuadWrite (value : Nat)
  /-- ACC_LATCH (R186). -/
  | accLatch (tile row col : Nat)
  /-- SWEEP_END (R212). -/
  | sweepEnd (id : Nat)
  /-- EPOCH_BOUNDARY (R210). -/
  | epochBoundary (id : Nat)
  /-- ANNEAL_POINT_END (R211). -/
  | annealPointEnd (id : Nat)
  /-- SMP_PROFILE (R220). -/
  | smpProfile (value : Nat)
  /-- CAPTURE_LINK_UP (R230). -/
  | captureLinkUp (skew : Nat)
  /-- CAPTURE_LINK_DOWN (R230). -/
  | captureLinkDown (locked : Nat) (inHeader : Bool)
  /-- RECORD_HEADER (R237). -/
  | recordHeader (stream : Nat) (header : List Byte)
  /-- END_OF_RECORD (R232). -/
  | endOfRecord (rest : List Byte) (surplus : Nat) (fin : RecEnd)
  /-- ETH_FRAME (R233). -/
  | ethFrame (port : Nat) (bytes : List Byte)
  /-- SYLLABUS_PASS (R242). -/
  | syllabusPass (rec : Nat)
  /-- BURST_LOAD (R251). -/
  | burstLoad (rec : Nat) (more : List Byte)
  /-- LOAD_TIMEOUT (R251). -/
  | loadTimeout (rec : Nat)
  /-- RECORD_VERDICT (R215). -/
  | recordVerdict (rec : Nat)
  /-- ETH_LINK_DOWN (R300). -/
  | ethLinkDown (port : Nat) (cut : Bool)
  /-- ETH_LINK_UP (R300). -/
  | ethLinkUp (port : Nat)
  /-- EGRESS_HOLD_EXPIRY (R300). -/
  | egressHoldExpiry (port : Nat)
  /-- SHADOW_DATA_WRITE (R253). -/
  | shadowDataWrite (value : Nat)
  /-- CAP_PROFILE (R249). -/
  | capProfile (value : Nat)
  /-- SYL_PROFILE (R249). -/
  | sylProfile (value : Nat)
  /-- HP_TRIGGER (R260). -/
  | hpTrigger (valid : Bool) (sig : Nat)
  /-- HPS_SHADOW_DATA (R264). -/
  | hpsShadowData (value : Nat)
  /-- HPS_PROFILE (R270). -/
  | hpsProfile (value : Nat)
  /-- TRAINING_PHASE_END (R278): bit k of lanes is lane k of the four. -/
  | trainingPhaseEnd (port : Nat) (ok : Bool) (lanes : Nat)
  /-- IDENT (R279). -/
  | ident (port : Nat) (rec : IdRecord) (last : Nat)
  /-- NO_PEER_RETRY (R278). -/
  | noPeerRetry (port : Nat)
  /-- PORT_RETRAIN (R278). -/
  | portRetrain (port : Nat)
  /-- PORT_DISABLE (R282). -/
  | portDisable (port : Nat)
  /-- DATA (R281). -/
  | data (port seq ack : Nat) (crcOk : Bool) (frame : AkFrame)
  /-- ACK (R281). -/
  | ack (port ack : Nat)
  /-- NAK (R281). -/
  | nak (port ack : Nat)
  /-- REPLAY_TIMEOUT (R281). -/
  | replayTimeout (port : Nat)
  /-- AKGAL_LINK_DOWN (R282). -/
  | akgalLinkDown (port : Nat)
  /-- SYS_CFG_WRITE (R285). -/
  | sysCfgWrite (value : Nat)
  /-- SHARE_TIMEOUT (R304). -/
  | shareTimeout (slot : Nat)
  /-- AKG_PROFILE (R298). -/
  | akgProfile (value : Nat)
  /-- THERMAL_SAMPLE (R314). -/
  | thermalSample (codes : List (Option Int)) (activity : List (Nat × Nat)) (mr4 : List (Option Int))
  /-- SENSOR_FLAGGED (R310). -/
  | sensorFlagged (n kind : Nat)
  /-- PSH2_SENSOR_FLAGGED (R312). -/
  | psh2SensorFlagged (n kind : Nat)
  /-- THM_PROFILE (R321). -/
  | thmProfile (value : Nat)
  /-- MFR_UNIT_INDEX (R341). -/
  | mfrUnitIndex (x : PmbAcc)
  /-- MFR_UNIT_STATE (R324). -/
  | mfrUnitState (x : PmbAcc)
  /-- UNIT_READY (R325). -/
  | unitReady (unit : Nat)
  /-- UNIT_DRAINED (R325). -/
  | unitDrained (unit : Nat)
  /-- LEDGER_DISAGREEMENT (R332). -/
  | ledgerDisagreement (unit : Nat)
  /-- UNIT_POWER_OFF (R326). -/
  | unitPowerOff (unit : Nat)
  /-- TILE_FAULT (R329). -/
  | tileFault (tile : Nat) (residue : Bool)
  /-- SPARE_STAND_IN (R330). -/
  | spareStandIn (tile : Nat)
  /-- RC_INCREMENT (R346). -/
  | rcIncrement (instants : Nat)
  /-- FLUSH (R351). -/
  | flush (programOk : Bool)
  /-- RC_SELECT (R357). -/
  | rcSelect (value : Nat)
  /-- RCD_PROFILE (R362). -/
  | rcdProfile (value : Nat)
  /-- MFR_RC_CTRL (R372). -/
  | mfrRcCtrl (fin : PmbEnd) (value : Nat)
  /-- MFR_RC_STATUS (R372). -/
  | mfrRcStatus (x : PmbAcc)
  /-- MFR_RC_SELECT (R357). -/
  | mfrRcSelect (x : PmbAcc)
  /-- MFR_RC_OFFSET (R372). -/
  | mfrRcOffset (x : PmbAcc)
  /-- MFR_RC_CLEAR (R361). -/
  | mfrRcClear (fin : PmbEnd) (token : List Byte)
  /-- MFR_RC_OPKEY (R359). -/
  | mfrRcOpkey (fin : PmbEnd) (key : List Byte)
  /-- GET_CERTIFICATE (R374). -/
  | getCertificate (offset length : Nat)
  /-- CHALLENGE (R375). -/
  | challenge (data : List Byte)
  /-- GET_MEASUREMENTS (R376). -/
  | getMeasurements (signed : Bool) (index : Nat) (data : List Byte)
  /-- CONFIRM (R389). -/
  | confirm (raiseFloor : Bool) (key : Nat)
  /-- STRICT_SET (R398). -/
  | strictSet (key : Nat)
  /-- SEC_PROFILE (R392). -/
  | secProfile (value : Nat)
  /-- MFR_FW_RECOVERY (R394). -/
  | mfrFwRecovery (fin : PmbEnd) (data : List Byte)
  /-- MFR_FW_RECOVERY_CTRL (R394). -/
  | mfrFwRecoveryCtrl (fin : PmbEnd) (value : Nat)
  /-- DACCESS_READ (R416). -/
  | daccessRead (psh : Bool) (space addr : Nat)
  /-- DACCESS_WRITE (R404). -/
  | daccessWrite (psh : Bool) (space addr value : Nat)
  /-- DACCESS_DONE (R403). -/
  | daccessDone (psh : Bool)
  /-- TRST_N (R401). -/
  | trstN (low : Bool)
  /-- HALT_REQ (R406). -/
  | haltReq (core : Nat) (lock : Option LockSeq)
  /-- BREAKPOINT (R406). -/
  | breakpoint (core b : Nat) (lock : Option LockSeq)
  /-- CORE_RESUME (R406). -/
  | coreResume (core : Nat)
  /-- STEP (R406). -/
  | step (core : Nat) (lock : Option LockSeq)
  /-- LOCK_END (R417). -/
  | lockEnd (core : Nat)
  /-- HALT_FORCED (R417). -/
  | haltForced (core id : Nat)
  /-- DBG_PROFILE (R414). -/
  | dbgProfile (value : Nat)
  /-- UNSUPPORTED_COMMAND (R425). -/
  | unsupportedCommand (u : Unsupported)
  /-- PORT_ENABLE (R278). -/
  | portEnable (port : Nat)
  /-- LOW_HALF_READ (R5). -/
  | lowHalfRead (reader : Reader) (off : Nat)
  /-- MAC_PASS_END (R173). -/
  | macPassEnd (id : Nat) (data : Option (List Byte))
  /-- GP_LINK_LOST (R13). -/
  | gpLinkLost
  /-- GP_LINK_RESTORED (R13). -/
  | gpLinkRestored
  /-- LEVER_OPEN (R49). -/
  | leverOpen
  /-- LEVER_CLOSE (R47). -/
  | leverClose
  /-- EXTRACT_GRACE_END (R430). -/
  | extractGraceEnd
  /-- POWER_OFF (R430). -/
  | powerOff
  /-- QUALIFY_COMPLETE (R28). -/
  | qualifyComplete
  /-- QUALIFY_BREAK (R28). -/
  | qualifyBreak
  /-- PSH2_POWER_ON (R119). -/
  | psh2PowerOn
  /-- PSH2_IMAGE_RUN (R110). -/
  | psh2ImageRun
  /-- POWER_GOOD (R54). -/
  | powerGood
  /-- DISCHARGE_COMPLETE (R53). -/
  | dischargeComplete
  /-- SOA_INRUSH (R55). -/
  | soaInrush
  /-- SOA_LIMIT (R56). -/
  | soaLimit
  /-- REVERSE_CURRENT (R58). -/
  | reverseCurrent
  /-- BACKOFF_END (R62). -/
  | backoffEnd
  /-- RETRY_CLEAR (R62). -/
  | retryClear
  /-- CLEAR_LATCH (R62). -/
  | clearLatch
  /-- SHED_REQUEST (R64). -/
  | shedRequest
  /-- SHED_RELEASE (R64). -/
  | shedRelease
  /-- POWER_FAIL (R71). -/
  | powerFail
  /-- MIN_OFF_END (R73). -/
  | minOffEnd
  /-- STATUS_WORD (R79). -/
  | statusWord
  /-- STATUS_INPUT (R79). -/
  | statusInput
  /-- STATUS_CML (R425). -/
  | statusCml
  /-- READ_VIN (R93). -/
  | readVin
  /-- READ_IIN (R93). -/
  | readIin
  /-- READ_PIN (R93). -/
  | readPin
  /-- MFR_POWER_STATE (R79). -/
  | mfrPowerState
  /-- PASS_START (R86). -/
  | passStart
  /-- PAIR_TRIGGER (R87). -/
  | pairTrigger
  /-- METER_INTERVAL (R93). -/
  | meterInterval
  /-- ACC_CLEAR (R90). -/
  | accClear
  /-- MINMAX_CLEAR (R89). -/
  | minmaxClear
  /-- CAL_START (R94). -/
  | calStart
  /-- REF_BUF_ENABLE (R95). -/
  | refBufEnable
  /-- REF_READY (R95). -/
  | refReady
  /-- REF_BUF_CLEAR (R106). -/
  | refBufClear
  /-- LP_PASS_INTERVAL (R96). -/
  | lpPassInterval
  /-- MFR_READ_TEMPS (R93). -/
  | mfrReadTemps
  /-- MFR_READ_ENERGY (R90). -/
  | mfrReadEnergy
  /-- PL_REGULATOR_UP (R111). -/
  | plRegulatorUp
  /-- GP_RST_RELEASE (R111). -/
  | gpRstRelease
  /-- HANDOVER_START (R118). -/
  | handoverStart
  /-- PCIE_LINK_TRAINED (R114). -/
  | pcieLinkTrained
  /-- PERST_N_ASSERT (R127). -/
  | perstNAssert
  /-- PERST_N_DEASSERT (R120). -/
  | perstNDeassert
  /-- FABRIC_RESET (R119). -/
  | fabricReset
  /-- COLD_RESET (R119). -/
  | coldReset
  /-- RECESS_ENTER (R121). -/
  | recessEnter
  /-- IDLE_AUTO (R121). -/
  | idleAuto
  /-- RECESS_ENTRY_DONE (R122). -/
  | recessEntryDone
  /-- WAKE_N (R124). -/
  | wakeN
  /-- WAKE_COMPLETE (R124). -/
  | wakeComplete
  /-- SYL_SWAP_DONE (R246). -/
  | sylSwapDone
  /-- PART_COMMIT (R152). -/
  | partCommit
  /-- ACC_CAPTURE (R186). -/
  | accCapture
  /-- ENTROPY_TEST_FAIL (R204). -/
  | entropyTestFail
  /-- SHADOW_CLEAR (R253). -/
  | shadowClear
  /-- SHADOW_BUILD (R245). -/
  | shadowBuild
  /-- SHADOW_BUILD_END (R245). -/
  | shadowBuildEnd
  /-- TRIM_BAND_CHANGE (R261). -/
  | trimBandChange
  /-- SHADOW_FILL (R276). -/
  | shadowFill
  /-- PUBLISH_FLIP (R265). -/
  | publishFlip
  /-- PUBLISH_DONE (R265). -/
  | publishDone
  /-- PUBLISH_COPY_END (R265). -/
  | publishCopyEnd
  /-- HP_CLK_RETURN (R272). -/
  | hpClkReturn
  /-- SNAPSHOT_ACK (R292). -/
  | snapshotAck
  /-- SNAPSHOT_APPLY (R292). -/
  | snapshotApply
  /-- MIRROR_TICK (R291). -/
  | mirrorTick
  /-- PAIRING_TIMEOUT (R293). -/
  | pairingTimeout
  /-- PAIR_AUTH_FRAME (R390). -/
  | pairAuthFrame
  /-- PAIR_COPY_DONE (R293). -/
  | pairCopyDone
  /-- PEER_SWAP (R301). -/
  | peerSwap
  /-- PEER_CLAIM (R302). -/
  | peerClaim
  /-- CLAIM_TIMEOUT (R296). -/
  | claimTimeout
  /-- RESUME (R297). -/
  | resume
  /-- THROTTLE_STEP (R314). -/
  | throttleStep
  /-- THROTTLE_RELEASE (R315). -/
  | throttleRelease
  /-- THERMAL_RESTART (R318). -/
  | thermalRestart
  /-- FLASH_WINDOW_CLOSE (R320). -/
  | flashWindowClose
  /-- FLASH_WINDOW_OPEN (R320). -/
  | flashWindowOpen
  /-- MFR_THERMAL (R341). -/
  | mfrThermal
  /-- FLUSH_PERIOD (R350). -/
  | flushPeriod
  /-- ERASE_DONE (R353). -/
  | eraseDone
  /-- WINDOW_RETRY (R366). -/
  | windowRetry
  /-- FLUSH_NOW (R350). -/
  | flushNow
  /-- FREEZE (R358). -/
  | freeze
  /-- THAW (R358). -/
  | thaw
  /-- FREEZE_EXPIRY (R358). -/
  | freezeExpiry
  /-- NONCE_REQ (R361). -/
  | nonceReq
  /-- NONCE_EXPIRY (R361). -/
  | nonceExpiry
  /-- APPLY (R361). -/
  | apply
  /-- TOKEN_VERIFIED (R361). -/
  | tokenVerified
  /-- MFR_RC_READ (R372). -/
  | mfrRcRead
  /-- MFR_RC_NONCE (R372). -/
  | mfrRcNonce
  /-- GET_VERSION (R375). -/
  | getVersion
  /-- GET_CAPABILITIES (R375). -/
  | getCapabilities
  /-- NEGOTIATE_ALGORITHMS (R375). -/
  | negotiateAlgorithms
  /-- GET_DIGESTS (R375). -/
  | getDigests
  /-- SPDM_UNSUPPORTED_REQUEST (R375). -/
  | spdmUnsupportedRequest
  /-- VAULT_SIGNATURE (R373). -/
  | vaultSignature
  /-- LIVE_RESTART (R388). -/
  | liveRestart
  /-- CANCEL (R395). -/
  | cancel
  /-- AUTO_CONFIRM (R392). -/
  | autoConfirm
  /-- MFR_FW_STATUS (R400). -/
  | mfrFwStatus
  /-- DEBUG_MODE_ENTER (R405). -/
  | debugModeEnter
  /-- DEBUG_MODE_EXIT (R405). -/
  | debugModeExit
  /-- TRACE_WP_WRITE (R412). -/
  | traceWpWrite
  /-- TRACE_BUF_READ (R416). -/
  | traceBufRead
  /-- TRACE_CLEAR (R412). -/
  | traceClear
  /-- ALERT_RESPONSE (R429). -/
  | alertResponse
  /-- QUICK_COMMAND (R424). -/
  | quickCommand
  /-- RECEIVE_BYTE (R424). -/
  | receiveByte
  /-- PSH2_SUPPLY_LOSS (R342). -/
  | psh2SupplyLoss
  /-- ENTROPY_TEST_PASS (R204). -/
  | entropyTestPass
  deriving DecidableEq, Repr

end Sys2Proof
end

