-- ==== Sys2Proof/Machine/Access.lean ====
section
/-!
DEFINITION. Machine/Access.lean: access codes of register fields (spec/00_scope.md R1) and the reset word of every register (spec/16_register_index.md R426, R427).
-/
namespace Sys2Proof.Machine

/-- The access codes of Table 00-1, but for RSV: reserved bits have no row. -/
inductive Acc where
  | rw | ro | wo | w1c | w1s | rc
  deriving DecidableEq, Repr

/-- A field of the home register tables: its word at `base + stride1 * i + stride2 * j`, its bits, its access code, whether it is marked Expert, and the values a write may store. -/
structure AccRow where
  base : Nat
  stride1 : Nat
  count1 : Nat
  stride2 : Nat
  count2 : Nat
  lo : Nat
  width : Nat
  acc : Acc
  expert : Bool
  min : Nat
  max : Nat
  also : List Nat
  step : Nat
  deriving DecidableEq, Repr

/-- Does offset `off` belong to instance range `base + stride * i`, `i < count`? -/
def inRange (off base stride count : Nat) : Bool :=
  if stride = 0 then decide (off = base)
  else decide (base ≤ off) && decide ((off - base) % stride = 0) && decide ((off - base) / stride < count)

/-- Does the row give a field of the word at `off`? -/
def AccRow.covers (r : AccRow) (off : Nat) : Bool :=
  if r.stride2 = 0 then inRange off r.base r.stride1 r.count1
  else (List.range r.count1).any (fun i => inRange off (r.base + r.stride1 * i) r.stride2 r.count2)

/-- Is `v` a value the field's table allows (00 R6)? -/
def AccRow.legal (r : AccRow) (v : Nat) : Bool :=
  (decide (r.min ≤ v) && decide (v ≤ r.max) && decide (v % r.step = 0)) || r.also.contains v

/-- A word with a nonzero reset value: `count` words from `base` at `stride` apart. -/
structure ResetRow where
  base : Nat
  stride : Nat
  count : Nat
  value : Word
  deriving DecidableEq, Repr

/-- Table 16-5, GLB and HIF. -/
def resetGlbHif : List ResetRow := [
  ⟨0x0, 4, 1, 0xC4A70040⟩, ⟨0x4, 4, 1, 0x00410102⟩, ⟨0x8, 4, 1, 0x02484840⟩, ⟨0xC, 4, 1, 0x40400800⟩,
  ⟨0x10, 4, 1, 0x01002048⟩, ⟨0x14, 4, 1, 0x00208400⟩, ⟨0x100, 4, 1, 0x00000001⟩, ⟨0x10C, 4, 1, 0x00000A08⟩,
  ⟨0x204, 4, 1, 0x0000FFFF⟩, ⟨0x10000, 4, 1, 0x00000001⟩, ⟨0x10010, 4, 1, 0x00000840⟩,
  ⟨0x11008, 0x20, 64, 0x00100006⟩, ⟨0x11010, 0x20, 64, 0x00000001⟩, ⟨0x12008, 0x20, 64, 0x00003006⟩,
  ⟨0x1200C, 0x20, 64, 0x00080010⟩, ⟨0x12010, 0x20, 64, 0x00010000⟩,
  ⟨0x13000, 4, 1, 0x0000FFFF⟩, ⟨0x13004, 4, 4, 0xFFFFFFFF⟩, ⟨0x13014, 4, 1, 0x00008000⟩,
  ⟨0x13018, 4, 1, 0x000007FF⟩, ⟨0x1301C, 4, 1, 0x00000800⟩]

/-- Table 16-5, FAB to DBG. MEM_CH_STATUS and the data_state of FAB_LEDGER are left at 0, their Reset columns (Tables 16-3 and 12-10): Table 16-5 gives what they read in full service, which the bring-up stages set. -/
def resetGld : List ResetRow := [
  ⟨0x20000, 4, 1, 0x0000AAF0⟩, ⟨0x20008, 4, 1, 0x0000343C⟩, ⟨0x20010, 4, 1, 0x0000FFFF⟩,
  ⟨0x201D8, 4, 2, 0x00000010⟩, ⟨0x201F8, 4, 2, 0x00000010⟩, ⟨0x21000, 4, 101, 0x00000011⟩,
  ⟨0x30008, 4, 1, 0x00400004⟩, ⟨0x3000C, 4, 1, 0x03E80008⟩, ⟨0x40020, 4, 8, 0x00000100⟩,
  ⟨0x50008, 4, 1, 0x00000014⟩, ⟨0x5012C, 0x40, 2, 0x0000000A⟩, ⟨0x50628, 0x40, 8, 0x00010409⟩,
  ⟨0x5062C, 0x40, 8, 0x00400000⟩, ⟨0x60008, 4, 1, 0x0000FF00⟩, ⟨0x6000C, 4, 1, 0x3F800000⟩,
  ⟨0x60100, 4, 256, 0x00000020⟩, ⟨0x7000C, 4, 1, 0x0A080A05⟩, ⟨0x7010C, 0x20, 4, 0x00000002⟩,
  ⟨0x70200, 4, 64, 0x00010000⟩, ⟨0x90008, 4, 1, 0x0003645F⟩, ⟨0x9000C, 4, 1, 0x18030A14⟩,
  ⟨0x90018, 4, 1, 0x00000010⟩, ⟨0x90200, 4, 22, 0x00008000⟩, ⟨0xC000C, 4, 1, 0x00000006⟩,
  ⟨0xD0100, 4, 1, 0x001B0004⟩, ⟨0xD0138, 4, 1, 0x0000000C⟩, ⟨0xD0210, 0x20, 8, 0x00000F00⟩]

/-- Tables 16-6 and 16-7 (SLOT_ID 0). -/
def resetPwr : List ResetRow := [
  ⟨0xA0010, 4, 1, 0x00140804⟩, ⟨0xA0014, 4, 1, 0xC8000278⟩, ⟨0xA0018, 4, 1, 0x000A0064⟩,
  ⟨0xA001C, 4, 1, 0x0A143C0F⟩, ⟨0xA0020, 4, 1, 0x00C802C8⟩, ⟨0xA0024, 4, 1, 0x00003C03⟩,
  ⟨0xA0100, 4, 1, 0x00003024⟩, ⟨0xA0104, 4, 1, 0x000004E2⟩, ⟨0xA0108, 4, 1, 0x00010001⟩, ⟨0xA010C, 4, 1, 0x00000014⟩,
  ⟨0xA0110, 4, 1, 0x00003024⟩, ⟨0xA0114, 4, 1, 0x000003E8⟩, ⟨0xA0118, 4, 1, 0x00010001⟩, ⟨0xA011C, 4, 1, 0x000003E8⟩,
  ⟨0xA0120, 4, 1, 0x00003021⟩, ⟨0xA0124, 4, 1, 0x0000047E⟩, ⟨0xA0128, 4, 1, 0x00000064⟩,
  ⟨0xA0130, 4, 1, 0x0000F023⟩, ⟨0xA0134, 4, 1, 0x000005AA⟩, ⟨0xA0138, 4, 1, 0x0000000A⟩,
  ⟨0xA0140, 4, 1, 0x00000012⟩, ⟨0xA0144, 4, 1, 0x0000041A⟩, ⟨0xA0148, 4, 1, 0x00000064⟩,
  ⟨0xA0150, 4, 1, 0x00000025⟩, ⟨0xA0154, 4, 1, 0x0000044C⟩, ⟨0xA0158, 4, 1, 0x000103E8⟩,
  ⟨0xA0160, 4, 1, 0x00000016⟩, ⟨0xA0168, 4, 1, 0x00000001⟩,
  ⟨0xA01C0, 4, 1, 0x0000000A⟩, ⟨0xA0404, 4, 1, 0x00000002⟩, ⟨0xA0408, 4, 1, 0x00000064⟩,
  ⟨0xA0420, 4, 2, 0x00000006⟩, ⟨0xA0434, 8, 2, 0x00400000⟩,
  ⟨0xA0500, 4, 1, 0x00011820⟩, ⟨0xA0504, 4, 1, 0x00100032⟩, ⟨0xA0508, 4, 1, 0x00100033⟩, ⟨0xA050C, 4, 1, 0x00100034⟩,
  ⟨0xA0510, 4, 1, 0x00100037⟩, ⟨0xA0514, 4, 1, 0x0010003A⟩, ⟨0xA053C, 4, 1, 0x0010103F⟩,
  ⟨0xA0540, 4, 1, 0x00011821⟩, ⟨0xA0544, 4, 1, 0x00100035⟩, ⟨0xA0548, 4, 1, 0x00100036⟩, ⟨0xA054C, 4, 1, 0x00100039⟩,
  ⟨0xA0550, 4, 1, 0x0010003B⟩, ⟨0xA0554, 4, 1, 0x0010003C⟩, ⟨0xA057C, 4, 1, 0x0010103F⟩,
  ⟨0xA0700, 8, 32, 0x007FFFFF⟩, ⟨0xA0704, 8, 32, 0x00800000⟩,
  ⟨0xA0F00, 4, 1, 0x00000008⟩, ⟨0xA0F04, 4, 1, 0x00001400⟩, ⟨0xB0008, 4, 1, 0x00003C0A⟩]

/-- The reset rows of the block that holds `off`. -/
def resetRowsOf (off : Nat) : List ResetRow :=
  if off < 0x20000 then resetGlbHif else if off < 0xA0000 then resetGld
  else if off < 0xC0000 then resetPwr else resetGld

/-- R426: a listed word reads its table value after reset, every other word 0. -/
def resetWord (off : Nat) : Word :=
  match (resetRowsOf off).find? (fun r => inRange off r.base r.stride r.count) with
  | some r => r.value
  | none => 0

end Sys2Proof.Machine
end

