-- ==== Sys2Proof/Machine/RegMap.lean ====
section
/-!
DEFINITION. Machine/RegMap.lean: the access code, Expert mark and legal values of every BAR0 register field, from the home register tables (00 R1, R6; 06 R156).
-/
namespace Sys2Proof.Machine

/-- Rows of the GLB block. -/
def rowsGlb0 : List AccRow := [
  ⟨0x0, 0, 1, 0, 1, 0, 16, .ro, false, 0, 65535, [], 1⟩,
  ⟨0x0, 0, 1, 0, 1, 16, 16, .ro, false, 0, 65535, [], 1⟩,
  ⟨0x4, 0, 1, 0, 1, 0, 8, .ro, false, 0, 255, [], 1⟩,
  ⟨0x4, 0, 1, 0, 1, 8, 8, .ro, false, 0, 255, [], 1⟩,
  ⟨0x4, 0, 1, 0, 1, 16, 8, .ro, false, 0, 255, [], 1⟩,
  ⟨0x8, 0, 1, 0, 1, 0, 8, .ro, false, 0, 255, [], 1⟩,
  ⟨0x8, 0, 1, 0, 1, 8, 4, .ro, false, 0, 15, [], 1⟩,
  ⟨0x8, 0, 1, 0, 1, 12, 4, .ro, false, 0, 15, [], 1⟩,
  ⟨0x8, 0, 1, 0, 1, 16, 4, .ro, false, 0, 15, [], 1⟩,
  ⟨0x8, 0, 1, 0, 1, 20, 4, .ro, false, 0, 15, [], 1⟩,
  ⟨0x8, 0, 1, 0, 1, 24, 4, .ro, false, 0, 15, [], 1⟩,
  ⟨0xc, 0, 1, 0, 1, 0, 16, .ro, false, 0, 65535, [], 1⟩,
  ⟨0xc, 0, 1, 0, 1, 16, 7, .ro, false, 0, 127, [], 1⟩,
  ⟨0xc, 0, 1, 0, 1, 24, 7, .ro, false, 0, 127, [], 1⟩,
  ⟨0x10, 0, 1, 0, 1, 0, 8, .ro, false, 0, 255, [], 1⟩,
  ⟨0x10, 0, 1, 0, 1, 8, 6, .ro, false, 0, 63, [], 1⟩,
  ⟨0x10, 0, 1, 0, 1, 16, 9, .ro, false, 0, 511, [], 1⟩,
  ⟨0x14, 0, 1, 0, 1, 0, 11, .ro, false, 0, 2047, [], 1⟩,
  ⟨0x14, 0, 1, 0, 1, 11, 5, .ro, false, 0, 31, [], 1⟩,
  ⟨0x14, 0, 1, 0, 1, 16, 8, .ro, false, 0, 255, [], 1⟩,
  ⟨0x18, 0, 1, 0, 1, 0, 32, .ro, false, 0, 4294967295, [], 1⟩,
  ⟨0x1c, 0, 1, 0, 1, 0, 32, .ro, false, 0, 4294967295, [], 1⟩,
  ⟨0x20, 0, 1, 0, 1, 0, 5, .ro, false, 0, 31, [], 1⟩,
  ⟨0x24, 0, 1, 0, 1, 0, 1, .w1c, false, 0, 1, [], 1⟩,
  ⟨0x24, 0, 1, 0, 1, 1, 1, .w1c, false, 0, 1, [], 1⟩,
  ⟨0x24, 0, 1, 0, 1, 2, 1, .w1c, false, 0, 1, [], 1⟩,
  ⟨0x24, 0, 1, 0, 1, 3, 1, .w1c, false, 0, 1, [], 1⟩,
  ⟨0x24, 0, 1, 0, 1, 4, 1, .w1c, false, 0, 1, [], 1⟩,
  ⟨0x24, 0, 1, 0, 1, 5, 4, .w1c, false, 0, 15, [], 1⟩,
  ⟨0x24, 0, 1, 0, 1, 16, 1, .ro, false, 0, 1, [], 1⟩,
  ⟨0x24, 0, 1, 0, 1, 17, 1, .ro, false, 0, 1, [], 1⟩,
  ⟨0x24, 0, 1, 0, 1, 18, 1, .ro, false, 0, 1, [], 1⟩,
  ⟨0x24, 0, 1, 0, 1, 19, 1, .ro, false, 0, 1, [], 1⟩,
  ⟨0x24, 0, 1, 0, 1, 20, 1, .ro, false, 0, 1, [], 1⟩,
  ⟨0x24, 0, 1, 0, 1, 21, 4, .ro, false, 0, 15, [], 1⟩,
  ⟨0x28, 0, 1, 0, 1, 0, 1, .w1c, false, 0, 1, [], 1⟩,
  ⟨0x28, 0, 1, 0, 1, 1, 1, .ro, false, 0, 1, [], 1⟩,
  ⟨0x28, 0, 1, 0, 1, 2, 1, .w1c, false, 0, 1, [], 1⟩,
  ⟨0x28, 0, 1, 0, 1, 8, 8, .rc, false, 0, 255, [], 1⟩,
  ⟨0x100, 0, 1, 0, 1, 0, 4, .ro, false, 0, 15, [], 1⟩]

/-- Rows of the GLB block. -/
def rowsGlb1 : List AccRow := [
  ⟨0x100, 0, 1, 0, 1, 4, 4, .ro, false, 0, 15, [], 1⟩,
  ⟨0x100, 0, 1, 0, 1, 8, 1, .ro, false, 0, 1, [], 1⟩,
  ⟨0x100, 0, 1, 0, 1, 9, 1, .ro, false, 0, 1, [], 1⟩,
  ⟨0x100, 0, 1, 0, 1, 10, 1, .ro, false, 0, 1, [], 1⟩,
  ⟨0x100, 0, 1, 0, 1, 16, 12, .ro, false, 0, 4095, [], 1⟩,
  ⟨0x104, 0, 1, 0, 1, 0, 4, .ro, false, 0, 15, [], 1⟩,
  ⟨0x104, 0, 1, 0, 1, 4, 4, .ro, false, 0, 15, [], 1⟩,
  ⟨0x104, 0, 1, 0, 1, 8, 1, .ro, false, 0, 1, [], 1⟩,
  ⟨0x104, 0, 1, 0, 1, 16, 7, .ro, false, 0, 127, [], 1⟩,
  ⟨0x108, 0, 1, 0, 1, 0, 1, .wo, false, 0, 1, [], 1⟩,
  ⟨0x108, 0, 1, 0, 1, 1, 1, .wo, false, 0, 1, [], 1⟩,
  ⟨0x108, 0, 1, 0, 1, 2, 1, .wo, false, 0, 1, [], 1⟩,
  ⟨0x108, 0, 1, 0, 1, 16, 16, .wo, false, 0, 65535, [], 1⟩,
  ⟨0x10c, 0, 1, 0, 1, 0, 2, .rw, false, 0, 1, [], 1⟩,
  ⟨0x10c, 0, 1, 0, 1, 2, 1, .wo, false, 0, 1, [], 1⟩,
  ⟨0x10c, 0, 1, 0, 1, 3, 1, .rw, true, 0, 1, [], 1⟩,
  ⟨0x10c, 0, 1, 0, 1, 8, 8, .rw, true, 1, 255, [], 1⟩,
  ⟨0x110, 0, 1, 0, 1, 0, 3, .ro, false, 0, 7, [], 1⟩,
  ⟨0x110, 0, 1, 0, 1, 3, 1, .w1c, false, 0, 1, [], 1⟩,
  ⟨0x110, 0, 1, 0, 1, 4, 1, .w1c, false, 0, 1, [], 1⟩,
  ⟨0x110, 0, 1, 0, 1, 5, 1, .w1c, false, 0, 1, [], 1⟩,
  ⟨0x110, 0, 1, 0, 1, 16, 16, .rc, false, 0, 65535, [], 1⟩,
  ⟨0x114, 0, 1, 0, 1, 0, 16, .wo, false, 0, 65535, [], 1⟩,
  ⟨0x200, 0, 1, 0, 1, 0, 16, .w1c, false, 0, 65535, [], 1⟩,
  ⟨0x204, 0, 1, 0, 1, 0, 16, .rw, false, 0, 65535, [], 1⟩,
  ⟨0x208, 0, 1, 0, 1, 0, 14, .ro, false, 0, 16383, [], 1⟩,
  ⟨0x210, 0, 1, 0, 1, 0, 32, .ro, false, 0, 4294967295, [], 1⟩,
  ⟨0x214, 0, 1, 0, 1, 0, 32, .ro, false, 0, 4294967295, [], 1⟩]

/-- Rows of the HIF block. -/
def rowsHif0 : List AccRow := [
  ⟨0x10000, 0, 1, 0, 1, 0, 2, .rw, false, 0, 2, [], 1⟩,
  ⟨0x10004, 0, 1, 0, 1, 0, 1, .rw, true, 0, 1, [], 1⟩,
  ⟨0x10008, 0, 1, 0, 1, 0, 16, .wo, false, 0, 65535, [], 1⟩,
  ⟨0x1000c, 0, 1, 0, 1, 0, 12, .ro, false, 0, 4095, [], 1⟩,
  ⟨0x1000c, 0, 1, 0, 1, 16, 16, .rc, false, 0, 65535, [], 1⟩,
  ⟨0x10010, 0, 1, 0, 1, 0, 8, .rw, true, 0, 255, [], 1⟩,
  ⟨0x10010, 0, 1, 0, 1, 8, 5, .rw, true, 1, 16, [], 1⟩,
  ⟨0x11000, 32, 64, 0, 1, 12, 20, .rw, false, 0, 1048575, [], 1⟩,
  ⟨0x11004, 32, 64, 0, 1, 0, 32, .rw, false, 0, 4294967295, [], 1⟩,
  ⟨0x11008, 32, 64, 0, 1, 0, 5, .rw, false, 6, 16, [], 1⟩,
  ⟨0x11008, 32, 64, 0, 1, 8, 6, .rw, false, 0, 63, [], 1⟩,
  ⟨0x11008, 32, 64, 0, 1, 16, 3, .rw, false, 0, 7, [], 1⟩,
  ⟨0x11008, 32, 64, 0, 1, 20, 4, .rw, true, 1, 15, [], 1⟩,
  ⟨0x11008, 32, 64, 0, 1, 24, 1, .rw, false, 0, 1, [], 1⟩,
  ⟨0x1100c, 32, 64, 0, 1, 0, 16, .ro, false, 0, 65535, [], 1⟩,
  ⟨0x1100c, 32, 64, 0, 1, 16, 16, .ro, false, 0, 65535, [], 1⟩,
  ⟨0x11010, 32, 64, 0, 1, 0, 1, .ro, false, 0, 1, [], 1⟩,
  ⟨0x11010, 32, 64, 0, 1, 1, 1, .w1c, false, 0, 1, [], 1⟩,
  ⟨0x11010, 32, 64, 0, 1, 2, 3, .ro, false, 0, 7, [], 1⟩,
  ⟨0x11010, 32, 64, 0, 1, 16, 16, .rc, false, 0, 65535, [], 1⟩,
  ⟨0x12000, 32, 64, 0, 1, 12, 20, .rw, false, 0, 1048575, [], 1⟩,
  ⟨0x12004, 32, 64, 0, 1, 0, 32, .rw, false, 0, 4294967295, [], 1⟩,
  ⟨0x12008, 32, 64, 0, 1, 0, 5, .rw, false, 6, 16, [], 1⟩,
  ⟨0x12008, 32, 64, 0, 1, 8, 3, .rw, false, 0, 7, [], 1⟩,
  ⟨0x12008, 32, 64, 0, 1, 12, 1, .rw, false, 0, 1, [], 1⟩,
  ⟨0x12008, 32, 64, 0, 1, 13, 1, .rw, true, 0, 1, [], 1⟩,
  ⟨0x12008, 32, 64, 0, 1, 16, 1, .rw, false, 0, 1, [], 1⟩,
  ⟨0x1200c, 32, 64, 0, 1, 0, 8, .rw, true, 1, 255, [], 1⟩,
  ⟨0x1200c, 32, 64, 0, 1, 16, 10, .rw, true, 0, 1023, [], 1⟩,
  ⟨0x12010, 32, 64, 0, 1, 0, 16, .ro, false, 0, 65535, [], 1⟩,
  ⟨0x12010, 32, 64, 0, 1, 16, 1, .ro, false, 0, 1, [], 1⟩,
  ⟨0x12014, 32, 64, 0, 1, 0, 16, .ro, false, 0, 65535, [], 1⟩,
  ⟨0x12018, 32, 64, 0, 1, 0, 1, .ro, false, 0, 1, [], 1⟩,
  ⟨0x12018, 32, 64, 0, 1, 1, 1, .w1c, false, 0, 1, [], 1⟩,
  ⟨0x12018, 32, 64, 0, 1, 2, 1, .w1c, false, 0, 1, [], 1⟩,
  ⟨0x12018, 32, 64, 0, 1, 16, 16, .rc, false, 0, 65535, [], 1⟩,
  ⟨0x13000, 64, 9, 0, 1, 0, 16, .rw, false, 0, 65535, [], 1⟩,
  ⟨0x13004, 64, 9, 0, 1, 0, 32, .rw, false, 0, 4294967295, [], 1⟩,
  ⟨0x13008, 64, 9, 0, 1, 0, 32, .rw, false, 0, 4294967295, [], 1⟩,
  ⟨0x1300c, 64, 9, 0, 1, 0, 32, .rw, false, 0, 4294967295, [], 1⟩]

/-- Rows of the HIF block. -/
def rowsHif1 : List AccRow := [
  ⟨0x13010, 64, 9, 0, 1, 0, 32, .rw, false, 0, 4294967295, [], 1⟩,
  ⟨0x13014, 64, 9, 0, 1, 0, 8, .rw, false, 0, 127, [], 1⟩,
  ⟨0x13014, 64, 9, 0, 1, 8, 8, .rw, false, 0, 128, [], 1⟩,
  ⟨0x13018, 64, 9, 0, 1, 0, 8, .rw, false, 0, 255, [], 1⟩,
  ⟨0x13018, 64, 9, 0, 1, 8, 1, .rw, false, 0, 1, [], 1⟩,
  ⟨0x13018, 64, 9, 0, 1, 9, 1, .rw, false, 0, 1, [], 1⟩,
  ⟨0x13018, 64, 9, 0, 1, 10, 1, .rw, false, 0, 1, [], 1⟩,
  ⟨0x13018, 64, 9, 0, 1, 16, 6, .rw, false, 0, 63, [], 1⟩,
  ⟨0x13018, 64, 9, 0, 1, 23, 1, .rw, false, 0, 1, [], 1⟩,
  ⟨0x1301c, 64, 9, 0, 1, 0, 12, .rw, false, 0, 2048, [], 1⟩,
  ⟨0x1301c, 64, 9, 0, 1, 16, 12, .rw, false, 0, 4095, [], 1⟩,
  ⟨0x13240, 0, 1, 0, 1, 0, 1, .wo, false, 0, 1, [], 1⟩,
  ⟨0x13240, 0, 1, 0, 1, 1, 2, .ro, false, 0, 3, [], 1⟩]

/-- Rows of the FAB block. -/
def rowsFab0 : List AccRow := [
  ⟨0x20000, 0, 1, 0, 1, 0, 2, .rw, false, 0, 1, [], 1⟩,
  ⟨0x20000, 0, 1, 0, 1, 4, 4, .rw, true, 0, 15, [], 1⟩,
  ⟨0x20000, 0, 1, 0, 1, 8, 2, .rw, true, 0, 2, [], 1⟩,
  ⟨0x20000, 0, 1, 0, 1, 10, 2, .rw, true, 0, 2, [], 1⟩,
  ⟨0x20000, 0, 1, 0, 1, 12, 2, .rw, true, 0, 2, [], 1⟩,
  ⟨0x20000, 0, 1, 0, 1, 14, 2, .rw, true, 0, 2, [], 1⟩,
  ⟨0x20004, 0, 1, 0, 1, 0, 16, .wo, false, 0, 65535, [], 1⟩,
  ⟨0x20008, 0, 1, 0, 1, 0, 7, .ro, false, 0, 127, [], 1⟩,
  ⟨0x20008, 0, 1, 0, 1, 8, 3, .ro, false, 0, 7, [], 1⟩,
  ⟨0x20008, 0, 1, 0, 1, 12, 3, .ro, false, 0, 7, [], 1⟩,
  ⟨0x2000c, 0, 1, 0, 1, 0, 1, .w1c, false, 0, 1, [], 1⟩,
  ⟨0x20010, 0, 1, 0, 1, 0, 16, .rw, false, 0, 65535, [], 1⟩,
  ⟨0x20010, 0, 1, 0, 1, 16, 4, .rw, false, 0, 15, [], 1⟩,
  ⟨0x20020, 0, 1, 0, 1, 0, 32, .ro, false, 0, 4294967295, [], 1⟩,
  ⟨0x20024, 0, 1, 0, 1, 0, 32, .ro, false, 0, 4294967295, [], 1⟩,
  ⟨0x20028, 0, 1, 0, 1, 0, 16, .rc, false, 0, 65535, [], 1⟩,
  ⟨0x20028, 0, 1, 0, 1, 16, 7, .ro, false, 0, 127, [], 1⟩,
  ⟨0x20030, 0, 1, 0, 1, 0, 16, .rc, false, 0, 65535, [], 1⟩,
  ⟨0x20030, 0, 1, 0, 1, 16, 16, .rc, false, 0, 65535, [], 1⟩,
  ⟨0x20034, 0, 1, 0, 1, 0, 16, .rc, false, 0, 65535, [], 1⟩,
  ⟨0x20034, 0, 1, 0, 1, 16, 8, .rc, false, 0, 255, [], 1⟩,
  ⟨0x20034, 0, 1, 0, 1, 24, 6, .ro, false, 0, 63, [], 1⟩,
  ⟨0x20100, 4, 64, 0, 1, 0, 2, .ro, false, 0, 3, [], 1⟩,
  ⟨0x20100, 4, 64, 0, 1, 2, 1, .ro, false, 0, 1, [], 1⟩,
  ⟨0x20100, 4, 64, 0, 1, 3, 1, .ro, false, 0, 1, [], 1⟩,
  ⟨0x20100, 4, 64, 0, 1, 4, 1, .ro, false, 0, 1, [], 1⟩,
  ⟨0x20100, 4, 64, 0, 1, 5, 1, .ro, false, 0, 1, [], 1⟩,
  ⟨0x20100, 4, 64, 0, 1, 8, 6, .ro, false, 0, 63, [], 1⟩,
  ⟨0x20100, 4, 64, 0, 1, 16, 8, .ro, false, 0, 255, [], 1⟩,
  ⟨0x20100, 4, 64, 0, 1, 24, 1, .ro, false, 0, 1, [], 1⟩,
  ⟨0x20400, 4, 256, 0, 1, 0, 8, .ro, false, 0, 255, [], 1⟩,
  ⟨0x20400, 4, 256, 0, 1, 8, 1, .ro, false, 0, 1, [], 1⟩,
  ⟨0x20400, 4, 256, 0, 1, 9, 1, .ro, false, 0, 1, [], 1⟩,
  ⟨0x20400, 4, 256, 0, 1, 16, 7, .ro, false, 0, 127, [], 1⟩,
  ⟨0x20400, 4, 256, 0, 1, 24, 2, .ro, false, 0, 3, [], 1⟩,
  ⟨0x20800, 0, 1, 0, 1, 0, 6, .rw, false, 0, 63, [], 1⟩,
  ⟨0x20800, 0, 1, 0, 1, 6, 6, .rw, false, 0, 63, [], 1⟩,
  ⟨0x20800, 0, 1, 0, 1, 12, 6, .rw, false, 0, 63, [], 1⟩,
  ⟨0x20800, 0, 1, 0, 1, 18, 1, .wo, false, 0, 1, [], 1⟩,
  ⟨0x20800, 0, 1, 0, 1, 19, 1, .ro, false, 0, 1, [], 1⟩]

/-- Rows of the FAB block. -/
def rowsFab1 : List AccRow := [
  ⟨0x20804, 0, 1, 0, 1, 0, 32, .ro, false, 0, 4294967295, [], 1⟩,
  ⟨0x20808, 0, 1, 0, 1, 0, 32, .ro, false, 0, 4294967295, [], 1⟩,
  ⟨0x2080c, 0, 1, 0, 1, 0, 4, .ro, false, 0, 15, [], 1⟩,
  ⟨0x21000, 4, 101, 0, 1, 0, 3, .ro, false, 0, 7, [], 1⟩,
  ⟨0x21000, 4, 101, 0, 1, 3, 1, .ro, false, 0, 1, [], 1⟩,
  ⟨0x21000, 4, 101, 0, 1, 4, 1, .ro, false, 0, 1, [], 1⟩,
  ⟨0x21000, 4, 101, 0, 1, 8, 3, .ro, false, 0, 7, [], 1⟩,
  ⟨0x21000, 4, 101, 0, 1, 11, 1, .ro, false, 0, 1, [], 1⟩,
  ⟨0x21000, 4, 101, 0, 1, 12, 1, .w1c, false, 0, 1, [], 1⟩]

/-- Rows of the SMP block. -/
def rowsSmp : List AccRow := [
  ⟨0x30000, 0, 1, 0, 1, 0, 2, .rw, false, 0, 2, [], 1⟩,
  ⟨0x30004, 0, 1, 0, 1, 0, 16, .wo, false, 0, 65535, [], 1⟩,
  ⟨0x30008, 0, 1, 0, 1, 0, 16, .rw, true, 0, 65535, [], 1⟩,
  ⟨0x30008, 0, 1, 0, 1, 16, 16, .rw, true, 1, 65535, [], 1⟩,
  ⟨0x3000c, 0, 1, 0, 1, 0, 6, .rw, true, 1, 32, [], 1⟩,
  ⟨0x3000c, 0, 1, 0, 1, 6, 1, .rw, true, 0, 1, [], 1⟩,
  ⟨0x3000c, 0, 1, 0, 1, 16, 16, .rw, true, 0, 65535, [], 1⟩,
  ⟨0x30010, 0, 1, 0, 1, 0, 1, .ro, false, 0, 1, [], 1⟩,
  ⟨0x30010, 0, 1, 0, 1, 1, 1, .w1c, false, 0, 1, [], 1⟩,
  ⟨0x30010, 0, 1, 0, 1, 16, 16, .rc, false, 0, 65535, [], 1⟩,
  ⟨0x30014, 0, 1, 0, 1, 0, 9, .ro, false, 0, 511, [], 1⟩,
  ⟨0x30100, 0, 1, 0, 1, 0, 8, .rw, false, 0, 255, [], 1⟩,
  ⟨0x30100, 0, 1, 0, 1, 8, 5, .rw, false, 0, 31, [], 1⟩,
  ⟨0x30100, 0, 1, 0, 1, 13, 1, .rw, false, 0, 1, [], 1⟩,
  ⟨0x30100, 0, 1, 0, 1, 16, 8, .rw, false, 0, 255, [], 1⟩,
  ⟨0x30104, 0, 1, 0, 1, 0, 17, .ro, false, 0, 131071, [], 1⟩,
  ⟨0x30104, 0, 1, 0, 1, 24, 6, .ro, false, 0, 63, [], 1⟩,
  ⟨0x30200, 8, 31, 0, 1, 0, 32, .rc, false, 0, 4294967295, [], 1⟩,
  ⟨0x30204, 8, 31, 0, 1, 0, 32, .rc, false, 0, 4294967295, [], 1⟩,
  ⟨0x30800, 4, 256, 0, 1, 0, 11, .ro, false, 0, 2047, [], 1⟩,
  ⟨0x30800, 4, 256, 0, 1, 16, 9, .ro, false, 0, 511, [], 1⟩,
  ⟨0x30800, 4, 256, 0, 1, 25, 1, .ro, false, 0, 1, [], 1⟩]

/-- Rows of the SYL block. -/
def rowsSyl : List AccRow := [
  ⟨0x40000, 0, 1, 0, 1, 0, 2, .rw, false, 0, 1, [], 1⟩,
  ⟨0x40004, 0, 1, 0, 1, 0, 16, .wo, false, 0, 65535, [], 1⟩,
  ⟨0x40008, 0, 1, 0, 1, 0, 1, .ro, false, 0, 1, [], 1⟩,
  ⟨0x40008, 0, 1, 0, 1, 1, 1, .ro, false, 0, 1, [], 1⟩,
  ⟨0x40008, 0, 1, 0, 1, 2, 1, .ro, false, 0, 1, [], 1⟩,
  ⟨0x40008, 0, 1, 0, 1, 3, 1, .ro, false, 0, 1, [], 1⟩,
  ⟨0x40008, 0, 1, 0, 1, 4, 1, .w1c, false, 0, 1, [], 1⟩,
  ⟨0x40008, 0, 1, 0, 1, 8, 4, .ro, false, 0, 15, [], 1⟩,
  ⟨0x4000c, 0, 1, 0, 1, 0, 32, .rw, true, 0, 4294967295, [], 1⟩,
  ⟨0x40010, 0, 1, 0, 1, 0, 8, .rw, true, 0, 255, [], 1⟩,
  ⟨0x40020, 4, 8, 0, 1, 0, 8, .rw, false, 0, 255, [], 1⟩,
  ⟨0x40020, 4, 8, 0, 1, 8, 13, .rw, false, 1, 4096, [], 1⟩,
  ⟨0x40020, 4, 8, 0, 1, 21, 3, .rw, false, 0, 7, [], 1⟩,
  ⟨0x40020, 4, 8, 0, 1, 24, 1, .rw, false, 0, 1, [], 1⟩,
  ⟨0x40040, 0, 1, 0, 1, 0, 32, .rc, false, 0, 4294967295, [], 1⟩,
  ⟨0x40044, 0, 1, 0, 1, 0, 16, .rc, false, 0, 65535, [], 1⟩,
  ⟨0x40044, 0, 1, 0, 1, 16, 16, .rc, false, 0, 65535, [], 1⟩,
  ⟨0x40048, 0, 1, 0, 1, 0, 16, .rc, false, 0, 65535, [], 1⟩,
  ⟨0x40048, 0, 1, 0, 1, 16, 16, .rc, false, 0, 65535, [], 1⟩,
  ⟨0x4004c, 0, 1, 0, 1, 0, 16, .rc, false, 0, 65535, [], 1⟩,
  ⟨0x4004c, 0, 1, 0, 1, 16, 16, .rc, false, 0, 65535, [], 1⟩,
  ⟨0x40100, 0, 1, 0, 1, 0, 23, .rw, false, 0, 8388607, [], 4⟩,
  ⟨0x40104, 0, 1, 0, 1, 0, 32, .rw, false, 0, 4294967295, [], 1⟩,
  ⟨0x40108, 0, 1, 0, 1, 0, 1, .wo, false, 0, 1, [], 1⟩,
  ⟨0x40108, 0, 1, 0, 1, 1, 1, .wo, false, 0, 1, [], 1⟩]

/-- Rows of the CAP block. -/
def rowsCap0 : List AccRow := [
  ⟨0x50000, 0, 1, 0, 1, 0, 2, .rw, false, 0, 2, [], 1⟩,
  ⟨0x50004, 0, 1, 0, 1, 0, 16, .wo, false, 0, 65535, [], 1⟩,
  ⟨0x50008, 0, 1, 0, 1, 0, 14, .rw, true, 1, 10000, [], 1⟩,
  ⟨0x5000c, 0, 1, 0, 1, 0, 8, .ro, false, 0, 255, [], 1⟩,
  ⟨0x5000c, 0, 1, 0, 1, 8, 1, .ro, false, 0, 1, [], 1⟩,
  ⟨0x5000c, 0, 1, 0, 1, 9, 1, .ro, false, 0, 1, [], 1⟩,
  ⟨0x5000c, 0, 1, 0, 1, 16, 8, .ro, false, 0, 255, [], 1⟩,
  ⟨0x50010, 0, 1, 0, 1, 0, 16, .rc, false, 0, 65535, [], 1⟩,
  ⟨0x50010, 0, 1, 0, 1, 16, 16, .rc, false, 0, 65535, [], 1⟩,
  ⟨0x50014, 0, 1, 0, 1, 0, 16, .rc, false, 0, 65535, [], 1⟩,
  ⟨0x50014, 0, 1, 0, 1, 16, 16, .rc, false, 0, 65535, [], 1⟩,
  ⟨0x50100, 64, 2, 0, 1, 0, 32, .rw, false, 0, 4294967295, [], 1⟩,
  ⟨0x50104, 64, 2, 0, 1, 0, 16, .rw, false, 0, 65535, [], 1⟩,
  ⟨0x50104, 64, 2, 0, 1, 16, 1, .ro, false, 0, 1, [], 1⟩,
  ⟨0x50104, 64, 2, 0, 1, 17, 1, .rw, false, 0, 1, [], 1⟩,
  ⟨0x50108, 64, 2, 0, 1, 0, 32, .rw, false, 0, 4294967295, [], 1⟩,
  ⟨0x5010c, 64, 2, 0, 1, 0, 3, .rw, false, 0, 7, [], 1⟩,
  ⟨0x5010c, 64, 2, 0, 1, 3, 1, .rw, false, 0, 1, [], 1⟩,
  ⟨0x5010c, 64, 2, 0, 1, 16, 16, .rw, false, 0, 65535, [], 1⟩,
  ⟨0x50110, 64, 2, 4, 4, 0, 32, .rw, false, 0, 4294967295, [], 1⟩,
  ⟨0x50120, 64, 2, 0, 1, 0, 16, .rc, false, 0, 65535, [], 1⟩,
  ⟨0x50120, 64, 2, 0, 1, 16, 16, .rc, false, 0, 65535, [], 1⟩,
  ⟨0x50124, 64, 2, 0, 1, 0, 16, .rc, false, 0, 65535, [], 1⟩,
  ⟨0x50124, 64, 2, 0, 1, 16, 16, .rc, false, 0, 65535, [], 1⟩,
  ⟨0x50128, 64, 2, 0, 1, 0, 16, .rc, false, 0, 65535, [], 1⟩,
  ⟨0x50128, 64, 2, 0, 1, 16, 16, .rc, false, 0, 65535, [], 1⟩,
  ⟨0x5012c, 64, 2, 0, 1, 0, 10, .rw, false, 0, 1000, [], 1⟩,
  ⟨0x50200, 32, 8, 0, 1, 0, 1, .rw, true, 0, 1, [], 1⟩,
  ⟨0x50200, 32, 8, 0, 1, 1, 3, .rw, false, 0, 7, [], 1⟩,
  ⟨0x50204, 32, 8, 0, 1, 0, 20, .ro, false, 0, 1048575, [], 1⟩,
  ⟨0x50208, 32, 8, 0, 1, 0, 32, .rc, false, 0, 4294967295, [], 1⟩,
  ⟨0x5020c, 32, 8, 0, 1, 0, 16, .rc, false, 0, 65535, [], 1⟩,
  ⟨0x5020c, 32, 8, 0, 1, 16, 16, .rc, false, 0, 65535, [], 1⟩,
  ⟨0x50210, 32, 8, 0, 1, 0, 16, .rc, false, 0, 65535, [], 1⟩,
  ⟨0x50210, 32, 8, 0, 1, 16, 16, .rc, false, 0, 65535, [], 1⟩,
  ⟨0x50214, 32, 8, 0, 1, 0, 16, .rc, false, 0, 65535, [], 1⟩,
  ⟨0x50214, 32, 8, 0, 1, 16, 16, .rc, false, 0, 65535, [], 1⟩,
  ⟨0x50218, 32, 8, 0, 1, 0, 32, .ro, false, 0, 4294967295, [], 1⟩,
  ⟨0x5021c, 32, 8, 0, 1, 0, 16, .rc, false, 0, 65535, [], 1⟩,
  ⟨0x50400, 16, 32, 0, 1, 0, 32, .rw, false, 0, 4294967295, [], 1⟩]

/-- Rows of the CAP block. -/
def rowsCap1 : List AccRow := [
  ⟨0x50404, 16, 32, 0, 1, 0, 3, .rw, false, 0, 7, [], 1⟩,
  ⟨0x50404, 16, 32, 0, 1, 3, 1, .rw, false, 0, 1, [], 1⟩,
  ⟨0x50404, 16, 32, 0, 1, 4, 1, .rw, false, 0, 1, [], 1⟩,
  ⟨0x50404, 16, 32, 0, 1, 5, 1, .rw, false, 0, 1, [], 1⟩,
  ⟨0x50404, 16, 32, 0, 1, 6, 1, .rw, false, 0, 1, [], 1⟩,
  ⟨0x50404, 16, 32, 0, 1, 8, 7, .rw, false, 0, 127, [], 1⟩,
  ⟨0x50408, 16, 32, 0, 1, 0, 24, .rw, false, 0, 16777215, [], 1⟩,
  ⟨0x5040c, 16, 32, 0, 1, 0, 16, .rw, false, 0, 65535, [], 1⟩,
  ⟨0x5040c, 16, 32, 0, 1, 16, 16, .rw, false, 0, 65535, [], 1⟩,
  ⟨0x50600, 64, 8, 0, 1, 0, 32, .rw, false, 0, 4294967295, [], 1⟩,
  ⟨0x50604, 64, 8, 0, 1, 0, 32, .rw, false, 0, 4294967295, [], 1⟩,
  ⟨0x50608, 64, 8, 0, 1, 0, 16, .rw, false, 0, 65535, [], 1⟩,
  ⟨0x50608, 64, 8, 0, 1, 16, 1, .rw, false, 0, 1, [], 1⟩,
  ⟨0x50608, 64, 8, 0, 1, 17, 1, .rw, false, 0, 1, [], 1⟩,
  ⟨0x50608, 64, 8, 0, 1, 18, 1, .rw, false, 0, 1, [], 1⟩,
  ⟨0x5060c, 64, 8, 0, 1, 0, 32, .rw, false, 0, 4294967295, [], 1⟩,
  ⟨0x50610, 64, 8, 4, 4, 0, 32, .rw, false, 0, 4294967295, [], 1⟩,
  ⟨0x50620, 64, 8, 0, 1, 0, 16, .rw, false, 0, 65535, [], 1⟩,
  ⟨0x50620, 64, 8, 0, 1, 16, 16, .rw, false, 0, 65535, [], 1⟩,
  ⟨0x50624, 64, 8, 0, 1, 0, 24, .rw, false, 0, 16777215, [], 1⟩,
  ⟨0x50628, 64, 8, 0, 1, 0, 16, .rw, false, 0, 65535, [], 1⟩,
  ⟨0x50628, 64, 8, 0, 1, 16, 16, .rw, false, 0, 65535, [], 1⟩,
  ⟨0x5062c, 64, 8, 0, 1, 0, 4, .ro, false, 0, 15, [], 1⟩,
  ⟨0x5062c, 64, 8, 0, 1, 4, 6, .rw, false, 0, 63, [], 1⟩,
  ⟨0x5062c, 64, 8, 0, 1, 16, 8, .rw, false, 0, 255, [], 1⟩]

/-- Rows of the HPS block. -/
def rowsHps : List AccRow := [
  ⟨0x60000, 0, 1, 0, 1, 0, 2, .rw, false, 0, 2, [], 1⟩,
  ⟨0x60004, 0, 1, 0, 1, 0, 16, .wo, false, 0, 65535, [], 1⟩,
  ⟨0x60008, 0, 1, 0, 1, 0, 4, .rw, true, 0, 15, [], 1⟩,
  ⟨0x60008, 0, 1, 0, 1, 8, 8, .rw, true, 0, 255, [], 1⟩,
  ⟨0x6000c, 0, 1, 0, 1, 0, 32, .rw, true, 0, 4294967295, [], 1⟩,
  ⟨0x60010, 0, 1, 0, 1, 0, 1, .ro, false, 0, 1, [], 1⟩,
  ⟨0x60010, 0, 1, 0, 1, 1, 1, .ro, false, 0, 1, [], 1⟩,
  ⟨0x60010, 0, 1, 0, 1, 2, 1, .ro, false, 0, 1, [], 1⟩,
  ⟨0x60010, 0, 1, 0, 1, 3, 1, .ro, false, 0, 1, [], 1⟩,
  ⟨0x60010, 0, 1, 0, 1, 4, 1, .w1c, false, 0, 1, [], 1⟩,
  ⟨0x60010, 0, 1, 0, 1, 5, 1, .w1c, false, 0, 1, [], 1⟩,
  ⟨0x60010, 0, 1, 0, 1, 8, 2, .ro, false, 0, 3, [], 1⟩,
  ⟨0x60010, 0, 1, 0, 1, 12, 4, .ro, false, 0, 15, [], 1⟩,
  ⟨0x60010, 0, 1, 0, 1, 16, 11, .ro, false, 0, 2047, [], 1⟩,
  ⟨0x60014, 0, 1, 0, 1, 0, 1, .wo, false, 0, 1, [], 1⟩,
  ⟨0x60018, 0, 1, 0, 1, 0, 16, .rw, false, 0, 65535, [], 1⟩,
  ⟨0x6001c, 0, 1, 0, 1, 0, 4, .rw, false, 0, 15, [], 1⟩,
  ⟨0x60020, 0, 1, 0, 1, 0, 32, .rc, false, 0, 4294967295, [], 1⟩,
  ⟨0x60024, 0, 1, 0, 1, 0, 32, .rc, false, 0, 4294967295, [], 1⟩,
  ⟨0x60028, 0, 1, 0, 1, 0, 16, .rc, false, 0, 65535, [], 1⟩,
  ⟨0x60028, 0, 1, 0, 1, 16, 16, .rc, false, 0, 65535, [], 1⟩,
  ⟨0x6002c, 0, 1, 0, 1, 0, 16, .rc, false, 0, 65535, [], 1⟩,
  ⟨0x60030, 0, 1, 0, 1, 0, 16, .rc, false, 0, 65535, [], 1⟩,
  ⟨0x60030, 0, 1, 0, 1, 16, 16, .rc, false, 0, 65535, [], 1⟩,
  ⟨0x60100, 4, 256, 0, 1, 0, 4, .rw, true, 0, 15, [], 1⟩,
  ⟨0x60100, 4, 256, 0, 1, 4, 4, .rw, true, 0, 15, [], 1⟩]

/-- Rows of the AKG block. -/
def rowsAkg0 : List AccRow := [
  ⟨0x70000, 0, 1, 0, 1, 0, 2, .rw, false, 0, 2, [], 1⟩,
  ⟨0x70004, 0, 1, 0, 1, 0, 16, .wo, false, 0, 65535, [], 1⟩,
  ⟨0x70008, 0, 1, 0, 1, 0, 16, .rw, false, 0, 65535, [], 1⟩,
  ⟨0x70008, 0, 1, 0, 1, 16, 4, .rw, false, 0, 15, [], 1⟩,
  ⟨0x70008, 0, 1, 0, 1, 20, 4, .rw, false, 0, 15, [], 1⟩,
  ⟨0x70008, 0, 1, 0, 1, 24, 2, .rw, false, 0, 2, [], 1⟩,
  ⟨0x7000c, 0, 1, 0, 1, 0, 8, .rw, true, 1, 255, [], 1⟩,
  ⟨0x7000c, 0, 1, 0, 1, 8, 8, .rw, true, 1, 255, [], 1⟩,
  ⟨0x7000c, 0, 1, 0, 1, 16, 8, .rw, true, 1, 255, [], 1⟩,
  ⟨0x7000c, 0, 1, 0, 1, 24, 8, .rw, true, 1, 255, [], 1⟩,
  ⟨0x70010, 0, 1, 0, 1, 0, 2, .ro, false, 0, 3, [], 1⟩,
  ⟨0x70010, 0, 1, 0, 1, 2, 1, .ro, false, 0, 1, [], 1⟩,
  ⟨0x70010, 0, 1, 0, 1, 3, 1, .ro, false, 0, 1, [], 1⟩,
  ⟨0x70010, 0, 1, 0, 1, 4, 4, .ro, false, 0, 15, [], 1⟩,
  ⟨0x70010, 0, 1, 0, 1, 8, 1, .w1c, false, 0, 1, [], 1⟩,
  ⟨0x70010, 0, 1, 0, 1, 9, 1, .w1c, false, 0, 1, [], 1⟩,
  ⟨0x70010, 0, 1, 0, 1, 10, 1, .w1c, false, 0, 1, [], 1⟩,
  ⟨0x70010, 0, 1, 0, 1, 16, 5, .ro, false, 0, 31, [], 1⟩,
  ⟨0x70014, 0, 1, 0, 1, 0, 6, .rw, false, 0, 63, [], 1⟩,
  ⟨0x70014, 0, 1, 0, 1, 8, 6, .rw, false, 0, 63, [], 1⟩,
  ⟨0x70018, 0, 1, 0, 1, 0, 16, .rc, false, 0, 65535, [], 1⟩,
  ⟨0x70018, 0, 1, 0, 1, 16, 16, .rc, false, 0, 65535, [], 1⟩,
  ⟨0x7001c, 0, 1, 0, 1, 0, 16, .rc, false, 0, 65535, [], 1⟩,
  ⟨0x7001c, 0, 1, 0, 1, 16, 16, .rc, false, 0, 65535, [], 1⟩,
  ⟨0x70020, 0, 1, 0, 1, 0, 1, .wo, false, 0, 1, [], 1⟩,
  ⟨0x70020, 0, 1, 0, 1, 1, 1, .ro, false, 0, 1, [], 1⟩,
  ⟨0x70100, 32, 4, 0, 1, 0, 3, .ro, false, 0, 7, [], 1⟩,
  ⟨0x70100, 32, 4, 0, 1, 3, 3, .ro, false, 0, 7, [], 1⟩,
  ⟨0x70100, 32, 4, 0, 1, 6, 1, .ro, false, 0, 1, [], 1⟩,
  ⟨0x70100, 32, 4, 0, 1, 8, 4, .ro, false, 0, 15, [], 1⟩,
  ⟨0x70100, 32, 4, 0, 1, 12, 5, .ro, false, 0, 31, [], 1⟩,
  ⟨0x70100, 32, 4, 0, 1, 17, 2, .ro, false, 0, 3, [], 1⟩,
  ⟨0x70104, 32, 4, 0, 1, 0, 16, .rc, false, 0, 65535, [], 1⟩,
  ⟨0x70104, 32, 4, 0, 1, 16, 16, .rc, false, 0, 65535, [], 1⟩,
  ⟨0x70108, 32, 4, 0, 1, 0, 16, .rc, false, 0, 65535, [], 1⟩,
  ⟨0x70108, 32, 4, 0, 1, 16, 11, .ro, false, 0, 2047, [], 1⟩,
  ⟨0x7010c, 32, 4, 0, 1, 0, 1, .wo, false, 0, 1, [], 1⟩,
  ⟨0x7010c, 32, 4, 0, 1, 1, 1, .rw, false, 0, 1, [], 1⟩,
  ⟨0x70200, 4, 64, 0, 1, 0, 16, .rw, false, 0, 65535, [], 1⟩,
  ⟨0x70200, 4, 64, 0, 1, 16, 1, .rw, false, 0, 1, [], 1⟩]

/-- Rows of the AKG block. -/
def rowsAkg1 : List AccRow := [
  ⟨0x70400, 4, 256, 0, 1, 0, 16, .rw, false, 0, 65535, [], 1⟩]

/-- Rows of the MEM block. -/
def rowsMem : List AccRow := [
  ⟨0x80000, 16, 4, 0, 1, 0, 1, .ro, false, 0, 1, [], 1⟩,
  ⟨0x80000, 16, 4, 0, 1, 1, 1, .ro, false, 0, 1, [], 1⟩,
  ⟨0x80000, 16, 4, 0, 1, 2, 2, .ro, false, 0, 3, [], 1⟩,
  ⟨0x80000, 16, 4, 0, 1, 4, 1, .ro, false, 0, 1, [], 1⟩,
  ⟨0x80004, 16, 4, 0, 1, 0, 16, .rc, false, 0, 65535, [], 1⟩,
  ⟨0x80008, 16, 4, 0, 1, 0, 32, .rc, false, 0, 4294967295, [], 1⟩]

/-- Rows of the THM block. -/
def rowsThm : List AccRow := [
  ⟨0x90000, 0, 1, 0, 1, 0, 2, .rw, false, 0, 2, [], 1⟩,
  ⟨0x90004, 0, 1, 0, 1, 0, 16, .wo, false, 0, 65535, [], 1⟩,
  ⟨0x90008, 0, 1, 0, 1, 0, 8, .rw, true, 60, 105, [], 1⟩,
  ⟨0x90008, 0, 1, 0, 1, 8, 8, .rw, true, 60, 105, [], 1⟩,
  ⟨0x90008, 0, 1, 0, 1, 16, 4, .rw, true, 1, 15, [], 1⟩,
  ⟨0x9000c, 0, 1, 0, 1, 0, 8, .rw, true, 5, 255, [], 1⟩,
  ⟨0x9000c, 0, 1, 0, 1, 8, 8, .rw, true, 1, 255, [], 1⟩,
  ⟨0x9000c, 0, 1, 0, 1, 16, 4, .rw, true, 0, 15, [], 1⟩,
  ⟨0x9000c, 0, 1, 0, 1, 20, 1, .rw, true, 0, 1, [], 1⟩,
  ⟨0x9000c, 0, 1, 0, 1, 24, 8, .rw, true, 0, 255, [], 1⟩,
  ⟨0x90010, 0, 1, 0, 1, 0, 4, .ro, false, 0, 15, [], 1⟩,
  ⟨0x90010, 0, 1, 0, 1, 4, 1, .ro, false, 0, 1, [], 1⟩,
  ⟨0x90010, 0, 1, 0, 1, 5, 1, .ro, false, 0, 1, [], 1⟩,
  ⟨0x90010, 0, 1, 0, 1, 6, 1, .ro, false, 0, 1, [], 1⟩,
  ⟨0x90010, 0, 1, 0, 1, 7, 1, .ro, false, 0, 1, [], 1⟩,
  ⟨0x90010, 0, 1, 0, 1, 8, 1, .ro, false, 0, 1, [], 1⟩,
  ⟨0x90010, 0, 1, 0, 1, 9, 1, .ro, false, 0, 1, [], 1⟩,
  ⟨0x90010, 0, 1, 0, 1, 16, 1, .w1c, false, 0, 1, [], 1⟩,
  ⟨0x90010, 0, 1, 0, 1, 17, 1, .w1c, false, 0, 1, [], 1⟩,
  ⟨0x90010, 0, 1, 0, 1, 18, 1, .w1c, false, 0, 1, [], 1⟩,
  ⟨0x90010, 0, 1, 0, 1, 19, 1, .w1c, false, 0, 1, [], 1⟩,
  ⟨0x90014, 0, 1, 0, 1, 0, 16, .ro, false, 0, 65535, [], 1⟩,
  ⟨0x90014, 0, 1, 0, 1, 16, 2, .ro, false, 0, 3, [], 1⟩,
  ⟨0x90014, 0, 1, 0, 1, 18, 2, .ro, false, 0, 3, [], 1⟩,
  ⟨0x90014, 0, 1, 0, 1, 24, 5, .ro, false, 0, 31, [], 1⟩,
  ⟨0x90018, 0, 1, 0, 1, 0, 2, .ro, false, 0, 3, [], 1⟩,
  ⟨0x90018, 0, 1, 0, 1, 2, 2, .ro, false, 0, 3, [], 1⟩,
  ⟨0x90018, 0, 1, 0, 1, 4, 1, .ro, false, 0, 1, [], 1⟩,
  ⟨0x9001c, 0, 1, 0, 1, 0, 16, .rc, false, 0, 65535, [], 1⟩,
  ⟨0x9001c, 0, 1, 0, 1, 16, 16, .ro, false, 0, 65535, [], 1⟩,
  ⟨0x90100, 4, 22, 0, 1, 0, 16, .ro, false, 0, 65535, [], 1⟩,
  ⟨0x90100, 4, 22, 0, 1, 16, 3, .ro, false, 0, 7, [], 1⟩,
  ⟨0x90200, 4, 22, 0, 1, 0, 16, .rc, false, 0, 65535, [], 1⟩]

/-- Rows of the PWR block. -/
def rowsPwr0 : List AccRow := [
  ⟨0xa0000, 0, 1, 0, 1, 0, 4, .ro, false, 0, 15, [], 1⟩,
  ⟨0xa0000, 0, 1, 0, 1, 4, 1, .ro, false, 0, 1, [], 1⟩,
  ⟨0xa0000, 0, 1, 0, 1, 5, 1, .ro, false, 0, 1, [], 1⟩,
  ⟨0xa0000, 0, 1, 0, 1, 6, 1, .ro, false, 0, 1, [], 1⟩,
  ⟨0xa0000, 0, 1, 0, 1, 7, 1, .ro, false, 0, 1, [], 1⟩,
  ⟨0xa0000, 0, 1, 0, 1, 8, 8, .ro, false, 0, 255, [], 1⟩,
  ⟨0xa0000, 0, 1, 0, 1, 16, 4, .ro, false, 0, 15, [], 1⟩,
  ⟨0xa0004, 0, 1, 0, 1, 0, 2, .rw, false, 0, 2, [], 1⟩,
  ⟨0xa0008, 0, 1, 0, 1, 0, 16, .wo, false, 0, 65535, [], 1⟩,
  ⟨0xa000c, 0, 1, 0, 1, 0, 1, .wo, false, 0, 1, [], 1⟩,
  ⟨0xa0010, 0, 1, 0, 1, 0, 6, .rw, true, 1, 48, [], 1⟩,
  ⟨0xa0010, 0, 1, 0, 1, 8, 5, .rw, true, 2, 16, [], 1⟩,
  ⟨0xa0010, 0, 1, 0, 1, 16, 6, .rw, true, 1, 50, [], 1⟩,
  ⟨0xa0014, 0, 1, 0, 1, 0, 7, .rw, true, 20, 120, [], 1⟩,
  ⟨0xa0014, 0, 1, 0, 1, 8, 6, .rw, true, 1, 50, [], 1⟩,
  ⟨0xa0014, 0, 1, 0, 1, 24, 8, .ro, false, 0, 255, [], 1⟩,
  ⟨0xa0018, 0, 1, 0, 1, 0, 14, .rw, true, 20, 10000, [], 1⟩,
  ⟨0xa0018, 0, 1, 0, 1, 16, 8, .rw, true, 1, 255, [], 1⟩,
  ⟨0xa001c, 0, 1, 0, 1, 0, 8, .rw, true, 0, 255, [], 1⟩,
  ⟨0xa001c, 0, 1, 0, 1, 8, 8, .rw, true, 0, 80, [], 1⟩,
  ⟨0xa001c, 0, 1, 0, 1, 16, 8, .rw, true, 1, 255, [], 1⟩,
  ⟨0xa001c, 0, 1, 0, 1, 24, 8, .rw, true, 0, 255, [], 1⟩,
  ⟨0xa0020, 0, 1, 0, 1, 0, 8, .rw, true, 180, 212, [], 1⟩,
  ⟨0xa0020, 0, 1, 0, 1, 8, 6, .rw, true, 1, 50, [], 1⟩,
  ⟨0xa0020, 0, 1, 0, 1, 16, 8, .ro, false, 0, 255, [], 1⟩,
  ⟨0xa0024, 0, 1, 0, 1, 0, 4, .rw, true, 0, 15, [], 1⟩,
  ⟨0xa0024, 0, 1, 0, 1, 8, 8, .rw, true, 1, 255, [], 1⟩,
  ⟨0xa0028, 0, 1, 0, 1, 0, 1, .w1c, false, 0, 1, [], 1⟩,
  ⟨0xa0028, 0, 1, 0, 1, 1, 1, .w1c, false, 0, 1, [], 1⟩,
  ⟨0xa0028, 0, 1, 0, 1, 2, 1, .w1c, false, 0, 1, [], 1⟩,
  ⟨0xa0028, 0, 1, 0, 1, 3, 1, .w1c, false, 0, 1, [], 1⟩,
  ⟨0xa0028, 0, 1, 0, 1, 4, 1, .w1c, false, 0, 1, [], 1⟩,
  ⟨0xa0028, 0, 1, 0, 1, 8, 8, .w1c, false, 0, 255, [], 1⟩,
  ⟨0xa002c, 0, 1, 0, 1, 0, 16, .rc, false, 0, 65535, [], 1⟩,
  ⟨0xa002c, 0, 1, 0, 1, 16, 16, .rc, false, 0, 65535, [], 1⟩,
  ⟨0xa0030, 4, 4, 0, 1, 0, 16, .rc, false, 0, 65535, [], 1⟩,
  ⟨0xa0030, 4, 4, 0, 1, 16, 16, .rc, false, 0, 65535, [], 1⟩,
  ⟨0xa0100, 16, 8, 0, 1, 0, 3, .rw, true, 0, 6, [], 1⟩,
  ⟨0xa0100, 16, 8, 0, 1, 4, 2, .rw, true, 0, 2, [], 1⟩,
  ⟨0xa0100, 16, 8, 0, 1, 8, 2, .rw, true, 0, 3, [], 1⟩]

/-- Rows of the PWR block. -/
def rowsPwr1 : List AccRow := [
  ⟨0xa0100, 16, 8, 0, 1, 12, 4, .rw, true, 0, 15, [], 1⟩,
  ⟨0xa0104, 16, 8, 0, 1, 0, 16, .rw, true, 0, 65535, [], 1⟩,
  ⟨0xa0104, 16, 8, 0, 1, 16, 7, .rw, true, 20, 120, [0], 1⟩,
  ⟨0xa0108, 16, 8, 0, 1, 0, 16, .rw, true, 1, 65535, [], 1⟩,
  ⟨0xa0108, 16, 8, 0, 1, 16, 1, .rw, true, 0, 1, [], 1⟩,
  ⟨0xa010c, 16, 8, 0, 1, 0, 14, .rw, true, 1, 10000, [], 1⟩,
  ⟨0xa0180, 0, 1, 0, 1, 0, 1, .wo, false, 0, 1, [], 1⟩,
  ⟨0xa0180, 0, 1, 0, 1, 1, 1, .wo, false, 0, 1, [], 1⟩,
  ⟨0xa0180, 0, 1, 0, 1, 2, 1, .ro, false, 0, 1, [], 1⟩,
  ⟨0xa0180, 0, 1, 0, 1, 3, 2, .ro, false, 0, 3, [], 1⟩,
  ⟨0xa01c0, 0, 1, 0, 1, 0, 8, .rw, false, 1, 255, [], 1⟩,
  ⟨0xa0400, 0, 1, 0, 1, 0, 2, .rw, false, 0, 2, [], 1⟩,
  ⟨0xa0404, 0, 1, 0, 1, 0, 1, .wo, false, 0, 1, [], 1⟩,
  ⟨0xa0404, 0, 1, 0, 1, 1, 1, .rw, true, 0, 1, [], 1⟩,
  ⟨0xa0404, 0, 1, 0, 1, 2, 1, .rw, true, 0, 1, [], 1⟩,
  ⟨0xa0404, 0, 1, 0, 1, 3, 1, .wo, false, 0, 1, [], 1⟩,
  ⟨0xa0404, 0, 1, 0, 1, 4, 1, .wo, false, 0, 1, [], 1⟩,
  ⟨0xa0404, 0, 1, 0, 1, 5, 1, .wo, false, 0, 1, [], 1⟩,
  ⟨0xa0408, 0, 1, 0, 1, 0, 14, .rw, true, 1, 10000, [], 1⟩,
  ⟨0xa040c, 0, 1, 0, 1, 0, 1, .ro, false, 0, 1, [], 1⟩,
  ⟨0xa040c, 0, 1, 0, 1, 1, 1, .ro, false, 0, 1, [], 1⟩,
  ⟨0xa040c, 0, 1, 0, 1, 2, 1, .ro, false, 0, 1, [], 1⟩,
  ⟨0xa040c, 0, 1, 0, 1, 3, 1, .ro, false, 0, 1, [], 1⟩,
  ⟨0xa040c, 0, 1, 0, 1, 4, 1, .w1c, false, 0, 1, [], 1⟩,
  ⟨0xa040c, 0, 1, 0, 1, 5, 1, .w1c, false, 0, 1, [], 1⟩,
  ⟨0xa040c, 0, 1, 0, 1, 6, 1, .ro, false, 0, 1, [], 1⟩,
  ⟨0xa040c, 0, 1, 0, 1, 7, 1, .ro, false, 0, 1, [], 1⟩,
  ⟨0xa040c, 0, 1, 0, 1, 8, 1, .w1c, false, 0, 1, [], 1⟩,
  ⟨0xa040c, 0, 1, 0, 1, 9, 1, .w1c, false, 0, 1, [], 1⟩,
  ⟨0xa0410, 0, 1, 0, 1, 0, 16, .rc, false, 0, 65535, [], 1⟩,
  ⟨0xa0410, 0, 1, 0, 1, 16, 16, .rc, false, 0, 65535, [], 1⟩,
  ⟨0xa0414, 0, 1, 0, 1, 0, 24, .ro, false, 0, 16777215, [], 1⟩,
  ⟨0xa0420, 4, 2, 0, 1, 0, 4, .rw, true, 1, 15, [], 1⟩,
  ⟨0xa0430, 8, 2, 0, 1, 0, 24, .rw, true, 0, 16777215, [], 1⟩,
  ⟨0xa0434, 8, 2, 0, 1, 0, 24, .rw, true, 0, 16777215, [], 1⟩,
  ⟨0xa0440, 8, 2, 0, 1, 0, 1, .wo, false, 0, 1, [], 1⟩,
  ⟨0xa0440, 8, 2, 0, 1, 1, 4, .wo, false, 0, 15, [], 1⟩,
  ⟨0xa0440, 8, 2, 0, 1, 5, 3, .wo, false, 0, 7, [], 1⟩,
  ⟨0xa0440, 8, 2, 0, 1, 8, 2, .wo, false, 0, 3, [], 1⟩,
  ⟨0xa0444, 8, 2, 0, 1, 0, 24, .ro, false, 0, 16777215, [], 1⟩]

/-- Rows of the PWR block. -/
def rowsPwr2 : List AccRow := [
  ⟨0xa0444, 8, 2, 0, 1, 24, 1, .rc, false, 0, 1, [], 1⟩,
  ⟨0xa0444, 8, 2, 0, 1, 25, 1, .ro, false, 0, 1, [], 1⟩,
  ⟨0xa0444, 8, 2, 0, 1, 26, 1, .w1c, false, 0, 1, [], 1⟩,
  ⟨0xa0460, 0, 1, 0, 1, 0, 32, .ro, false, 0, 4294967295, [], 1⟩,
  ⟨0xa0464, 0, 1, 0, 1, 0, 32, .ro, false, 0, 4294967295, [], 1⟩,
  ⟨0xa0468, 0, 1, 0, 1, 0, 32, .ro, false, 0, 4294967295, [], 1⟩,
  ⟨0xa046c, 0, 1, 0, 1, 0, 32, .ro, false, 0, 4294967295, [], 1⟩,
  ⟨0xa0470, 0, 1, 0, 1, 0, 32, .ro, false, 0, 4294967295, [], 1⟩,
  ⟨0xa0474, 0, 1, 0, 1, 0, 32, .ro, false, 0, 4294967295, [], 1⟩,
  ⟨0xa0478, 0, 1, 0, 1, 0, 32, .ro, false, 0, 4294967295, [], 1⟩,
  ⟨0xa0500, 64, 2, 4, 15, 0, 4, .rw, true, 0, 15, [], 1⟩,
  ⟨0xa0500, 64, 2, 4, 16, 4, 3, .rw, true, 0, 7, [], 1⟩,
  ⟨0xa0500, 64, 2, 4, 16, 7, 2, .rw, true, 0, 2, [], 1⟩,
  ⟨0xa0500, 64, 2, 4, 16, 9, 2, .rw, true, 0, 2, [], 1⟩,
  ⟨0xa0500, 64, 2, 4, 15, 11, 1, .rw, true, 0, 1, [], 1⟩,
  ⟨0xa0500, 64, 2, 4, 15, 12, 1, .rw, true, 0, 1, [], 1⟩,
  ⟨0xa0500, 64, 2, 4, 16, 16, 8, .rw, true, 1, 255, [], 1⟩,
  ⟨0xa053c, 64, 2, 0, 1, 0, 4, .ro, false, 0, 15, [], 1⟩,
  ⟨0xa053c, 64, 2, 0, 1, 11, 1, .ro, false, 0, 1, [], 1⟩,
  ⟨0xa053c, 64, 2, 0, 1, 12, 1, .ro, false, 0, 1, [], 1⟩,
  ⟨0xa0580, 64, 2, 4, 16, 0, 24, .ro, false, 0, 16777215, [], 1⟩,
  ⟨0xa0580, 64, 2, 4, 16, 24, 1, .rc, false, 0, 1, [], 1⟩,
  ⟨0xa0580, 64, 2, 4, 16, 25, 1, .ro, false, 0, 1, [], 1⟩,
  ⟨0xa0700, 128, 2, 8, 16, 0, 24, .ro, false, 0, 16777215, [], 1⟩,
  ⟨0xa0704, 128, 2, 8, 16, 0, 24, .ro, false, 0, 16777215, [], 1⟩,
  ⟨0xa0f00, 0, 1, 0, 1, 0, 1, .ro, false, 0, 1, [], 1⟩,
  ⟨0xa0f00, 0, 1, 0, 1, 1, 1, .w1c, false, 0, 1, [], 1⟩,
  ⟨0xa0f00, 0, 1, 0, 1, 2, 1, .w1c, false, 0, 1, [], 1⟩,
  ⟨0xa0f00, 0, 1, 0, 1, 3, 1, .ro, false, 0, 1, [], 1⟩,
  ⟨0xa0f00, 0, 1, 0, 1, 8, 5, .ro, false, 0, 31, [], 1⟩,
  ⟨0xa0f00, 0, 1, 0, 1, 13, 1, .ro, false, 0, 1, [], 1⟩,
  ⟨0xa0f04, 0, 1, 0, 1, 0, 2, .rw, false, 0, 1, [], 1⟩,
  ⟨0xa0f04, 0, 1, 0, 1, 2, 1, .wo, false, 0, 1, [], 1⟩,
  ⟨0xa0f04, 0, 1, 0, 1, 3, 1, .rw, false, 0, 1, [], 1⟩,
  ⟨0xa0f04, 0, 1, 0, 1, 8, 8, .rw, true, 0, 255, [], 1⟩]

/-- Rows of the RCD block. -/
def rowsRcd : List AccRow := [
  ⟨0xb0000, 0, 1, 0, 1, 0, 2, .rw, false, 0, 2, [], 1⟩,
  ⟨0xb0004, 0, 1, 0, 1, 0, 16, .wo, false, 0, 65535, [], 1⟩,
  ⟨0xb0008, 0, 1, 0, 1, 0, 6, .rw, true, 1, 60, [], 1⟩,
  ⟨0xb0008, 0, 1, 0, 1, 8, 10, .rw, true, 10, 600, [], 1⟩,
  ⟨0xb000c, 0, 1, 0, 1, 0, 1, .wo, false, 0, 1, [], 1⟩,
  ⟨0xb000c, 0, 1, 0, 1, 1, 1, .wo, false, 0, 1, [], 1⟩,
  ⟨0xb000c, 0, 1, 0, 1, 2, 1, .wo, false, 0, 1, [], 1⟩,
  ⟨0xb000c, 0, 1, 0, 1, 3, 1, .wo, false, 0, 1, [], 1⟩,
  ⟨0xb000c, 0, 1, 0, 1, 4, 1, .wo, false, 0, 1, [], 1⟩,
  ⟨0xb0010, 0, 1, 0, 1, 0, 1, .ro, false, 0, 1, [], 1⟩,
  ⟨0xb0010, 0, 1, 0, 1, 1, 1, .w1c, false, 0, 1, [], 1⟩,
  ⟨0xb0010, 0, 1, 0, 1, 2, 1, .ro, false, 0, 1, [], 1⟩,
  ⟨0xb0010, 0, 1, 0, 1, 3, 1, .w1c, false, 0, 1, [], 1⟩,
  ⟨0xb0010, 0, 1, 0, 1, 4, 1, .ro, false, 0, 1, [], 1⟩,
  ⟨0xb0010, 0, 1, 0, 1, 5, 1, .ro, false, 0, 1, [], 1⟩,
  ⟨0xb0010, 0, 1, 0, 1, 6, 1, .w1c, false, 0, 1, [], 1⟩,
  ⟨0xb0010, 0, 1, 0, 1, 7, 1, .w1c, false, 0, 1, [], 1⟩,
  ⟨0xb0010, 0, 1, 0, 1, 8, 4, .ro, false, 0, 15, [], 1⟩,
  ⟨0xb0010, 0, 1, 0, 1, 12, 1, .ro, false, 0, 1, [], 1⟩,
  ⟨0xb0010, 0, 1, 0, 1, 16, 10, .ro, false, 0, 1023, [], 1⟩,
  ⟨0xb0014, 0, 1, 0, 1, 0, 32, .ro, false, 0, 4294967295, [], 1⟩,
  ⟨0xb0018, 0, 1, 0, 1, 0, 2, .rw, false, 0, 3, [], 1⟩,
  ⟨0xb0018, 0, 1, 0, 1, 16, 10, .rw, false, 0, 1023, [], 1⟩,
  ⟨0xb0018, 0, 1, 0, 1, 31, 1, .ro, false, 0, 1, [], 1⟩,
  ⟨0xb001c, 0, 1, 0, 1, 0, 32, .ro, false, 0, 4294967295, [], 1⟩,
  ⟨0xb0020, 0, 1, 0, 1, 0, 32, .ro, false, 0, 4294967295, [], 1⟩,
  ⟨0xb0024, 0, 1, 0, 1, 0, 32, .ro, false, 0, 4294967295, [], 1⟩,
  ⟨0xb0028, 0, 1, 0, 1, 0, 16, .ro, false, 0, 65535, [], 1⟩,
  ⟨0xb0100, 4, 40, 0, 1, 0, 32, .rw, false, 0, 4294967295, [], 1⟩]

/-- Rows of the SEC block. -/
def rowsSec : List AccRow := [
  ⟨0xc0000, 0, 1, 0, 1, 0, 2, .rw, false, 0, 1, [], 1⟩,
  ⟨0xc0004, 0, 1, 0, 1, 0, 16, .wo, false, 0, 65535, [], 1⟩,
  ⟨0xc0008, 0, 1, 0, 1, 0, 1, .wo, false, 0, 1, [], 1⟩,
  ⟨0xc0008, 0, 1, 0, 1, 1, 1, .wo, false, 0, 1, [], 1⟩,
  ⟨0xc0008, 0, 1, 0, 1, 2, 1, .wo, false, 0, 1, [], 1⟩,
  ⟨0xc0008, 0, 1, 0, 1, 3, 1, .wo, false, 0, 1, [], 1⟩,
  ⟨0xc0008, 0, 1, 0, 1, 16, 16, .wo, false, 0, 65535, [], 1⟩,
  ⟨0xc000c, 0, 1, 0, 1, 0, 8, .rw, true, 1, 255, [], 1⟩,
  ⟨0xc0010, 0, 1, 0, 1, 0, 1, .ro, false, 0, 1, [], 1⟩,
  ⟨0xc0010, 0, 1, 0, 1, 1, 1, .ro, false, 0, 1, [], 1⟩,
  ⟨0xc0010, 0, 1, 0, 1, 2, 1, .ro, false, 0, 1, [], 1⟩,
  ⟨0xc0010, 0, 1, 0, 1, 3, 1, .ro, false, 0, 1, [], 1⟩,
  ⟨0xc0010, 0, 1, 0, 1, 4, 1, .ro, false, 0, 1, [], 1⟩,
  ⟨0xc0010, 0, 1, 0, 1, 5, 1, .ro, false, 0, 1, [], 1⟩,
  ⟨0xc0010, 0, 1, 0, 1, 6, 1, .ro, false, 0, 1, [], 1⟩,
  ⟨0xc0010, 0, 1, 0, 1, 7, 1, .w1c, false, 0, 1, [], 1⟩,
  ⟨0xc0010, 0, 1, 0, 1, 8, 1, .ro, false, 0, 1, [], 1⟩,
  ⟨0xc0010, 0, 1, 0, 1, 9, 1, .ro, false, 0, 1, [], 1⟩,
  ⟨0xc0010, 0, 1, 0, 1, 10, 1, .ro, false, 0, 1, [], 1⟩,
  ⟨0xc0010, 0, 1, 0, 1, 11, 1, .ro, false, 0, 1, [], 1⟩,
  ⟨0xc0010, 0, 1, 0, 1, 12, 1, .ro, false, 0, 1, [], 1⟩,
  ⟨0xc0010, 0, 1, 0, 1, 16, 4, .ro, false, 0, 15, [], 1⟩,
  ⟨0xc0014, 0, 1, 0, 1, 0, 32, .ro, false, 0, 4294967295, [], 1⟩,
  ⟨0xc0018, 0, 1, 0, 1, 0, 32, .ro, false, 0, 4294967295, [], 1⟩,
  ⟨0xc001c, 0, 1, 0, 1, 0, 32, .ro, false, 0, 4294967295, [], 1⟩,
  ⟨0xc0020, 0, 1, 0, 1, 0, 32, .ro, false, 0, 4294967295, [], 1⟩,
  ⟨0xc0024, 0, 1, 0, 1, 0, 16, .ro, false, 0, 65535, [], 1⟩,
  ⟨0xc0024, 0, 1, 0, 1, 16, 16, .ro, false, 0, 65535, [], 1⟩,
  ⟨0xc0028, 0, 1, 0, 1, 0, 16, .ro, false, 0, 65535, [], 1⟩,
  ⟨0xc002c, 0, 1, 0, 1, 0, 7, .ro, false, 0, 127, [], 1⟩,
  ⟨0xc002c, 0, 1, 0, 1, 8, 6, .ro, false, 0, 63, [], 1⟩,
  ⟨0xc0030, 0, 1, 0, 1, 0, 16, .rc, false, 0, 65535, [], 1⟩,
  ⟨0xc0030, 0, 1, 0, 1, 16, 16, .rc, false, 0, 65535, [], 1⟩]

/-- Rows of the DBG block. -/
def rowsDbg0 : List AccRow := [
  ⟨0xd0000, 0, 1, 0, 1, 0, 2, .rw, false, 0, 2, [], 1⟩,
  ⟨0xd0004, 0, 1, 0, 1, 0, 16, .wo, false, 0, 65535, [], 1⟩,
  ⟨0xd0008, 0, 1, 0, 1, 0, 1, .rw, false, 0, 1, [], 1⟩,
  ⟨0xd0008, 0, 1, 0, 1, 1, 1, .rw, false, 0, 1, [], 1⟩,
  ⟨0xd000c, 0, 1, 0, 1, 0, 4, .ro, false, 0, 15, [], 1⟩,
  ⟨0xd000c, 0, 1, 0, 1, 4, 1, .ro, false, 0, 1, [], 1⟩,
  ⟨0xd000c, 0, 1, 0, 1, 5, 4, .ro, false, 0, 15, [], 1⟩,
  ⟨0xd000c, 0, 1, 0, 1, 9, 1, .ro, false, 0, 1, [], 1⟩,
  ⟨0xd000c, 0, 1, 0, 1, 10, 1, .w1c, false, 0, 1, [], 1⟩,
  ⟨0xd000c, 0, 1, 0, 1, 11, 1, .ro, false, 0, 1, [], 1⟩,
  ⟨0xd000c, 0, 1, 0, 1, 16, 16, .rc, false, 0, 65535, [], 1⟩,
  ⟨0xd0100, 0, 1, 0, 1, 0, 1, .rw, false, 0, 1, [], 1⟩,
  ⟨0xd0100, 0, 1, 0, 1, 1, 1, .rw, true, 0, 1, [], 1⟩,
  ⟨0xd0100, 0, 1, 0, 1, 2, 1, .rw, true, 0, 1, [], 1⟩,
  ⟨0xd0100, 0, 1, 0, 1, 3, 1, .wo, false, 0, 1, [], 1⟩,
  ⟨0xd0100, 0, 1, 0, 1, 4, 4, .rw, true, 0, 8, [], 1⟩,
  ⟨0xd0100, 0, 1, 0, 1, 16, 2, .rw, true, 0, 3, [], 1⟩,
  ⟨0xd0100, 0, 1, 0, 1, 18, 2, .rw, true, 0, 3, [], 1⟩,
  ⟨0xd0100, 0, 1, 0, 1, 20, 2, .rw, true, 0, 3, [], 1⟩,
  ⟨0xd0100, 0, 1, 0, 1, 22, 2, .rw, true, 0, 3, [], 1⟩,
  ⟨0xd0104, 0, 1, 0, 1, 0, 1, .w1c, false, 0, 1, [], 1⟩,
  ⟨0xd0104, 0, 1, 0, 1, 1, 1, .ro, false, 0, 1, [], 1⟩,
  ⟨0xd0108, 0, 1, 0, 1, 0, 18, .ro, false, 0, 262143, [], 1⟩,
  ⟨0xd0110, 0, 1, 0, 1, 0, 16, .rc, false, 0, 65535, [], 1⟩,
  ⟨0xd0110, 0, 1, 0, 1, 16, 16, .rc, false, 0, 65535, [], 1⟩,
  ⟨0xd0114, 0, 1, 0, 1, 0, 16, .rc, false, 0, 65535, [], 1⟩,
  ⟨0xd0114, 0, 1, 0, 1, 16, 16, .rc, false, 0, 65535, [], 1⟩,
  ⟨0xd0118, 0, 1, 0, 1, 0, 32, .rc, false, 0, 4294967295, [], 1⟩,
  ⟨0xd011c, 0, 1, 0, 1, 0, 16, .rc, false, 0, 65535, [], 1⟩,
  ⟨0xd0120, 0, 1, 0, 1, 2, 16, .rw, false, 0, 65535, [], 1⟩,
  ⟨0xd0124, 0, 1, 0, 1, 0, 32, .ro, false, 0, 4294967295, [], 1⟩,
  ⟨0xd0130, 0, 1, 0, 1, 12, 20, .rw, true, 0, 1048575, [], 1⟩,
  ⟨0xd0134, 0, 1, 0, 1, 0, 32, .rw, true, 0, 4294967295, [], 1⟩,
  ⟨0xd0138, 0, 1, 0, 1, 0, 5, .rw, true, 12, 30, [], 1⟩,
  ⟨0xd013c, 0, 1, 0, 1, 0, 30, .ro, false, 0, 1073741823, [], 1⟩,
  ⟨0xd0140, 0, 1, 0, 1, 0, 30, .rw, false, 0, 1073741823, [], 1⟩,
  ⟨0xd0144, 0, 1, 0, 1, 0, 32, .rw, true, 0, 4294967295, [], 8⟩,
  ⟨0xd0148, 0, 1, 0, 1, 0, 32, .rw, true, 0, 4294967295, [], 1⟩,
  ⟨0xd0200, 32, 8, 0, 1, 0, 32, .rw, true, 0, 4294967295, [], 1⟩,
  ⟨0xd0204, 32, 8, 0, 1, 0, 32, .rw, true, 0, 4294967295, [], 1⟩]

/-- Rows of the DBG block. -/
def rowsDbg1 : List AccRow := [
  ⟨0xd0208, 32, 8, 0, 1, 0, 32, .rw, true, 0, 4294967295, [], 1⟩,
  ⟨0xd020c, 32, 8, 0, 1, 0, 32, .rw, true, 0, 4294967295, [], 1⟩,
  ⟨0xd0210, 32, 8, 0, 1, 0, 1, .rw, true, 0, 1, [], 1⟩,
  ⟨0xd0210, 32, 8, 0, 1, 1, 1, .rw, true, 0, 1, [], 1⟩,
  ⟨0xd0210, 32, 8, 0, 1, 2, 1, .rw, true, 0, 1, [], 1⟩,
  ⟨0xd0210, 32, 8, 0, 1, 3, 2, .rw, true, 0, 3, [], 1⟩,
  ⟨0xd0210, 32, 8, 0, 1, 5, 3, .rw, true, 0, 7, [], 1⟩,
  ⟨0xd0210, 32, 8, 0, 1, 8, 4, .rw, true, 0, 8, [15], 1⟩,
  ⟨0xd0210, 32, 1, 0, 1, 12, 1, .rw, true, 0, 1, [], 1⟩]

/-- The rows of the block that holds an offset (Table 06-3). -/
def rowsOf (off : Nat) : List AccRow :=
  match off / 0x10000 with
  | 0 => rowsGlb0 ++ rowsGlb1
  | 1 => rowsHif0 ++ rowsHif1
  | 2 => rowsFab0 ++ rowsFab1
  | 3 => rowsSmp
  | 4 => rowsSyl
  | 5 => rowsCap0 ++ rowsCap1
  | 6 => rowsHps
  | 7 => rowsAkg0 ++ rowsAkg1
  | 8 => rowsMem
  | 9 => rowsThm
  | 10 => rowsPwr0 ++ rowsPwr1 ++ rowsPwr2
  | 11 => rowsRcd
  | 12 => rowsSec
  | 13 => rowsDbg0 ++ rowsDbg1
  | _ => []

end Sys2Proof.Machine
end

