-- ==== Sys2Proof/Machine/RegsHost.lean ====
section
/-!
DEFINITION. Machine/RegsHost.lean: the register fields of the GLB, HIF, FAB and SMP blocks, one name per field as spec/16_register_index.md R422 and the home tables give them.
-/
namespace Sys2Proof.Machine.Reg


/-! Table 01-9 (01_module_overview.md R23). -/

def GLB_ID.product_code : Fld := ⟨0x0, 0, 16⟩
def GLB_ID.family_code : Fld := ⟨0x0, 16, 16⟩
def GLB_VERSION.gld1_stepping : Fld := ⟨0x4, 0, 8⟩
def GLB_VERSION.psh2_stepping : Fld := ⟨0x4, 8, 8⟩
def GLB_VERSION.variant : Fld := ⟨0x4, 16, 8⟩
def GLB_CAP0.tiles : Fld := ⟨0x8, 0, 8⟩
def GLB_CAP0.capture_streams : Fld := ⟨0x8, 8, 4⟩
def GLB_CAP0.akgal_ports : Fld := ⟨0x8, 12, 4⟩
def GLB_CAP0.max_vfs : Fld := ⟨0x8, 16, 4⟩
def GLB_CAP0.mem_channels : Fld := ⟨0x8, 20, 4⟩
def GLB_CAP0.eth_ports : Fld := ⟨0x8, 24, 4⟩
def GLB_CAP1.max_inflight : Fld := ⟨0xc, 0, 16⟩
def GLB_CAP1.sq_rings : Fld := ⟨0xc, 16, 7⟩
def GLB_CAP1.cq_rings : Fld := ⟨0xc, 24, 7⟩
def GLB_CAP2.msix_vectors : Fld := ⟨0x10, 0, 8⟩
def GLB_CAP2.max_rungs : Fld := ⟨0x10, 8, 6⟩
def GLB_CAP2.max_replicas : Fld := ⟨0x10, 16, 9⟩
def GLB_CAP3.max_topk : Fld := ⟨0x14, 0, 11⟩
def GLB_CAP3.max_modules : Fld := ⟨0x14, 11, 5⟩
def GLB_CAP3.mem_gib : Fld := ⟨0x14, 16, 8⟩
def GLB_SERIAL.serial_lo : Fld := ⟨0x18, 0, 32⟩
def GLB_SERIAL.serial_hi : Fld := ⟨0x1c, 0, 32⟩
def GLB_SLOT.slot_id : Fld := ⟨0x20, 0, 5⟩
def GLB_CLK_STATUS.refclk_lost : Fld := ⟨0x24, 0, 1⟩
def GLB_CLK_STATUS.capture_clk_lost : Fld := ⟨0x24, 1, 1⟩
def GLB_CLK_STATUS.hp_clk_lost : Fld := ⟨0x24, 2, 1⟩
def GLB_CLK_STATUS.eth0_rx_lost : Fld := ⟨0x24, 3, 1⟩
def GLB_CLK_STATUS.eth1_rx_lost : Fld := ⟨0x24, 4, 1⟩
def GLB_CLK_STATUS.akgal_rx_lost : Fld := ⟨0x24, 5, 4⟩
def GLB_CLK_STATUS.refclk_ok : Fld := ⟨0x24, 16, 1⟩
def GLB_CLK_STATUS.capture_clk_ok : Fld := ⟨0x24, 17, 1⟩
def GLB_CLK_STATUS.hp_clk_ok : Fld := ⟨0x24, 18, 1⟩
def GLB_CLK_STATUS.eth0_rx_ok : Fld := ⟨0x24, 19, 1⟩
def GLB_CLK_STATUS.eth1_rx_ok : Fld := ⟨0x24, 20, 1⟩
def GLB_CLK_STATUS.akgal_rx_ok : Fld := ⟨0x24, 21, 4⟩
def GLB_GPLINK_STATUS.link_lost : Fld := ⟨0x28, 0, 1⟩
def GLB_GPLINK_STATUS.link_up : Fld := ⟨0x28, 1, 1⟩
def GLB_GPLINK_STATUS.write_dropped : Fld := ⟨0x28, 2, 1⟩
def GLB_GPLINK_STATUS.crc_retries : Fld := ⟨0x28, 8, 8⟩

/-! Table 05-9 (05_bringup_homeroom_recess.md R130). -/

def GLB_SERVICE.state : Fld := ⟨0x100, 0, 4⟩
def GLB_SERVICE.stage : Fld := ⟨0x100, 4, 4⟩
def GLB_SERVICE.full_service : Fld := ⟨0x100, 8, 1⟩
def GLB_SERVICE.homeroom : Fld := ⟨0x100, 9, 1⟩
def GLB_SERVICE.stuck_homeroom : Fld := ⟨0x100, 10, 1⟩
def GLB_SERVICE.bringup_time : Fld := ⟨0x100, 16, 12⟩
def GLB_BRINGUP_STATUS.mem_fail : Fld := ⟨0x104, 0, 4⟩
def GLB_BRINGUP_STATUS.akgal_untrained : Fld := ⟨0x104, 4, 4⟩
def GLB_BRINGUP_STATUS.cal_fail : Fld := ⟨0x104, 8, 1⟩
def GLB_BRINGUP_STATUS.tiles_failed : Fld := ⟨0x104, 16, 7⟩
def GLB_RESET.fabric : Fld := ⟨0x108, 0, 1⟩
def GLB_RESET.warm : Fld := ⟨0x108, 1, 1⟩
def GLB_RESET.cold : Fld := ⟨0x108, 2, 1⟩
def GLB_RESET.key : Fld := ⟨0x108, 16, 16⟩
def GLB_RECESS_CTRL.profile : Fld := ⟨0x10c, 0, 2⟩
def GLB_RECESS_CTRL.enter : Fld := ⟨0x10c, 2, 1⟩
def GLB_RECESS_CTRL.wake_n_en : Fld := ⟨0x10c, 3, 1⟩
def GLB_RECESS_CTRL.idle_time : Fld := ⟨0x10c, 8, 8⟩
def GLB_RECESS_STATUS.last_refusal : Fld := ⟨0x110, 0, 3⟩
def GLB_RECESS_STATUS.refused : Fld := ⟨0x110, 3, 1⟩
def GLB_RECESS_STATUS.abandoned : Fld := ⟨0x110, 4, 1⟩
def GLB_RECESS_STATUS.late_wake : Fld := ⟨0x110, 5, 1⟩
def GLB_RECESS_STATUS.wakes : Fld := ⟨0x110, 16, 16⟩
def GLB_EXPERT_UNLOCK.key : Fld := ⟨0x114, 0, 16⟩

/-! Table 06-14 (06_host_rings.md R163). -/

def GLB_INT_CAUSE.cause : Fld := ⟨0x200, 0, 16⟩
def GLB_INT_ENABLE.enable : Fld := ⟨0x204, 0, 16⟩
def GLB_EXPERT_STATUS.expert : Fld := ⟨0x208, 0, 14⟩
def GLB_TIME.time_lo : Fld := ⟨0x210, 0, 32⟩
def GLB_TIME.time_hi : Fld := ⟨0x214, 0, 32⟩

/-! Table 06-15 (06_host_rings.md R163). -/

def HIF_PROFILE.profile : Fld := ⟨0x10000, 0, 2⟩
def HIF_DATA_CFG.ro_data : Fld := ⟨0x10004, 0, 1⟩
def HIF_EXPERT_UNLOCK.key : Fld := ⟨0x10008, 0, 16⟩
def HIF_STATUS.inflight : Fld := ⟨0x1000c, 0, 12⟩
def HIF_STATUS.backpressure : Fld := ⟨0x1000c, 16, 16⟩
def HIF_FETCH_CFG.urgent_reserve : Fld := ⟨0x10010, 0, 8⟩
def HIF_FETCH_CFG.fetch_burst : Fld := ⟨0x10010, 8, 5⟩

/-! Table 06-16 (06_host_rings.md R163). -/

def HIF_SQ_BASE_LO.base_lo (n : Nat) : Fld := ⟨0x11000 + 32 * n, 12, 20⟩
def HIF_SQ_BASE_HI.base_hi (n : Nat) : Fld := ⟨0x11004 + 32 * n, 0, 32⟩
def HIF_SQ_CFG.size_log2 (n : Nat) : Fld := ⟨0x11008 + 32 * n, 0, 5⟩
def HIF_SQ_CFG.cq (n : Nat) : Fld := ⟨0x11008 + 32 * n, 8, 6⟩
def HIF_SQ_CFG.priority (n : Nat) : Fld := ⟨0x11008 + 32 * n, 16, 3⟩
def HIF_SQ_CFG.weight (n : Nat) : Fld := ⟨0x11008 + 32 * n, 20, 4⟩
def HIF_SQ_CFG.enable (n : Nat) : Fld := ⟨0x11008 + 32 * n, 24, 1⟩
def HIF_SQ_STATE.head (n : Nat) : Fld := ⟨0x1100c + 32 * n, 0, 16⟩
def HIF_SQ_STATE.tail (n : Nat) : Fld := ⟨0x1100c + 32 * n, 16, 16⟩
def HIF_SQ_STATUS.idle (n : Nat) : Fld := ⟨0x11010 + 32 * n, 0, 1⟩
def HIF_SQ_STATUS.error (n : Nat) : Fld := ⟨0x11010 + 32 * n, 1, 1⟩
def HIF_SQ_STATUS.err_code (n : Nat) : Fld := ⟨0x11010 + 32 * n, 2, 3⟩
def HIF_SQ_STATUS.fetched (n : Nat) : Fld := ⟨0x11010 + 32 * n, 16, 16⟩
def HIF_CQ_BASE_LO.base_lo (n : Nat) : Fld := ⟨0x12000 + 32 * n, 12, 20⟩
def HIF_CQ_BASE_HI.base_hi (n : Nat) : Fld := ⟨0x12004 + 32 * n, 0, 32⟩
def HIF_CQ_CFG.size_log2 (n : Nat) : Fld := ⟨0x12008 + 32 * n, 0, 5⟩
def HIF_CQ_CFG.vector (n : Nat) : Fld := ⟨0x12008 + 32 * n, 8, 3⟩
def HIF_CQ_CFG.irq_en (n : Nat) : Fld := ⟨0x12008 + 32 * n, 12, 1⟩
def HIF_CQ_CFG.urgent_bypass (n : Nat) : Fld := ⟨0x12008 + 32 * n, 13, 1⟩
def HIF_CQ_CFG.enable (n : Nat) : Fld := ⟨0x12008 + 32 * n, 16, 1⟩
def HIF_CQ_COALESCE.coalesce_count (n : Nat) : Fld := ⟨0x1200c + 32 * n, 0, 8⟩
def HIF_CQ_COALESCE.coalesce_time (n : Nat) : Fld := ⟨0x1200c + 32 * n, 16, 10⟩
def HIF_CQ_STATE.tail (n : Nat) : Fld := ⟨0x12010 + 32 * n, 0, 16⟩
def HIF_CQ_STATE.phase (n : Nat) : Fld := ⟨0x12010 + 32 * n, 16, 1⟩
def HIF_CQ_HEAD.head (n : Nat) : Fld := ⟨0x12014 + 32 * n, 0, 16⟩
def HIF_CQ_STATUS.full (n : Nat) : Fld := ⟨0x12018 + 32 * n, 0, 1⟩
def HIF_CQ_STATUS.overflow (n : Nat) : Fld := ⟨0x12018 + 32 * n, 1, 1⟩
def HIF_CQ_STATUS.error (n : Nat) : Fld := ⟨0x12018 + 32 * n, 2, 1⟩
def HIF_CQ_STATUS.verdicts_dropped (n : Nat) : Fld := ⟨0x12018 + 32 * n, 16, 16⟩

/-! Table 06-15 (06_host_rings.md R163). -/

def HIF_PART_QUADS.quads (p : Nat) : Fld := ⟨0x13000 + 64 * p, 0, 16⟩
def HIF_PART_SQ_LO.sq_lo (p : Nat) : Fld := ⟨0x13004 + 64 * p, 0, 32⟩
def HIF_PART_SQ_HI.sq_hi (p : Nat) : Fld := ⟨0x13008 + 64 * p, 0, 32⟩
def HIF_PART_CQ_LO.cq_lo (p : Nat) : Fld := ⟨0x1300c + 64 * p, 0, 32⟩
def HIF_PART_CQ_HI.cq_hi (p : Nat) : Fld := ⟨0x13010 + 64 * p, 0, 32⟩
def HIF_PART_MEM.mem_base (p : Nat) : Fld := ⟨0x13014 + 64 * p, 0, 8⟩
def HIF_PART_MEM.mem_size (p : Nat) : Fld := ⟨0x13014 + 64 * p, 8, 8⟩
def HIF_PART_OWN.streams (p : Nat) : Fld := ⟨0x13018 + 64 * p, 0, 8⟩
def HIF_PART_OWN.syllabus (p : Nat) : Fld := ⟨0x13018 + 64 * p, 8, 1⟩
def HIF_PART_OWN.hall_pass (p : Nat) : Fld := ⟨0x13018 + 64 * p, 9, 1⟩
def HIF_PART_OWN.akgal (p : Nat) : Fld := ⟨0x13018 + 64 * p, 10, 1⟩
def HIF_PART_OWN.event_cq (p : Nat) : Fld := ⟨0x13018 + 64 * p, 16, 6⟩
def HIF_PART_OWN.event_en (p : Nat) : Fld := ⟨0x13018 + 64 * p, 23, 1⟩
def HIF_PART_INFLIGHT.inflight_max (p : Nat) : Fld := ⟨0x1301c + 64 * p, 0, 12⟩
def HIF_PART_INFLIGHT.inflight_min (p : Nat) : Fld := ⟨0x1301c + 64 * p, 16, 12⟩
def HIF_PART_COMMIT.commit : Fld := ⟨0x13240, 0, 1⟩
def HIF_PART_COMMIT.result : Fld := ⟨0x13240, 1, 2⟩

/-! Table 07-8 (07_cell_fabric_arithmetic.md R193). -/

def FAB_PROFILE.profile : Fld := ⟨0x20000, 0, 2⟩
def FAB_PROFILE.spare_quad : Fld := ⟨0x20000, 4, 4⟩
def FAB_PROFILE.group_r0 : Fld := ⟨0x20000, 8, 2⟩
def FAB_PROFILE.group_r1 : Fld := ⟨0x20000, 10, 2⟩
def FAB_PROFILE.group_r2 : Fld := ⟨0x20000, 12, 2⟩
def FAB_PROFILE.group_r3 : Fld := ⟨0x20000, 14, 2⟩
def FAB_EXPERT_UNLOCK.key : Fld := ⟨0x20004, 0, 16⟩
def FAB_CAPACITY.tiles_in_service : Fld := ⟨0x20008, 0, 7⟩
def FAB_CAPACITY.spares_free : Fld := ⟨0x20008, 8, 3⟩
def FAB_CAPACITY.gangs16 : Fld := ⟨0x20008, 12, 3⟩
def FAB_STATUS.cfg_refused : Fld := ⟨0x2000c, 0, 1⟩
def FAB_GANG_CFG.quad4 : Fld := ⟨0x20010, 0, 16⟩
def FAB_GANG_CFG.region16 : Fld := ⟨0x20010, 16, 4⟩
def FAB_TILE_FENCED_LO.fenced_lo : Fld := ⟨0x20020, 0, 32⟩
def FAB_TILE_FENCED_HI.fenced_hi : Fld := ⟨0x20024, 0, 32⟩

/-! Table 12-10 (12_thermal_unit_health.md R340). -/

def FAB_LEDGER_STATUS.disagreements : Fld := ⟨0x20028, 0, 16⟩
def FAB_LEDGER_STATUS.fenced_units : Fld := ⟨0x20028, 16, 7⟩
def FAB_FAULT_COUNT.parity_faults : Fld := ⟨0x20030, 0, 16⟩
def FAB_FAULT_COUNT.residue_faults : Fld := ⟨0x20030, 16, 16⟩
def FAB_REPLAY_COUNT.replays : Fld := ⟨0x20034, 0, 16⟩
def FAB_REPLAY_COUNT.remaps : Fld := ⟨0x20034, 16, 8⟩
def FAB_REPLAY_COUNT.last_tile : Fld := ⟨0x20034, 24, 6⟩

/-! Table 07-8 (07_cell_fabric_arithmetic.md R193). -/

def FAB_TILE_STATUS.mode (t : Nat) : Fld := ⟨0x20100 + 4 * t, 0, 2⟩
def FAB_TILE_STATUS.busy (t : Nat) : Fld := ⟨0x20100 + 4 * t, 2, 1⟩
def FAB_TILE_STATUS.fenced (t : Nat) : Fld := ⟨0x20100 + 4 * t, 3, 1⟩
def FAB_TILE_STATUS.spare (t : Nat) : Fld := ⟨0x20100 + 4 * t, 4, 1⟩
def FAB_TILE_STATUS.standing_in (t : Nat) : Fld := ⟨0x20100 + 4 * t, 5, 1⟩
def FAB_TILE_STATUS.stands_for (t : Nat) : Fld := ⟨0x20100 + 4 * t, 8, 6⟩
def FAB_TILE_STATUS.model (t : Nat) : Fld := ⟨0x20100 + 4 * t, 16, 8⟩
def FAB_TILE_STATUS.model_valid (t : Nat) : Fld := ⟨0x20100 + 4 * t, 24, 1⟩
def FAB_MODEL_STATUS.window (m : Nat) : Fld := ⟨0x20400 + 4 * m, 0, 8⟩
def FAB_MODEL_STATUS.loaded (m : Nat) : Fld := ⟨0x20400 + 4 * m, 8, 1⟩
def FAB_MODEL_STATUS.exact_ok (m : Nat) : Fld := ⟨0x20400 + 4 * m, 9, 1⟩
def FAB_MODEL_STATUS.bound_log2 (m : Nat) : Fld := ⟨0x20400 + 4 * m, 16, 7⟩
def FAB_MODEL_STATUS.gang_size (m : Nat) : Fld := ⟨0x20400 + 4 * m, 24, 2⟩
def FAB_ACC_SEL.tile : Fld := ⟨0x20800, 0, 6⟩
def FAB_ACC_SEL.row : Fld := ⟨0x20800, 6, 6⟩
def FAB_ACC_SEL.col : Fld := ⟨0x20800, 12, 6⟩
def FAB_ACC_SEL.latch : Fld := ⟨0x20800, 18, 1⟩
def FAB_ACC_SEL.valid : Fld := ⟨0x20800, 19, 1⟩
def FAB_ACC_LO.acc_lo : Fld := ⟨0x20804, 0, 32⟩
def FAB_ACC_HI.acc_hi : Fld := ⟨0x20808, 0, 32⟩
def FAB_ACC_WRAP.wrap : Fld := ⟨0x2080c, 0, 4⟩

/-! Table 12-10 (12_thermal_unit_health.md R340). -/

def FAB_LEDGER.mgmt_state (u : Nat) : Fld := ⟨0x21000 + 4 * u, 0, 3⟩
def FAB_LEDGER.lock (u : Nat) : Fld := ⟨0x21000 + 4 * u, 3, 1⟩
def FAB_LEDGER.pgood (u : Nat) : Fld := ⟨0x21000 + 4 * u, 4, 1⟩
def FAB_LEDGER.data_state (u : Nat) : Fld := ⟨0x21000 + 4 * u, 8, 3⟩
def FAB_LEDGER.disagree (u : Nat) : Fld := ⟨0x21000 + 4 * u, 11, 1⟩
def FAB_LEDGER.fenced_event (u : Nat) : Fld := ⟨0x21000 + 4 * u, 12, 1⟩

/-! Table 08-9 (08_sampling_tempering.md R228). -/

def SMP_PROFILE.profile : Fld := ⟨0x30000, 0, 2⟩
def SMP_EXPERT_UNLOCK.key : Fld := ⟨0x30004, 0, 16⟩
def SMP_DEFAULTS.exch_interval : Fld := ⟨0x30008, 0, 16⟩
def SMP_DEFAULTS.epoch_sweeps : Fld := ⟨0x30008, 16, 16⟩
def SMP_DEFAULTS.rungs : Fld := ⟨0x3000c, 0, 6⟩
def SMP_DEFAULTS.rule : Fld := ⟨0x3000c, 6, 1⟩
def SMP_DEFAULTS.epoch_time : Fld := ⟨0x3000c, 16, 16⟩
def SMP_ENTROPY.health_ok : Fld := ⟨0x30010, 0, 1⟩
def SMP_ENTROPY.health_fail : Fld := ⟨0x30010, 1, 1⟩
def SMP_ENTROPY.seeds : Fld := ⟨0x30010, 16, 16⟩
def SMP_STATUS.replicas : Fld := ⟨0x30014, 0, 9⟩
def SMP_TABLE_SEL.model : Fld := ⟨0x30100, 0, 8⟩
def SMP_TABLE_SEL.rung : Fld := ⟨0x30100, 8, 5⟩
def SMP_TABLE_SEL.kind : Fld := ⟨0x30100, 13, 1⟩
def SMP_TABLE_SEL.entry : Fld := ⟨0x30100, 16, 8⟩
def SMP_TABLE_DATA.value : Fld := ⟨0x30104, 0, 17⟩
def SMP_TABLE_DATA.shift : Fld := ⟨0x30104, 24, 6⟩
def SMP_EXCH_ATTEMPTS.attempts (p : Nat) : Fld := ⟨0x30200 + 8 * p, 0, 32⟩
def SMP_EXCH_ACCEPTED.accepted (p : Nat) : Fld := ⟨0x30204 + 8 * p, 0, 32⟩
def SMP_SLOT_STATUS.tracked (m : Nat) : Fld := ⟨0x30800 + 4 * m, 0, 11⟩
def SMP_SLOT_STATUS.kept (m : Nat) : Fld := ⟨0x30800 + 4 * m, 16, 9⟩
def SMP_SLOT_STATUS.trained (m : Nat) : Fld := ⟨0x30800 + 4 * m, 25, 1⟩

end Sys2Proof.Machine.Reg
end

