-- ==== Sys2Proof/Machine/RegsIngest.lean ====
section
/-!
DEFINITION. Machine/RegsIngest.lean: the register fields of the SYL, CAP, HPS, AKG, MEM and THM blocks (spec/16_register_index.md R422 and the home tables).
-/
namespace Sys2Proof.Machine.Reg


/-! Table 09-13 (09_capture_syllabus.md R259). -/

def SYL_PROFILE.profile : Fld := ⟨0x40000, 0, 2⟩
def SYL_EXPERT_UNLOCK.key : Fld := ⟨0x40004, 0, 16⟩
def SYL_STATUS.active_bank : Fld := ⟨0x40008, 0, 1⟩
def SYL_STATUS.shadow_valid : Fld := ⟨0x40008, 1, 1⟩
def SYL_STATUS.swap_pending : Fld := ⟨0x40008, 2, 1⟩
def SYL_STATUS.active_valid : Fld := ⟨0x40008, 3, 1⟩
def SYL_STATUS.write_refused : Fld := ⟨0x40008, 4, 1⟩
def SYL_STATUS.image_error : Fld := ⟨0x40008, 8, 4⟩
def SYL_HASH_SEED.hash_seed : Fld := ⟨0x4000c, 0, 32⟩
def SYL_STAGE_BYPASS.stage_bypass : Fld := ⟨0x40010, 0, 8⟩
def SYL_STREAM_DEFAULT.model (s : Nat) : Fld := ⟨0x40020 + 4 * s, 0, 8⟩
def SYL_STREAM_DEFAULT.vectors (s : Nat) : Fld := ⟨0x40020 + 4 * s, 8, 13⟩
def SYL_STREAM_DEFAULT.priority (s : Nat) : Fld := ⟨0x40020 + 4 * s, 21, 3⟩
def SYL_STREAM_DEFAULT.route_en (s : Nat) : Fld := ⟨0x40020 + 4 * s, 24, 1⟩
def SYL_PASS_COUNT.passes : Fld := ⟨0x40040, 0, 32⟩
def SYL_RESIT_COUNT.resits : Fld := ⟨0x40044, 0, 16⟩
def SYL_RESIT_COUNT.resit_refused : Fld := ⟨0x40044, 16, 16⟩
def SYL_DROP_COUNT.dropped : Fld := ⟨0x40048, 0, 16⟩
def SYL_DROP_COUNT.route_invalid : Fld := ⟨0x40048, 16, 16⟩
def SYL_MIRROR_COUNT.mirrored : Fld := ⟨0x4004c, 0, 16⟩
def SYL_MIRROR_COUNT.no_route : Fld := ⟨0x4004c, 16, 16⟩
def SYL_SHADOW_ADDR.shadow_addr : Fld := ⟨0x40100, 0, 23⟩
def SYL_SHADOW_DATA.shadow_data : Fld := ⟨0x40104, 0, 32⟩
def SYL_SHADOW_CTRL.shadow_clear : Fld := ⟨0x40108, 0, 1⟩
def SYL_SHADOW_CTRL.shadow_build : Fld := ⟨0x40108, 1, 1⟩

/-! Table 09-12 (09_capture_syllabus.md R258). -/

def CAP_PROFILE.profile : Fld := ⟨0x50000, 0, 2⟩
def CAP_EXPERT_UNLOCK.key : Fld := ⟨0x50004, 0, 16⟩
def CAP_LOAD_TIMEOUT.load_timeout : Fld := ⟨0x50008, 0, 14⟩
def CAP_LINK_STATUS.lane_lock : Fld := ⟨0x5000c, 0, 8⟩
def CAP_LINK_STATUS.aligned : Fld := ⟨0x5000c, 8, 1⟩
def CAP_LINK_STATUS.link_up : Fld := ⟨0x5000c, 9, 1⟩
def CAP_LINK_STATUS.lane_skew : Fld := ⟨0x5000c, 16, 8⟩
def CAP_LINK_ERR.crc_bad : Fld := ⟨0x50010, 0, 16⟩
def CAP_LINK_ERR.align_loss : Fld := ⟨0x50010, 16, 16⟩
def CAP_RECORD_ERR.header_lost : Fld := ⟨0x50014, 0, 16⟩
def CAP_RECORD_ERR.bad_block : Fld := ⟨0x50014, 16, 16⟩
def CAP_ETH_MAC_LO.mac_lo (p : Nat) : Fld := ⟨0x50100 + 64 * p, 0, 32⟩
def CAP_ETH_MAC_HI.mac_hi (p : Nat) : Fld := ⟨0x50104 + 64 * p, 0, 16⟩
def CAP_ETH_MAC_HI.link_up (p : Nat) : Fld := ⟨0x50104 + 64 * p, 16, 1⟩
def CAP_ETH_MAC_HI.rx_enable (p : Nat) : Fld := ⟨0x50104 + 64 * p, 17, 1⟩
def CAP_ETH_IPV4.ipv4 (p : Nat) : Fld := ⟨0x50108 + 64 * p, 0, 32⟩
def CAP_ETH_CFG.frag_stream (p : Nat) : Fld := ⟨0x5010c + 64 * p, 0, 3⟩
def CAP_ETH_CFG.frag_keep (p : Nat) : Fld := ⟨0x5010c + 64 * p, 3, 1⟩
def CAP_ETH_CFG.udp_port (p : Nat) : Fld := ⟨0x5010c + 64 * p, 16, 16⟩
def CAP_ETH_IPV6.ipv6 (p w : Nat) : Fld := ⟨0x50110 + 64 * p + 4 * w, 0, 32⟩
def CAP_ETH_RX_ERR.fcs_bad (p : Nat) : Fld := ⟨0x50120 + 64 * p, 0, 16⟩
def CAP_ETH_RX_ERR.unmapped (p : Nat) : Fld := ⟨0x50120 + 64 * p, 16, 16⟩
def CAP_ETH_RX_DROP.fragments (p : Nat) : Fld := ⟨0x50124 + 64 * p, 0, 16⟩
def CAP_ETH_RX_DROP.unsupported (p : Nat) : Fld := ⟨0x50124 + 64 * p, 16, 16⟩
def CAP_ETH_EGRESS.egress_sent (p : Nat) : Fld := ⟨0x50128 + 64 * p, 0, 16⟩
def CAP_ETH_EGRESS.egress_dropped (p : Nat) : Fld := ⟨0x50128 + 64 * p, 16, 16⟩
def CAP_ETH_HOLD.hold_time (p : Nat) : Fld := ⟨0x5012c + 64 * p, 0, 10⟩
def CAP_STREAM_CFG.source (s : Nat) : Fld := ⟨0x50200 + 32 * s, 0, 1⟩
def CAP_STREAM_CFG.egress_entry (s : Nat) : Fld := ⟨0x50200 + 32 * s, 1, 3⟩
def CAP_STREAM_FILL.fill (s : Nat) : Fld := ⟨0x50204 + 32 * s, 0, 20⟩
def CAP_STREAM_RECORDS.records_in (s : Nat) : Fld := ⟨0x50208 + 32 * s, 0, 32⟩
def CAP_STREAM_DISCARD.discarded_full (s : Nat) : Fld := ⟨0x5020c + 32 * s, 0, 16⟩
def CAP_STREAM_DISCARD.discarded_no_consumer (s : Nat) : Fld := ⟨0x5020c + 32 * s, 16, 16⟩
def CAP_STREAM_LOAD.short (s : Nat) : Fld := ⟨0x50210 + 32 * s, 0, 16⟩
def CAP_STREAM_LOAD.underrun (s : Nat) : Fld := ⟨0x50210 + 32 * s, 16, 16⟩
def CAP_STREAM_TRUNC.truncated (s : Nat) : Fld := ⟨0x50214 + 32 * s, 0, 16⟩
def CAP_STREAM_TRUNC.surplus (s : Nat) : Fld := ⟨0x50214 + 32 * s, 16, 16⟩
def CAP_STREAM_LAST_SEQ.last_seq (s : Nat) : Fld := ⟨0x50218 + 32 * s, 0, 32⟩
def CAP_STREAM_ERR.wrong_source (s : Nat) : Fld := ⟨0x5021c + 32 * s, 0, 16⟩
def CAP_VITA_MAP.stream_id (i : Nat) : Fld := ⟨0x50400 + 16 * i, 0, 32⟩
def CAP_VITA_MAP.stream (i : Nat) : Fld := ⟨0x50404 + 16 * i, 0, 3⟩
def CAP_VITA_MAP.port (i : Nat) : Fld := ⟨0x50404 + 16 * i, 3, 1⟩
def CAP_VITA_MAP.any_port (i : Nat) : Fld := ⟨0x50404 + 16 * i, 4, 1⟩
def CAP_VITA_MAP.valid (i : Nat) : Fld := ⟨0x50404 + 16 * i, 5, 1⟩
def CAP_VITA_MAP.class_match (i : Nat) : Fld := ⟨0x50404 + 16 * i, 6, 1⟩
def CAP_VITA_MAP.in_exp (i : Nat) : Fld := ⟨0x50404 + 16 * i, 8, 7⟩
def CAP_VITA_MAP.oui (i : Nat) : Fld := ⟨0x50408 + 16 * i, 0, 24⟩
def CAP_VITA_MAP.info_class (i : Nat) : Fld := ⟨0x5040c + 16 * i, 0, 16⟩
def CAP_VITA_MAP.packet_class (i : Nat) : Fld := ⟨0x5040c + 16 * i, 16, 16⟩
def CAP_EGRESS.stream_id_out (e : Nat) : Fld := ⟨0x50600 + 64 * e, 0, 32⟩
def CAP_EGRESS.dst_mac_lo (e : Nat) : Fld := ⟨0x50604 + 64 * e, 0, 32⟩
def CAP_EGRESS.dst_mac_hi (e : Nat) : Fld := ⟨0x50608 + 64 * e, 0, 16⟩
def CAP_EGRESS.port (e : Nat) : Fld := ⟨0x50608 + 64 * e, 16, 1⟩
def CAP_EGRESS.ipv6 (e : Nat) : Fld := ⟨0x50608 + 64 * e, 17, 1⟩
def CAP_EGRESS.valid (e : Nat) : Fld := ⟨0x50608 + 64 * e, 18, 1⟩
def CAP_EGRESS.dst_ipv4 (e : Nat) : Fld := ⟨0x5060c + 64 * e, 0, 32⟩
def CAP_EGRESS.dst_ipv6 (e w : Nat) : Fld := ⟨0x50610 + 64 * e + 4 * w, 0, 32⟩
def CAP_EGRESS.src_udp (e : Nat) : Fld := ⟨0x50620 + 64 * e, 0, 16⟩
def CAP_EGRESS.dst_udp (e : Nat) : Fld := ⟨0x50620 + 64 * e, 16, 16⟩
def CAP_EGRESS.oui (e : Nat) : Fld := ⟨0x50624 + 64 * e, 0, 24⟩
def CAP_EGRESS.info_class (e : Nat) : Fld := ⟨0x50628 + 64 * e, 0, 16⟩
def CAP_EGRESS.packet_class (e : Nat) : Fld := ⟨0x50628 + 64 * e, 16, 16⟩
def CAP_EGRESS.pkt_count (e : Nat) : Fld := ⟨0x5062c + 64 * e, 0, 4⟩
def CAP_EGRESS.dscp (e : Nat) : Fld := ⟨0x5062c + 64 * e, 4, 6⟩
def CAP_EGRESS.ttl (e : Nat) : Fld := ⟨0x5062c + 64 * e, 16, 8⟩

/-! Table 10-6 (10_hall_pass_deadlines.md R276). -/

def HPS_PROFILE.profile : Fld := ⟨0x60000, 0, 2⟩
def HPS_EXPERT_UNLOCK.key : Fld := ⟨0x60004, 0, 16⟩
def HPS_CFG.default_verdict : Fld := ⟨0x60008, 0, 4⟩
def HPS_CFG.refresh_en : Fld := ⟨0x60008, 8, 8⟩
def HPS_ANOMALY.threshold : Fld := ⟨0x6000c, 0, 32⟩
def HPS_STATUS.active_bank : Fld := ⟨0x60010, 0, 1⟩
def HPS_STATUS.active_valid : Fld := ⟨0x60010, 1, 1⟩
def HPS_STATUS.publish_pending : Fld := ⟨0x60010, 2, 1⟩
def HPS_STATUS.copying : Fld := ⟨0x60010, 3, 1⟩
def HPS_STATUS.write_refused : Fld := ⟨0x60010, 4, 1⟩
def HPS_STATUS.unclocked_flip : Fld := ⟨0x60010, 5, 1⟩
def HPS_STATUS.trim_band : Fld := ⟨0x60010, 8, 2⟩
def HPS_STATUS.trim_taps : Fld := ⟨0x60010, 12, 4⟩
def HPS_STATUS.queue_depth : Fld := ⟨0x60010, 16, 11⟩
def HPS_SHADOW_CTRL.shadow_fill : Fld := ⟨0x60014, 0, 1⟩
def HPS_SHADOW_ADDR.index : Fld := ⟨0x60018, 0, 16⟩
def HPS_SHADOW_DATA.verdict : Fld := ⟨0x6001c, 0, 4⟩
def HPS_TRIGGER_COUNT.triggers : Fld := ⟨0x60020, 0, 32⟩
def HPS_DEFAULT_COUNT.default_answers : Fld := ⟨0x60024, 0, 32⟩
def HPS_REFRESH_COUNT.refresh_writes : Fld := ⟨0x60028, 0, 16⟩
def HPS_REFRESH_COUNT.refresh_dropped : Fld := ⟨0x60028, 16, 16⟩
def HPS_PUBLISH_COUNT.publishes : Fld := ⟨0x6002c, 0, 16⟩
def HPS_DEADLINE.worst_p7 : Fld := ⟨0x60030, 0, 16⟩
def HPS_DEADLINE.late_p7 : Fld := ⟨0x60030, 16, 16⟩
def HPS_CLASS_MAP.normal_code (c : Nat) : Fld := ⟨0x60100 + 4 * c, 0, 4⟩
def HPS_CLASS_MAP.anomaly_code (c : Nat) : Fld := ⟨0x60100 + 4 * c, 4, 4⟩

/-! Table 11-10 (11_akgal_pairs.md R307). -/

def AKG_PROFILE.profile : Fld := ⟨0x70000, 0, 2⟩
def AKG_EXPERT_UNLOCK.key : Fld := ⟨0x70004, 0, 16⟩
def AKG_SYS_CFG.system_id : Fld := ⟨0x70008, 0, 16⟩
def AKG_SYS_CFG.index : Fld := ⟨0x70008, 16, 4⟩
def AKG_SYS_CFG.size_m1 : Fld := ⟨0x70008, 20, 4⟩
def AKG_SYS_CFG.topology : Fld := ⟨0x70008, 24, 2⟩
def AKG_TIMERS.claim_timeout : Fld := ⟨0x7000c, 0, 8⟩
def AKG_TIMERS.mirror_interval : Fld := ⟨0x7000c, 8, 8⟩
def AKG_TIMERS.replay_timeout : Fld := ⟨0x7000c, 16, 8⟩
def AKG_TIMERS.share_timeout : Fld := ⟨0x7000c, 24, 8⟩
def AKG_PAIR_STATUS.role : Fld := ⟨0x70010, 0, 2⟩
def AKG_PAIR_STATUS.authenticated : Fld := ⟨0x70010, 2, 1⟩
def AKG_PAIR_STATUS.in_step : Fld := ⟨0x70010, 3, 1⟩
def AKG_PAIR_STATUS.last_result : Fld := ⟨0x70010, 4, 4⟩
def AKG_PAIR_STATUS.split_resolved : Fld := ⟨0x70010, 8, 1⟩
def AKG_PAIR_STATUS.role_changed : Fld := ⟨0x70010, 9, 1⟩
def AKG_PAIR_STATUS.peer_lost : Fld := ⟨0x70010, 10, 1⟩
def AKG_PAIR_STATUS.peer_slot_id : Fld := ⟨0x70010, 16, 5⟩
def AKG_PAIR_CFG.pair_sq : Fld := ⟨0x70014, 0, 6⟩
def AKG_PAIR_CFG.pair_cq : Fld := ⟨0x70014, 8, 6⟩
def AKG_MIRROR_COUNT.snapshots : Fld := ⟨0x70018, 0, 16⟩
def AKG_MIRROR_COUNT.mirror_wait : Fld := ⟨0x70018, 16, 16⟩
def AKG_MIRROR_STATUS.max_delta : Fld := ⟨0x7001c, 0, 16⟩
def AKG_MIRROR_STATUS.failovers : Fld := ⟨0x7001c, 16, 16⟩
def AKG_RESUME_CTRL.resume : Fld := ⟨0x70020, 0, 1⟩
def AKG_RESUME_CTRL.resume_pending : Fld := ⟨0x70020, 1, 1⟩
def AKG_PORT_STATUS.state (p : Nat) : Fld := ⟨0x70100 + 32 * p, 0, 3⟩
def AKG_PORT_STATUS.width (p : Nat) : Fld := ⟨0x70100 + 32 * p, 3, 3⟩
def AKG_PORT_STATUS.miswired (p : Nat) : Fld := ⟨0x70100 + 32 * p, 6, 1⟩
def AKG_PORT_STATUS.peer_index (p : Nat) : Fld := ⟨0x70100 + 32 * p, 8, 4⟩
def AKG_PORT_STATUS.peer_slot_id (p : Nat) : Fld := ⟨0x70100 + 32 * p, 12, 5⟩
def AKG_PORT_STATUS.peer_port (p : Nat) : Fld := ⟨0x70100 + 32 * p, 17, 2⟩
def AKG_PORT_REPLAY.replays (p : Nat) : Fld := ⟨0x70104 + 32 * p, 0, 16⟩
def AKG_PORT_REPLAY.crc_errors (p : Nat) : Fld := ⟨0x70104 + 32 * p, 16, 16⟩
def AKG_PORT_RETRAIN.retrains (p : Nat) : Fld := ⟨0x70108 + 32 * p, 0, 16⟩
def AKG_PORT_RETRAIN.replay_fill (p : Nat) : Fld := ⟨0x70108 + 32 * p, 16, 11⟩
def AKG_PORT_CTRL.retrain (p : Nat) : Fld := ⟨0x7010c + 32 * p, 0, 1⟩
def AKG_PORT_CTRL.enable (p : Nat) : Fld := ⟨0x7010c + 32 * p, 1, 1⟩
def AKG_CQ_RESUME.tail (n : Nat) : Fld := ⟨0x70200 + 4 * n, 0, 16⟩
def AKG_CQ_RESUME.phase (n : Nat) : Fld := ⟨0x70200 + 4 * n, 16, 1⟩
def AKG_SHARE.members (m : Nat) : Fld := ⟨0x70400 + 4 * m, 0, 16⟩

/-! Table 16-3 (16_register_index.md R423). -/

def MEM_CH_STATUS.trained (k : Nat) : Fld := ⟨0x80000 + 16 * k, 0, 1⟩
def MEM_CH_STATUS.self_refresh (k : Nat) : Fld := ⟨0x80000 + 16 * k, 1, 1⟩
def MEM_CH_STATUS.refresh_band (k : Nat) : Fld := ⟨0x80000 + 16 * k, 2, 2⟩
def MEM_CH_STATUS.deep_sleep (k : Nat) : Fld := ⟨0x80000 + 16 * k, 4, 1⟩
def MEM_CH_RETRAINS.retrains (k : Nat) : Fld := ⟨0x80004 + 16 * k, 0, 16⟩
def MEM_CH_TRAFFIC.traffic (k : Nat) : Fld := ⟨0x80008 + 16 * k, 0, 32⟩

/-! Table 12-9 (12_thermal_unit_health.md R339). -/

def THM_PROFILE.profile : Fld := ⟨0x90000, 0, 2⟩
def THM_EXPERT_UNLOCK.key : Fld := ⟨0x90004, 0, 16⟩
def THM_LEVELS.warn_level : Fld := ⟨0x90008, 0, 8⟩
def THM_LEVELS.throttle_level : Fld := ⟨0x90008, 8, 8⟩
def THM_LEVELS.hysteresis : Fld := ⟨0x90008, 16, 4⟩
def THM_CTRL.rate_limit : Fld := ⟨0x9000c, 0, 8⟩
def THM_CTRL.step_time : Fld := ⟨0x9000c, 8, 8⟩
def THM_CTRL.max_depth : Fld := ⟨0x9000c, 16, 4⟩
def THM_CTRL.mode : Fld := ⟨0x9000c, 20, 1⟩
def THM_CTRL.hotspot_gain : Fld := ⟨0x9000c, 24, 8⟩
def THM_STATUS.depth : Fld := ⟨0x90010, 0, 4⟩
def THM_STATUS.warning : Fld := ⟨0x90010, 4, 1⟩
def THM_STATUS.rate_cause : Fld := ⟨0x90010, 5, 1⟩
def THM_STATUS.shutdown : Fld := ⟨0x90010, 6, 1⟩
def THM_STATUS.restart_wait : Fld := ⟨0x90010, 7, 1⟩
def THM_STATUS.degraded : Fld := ⟨0x90010, 8, 1⟩
def THM_STATUS.fabric_held : Fld := ⟨0x90010, 9, 1⟩
def THM_STATUS.warn_event : Fld := ⟨0x90010, 16, 1⟩
def THM_STATUS.throttle_event : Fld := ⟨0x90010, 17, 1⟩
def THM_STATUS.shutdown_event : Fld := ⟨0x90010, 18, 1⟩
def THM_STATUS.sensor_event : Fld := ⟨0x90010, 19, 1⟩
def THM_FLAGS.flagged : Fld := ⟨0x90014, 0, 16⟩
def THM_FLAGS.mem_flagged : Fld := ⟨0x90014, 16, 2⟩
def THM_FLAGS.psh2_flagged : Fld := ⟨0x90014, 18, 2⟩
def THM_FLAGS.hottest : Fld := ⟨0x90014, 24, 5⟩
def THM_BANDS.mem_band0 : Fld := ⟨0x90018, 0, 2⟩
def THM_BANDS.mem_band1 : Fld := ⟨0x90018, 2, 2⟩
def THM_BANDS.flash_open : Fld := ⟨0x90018, 4, 1⟩
def THM_THROTTLE_COUNT.throttle_steps : Fld := ⟨0x9001c, 0, 16⟩
def THM_THROTTLE_COUNT.shutdowns : Fld := ⟨0x9001c, 16, 16⟩
def THM_SENSOR.reading (n : Nat) : Fld := ⟨0x90100 + 4 * n, 0, 16⟩
def THM_SENSOR.flag (n : Nat) : Fld := ⟨0x90100 + 4 * n, 16, 3⟩
def THM_PEAK.peak (n : Nat) : Fld := ⟨0x90200 + 4 * n, 0, 16⟩

end Sys2Proof.Machine.Reg
end

