-- ==== Sys2Proof/Machine/RegsPsh2.lean ====
section
/-!
DEFINITION. Machine/RegsPsh2.lean: the register fields of the PWR, RCD, SEC and DBG blocks (spec/16_register_index.md R422 and the home tables).
-/
namespace Sys2Proof.Machine.Reg


/-! Table 03-13 (03_power_path_breaker.md R80). -/

def PWR_STATE.state : Fld := ⟨0xa0000, 0, 4⟩
def PWR_STATE.gate_on : Fld := ⟨0xa0000, 4, 1⟩
def PWR_STATE.limiting : Fld := ⟨0xa0000, 5, 1⟩
def PWR_STATE.shed_active : Fld := ⟨0xa0000, 6, 1⟩
def PWR_STATE.quiesce : Fld := ⟨0xa0000, 7, 1⟩
def PWR_STATE.last_cause : Fld := ⟨0xa0000, 8, 8⟩
def PWR_STATE.retry_count : Fld := ⟨0xa0000, 16, 4⟩
def PWR_PROFILE.profile : Fld := ⟨0xa0004, 0, 2⟩
def PWR_EXPERT_UNLOCK.key : Fld := ⟨0xa0008, 0, 16⟩
def PWR_BREAKER_CTRL.clear_latch : Fld := ⟨0xa000c, 0, 1⟩
def PWR_INRUSH_CFG.dv_dt : Fld := ⟨0xa0010, 0, 6⟩
def PWR_INRUSH_CFG.inrush_cap : Fld := ⟨0xa0010, 8, 5⟩
def PWR_INRUSH_CFG.soa_inrush : Fld := ⟨0xa0010, 16, 6⟩
def PWR_LIMIT_CFG.ilimit : Fld := ⟨0xa0014, 0, 7⟩
def PWR_LIMIT_CFG.soa_limit : Fld := ⟨0xa0014, 8, 6⟩
def PWR_LIMIT_CFG.fast_trip_level : Fld := ⟨0xa0014, 24, 8⟩
def PWR_SHED_CFG.confirm_window : Fld := ⟨0xa0018, 0, 14⟩
def PWR_SHED_CFG.shed_hold : Fld := ⟨0xa0018, 16, 8⟩
def PWR_STEP_CFG.base_allowance : Fld := ⟨0xa001c, 0, 8⟩
def PWR_STEP_CFG.notice_max : Fld := ⟨0xa001c, 8, 8⟩
def PWR_STEP_CFG.step_window : Fld := ⟨0xa001c, 16, 8⟩
def PWR_STEP_CFG.step_tail : Fld := ⟨0xa001c, 24, 8⟩
def PWR_PF_CFG.pf_level : Fld := ⟨0xa0020, 0, 8⟩
def PWR_PF_CFG.pf_filter : Fld := ⟨0xa0020, 8, 6⟩
def PWR_PF_CFG.min_off : Fld := ⟨0xa0020, 16, 8⟩
def PWR_RETRY_CFG.hw_retries : Fld := ⟨0xa0024, 0, 4⟩
def PWR_RETRY_CFG.retry_clear : Fld := ⟨0xa0024, 8, 8⟩
def PWR_TRIP_STATUS.fast_trip : Fld := ⟨0xa0028, 0, 1⟩
def PWR_TRIP_STATUS.soa_inrush : Fld := ⟨0xa0028, 1, 1⟩
def PWR_TRIP_STATUS.soa_limit : Fld := ⟨0xa0028, 2, 1⟩
def PWR_TRIP_STATUS.reverse_current : Fld := ⟨0xa0028, 3, 1⟩
def PWR_TRIP_STATUS.power_fail : Fld := ⟨0xa0028, 4, 1⟩
def PWR_TRIP_STATUS.rule_trip : Fld := ⟨0xa0028, 8, 8⟩
def PWR_STEP_STATUS.accepted : Fld := ⟨0xa002c, 0, 16⟩
def PWR_STEP_STATUS.refused : Fld := ⟨0xa002c, 16, 16⟩
def PWR_NEAR_MISS.near_miss_even (m : Nat) : Fld := ⟨0xa0030 + 4 * m, 0, 16⟩
def PWR_NEAR_MISS.near_miss_odd (m : Nat) : Fld := ⟨0xa0030 + 4 * m, 16, 16⟩

/-! Table 03-14 (03_power_path_breaker.md R80). -/

def PWR_RULE_CFG.kind (n : Nat) : Fld := ⟨0xa0100 + 16 * n, 0, 3⟩
def PWR_RULE_CFG.action (n : Nat) : Fld := ⟨0xa0100 + 16 * n, 4, 2⟩
def PWR_RULE_CFG.sensor (n : Nat) : Fld := ⟨0xa0100 + 16 * n, 8, 2⟩
def PWR_RULE_CFG.retries (n : Nat) : Fld := ⟨0xa0100 + 16 * n, 12, 4⟩
def PWR_RULE_LEVEL.level (n : Nat) : Fld := ⟨0xa0104 + 16 * n, 0, 16⟩
def PWR_RULE_LEVEL.limit_level (n : Nat) : Fld := ⟨0xa0104 + 16 * n, 16, 7⟩
def PWR_RULE_DURATION.duration (n : Nat) : Fld := ⟨0xa0108 + 16 * n, 0, 16⟩
def PWR_RULE_DURATION.dur_unit (n : Nat) : Fld := ⟨0xa0108 + 16 * n, 16, 1⟩
def PWR_RULE_WINDOW.window (n : Nat) : Fld := ⟨0xa010c + 16 * n, 0, 14⟩

/-! Table 03-13 (03_power_path_breaker.md R80). -/

def PWR_RULE_COMMIT.commit : Fld := ⟨0xa0180, 0, 1⟩
def PWR_RULE_COMMIT.reload : Fld := ⟨0xa0180, 1, 1⟩
def PWR_RULE_COMMIT.stale : Fld := ⟨0xa0180, 2, 1⟩
def PWR_RULE_COMMIT.result : Fld := ⟨0xa0180, 3, 2⟩

/-! Table 12-11 (12_thermal_unit_health.md R340). -/

def PWR_UNIT_POLICY.off_grace : Fld := ⟨0xa01c0, 0, 8⟩

/-! Table 04-7 (04_metering_converters.md R108). -/

def PWR_ADC_PROFILE.profile : Fld := ⟨0xa0400, 0, 2⟩
def PWR_ADC_CTRL.cal_start : Fld := ⟨0xa0404, 0, 1⟩
def PWR_ADC_CTRL.ref_buf_en : Fld := ⟨0xa0404, 1, 1⟩
def PWR_ADC_CTRL.lp_gate_off : Fld := ⟨0xa0404, 2, 1⟩
def PWR_ADC_CTRL.acc_snap : Fld := ⟨0xa0404, 3, 1⟩
def PWR_ADC_CTRL.acc_clear : Fld := ⟨0xa0404, 4, 1⟩
def PWR_ADC_CTRL.minmax_clear : Fld := ⟨0xa0404, 5, 1⟩
def PWR_ADC_LP.pass_interval : Fld := ⟨0xa0408, 0, 14⟩
def PWR_ADC_STATUS.ref_ready : Fld := ⟨0xa040c, 0, 1⟩
def PWR_ADC_STATUS.cal_busy : Fld := ⟨0xa040c, 1, 1⟩
def PWR_ADC_STATUS.cal_valid_a : Fld := ⟨0xa040c, 2, 1⟩
def PWR_ADC_STATUS.cal_valid_b : Fld := ⟨0xa040c, 3, 1⟩
def PWR_ADC_STATUS.cal_refused : Fld := ⟨0xa040c, 4, 1⟩
def PWR_ADC_STATUS.adc_plaus : Fld := ⟨0xa040c, 5, 1⟩
def PWR_ADC_STATUS.plaus_fallback : Fld := ⟨0xa040c, 6, 1⟩
def PWR_ADC_STATUS.lp_active : Fld := ⟨0xa040c, 7, 1⟩
def PWR_ADC_STATUS.cfg_refused : Fld := ⟨0xa040c, 8, 1⟩
def PWR_ADC_STATUS.sat : Fld := ⟨0xa040c, 9, 1⟩
def PWR_ADC_PLAUS_COUNT.checks : Fld := ⟨0xa0410, 0, 16⟩
def PWR_ADC_PLAUS_COUNT.fails : Fld := ⟨0xa0410, 16, 16⟩
def PWR_ADC_LAST_DIFF.last_diff : Fld := ⟨0xa0414, 0, 24⟩
def PWR_ADC_SEQ_LEN.seq_len (c : Nat) : Fld := ⟨0xa0420 + 4 * c, 0, 4⟩
def PWR_ADC_OFFSET.offset (c : Nat) : Fld := ⟨0xa0430 + 8 * c, 0, 24⟩
def PWR_ADC_GAIN.gain (c : Nat) : Fld := ⟨0xa0434 + 8 * c, 0, 24⟩
def PWR_ADC_URGENT.start (c : Nat) : Fld := ⟨0xa0440 + 8 * c, 0, 1⟩
def PWR_ADC_URGENT.input (c : Nat) : Fld := ⟨0xa0440 + 8 * c, 1, 4⟩
def PWR_ADC_URGENT.osr (c : Nat) : Fld := ⟨0xa0440 + 8 * c, 5, 3⟩
def PWR_ADC_URGENT.order (c : Nat) : Fld := ⟨0xa0440 + 8 * c, 8, 2⟩
def PWR_ADC_URGENT_RESULT.result (c : Nat) : Fld := ⟨0xa0444 + 8 * c, 0, 24⟩
def PWR_ADC_URGENT_RESULT.done (c : Nat) : Fld := ⟨0xa0444 + 8 * c, 24, 1⟩
def PWR_ADC_URGENT_RESULT.busy (c : Nat) : Fld := ⟨0xa0444 + 8 * c, 25, 1⟩
def PWR_ADC_URGENT_RESULT.refused (c : Nat) : Fld := ⟨0xa0444 + 8 * c, 26, 1⟩
def PWR_ADC_ENERGY.energy_lo : Fld := ⟨0xa0460, 0, 32⟩
def PWR_ADC_ENERGY.energy_hi : Fld := ⟨0xa0464, 0, 32⟩
def PWR_ADC_CHARGE.charge_lo : Fld := ⟨0xa0468, 0, 32⟩
def PWR_ADC_CHARGE.charge_hi : Fld := ⟨0xa046c, 0, 32⟩
def PWR_ADC_ELAPSED.elapsed_lo : Fld := ⟨0xa0470, 0, 32⟩
def PWR_ADC_ELAPSED.elapsed_hi : Fld := ⟨0xa0474, 0, 32⟩
def PWR_ADC_PAIRS.pairs : Fld := ⟨0xa0478, 0, 32⟩

/-! Table 04-8 (04_metering_converters.md R108). -/

def PWR_ADC_ENTRY.input (c e : Nat) : Fld := ⟨0xa0500 + 64 * c + 4 * e, 0, 4⟩
def PWR_ADC_ENTRY.osr (c e : Nat) : Fld := ⟨0xa0500 + 64 * c + 4 * e, 4, 3⟩
def PWR_ADC_ENTRY.order (c e : Nat) : Fld := ⟨0xa0500 + 64 * c + 4 * e, 7, 2⟩
def PWR_ADC_ENTRY.post_notch (c e : Nat) : Fld := ⟨0xa0500 + 64 * c + 4 * e, 9, 2⟩
def PWR_ADC_ENTRY.acc_only (c e : Nat) : Fld := ⟨0xa0500 + 64 * c + 4 * e, 11, 1⟩
def PWR_ADC_ENTRY.pair (c e : Nat) : Fld := ⟨0xa0500 + 64 * c + 4 * e, 12, 1⟩
def PWR_ADC_ENTRY.every (c e : Nat) : Fld := ⟨0xa0500 + 64 * c + 4 * e, 16, 8⟩
def PWR_ADC_RESULT.result (c e : Nat) : Fld := ⟨0xa0580 + 64 * c + 4 * e, 0, 24⟩
def PWR_ADC_RESULT.fresh (c e : Nat) : Fld := ⟨0xa0580 + 64 * c + 4 * e, 24, 1⟩
def PWR_ADC_RESULT.sat (c e : Nat) : Fld := ⟨0xa0580 + 64 * c + 4 * e, 25, 1⟩
def PWR_ADC_MIN.min (c e : Nat) : Fld := ⟨0xa0700 + 128 * c + 8 * e, 0, 24⟩
def PWR_ADC_MAX.max (c e : Nat) : Fld := ⟨0xa0704 + 128 * c + 8 * e, 0, 24⟩

/-! Table 02-9 (02_slot_connector.md R49). -/

def PWR_SLOT_STATUS.lever_open : Fld := ⟨0xa0f00, 0, 1⟩
def PWR_SLOT_STATUS.lever_event : Fld := ⟨0xa0f00, 1, 1⟩
def PWR_SLOT_STATUS.off_request : Fld := ⟨0xa0f00, 2, 1⟩
def PWR_SLOT_STATUS.remove_led : Fld := ⟨0xa0f00, 3, 1⟩
def PWR_SLOT_STATUS.psh2_slot_id : Fld := ⟨0xa0f00, 8, 5⟩
def PWR_SLOT_STATUS.slot_id_differ : Fld := ⟨0xa0f00, 13, 1⟩
def PWR_SLOT_CTRL.profile : Fld := ⟨0xa0f04, 0, 2⟩
def PWR_SLOT_CTRL.power_off : Fld := ⟨0xa0f04, 2, 1⟩
def PWR_SLOT_CTRL.locate : Fld := ⟨0xa0f04, 3, 1⟩
def PWR_SLOT_CTRL.extract_grace : Fld := ⟨0xa0f04, 8, 8⟩

/-! Table 13-12 (13_report_card.md R371). -/

def RCD_PROFILE.profile : Fld := ⟨0xb0000, 0, 2⟩
def RCD_EXPERT_UNLOCK.key : Fld := ⟨0xb0004, 0, 16⟩
def RCD_CFG.flush_period : Fld := ⟨0xb0008, 0, 6⟩
def RCD_CFG.fault_spacing : Fld := ⟨0xb0008, 8, 10⟩
def RCD_CTRL.freeze : Fld := ⟨0xb000c, 0, 1⟩
def RCD_CTRL.thaw : Fld := ⟨0xb000c, 1, 1⟩
def RCD_CTRL.flush_now : Fld := ⟨0xb000c, 2, 1⟩
def RCD_CTRL.nonce_req : Fld := ⟨0xb000c, 3, 1⟩
def RCD_CTRL.apply : Fld := ⟨0xb000c, 4, 1⟩
def RCD_STATUS.frozen : Fld := ⟨0xb0010, 0, 1⟩
def RCD_STATUS.freeze_expired : Fld := ⟨0xb0010, 1, 1⟩
def RCD_STATUS.flush_pending : Fld := ⟨0xb0010, 2, 1⟩
def RCD_STATUS.flush_fail : Fld := ⟨0xb0010, 3, 1⟩
def RCD_STATUS.window_closed : Fld := ⟨0xb0010, 4, 1⟩
def RCD_STATUS.reserve_ready : Fld := ⟨0xb0010, 5, 1⟩
def RCD_STATUS.clear_done : Fld := ⟨0xb0010, 6, 1⟩
def RCD_STATUS.lost_flush : Fld := ⟨0xb0010, 7, 1⟩
def RCD_STATUS.clear_result : Fld := ⟨0xb0010, 8, 4⟩
def RCD_STATUS.opkey_present : Fld := ⟨0xb0010, 12, 1⟩
def RCD_STATUS.visible : Fld := ⟨0xb0010, 16, 10⟩
def RCD_CLEAR_NONCE.nonce : Fld := ⟨0xb0014, 0, 32⟩
def RCD_SELECT.source : Fld := ⟨0xb0018, 0, 2⟩
def RCD_SELECT.index : Fld := ⟨0xb0018, 16, 10⟩
def RCD_SELECT.ready : Fld := ⟨0xb0018, 31, 1⟩
def RCD_LAST_SEQ.last_seq : Fld := ⟨0xb001c, 0, 32⟩
def RCD_POWER_CYCLE.power_cycle : Fld := ⟨0xb0020, 0, 32⟩
def RCD_OP_SECONDS.op_seconds : Fld := ⟨0xb0024, 0, 32⟩
def RCD_CLEARS.clears : Fld := ⟨0xb0028, 0, 16⟩
def RCD_CLEAR_TOKEN.token (i : Nat) : Fld := ⟨0xb0100 + 4 * i, 0, 32⟩

/-! Table 14-8 (14_identity_firmware.md R399). -/

def SEC_PROFILE.profile : Fld := ⟨0xc0000, 0, 2⟩
def SEC_EXPERT_UNLOCK.key : Fld := ⟨0xc0004, 0, 16⟩
def SEC_FW_CTRL.confirm : Fld := ⟨0xc0008, 0, 1⟩
def SEC_FW_CTRL.raise_floor : Fld := ⟨0xc0008, 1, 1⟩
def SEC_FW_CTRL.cancel : Fld := ⟨0xc0008, 2, 1⟩
def SEC_FW_CTRL.strict_set : Fld := ⟨0xc0008, 3, 1⟩
def SEC_FW_CTRL.key : Fld := ⟨0xc0008, 16, 16⟩
def SEC_CFG.confirm_delay : Fld := ⟨0xc000c, 0, 8⟩
def SEC_FW_STATUS.gld1_slot : Fld := ⟨0xc0010, 0, 1⟩
def SEC_FW_STATUS.psh2_slot : Fld := ⟨0xc0010, 1, 1⟩
def SEC_FW_STATUS.gld1_trial : Fld := ⟨0xc0010, 2, 1⟩
def SEC_FW_STATUS.psh2_trial : Fld := ⟨0xc0010, 3, 1⟩
def SEC_FW_STATUS.gld1_pending : Fld := ⟨0xc0010, 4, 1⟩
def SEC_FW_STATUS.psh2_pending : Fld := ⟨0xc0010, 5, 1⟩
def SEC_FW_STATUS.joint : Fld := ⟨0xc0010, 6, 1⟩
def SEC_FW_STATUS.rolled_back : Fld := ⟨0xc0010, 7, 1⟩
def SEC_FW_STATUS.if_mismatch : Fld := ⟨0xc0010, 8, 1⟩
def SEC_FW_STATUS.unverified_pair : Fld := ⟨0xc0010, 9, 1⟩
def SEC_FW_STATUS.strict_pairs : Fld := ⟨0xc0010, 10, 1⟩
def SEC_FW_STATUS.gld1_staged_valid : Fld := ⟨0xc0010, 11, 1⟩
def SEC_FW_STATUS.psh2_staged_valid : Fld := ⟨0xc0010, 12, 1⟩
def SEC_FW_STATUS.last_result : Fld := ⟨0xc0010, 16, 4⟩
def SEC_GLD1_VERSION.gld1_version : Fld := ⟨0xc0014, 0, 32⟩
def SEC_PSH2_VERSION.psh2_version : Fld := ⟨0xc0018, 0, 32⟩
def SEC_GLD1_STAGED.gld1_staged : Fld := ⟨0xc001c, 0, 32⟩
def SEC_PSH2_STAGED.psh2_staged : Fld := ⟨0xc0020, 0, 32⟩
def SEC_EPOCHS.gld1_if_epoch : Fld := ⟨0xc0024, 0, 16⟩
def SEC_EPOCHS.psh2_if_epoch : Fld := ⟨0xc0024, 16, 16⟩
def SEC_EPOCHS.mf_epoch : Fld := ⟨0xc0028, 0, 16⟩
def SEC_FLOORS.gld1_floor : Fld := ⟨0xc002c, 0, 7⟩
def SEC_FLOORS.psh2_floor : Fld := ⟨0xc002c, 8, 6⟩
def SEC_SPDM_COUNT.challenges : Fld := ⟨0xc0030, 0, 16⟩
def SEC_SPDM_COUNT.spdm_errors : Fld := ⟨0xc0030, 16, 16⟩

/-! Table 15-9 (15_debug_trace.md R421). -/

def DBG_PROFILE.profile : Fld := ⟨0xd0000, 0, 2⟩
def DBG_EXPERT_UNLOCK.key : Fld := ⟨0xd0004, 0, 16⟩
def DBG_CTRL.debug_mode : Fld := ⟨0xd0008, 0, 1⟩
def DBG_CTRL.consume : Fld := ⟨0xd0008, 1, 1⟩
def DBG_STATUS.halted : Fld := ⟨0xd000c, 0, 4⟩
def DBG_STATUS.psh2_halted : Fld := ⟨0xd000c, 4, 1⟩
def DBG_STATUS.deferred : Fld := ⟨0xd000c, 5, 4⟩
def DBG_STATUS.psh2_deferred : Fld := ⟨0xd000c, 9, 1⟩
def DBG_STATUS.lock_broken : Fld := ⟨0xd000c, 10, 1⟩
def DBG_STATUS.gld1_in_chain : Fld := ⟨0xd000c, 11, 1⟩
def DBG_STATUS.locks_broken : Fld := ⟨0xd000c, 16, 16⟩
def DBG_TRACE_CTRL.enable : Fld := ⟨0xd0100, 0, 1⟩
def DBG_TRACE_CTRL.sink : Fld := ⟨0xd0100, 1, 1⟩
def DBG_TRACE_CTRL.wrap : Fld := ⟨0xd0100, 2, 1⟩
def DBG_TRACE_CTRL.clear : Fld := ⟨0xd0100, 3, 1⟩
def DBG_TRACE_CTRL.owner : Fld := ⟨0xd0100, 4, 4⟩
def DBG_TRACE_CTRL.pri_core : Fld := ⟨0xd0100, 16, 2⟩
def DBG_TRACE_CTRL.pri_desc : Fld := ⟨0xd0100, 18, 2⟩
def DBG_TRACE_CTRL.pri_dma : Fld := ⟨0xd0100, 20, 2⟩
def DBG_TRACE_CTRL.pri_mirror : Fld := ⟨0xd0100, 22, 2⟩
def DBG_TRACE_STATUS.stopped_full : Fld := ⟨0xd0104, 0, 1⟩
def DBG_TRACE_STATUS.wrapped : Fld := ⟨0xd0104, 1, 1⟩
def DBG_TRACE_WP.wp : Fld := ⟨0xd0108, 0, 18⟩
def DBG_TRACE_DROP.drop_core : Fld := ⟨0xd0110, 0, 16⟩
def DBG_TRACE_DROP.drop_desc : Fld := ⟨0xd0110, 16, 16⟩
def DBG_TRACE_DROP.drop_dma : Fld := ⟨0xd0114, 0, 16⟩
def DBG_TRACE_DROP.drop_mirror : Fld := ⟨0xd0114, 16, 16⟩
def DBG_TRACE_RECORDS.records : Fld := ⟨0xd0118, 0, 32⟩
def DBG_TRACE_SINK_DROP.drop_sink : Fld := ⟨0xd011c, 0, 16⟩
def DBG_TRACE_BUF_ADDR.buf_addr : Fld := ⟨0xd0120, 2, 16⟩
def DBG_TRACE_BUF_DATA.buf_data : Fld := ⟨0xd0124, 0, 32⟩
def DBG_TRACE_RING_BASE.ring_base_lo : Fld := ⟨0xd0130, 12, 20⟩
def DBG_TRACE_RING_BASE.ring_base_hi : Fld := ⟨0xd0134, 0, 32⟩
def DBG_TRACE_RING_SIZE.size_log2 : Fld := ⟨0xd0138, 0, 5⟩
def DBG_TRACE_RING_WP.ring_wp : Fld := ⟨0xd013c, 0, 30⟩
def DBG_TRACE_RING_RP.ring_rp : Fld := ⟨0xd0140, 0, 30⟩
def DBG_TRACE_WP_ADDR.wp_addr_lo : Fld := ⟨0xd0144, 0, 32⟩
def DBG_TRACE_WP_ADDR.wp_addr_hi : Fld := ⟨0xd0148, 0, 32⟩
def DBG_TRACE_RANGE.base_lo (r : Nat) : Fld := ⟨0xd0200 + 32 * r, 0, 32⟩
def DBG_TRACE_RANGE.base_hi (r : Nat) : Fld := ⟨0xd0204 + 32 * r, 0, 32⟩
def DBG_TRACE_RANGE.limit_lo (r : Nat) : Fld := ⟨0xd0208 + 32 * r, 0, 32⟩
def DBG_TRACE_RANGE.limit_hi (r : Nat) : Fld := ⟨0xd020c + 32 * r, 0, 32⟩
def DBG_TRACE_RANGE.valid (r : Nat) : Fld := ⟨0xd0210 + 32 * r, 0, 1⟩
def DBG_TRACE_RANGE.reads (r : Nat) : Fld := ⟨0xd0210 + 32 * r, 1, 1⟩
def DBG_TRACE_RANGE.writes (r : Nat) : Fld := ⟨0xd0210 + 32 * r, 2, 1⟩
def DBG_TRACE_RANGE.space (r : Nat) : Fld := ⟨0xd0210 + 32 * r, 3, 2⟩
def DBG_TRACE_RANGE.sources (r : Nat) : Fld := ⟨0xd0210 + 32 * r, 5, 3⟩
def DBG_TRACE_RANGE.partition (r : Nat) : Fld := ⟨0xd0210 + 32 * r, 8, 4⟩
def DBG_TRACE_RANGE.mirror (r : Nat) : Fld := ⟨0xd0210 + 32 * r, 12, 1⟩

end Sys2Proof.Machine.Reg
end

