-- ==== Sys2Proof/Machine/StPower.lean ====
section
/-!
DEFINITION. Machine/StPower.lean: the state of PSH2's power path, metering and PMBus target that no BAR0 register holds (spec/02_slot_connector.md, 03_power_path_breaker.md, 04_metering_converters.md, 16_register_index.md).
-/
namespace Sys2Proof.Machine

/-- The hold timer of one trip rule (03 R59 to R61). -/
structure RuleTimer where
  /-- The condition held at the last evaluation. -/
  holding : Bool
  /-- Time since the evaluation at which it began to hold, in units of 1/64 ns. -/
  held : Nat
  /-- It has held for the rule's duration and the rule has not fired yet. -/
  due : Bool
  /-- The rule has fired and its condition has not cleared since. -/
  fired : Bool
  /-- A slow trip of this rule is in its confirmation window (R60). -/
  confirming : Bool
  /-- The condition has cleared within the confirmation window. -/
  cleared : Bool
  deriving DecidableEq, Repr

/-- A step notice as PSH2 holds it open or as GLD1 waits with it (03 R65 to R67, Table 03-5a). -/
structure Notice where
  /-- The sender's number of the notice. -/
  id : Nat
  amplitude : Nat
  start : Nat
  duration : Nat
  deriving DecidableEq, Repr

/-- Where GLD1 stands with a step notice it sent (03 R65, R66). -/
inductive NoticeStage where
  | sent | accepted | refused
  deriving DecidableEq, Repr

/-- What GLD1 does once the notice's step may start (03 R65, 05 Table 05-8, 12 R315). -/
inductive StepUse where
  | gangPower (run : Nat) | denseBurst (run : Nat) | restoreShed | throttleRelease | wake
  deriving DecidableEq, Repr

/-- A step notice on the GLD1 side. -/
structure GldNotice where
  notice : Notice
  use : StepUse
  stage : NoticeStage
  deriving DecidableEq, Repr

/-- The breaker beside its registers (03 R52 to R78, R430). -/
structure Breaker where
  /-- The live trip-rule table, keyed by the BAR0 offsets of the staging copy (R70). -/
  live : Store Word
  /-- The PMBus staging copy, keyed the same way. -/
  pmbStage : Store Word
  /-- The PMBus staging copy is stale (R76). -/
  pmbStale : Bool
  /-- The PMBus path's commit result code. -/
  pmbResult : Nat
  /-- One hold timer per rule. -/
  timers : List RuleTimer
  /-- R28's conditions have held for 50 ms; the count runs through Backoff and the minimum off time (R62, R73). -/
  qualDone : Bool
  /-- VIN is at or above 10.8 V and 3V3_SB is valid (R28). -/
  supplyOk : Bool
  /-- VOUT is below 0.5 V (R53). -/
  voutLow : Bool
  /-- The discharge path is on (R53). -/
  discharge : Bool
  /-- The 200 ms minimum off time runs (R73, R78). -/
  minOff : Bool
  /-- A restart needs the lever or OPERATION on (R29). -/
  holdOff : Bool
  /-- An off remembered while Latched: the last_cause it will leave (R78, R430). -/
  rememberedOff : Option Nat
  /-- An extraction request is pending (R47). -/
  extracting : Bool
  /-- The lever-direct grace time runs. -/
  grace : Bool
  /-- Regulators in regulation, in the order PL4, PL1, PL2, PL3 (05 R111). -/
  regsUp : Nat
  /-- Step notices accepted and still open (R67). -/
  notices : List Notice
  /-- The FAULT lamp holds while a trip rule holds the gate latched off (02 Table 02-7). -/
  faultLed : Bool
  /-- The rules whose requests keep GP_SHED high (R64). -/
  shedBy : List Nat
  /-- Last sample of the fast monitors: current in 10 mA, VIN in 10 mV (03 "The power path"). -/
  iin : Nat
  vin : Nat
  /-- Rules whose limit action is in force (Table 03-10). -/
  limitBy : List Nat
  /-- Fast-monitor currents of the step window, newest first (R67). -/
  recent : List Nat
  /-- Hottest live GLD1 reading as last mirrored since PSH2 power-on; inner none when no live sensor is left (R59, Table 03-11). -/
  gldTemp : Option (Option Int)
  deriving DecidableEq, Repr

/-- What a converter is converting (04 R85, R101). -/
inductive ConvRun where
  | entry (e : Nat)
  | urgent
  | cal
  deriving DecidableEq, Repr

/-- An urgent request held by a converter (04 R101). -/
structure UrgentReq where
  input : Nat
  osr : Nat
  order : Nat
  deriving DecidableEq, Repr

/-- One converter's sequencer (04 R85 to R87). -/
structure Conv where
  /-- Entries still to run in this pass, in order. -/
  todo : List Nat
  /-- The conversion running. -/
  run : Option ConvRun
  /-- The urgent request pending or running. -/
  urgent : Option UrgentReq
  /-- Countdowns of entries 0 to 15 (R85). -/
  counts : List Nat
  deriving DecidableEq, Repr

/-- The metering beside its registers (04 R81 to R106). -/
structure Meter where
  a : Conv
  b : Conv
  /-- Entry and seq_len words in force; the registers hold the collected ones (R103). -/
  force : Store Word
  /-- Collected writes wait for the next pass start (R103). -/
  collected : Bool
  /-- The sequence has been restarted at pass 1 since the last pass start. -/
  restart : Bool
  /-- Energy accumulator, µJ with 32 fractional bits (R90). -/
  energy : Int
  /-- Charge accumulator, µC with 32 fractional bits. -/
  charge : Int
  /-- Elapsed time, µs with 32 fractional bits. -/
  elapsed : Nat
  /-- Power pairs accumulated; saturates. -/
  pairs : Nat
  /-- A power-pair result has been taken since PSH2 power-on. -/
  anyPair : Bool
  /-- Power results inside the longest window, newest first: time since the result before it (1/64 ns) and power in units of W / (2^44 × 10^4), in which products of both sources are whole (R98, R102). -/
  history : List (Nat × Int)
  /-- V and I codes of the most recent power-pair result (R93). -/
  lastPair : Option (Int × Int)
  /-- Power-pair results of the running 100 ms interval: count and sums of V, I and V × I codes (R93). -/
  sumN : Nat
  sumV : Int
  sumI : Int
  sumVI : Int
  /-- READ_VIN, READ_IIN and READ_PIN as last refreshed, LINEAR11 words. -/
  readVin : Nat
  readIin : Nat
  readPin : Nat
  /-- A complete 100 ms interval with a result has been reported. -/
  anyInterval : Bool
  /-- Consecutive failed and passed plausibility checks (R98). -/
  failRun : Nat
  passRun : Nat
  /-- Last corrected result per housekeeping input (R91). -/
  latest : List (Option Int)
  /-- Consecutive results of inputs 3 to 6 outside 5 % (12 R327). -/
  railBad : List Nat
  /-- The reference buffer's 3 ms count runs (R95). -/
  refCount : Bool
  /-- A calibration waits for the reference (R95). -/
  calWaits : Bool
  /-- Times after the last power-pair result, in 1/64 ns: of the last fast-monitor sample, and of the newest entry of `history` (R98, R102). -/
  tickAge : Int
  headAge : Int
  deriving DecidableEq, Repr

/-- The PMBus target beside the registers (03 R79, 04 R107, 12 R341, 13 R372, 16 R424 to R429). -/
structure PmBus where
  /-- The bus address in force, 0x40 + SLOT_ID sampled (02 R38, R48). -/
  address : Nat
  /-- MFR_REG_ADDR. -/
  regAddr : Nat
  /-- MFR_METER_ADDR. -/
  meterAddr : Nat
  /-- MFR_UNIT_INDEX. -/
  unitIndex : Nat
  /-- MFR_RC_OFFSET. -/
  rcOffset : Nat
  /-- STATUS_CML bits 7, 6 and 5. -/
  cml7 : Bool
  cml6 : Bool
  cml5 : Bool
  /-- Latched STATUS_WORD causes: VIN_UV, IOUT_OC, MFR (R79). -/
  stVinUv : Bool
  stIoutOc : Bool
  stMfr : Bool
  /-- The MFR bit as a plausibility failure sets it: a source of PMB_ALERT_N (04 R97, 16 R429). -/
  stPlaus : Bool
  /-- Latched STATUS_INPUT bits: VIN_OV, VIN_UV, IIN_OC fault, IIN_OC warning. -/
  siVinOv : Bool
  siVinUv : Bool
  siIinOc : Bool
  siIinWarn : Bool
  /-- The OPERATION value last accepted, which a read of OPERATION returns (03 Table 03-12). -/
  operation : Nat
  /-- PMB_ALERT_N is asserted (R429). -/
  alert : Bool
  /-- The last transaction was acknowledged at every byte. -/
  acked : Bool
  /-- The bytes the last read returned, low byte first. -/
  reply : List Byte
  deriving DecidableEq, Repr

/-- A hold timer that has not started. -/
def RuleTimer.fresh : RuleTimer := ⟨false, 0, false, false, false, false⟩

/-- The breaker at PSH2 power-on: the gate off, the discharge path on, slot-safe rules live (R68, 16 R427). VOUT counts as below 0.5 V and the slot's supplies as good: the spec gives neither at PSH2 power-on (DESIGN CHOICE, log 2). -/
def Breaker.reset : Breaker where
  live := []
  pmbStage := []
  pmbStale := false
  pmbResult := 0
  timers := List.replicate 8 RuleTimer.fresh
  qualDone := false
  supplyOk := true
  voutLow := true
  discharge := true
  minOff := false
  holdOff := false
  rememberedOff := none
  extracting := false
  grace := false
  regsUp := 0
  notices := []
  faultLed := false
  shedBy := []
  iin := 0
  vin := 0
  limitBy := []
  recent := []
  gldTemp := none

/-- A converter that rests. -/
def Conv.reset : Conv := ⟨[], none, none, List.replicate 16 1⟩

/-- The metering at PSH2 power-on; the 3 ms count of the reference runs (04 R95). -/
def Meter.reset : Meter where
  a := Conv.reset
  b := Conv.reset
  force := []
  collected := false
  restart := true
  energy := 0
  charge := 0
  elapsed := 0
  pairs := 0
  anyPair := false
  history := []
  lastPair := none
  sumN := 0
  sumV := 0
  sumI := 0
  sumVI := 0
  readVin := 0
  readIin := 0
  readPin := 0
  anyInterval := false
  failRun := 0
  passRun := 0
  latest := List.replicate 16 none
  railBad := [0, 0, 0, 0]
  refCount := true
  calWaits := false
  tickAge := 0
  headAge := 0

/-- The PMBus target at PSH2 power-on. OPERATION reads 0x80, on, until a value is accepted: the spec gives no value (DESIGN CHOICE, log 127). -/
def PmBus.reset : PmBus where
  address := 0x40
  regAddr := 0
  meterAddr := 0x400
  unitIndex := 0
  rcOffset := 0
  cml7 := false
  cml6 := false
  cml5 := false
  stVinUv := false
  stIoutOc := false
  stMfr := false
  stPlaus := false
  siVinOv := false
  siVinUv := false
  siIinOc := false
  siIinWarn := false
  operation := 0x80
  alert := false
  acked := true
  reply := []

end Sys2Proof.Machine
end

