-- ==== Sys2Proof/Machine/StHost.lean ====
section
/-!
DEFINITION. Machine/StHost.lean: the state of the host interface, the GP link and the watched clocks that no BAR0 register holds (spec/01_module_overview.md, 05_bringup_homeroom_recess.md, 06_host_rings.md).
-/
namespace Sys2Proof.Machine

/-- A write the module has issued to the host (06 R138, R153). -/
inductive Posted where
  /-- A memory write of function `part`, with or without Relaxed Ordering. -/
  | dma (part : Nat) (addr : Nat) (bytes : List Byte) (relaxed : Bool)
  /-- An MSI-X message of function `part`, vector 0 to 7. -/
  | msix (part : Nat) (vector : Nat) (addr : Nat) (data : Nat)
  deriving DecidableEq, Repr

/-- One MSI-X table entry and its pending bit (06 R153). -/
structure MsixVec where
  addr : Nat
  data : Nat
  masked : Bool
  pending : Bool
  deriving DecidableEq, Repr

/-- The PCI configuration controls of one function (06 Table 06-1, R153, R159). -/
structure FnCfg where
  busMaster : Bool
  msixEnable : Bool
  funcMask : Bool
  /-- D3hot rather than D0. -/
  d3hot : Bool
  /-- Max Payload Size and Max Read Request Size, in bytes. -/
  maxPayload : Nat
  maxRead : Nat
  deriving DecidableEq, Repr

/-- A function after a reset of its endpoint: everything off, D0, payloads of 128 and reads of 512 bytes (PRESUMED, log 130: the PCI Express defaults). -/
def FnCfg.reset : FnCfg := ⟨false, false, false, false, 128, 512⟩

/-- The partition fields in force for one partition (06 R150 to R152). -/
structure PartCfg where
  quads : Nat
  sqs : Nat
  cqs : Nat
  memBase : Nat
  memSize : Nat
  streams : Nat
  syllabus : Bool
  hallPass : Bool
  akgal : Bool
  eventCq : Nat
  eventEn : Bool
  inflightMax : Nat
  inflightMin : Nat
  deriving DecidableEq, Repr

/-- A half-written Expert pair: the block's expert bit, the path, and when 0x4558 came (06 R155). -/
structure HalfPair where
  block : Nat
  path : MgmtPath
  since : Nat
  deriving DecidableEq, Repr

/-- The host interface beside its registers. -/
structure HostIf where
  /-- In fetch order. -/
  flights : List Flight
  nextId : Nat
  /-- Per SQ, the number of its last fetched descriptor, and that descriptor's status once it has completed (R141). -/
  sqLast : List Nat
  sqLastDone : List (Option Nat)
  held : List Held
  /-- Writes issued to the host, oldest first. -/
  posted : List Posted
  /-- Counted entries written and not yet signalled, per CQ (R153). -/
  unsignalled : List Nat
  /-- CQs stopped by an entry write that was not issued (R159). -/
  cqStopped : List Bool
  /-- SQs stopped by a doorbell or fetch error (R157). -/
  sqStopped : List Bool
  /-- SQ served last, and descriptors it may still fetch in this turn (R149). -/
  turnSq : Nat
  turnLeft : Nat
  /-- The SQs' priorities as the running turn began (R140). -/
  turnPrios : List Nat
  msix : List MsixVec
  fn : List FnCfg
  parts : List PartCfg
  /-- VF cause and enable registers, VF 1 to 8 (R134, R154). -/
  vfCause : List Word
  vfEnable : List Word
  halves : List HalfPair
  /-- ASPM L1 enable of the PF's Link Control register (05 R121). -/
  aspmL1 : Bool
  /-- NumVFs of the PF's SR-IOV capability (Procedure: ASSIGN PARTITIONS). -/
  numVfs : Nat
  /-- The PCIe link is trained (05 R114). -/
  linkUp : Bool
  /-- The PCIe link is in L1: Recess has been entered (05 R122 step 6, 02 Table 02-4). -/
  linkL1 : Bool
  /-- PERST_N is low (05 R127). -/
  perstLow : Bool
  deriving DecidableEq, Repr

/-- One side of the GP link (01 R12, R13). -/
structure GpSide where
  /-- Sequence number of the next frame this side sends. -/
  nextSeq : Nat
  /-- Sequence number this side expects to receive. -/
  expect : Nat
  /-- Frames not yet sent, oldest first. -/
  queue : List GpMsg
  /-- Frames sent, newest last, as many as the 8-bit numbers tell apart. -/
  sent : List (Nat × GpMsg)
  /-- Refusals to send in the next frame slots: the sequence number expected. -/
  refusals : List Nat
  /-- Consecutive valid frames received. -/
  validRun : Nat
  /-- This side has declared the link lost. -/
  lost : Bool
  /-- The link counts as up (restored). -/
  up : Bool
  deriving DecidableEq, Repr

/-- Service and bring-up state beside the registers (05). -/
structure Service where
  /-- GP_RST_N is low (01 R11). -/
  rstLow : Bool
  /-- PSH2's supply is up (05 R119). -/
  pshPower : Bool
  /-- The PSH2 image runs (05 R110). -/
  pshRun : Bool
  /-- PSH2 is in ROM recovery (14 R394). -/
  romRecovery : Bool
  /-- A warm bring-up runs: the short stage list of R120. -/
  warm : Bool
  /-- The handover has begun (R118). -/
  handover : Bool
  /-- `now` at which a Recess entry passes its commit point (R122). -/
  commitAt : Nat
  /-- A Recess request waits for debug mode to end (15 R405). -/
  enterHeld : Bool
  /-- A wake waits for the entry to complete (R126). -/
  wakeWaits : Bool
  /-- A warm reset waits for the wake to complete; the value tells whether the link stays up (R127). -/
  warmWaits : Option Bool
  /-- VFs whose function-level reset waits for the wake to complete, oldest first (R124). -/
  flrWaits : List Nat
  /-- The copy of the fabric's state in the reserved LPDDR5X area, which software cannot reach: which save made it; the model's own number (R122 step 3). -/
  savedCopy : Option Nat
  /-- The wake notice was refused (R125). -/
  wakeRefused : Bool
  /-- The calibration has been refused once in this bring-up (Table 05-4). -/
  calRefusals : Nat
  /-- Fabric load is halved by GP_SHED (03 R64), and restoring waits for a notice (R75). -/
  shedHalf : Bool
  /-- Notices GLD1 has sent and not finished with (03 R65). -/
  notices : List GldNotice
  /-- Number of the next notice. -/
  nextNotice : Nat
  /-- Bytes of the manifests and the image that PSH2 has sent, and that GLD1 has taken, in the Image stage (01 R11, 05 Table 05-2). -/
  imageSent : Nat
  imageGot : Nat
  /-- Bring-up restarts from Memory after a thermal shutdown (05 R128, 12 R318). -/
  fromMemory : Bool
  /-- Time of power good, for bringup_time. -/
  powerGoodAt : Nat
  deriving DecidableEq, Repr

/-- Partition 0 at reset owns everything (06 R150, Table 06-15). -/
def PartCfg.whole : PartCfg := ⟨0xFFFF, 2 ^ 64 - 1, 2 ^ 64 - 1, 0, 0x80, 0xFF, true, true, true, 0, false, 0x800, 0⟩

/-- A VF partition at reset owns nothing. -/
def PartCfg.none : PartCfg := ⟨0, 0, 0, 0, 0, 0, false, false, false, 0, false, 0, 0⟩

/-- The host interface after reset: rings idle, MSI-X masked and disabled as the PCI base values are, every resource the PF's (06 R150). -/
def HostIf.reset : HostIf where
  flights := []
  nextId := 0
  sqLast := List.replicate 64 0
  sqLastDone := List.replicate 64 none
  held := []
  posted := []
  unsignalled := List.replicate 64 0
  cqStopped := List.replicate 64 false
  sqStopped := List.replicate 64 false
  turnSq := 63
  turnLeft := 0
  turnPrios := []
  msix := List.replicate 72 ⟨0, 0, true, false⟩
  fn := List.replicate 9 FnCfg.reset
  parts := PartCfg.whole :: List.replicate 8 PartCfg.none
  vfCause := List.replicate 8 0
  vfEnable := List.replicate 8 0xFFFF
  halves := []
  aspmL1 := false
  numVfs := 0
  linkUp := false
  linkL1 := false
  perstLow := false

/-- A side of the GP link at reset: no frame sent, the link not yet up. -/
def GpSide.reset : GpSide := ⟨0, 0, [], [], [], 0, false, false⟩

/-- Service state at PSH2 power-on: GLD1 held in reset, PSH2's supply up, its image not yet running. -/
def Service.reset : Service where
  rstLow := true
  pshPower := true
  pshRun := false
  romRecovery := false
  warm := false
  handover := false
  commitAt := 0
  enterHeld := false
  wakeWaits := false
  warmWaits := none
  flrWaits := []
  savedCopy := none
  wakeRefused := false
  calRefusals := 0
  shedHalf := false
  notices := []
  nextNotice := 0
  imageSent := 0
  imageGot := 0
  fromMemory := false
  powerGoodAt := 0

end Sys2Proof.Machine
end

