-- ==== Sys2Proof/Machine/StRecord.lean ====
section
/-!
DEFINITION. Machine/StRecord.lean: the state of the Report Card recorder and of the NOR flash (spec/13_report_card.md).
-/
namespace Sys2Proof.Machine

/-- One histogram: under bin, 16 bins, over bin and sample count (13 R344). -/
structure Hist where
  under : Nat
  bins : List Nat
  above : Nat
  samples : Nat
  deriving DecidableEq, Repr

/-- The extremes of one histogram quantity with their timestamps: operating seconds and power cycle (13 R343). -/
structure Extreme where
  min : Int
  minSec : Nat
  minCycle : Nat
  max : Int
  maxSec : Nat
  maxCycle : Nat
  deriving DecidableEq, Repr

/-- A live summary, or increments to one (13 R342, R346, R358). -/
structure Live where
  hists : List Hist
  extremes : List Extreme
  cycle : List Nat
  life : List Nat
  deriving DecidableEq, Repr

/-- A valid block of the circulating area: slot, sequence number and clear_epoch (13 Table 13-3). -/
structure BlockRef where
  slot : Nat
  seq : Nat
  epoch : Nat
  deriving DecidableEq, Repr

/-- Why a sector is erased (13 Table 13-7). -/
inductive ErasePurpose where
  | circulating | journal | staging
  deriving DecidableEq, Repr

/-- An erase PSH2 has issued under a journal entry (13 R353). -/
structure EraseRun where
  addr : Nat
  purpose : ErasePurpose
  /-- NOR address of its journal entry. -/
  entry : Nat
  /-- A flush or power-fail has suspended it. -/
  suspended : Bool
  deriving DecidableEq, Repr

/-- The recorder beside the RCD registers. -/
structure Recorder where
  live : Live
  /-- Increments taken during a freeze (13 R358). -/
  hold : Live
  /-- GLD1's increments not yet sent (13 R346). -/
  gld : Live
  frozenBar : Bool
  frozenPmb : Bool
  /-- Cause bits of the flush that is due; 0 when none is (13 R350). -/
  due : Nat
  /-- The due flush waits for fault_spacing (13 Table 13-6). -/
  dueSpaced : Bool
  /-- A due flush was delayed by the flash-write window (13 R366). -/
  delayed : Bool
  /-- Failures of the due flush: after the second it waits for its next trigger (13 R369). -/
  failures : Nat
  /-- The valid circulating blocks, newest first (13 R355 step 2). -/
  blocks : List BlockRef
  /-- Clear records committed: the lowest blank record slot (13 R361). -/
  records : Nat
  /-- The recorder has been prepared since PSH2 power-on (13 R355). -/
  started : Bool
  flushSlot : Nat
  reserve : Nat
  flushErased : Bool
  reserveErased : Bool
  /-- The erase running or suspended. -/
  erase : Option EraseRun
  /-- Sectors waiting to be erased, oldest first. -/
  eraseQueue : List (Nat × ErasePurpose)
  journalSector : Nat
  journalEntry : Nat
  journalSeq : Nat
  /-- The hiding epoch (13 R361). -/
  hidingEpoch : Nat
  /-- The current clear nonce is valid. -/
  nonceValid : Bool
  /-- The token under verification and its path's result goes to RCD_STATUS. -/
  verifying : Option (List Byte)
  /-- A verified token whose steps 2 to 5 wait for the thaw (13 R367). -/
  clearWaits : Option (List Byte)
  bufBar : List Byte
  bufPmb : List Byte
  readyPmb : Bool
  selPmb : Nat
  /-- PSH2 OTP: the operator key (13 R359). -/
  opKey : Option (List Byte)
  /-- 100 ms intervals since the last whole operating second (13 R343). -/
  tenths : Nat
  /-- Operating seconds at the start of this power cycle. -/
  startSeconds : Nat
  /-- Largest fast-monitor current of the 100 ms interval, mA (13 Table 13-1). -/
  peakMa : Option Nat
  deriving DecidableEq, Repr

/-- An empty histogram. -/
def Hist.empty : Hist := ⟨0, List.replicate 16 0, 0, 0⟩

/-- An empty extreme: minimum 0x7FFF_FFFF and maximum 0x8000_0000 (13 R347). -/
def Extreme.empty : Extreme := ⟨0x7FFFFFFF, 0, 0, -0x80000000, 0, 0⟩

/-- An empty live summary. -/
def Live.empty : Live :=
  ⟨List.replicate 12 Hist.empty, List.replicate 12 Extreme.empty, List.replicate 64 0, List.replicate 64 0⟩

/-- The recorder before its first start: everything empty, the NOR not yet read. -/
def Recorder.reset : Recorder where
  live := Live.empty
  hold := Live.empty
  gld := Live.empty
  frozenBar := false
  frozenPmb := false
  due := 0
  dueSpaced := false
  delayed := false
  failures := 0
  blocks := []
  records := 0
  started := false
  flushSlot := 0
  reserve := 1
  flushErased := false
  reserveErased := false
  erase := none
  eraseQueue := []
  journalSector := 0
  journalEntry := 0
  journalSeq := 0
  hidingEpoch := 0
  nonceValid := false
  verifying := none
  clearWaits := none
  bufBar := []
  bufPmb := []
  readyPmb := false
  selPmb := 0
  opKey := none
  tenths := 0
  startSeconds := 0
  peakMa := none

end Sys2Proof.Machine
end

