-- ==== Sys2Proof/Machine/StUnits.lean ====
section
/-!
DEFINITION. Machine/StUnits.lean: the state of the thermal watch and of PSH2's half of the unit ledger (spec/12_thermal_unit_health.md).
-/
namespace Sys2Proof.Machine

/-- The thermal watch beside the THM registers (12 R308 to R318). -/
structure Thermal where
  /-- The last ten samples of sensors 0 to 18, newest first, for the 1 ms rise (12 "Warning and throttle"). -/
  history : List (List Int)
  /-- Samples in a row each sensor's code has been unchanged, out of range, or away from its neighbours (R310). -/
  stuckRun : List Nat
  rangeRun : List Nat
  nbrRun : List Nat
  /-- The last sample showed the condition: warning level, throttle level, rate. -/
  warnSeen : Bool
  coolSeen : Bool
  absSeen : Bool
  rateSeen : Bool
  relSeen : Bool
  /-- Conditions that hold, confirmed by a second sample. -/
  absHolds : Bool
  rateHolds : Bool
  relHolds : Bool
  /-- The last sample showed a sensor at 110 °C, per sensor. -/
  hotSeen : List Bool
  /-- A release step waits for its notice (R315). -/
  releaseWaits : Bool
  /-- The throttle mode in force: a change of THM_CTRL.mode that raises load waits for the release rule (R322). -/
  mode : Nat
  /-- Consecutive board results outside and inside the flash-write window (R320). -/
  winOut : Nat
  /-- The PSH2 die warning stands (Table 12-1). -/
  dieWarn : Bool
  winIn : Nat
  deriving DecidableEq, Repr

/-- PSH2's half of one ledger entry (12 R324). -/
structure MgmtEntry where
  mgmt : Nat
  lock : Bool
  pgood : Bool
  deriving DecidableEq, Repr

/-- The thermal watch at reset. -/
def Thermal.reset : Thermal where
  history := List.replicate 19 []
  stuckRun := List.replicate 19 0
  rangeRun := List.replicate 19 0
  nbrRun := List.replicate 19 0
  warnSeen := false
  coolSeen := false
  absSeen := false
  rateSeen := false
  relSeen := false
  absHolds := false
  rateHolds := false
  relHolds := false
  hotSeen := List.replicate 19 false
  releaseWaits := false
  mode := 0
  winOut := 0
  dieWarn := false
  winIn := 0

end Sys2Proof.Machine
end

