-- ==== Sys2Proof/Machine/StSec.lean ====
section
/-!
DEFINITION. Machine/StSec.lean: the state of the firmware slots, the key vault and the SPDM responder (spec/14_identity_firmware.md).
-/
namespace Sys2Proof.Machine

/-- One of the two images: GLD1 sequencer or PSH2 (14 R377 to R389). -/
structure FwImage where
  /-- The running slot: 0 A, 1 B. -/
  slot : Nat
  trial : Bool
  pending : Bool
  /-- staged_valid of the other slot. -/
  staged : Bool
  /-- svn floor, held in fuses or OTP. -/
  floor : Nat
  /-- Manifest of the running image. -/
  manifest : List Byte
  /-- Measurement of the running image, and of the other slot (Table 14-3). -/
  digest : List Byte
  otherDigest : List Byte
  deriving DecidableEq, Repr

/-- An SPDM response (14 Table 14-2). -/
inductive SpdmReply where
  | version
  | capabilities
  | algorithms
  | digests (slot0 : List Byte)
  | certificate (portion : List Byte) (remainder : Nat)
  | challengeAuth (signature : List Byte)
  | measurements (blocks : List (Nat × List Byte)) (signature : Option (List Byte))
  | errorUnsupported
  deriving DecidableEq, Repr

/-- A request waiting for the key vault (14 R373). -/
inductive VaultJob where
  | challenge (data : List Byte)
  | measurements (blocks : List (Nat × List Byte)) (data : List Byte)
  | pairAuth (data : List Byte)
  deriving DecidableEq, Repr

/-- Firmware, identity and attestation state beside the SEC registers. -/
structure Sec where
  gld : FwImage
  psh : FwImage
  /-- Pending activations are joint. -/
  joint : Bool
  /-- The trials in force are those of one joint activation (R396). -/
  jointTrial : Bool
  rolledBack : Bool
  /-- The STRICT_PAIRS fuse. -/
  strict : Bool
  lastResult : Nat
  /-- A live restart of PSH2 runs (R388). -/
  restarting : Bool
  /-- The restarted image's interface check waits for the link (R388). -/
  checkDue : Bool
  /-- A cold reset waits for a joint activation's live restart (R387). -/
  coldWaits : Bool
  /-- Both GLD1 slots have failed verification in this bring-up. -/
  otherTried : Bool
  /-- PSH2 runs slot-safe from ROM after a refused interface check (R383). -/
  romSafe : Bool
  /-- Auto-confirm time of the trial in force, units of 10 s (R393). -/
  trialDelay : Nat
  /-- The copy of the boot-control record written last, and its sequence number (R380). -/
  bootCopy : Nat
  bootSeq : Nat
  /-- Requests at the key vault, the one it signs first (R373). -/
  vault : List VaultJob
  /-- The last SPDM response. -/
  reply : Option SpdmReply
  deriving DecidableEq, Repr

/-- An image whose slot A runs, with nothing staged. -/
def FwImage.reset : FwImage := ⟨0, false, false, false, 0, [], [], []⟩

/-- Firmware state of a module never updated. -/
def Sec.reset : Sec where
  gld := FwImage.reset
  psh := FwImage.reset
  joint := false
  jointTrial := false
  rolledBack := false
  strict := false
  lastResult := 0
  restarting := false
  checkDue := false
  coldWaits := false
  otherTried := false
  romSafe := false
  trialDelay := 6
  bootCopy := 1
  bootSeq := 0
  vault := []
  reply := none

end Sys2Proof.Machine
end

