-- ==== Sys2Proof/Machine/StCapture.lean ====
section
/-!
DEFINITION. Machine/StCapture.lean: the state of capture ingest, the Syllabus classifier and context egress beside the CAP and SYL registers (spec/09_capture_syllabus.md).
-/
namespace Sys2Proof.Machine

/-- A record from its framing until its space is freed (09 R229, R237). -/
structure Rec where
  id : Nat
  stream : Nat
  /-- From the Ethernet ports. -/
  vita : Bool
  /-- Table 09-2 or R236. -/
  seq : Nat
  signature : Nat
  channel : Nat
  flags : Nat
  stamp : Nat
  len : Nat
  inExp : Int
  user0 : Nat
  user1 : Nat
  /-- Fields 0x20 to 0x40 of Table 09-4 that arrived. -/
  fields : List (Nat × Nat)
  /-- The presence word, field 0x18. -/
  presence : Nat
  /-- The 64 header bytes, as they came or as R236 fills them. -/
  header : List Byte
  fragment : Bool
  truncated : Bool
  /-- Payload bytes landed. -/
  data : List Byte
  /-- Its end of record has arrived, at this GLB_TIME. -/
  ended : Bool
  time : Nat
  /-- The bank fixed at its first pass: 0, 1, or 2 for none (R246). -/
  bank : Option Nat
  bypass : Nat
  pass : Nat
  /-- Stage at which the next pass starts. -/
  stage : Nat
  metadata : Nat
  route : Option (Nat × Nat)
  prio : Option Nat
  /-- The stream default's vectors as its last pass ended (R243). -/
  vectors : Nat
  tag : Nat
  drop : Bool
  mirror : Bool
  /-- Its passes have ended (R243). -/
  classified : Bool
  /-- Its place in the order in which work became ready (10 R266). -/
  ready : Nat
  /-- The standing descriptor it started under, and whether that asks for context packets. -/
  flight : Option Nat
  egress : Bool
  /-- A burst was completed with zeros (R251). -/
  short : Bool
  /-- Bytes beyond its vectors have been counted (R238). -/
  surplus : Bool
  /-- Its verdict has been given, or it was dropped or discarded. -/
  finished : Bool
  deriving DecidableEq, Repr

/-- A standing CLASSIFY_STREAM (06 R146). -/
structure Standing where
  flight : Nat
  stream : Nat
  /-- Records that have started under it, verdicts given, verdicts dropped. -/
  taken : Nat
  done : Nat
  dropped : Nat
  /-- Taken over: it completes when its records in the fabric are reported. -/
  leaving : Bool
  deriving DecidableEq, Repr

/-- A context packet that waits for its port (09 R248, 11 R300). -/
structure EgressPkt where
  bytes : List Byte
  since : Nat
  deriving DecidableEq, Repr

/-- The record that the blocks of the Capture link belong to: its number if it was kept, none if it was discarded at its header, and what the CRC covers (R231, R232). -/
structure LinkRec where
  id : Option Nat
  stream : Nat
  len : Nat
  header : List Byte
  data : List Byte
  deriving DecidableEq, Repr

/-- Ingest beside the registers. -/
structure Capture where
  /-- Records in arrival order. -/
  recs : List Rec
  /-- The record whose payload the Capture link carries. -/
  onLink : Option LinkRec
  /-- Per stream, record_seq of the next VITA record (R236). -/
  vitaSeq : List Nat
  standing : List Standing
  /-- Images of rule banks 0 and 1; unlisted bytes 0. -/
  bank0 : Store Byte
  bank1 : Store Byte
  /-- A shadow build runs (R245). -/
  building : Bool
  /-- The shadow bank, as it stands or once built, holds a built image: SYL_STATUS.active_valid after a flip (Table 09-13). -/
  shadowGood : Bool
  /-- A bank swap has flipped: its flight, the bank now active, the time. -/
  flipped : Option (Nat × Nat × Nat)
  /-- Packets queued per port, oldest first; sent ones, newest last. -/
  egress : List (List EgressPkt)
  sent : List (Nat × List Byte)
  /-- When the packet sent last on each port was queued, `now` in ns. -/
  sentSince : List Nat
  /-- Per stream, record_seq + 1 of the record released last, 0 before any (11 Table 11-6). -/
  released : List Nat
  /-- Per egress entry, record_seq of its last verdict (Table 09-10 word 12). -/
  lastOut : List Nat
  deriving DecidableEq, Repr

/-- Ingest at reset. -/
def Capture.reset : Capture where
  recs := []
  onLink := none
  vitaSeq := List.replicate 8 0
  standing := []
  bank0 := []
  bank1 := []
  building := false
  shadowGood := false
  flipped := none
  egress := [[], []]
  sent := []
  sentSince := [0, 0]
  released := List.replicate 8 0
  lastOut := List.replicate 8 0

end Sys2Proof.Machine
end

