-- ==== Sys2Proof/Machine/StDebug.lean ====
section
/-!
DEFINITION. Machine/StDebug.lean: the state of the debug port, the cores as the debugger sees them and the trace unit (spec/15_debug_trace.md).
-/
namespace Sys2Proof.Machine

open Sys2Proof

/-- One management core as core debug space shows it (15 Table 15-4). -/
structure Core where
  haltReq : Bool
  halted : Bool
  /-- A halt waits for the locked sequence to end (R417). -/
  deferred : Bool
  /-- The locked sequence the core is inside. -/
  lock : Option LockSeq
  lockBroken : Bool
  cause : Nat
  dpc : Nat
  /-- Breakpoints 0 and 1: enabled, and address bits [31:1]. -/
  bps : List (Bool × Nat)
  /-- Registers 0 to 31; register 0 reads 0. -/
  gpr : List Nat
  /-- The halt_cause a deferred halt will show: request, breakpoint or step. -/
  why : Nat
  deriving DecidableEq, Repr

/-- One TAP's DACCESS data register (15 Table 15-3). -/
structure Tap where
  /-- Held in Test-Logic-Reset by TRST_N (R401). -/
  inReset : Bool
  busy : Bool
  /-- Status and data the running access will leave. -/
  nextStatus : Nat
  nextData : Word
  /-- Status and data of the access that completed last. -/
  status : Nat
  data : Word
  deriving DecidableEq, Repr

/-- One trace record: header fields and value words (15 R410, Table 15-6). -/
structure TraceRec where
  source : Nat
  write : Bool
  part : Nat
  space : Nat
  range : Nat
  sizeLog2 : Nat
  time : Nat
  addr : Nat
  words : List Nat
  deriving DecidableEq, Repr

/-- The debug and trace units beside the DBG registers. -/
structure Debug where
  /-- GLD1 cores 0 to 3 and the PSH2 core, 4. -/
  cores : List Core
  /-- GLD1 core memory, by word address of space 0b10, where it differs from `Config.coreWord` (15 R406). -/
  coreMem : Store Word
  /-- Which run last changed the data memory of cores 0 to 3, and which load the instruction memory: the model's own field. -/
  coreEra : List Nat
  /-- The PSH2 TAP and the GLD1 TAP. -/
  tapPsh : Tap
  tapGld : Tap
  /-- The power-fail detector has fired: halt requests to PSH2 are refused until Off-Settled (R418). -/
  noHaltPsh : Bool
  /-- The staging queue, oldest first (R411). -/
  queue : List TraceRec
  /-- Records dropped since the last marker (R410). -/
  dropped : Nat
  /-- The on-chip buffer's bytes (R412). -/
  buf : Store Byte
  /-- Bytes written to it since it was emptied, at most its size. -/
  bufUsed : Nat
  /-- Bytes of records written to the host ring since the write pointer was last written out (R412). -/
  sinceWp : Nat
  deriving DecidableEq, Repr

/-- A running core, nothing set. -/
def Core.reset : Core := ⟨false, false, false, none, false, 0, 0, [(false, 0), (false, 0)], List.replicate 32 0, 0⟩

/-- The core outside debug mode: running, no halt asked for, no breakpoint (R405). -/
def Core.run (c : Core) : Core :=
  { c with haltReq := false, halted := false, deferred := false, lock := none, bps := [(false, 0), (false, 0)] }

/-- A core goes on: no halt stands. -/
def Core.resume (c : Core) : Core := { c with haltReq := false, halted := false, deferred := false, lock := none }

/-- A TAP that has made no access. -/
def Tap.reset : Tap := ⟨false, false, 0, 0, 0, 0⟩

/-- Debug state at GLD1 cold reset. -/
def Debug.reset : Debug where
  cores := List.replicate 5 Core.reset
  coreMem := []
  coreEra := [0, 0, 0, 0, 0]
  tapPsh := Tap.reset
  tapGld := Tap.reset
  noHaltPsh := false
  queue := []
  dropped := 0
  buf := []
  bufUsed := 0
  sinceWp := 0

end Sys2Proof.Machine
end

