-- ==== Sys2Proof/Machine/StAkgal.lean ====
section
/-!
DEFINITION. Machine/StAkgal.lean: the state of the Akgal ports, of shared models and of a pair beside the AKG registers (spec/11_akgal_pairs.md).
-/
namespace Sys2Proof.Machine

open Sys2Proof

/-- What a port puts on its link (11 Table 11-4). -/
inductive AkOut where
  | data (seq ack : Nat) (frame : AkFrame)
  | ack (n : Nat)
  | nak (n : Nat)
  | ident (rec : IdRecord) (last : Nat)
  deriving DecidableEq, Repr

/-- One Akgal port (11 R278 to R282). -/
structure AkPort where
  /-- Number of the next DATA frame. -/
  next : Nat
  /-- DATA frames not yet acknowledged, oldest first, with their payload bytes. -/
  unacked : List (Nat × Nat × AkFrame)
  /-- DATA frames held back by the window, the buffer or a link that is not up. -/
  waiting : List AkFrame
  /-- Number expected from the peer. -/
  expect : Nat
  /-- A NAK has been sent and the expected frame has not arrived. -/
  nakOut : Bool
  /-- Consecutive replay timeouts without progress. -/
  timeouts : Nat
  /-- Frames put on the link, oldest first. -/
  out : List AkOut
  /-- The peer's identity record accepted last. -/
  peer : Option IdRecord
  deriving DecidableEq, Repr

/-- A descriptor whose completion waits until the peer holds what it mirrors (Table 11-6). -/
structure MirrorWait where
  seq : Nat
  flight : Nat
  status : Nat
  r0 : Nat
  r1 : Nat
  deriving DecidableEq, Repr

/-- A pairing under way on this member (11 R293). -/
structure Pairing where
  flight : Nat
  role : Nat
  /-- Deadline, `now` in ns. -/
  deadline : Nat
  peerWant : Option Nat
  nonce : List Byte
  peerNonce : Option (List Byte)
  peerChain : Option (List Byte)
  signed : Bool
  peerSigned : Bool
  copying : Bool
  deriving DecidableEq, Repr

/-- What a Deputy holds of its Prefect (11 R289, R291). -/
structure Mirror where
  runs : List Run
  flights : List Flight
  /-- Entries of ended descriptors that the Prefect had not written. -/
  entries : List Held
  /-- SQ heads, and CQ tails and phases, by ring. -/
  heads : List (Nat × Nat)
  tails : List (Nat × Nat × Nat)
  release : List Nat
  /-- Counts of each standing CLASSIFY_STREAM: flight, stream, taken, done, dropped. -/
  standing : List (List Nat)
  /-- Snapshots received and not yet applied. -/
  arrived : List Run
  deriving DecidableEq, Repr

/-- A shared model slot on this member (11 R287, R288). -/
structure Share where
  slot : Nat
  /-- Members that have loaded the image, with its CRC. -/
  loaded : List (Nat × Nat)
  /-- The load that waits for the other members: flight, results. -/
  load : Option (Nat × Nat × Nat)
  /-- Members that have fetched their descriptor, and its bytes. -/
  fetched : List (Nat × List Byte)
  /-- The run that waits for them. -/
  run : Option Run
  /-- Partial sums received, by replica × 2^28 + position. -/
  sums : Store Int
  /-- Parts of the present offer received by the leader: member, energy, matches. -/
  offers : List (Nat × Int × List Bool)
  /-- The offer this member has sent and that is not yet decided: replica, packed part, rung. -/
  part : Option (Nat × Nat × Nat)
  /-- Waves of the present sweep visited here, and the replica's energy as it began (R288). -/
  wave : Nat
  base : Int
  /-- A wave has been visited here, and the members that have finished it too, one entry a wave. -/
  awaits : Bool
  waved : List Nat
  deriving DecidableEq, Repr

/-- The Akgal block beside the AKG registers. -/
structure Akgal where
  ports : List AkPort
  shares : List Share
  pairing : Option Pairing
  mirror : Mirror
  /-- Pair-control messages that arrived and wait for their step, oldest first. -/
  inbox : List AkMsg
  waits : List MirrorWait
  /-- Snapshots captured while port 0 was down. -/
  unsent : List Run
  /-- Refresh writes to mirror at the next tick. -/
  refreshes : List (Nat × Nat)
  /-- This member's SWAP under way: its flight; and when the request was sent. -/
  swap : Option (Nat × Nat)
  /-- The peer asked for the running swap; one more waits behind it. -/
  swapPeer : Bool
  swapHeld : Bool
  /-- `now` as the peer's request was taken (R301). -/
  swapAt : Nat
  /-- Runs held at the boundary where the swap leaves them, and the Prefect's state has been sent (R295). -/
  swapReady : List Nat
  swapSent : Bool
  /-- The Deputy is sent every mirrored item: a copy runs or has run and nothing was lost since. -/
  follows : Bool
  /-- A full copy runs (R293). -/
  copying : Bool
  /-- This member's claim is not answered: it is to be sent, or has been (R302). -/
  split : Bool
  /-- The CLAIM descriptor that completes with the answer. -/
  claimBy : Option Nat
  /-- Frames this module has sent into its system, for topology 0b10 (R284). -/
  spread : Nat
  /-- `now` when port 0 went down while paired. -/
  downAt : Nat
  deriving DecidableEq, Repr

/-- A port at reset: enabled, nothing sent. -/
def AkPort.reset : AkPort := ⟨0, [], [], 0, false, 0, [], none⟩

/-- A mirror that holds nothing. -/
def Mirror.reset : Mirror := ⟨[], [], [], [], [], [], [], []⟩

/-- The Akgal block at reset. -/
def Akgal.reset : Akgal where
  ports := List.replicate 4 AkPort.reset
  shares := []
  pairing := none
  mirror := Mirror.reset
  inbox := []
  waits := []
  unsent := []
  refreshes := []
  swap := none
  swapPeer := false
  swapHeld := false
  swapAt := 0
  swapReady := []
  swapSent := false
  follows := false
  copying := false
  split := false
  claimBy := none
  spread := 0
  downAt := 0

end Sys2Proof.Machine
end

