-- ==== Sys2Proof/Machine/State.lean ====
section
/-!
DEFINITION. Machine/State.lean: the state of the module, the reasons a step can stop, and the state after reset.
-/
namespace Sys2Proof.Machine

/-- Why a step faults. -/
inductive Fault where
  /-- Raised by a command that names a unit the hardware does not have (a ring above 63, a port above 3, a unit index out of range): no such command exists. Safe: nothing is claimed of it. -/
  | noSuchUnit
  deriving DecidableEq, Repr

/-- Why a command is refused. -/
inductive Refusal where
  /-- Raised by an arm of exec whose command has no meaning yet. Safe: nothing is claimed of it. -/
  | notModelled (mnemonic : String)
  deriving DecidableEq, Repr

/-- The whole module: both dies, memory, flash and the queue of commands that wait. -/
structure State where
  /-- Every BAR0 register word; PWR and RCD words are PSH2's own (00 R4, 16 R422). -/
  regs : Store Word
  /-- GLD1's mirror of the PWR and RCD words (03 R80). -/
  mirror : Store Word
  /-- Latched high halves of 64-bit quantities, by the offset that answers them (00 R5). -/
  latch : Store (Option Word)
  /-- High halves written and waiting for the low half (00 R5). -/
  hiStage : Store (Option Word)
  /-- What the last register read returned. -/
  lastRead : Word
  /-- Nanoseconds the model has idled. -/
  now : Nat
  /-- `now` at the last GLD1 cold reset. -/
  coldAt : Nat
  /-- Counter that makes each open value fresh: the model's own field. -/
  fresh : Nat
  /-- Tile, SerDes and other pins: SLOT_ID straps (02 R48). -/
  slotStraps : Nat
  host : HostIf
  gpPsh : GpSide
  gpGld : GpSide
  /-- Source side of each clock's crossings held in reset: from a declared loss until the clock's ok bit sets (01 R21). -/
  crossHeld : List Bool
  svc : Service
  brk : Breaker
  meter : Meter
  pmb : PmBus
  card : Recorder
  /-- PSH2's half of the 101 ledger entries (12 R324). -/
  mgmt : List MgmtEntry
  thermal : Thermal
  sec : Sec
  dbg : Debug
  fab : Fabric
  pass : HallPass
  cap : Capture
  akg : Akgal
  /-- LPDDR5X, listed where it differs from `Config.dramByte` (01 R423). -/
  dram : Store Byte
  /-- Which loss of contents or rewriting of an area came last: the model's own field. -/
  dramEra : DramEra
  /-- The serial NOR flash (13 R348, 14 Table 14-4), listed where it differs from `norBlank`. -/
  nor : Store Byte
  /-- Commands that wait, first in first out. -/
  pending : List Instr
  deriving DecidableEq, Repr

/-- The module right after reset: PSH2's supply has just risen, nothing has run yet, every register reads its reset word, the flash is blank and no command waits (05 R110, R119; 16 R426, R427). No clock's crossings count as held before the clock has been declared lost: 01 R21 speaks of a declared loss only (DESIGN CHOICE, log 55). -/
def State.reset : State where
  regs := []
  mirror := []
  latch := []
  hiStage := []
  lastRead := 0
  now := 0
  coldAt := 0
  fresh := 0
  slotStraps := 0
  host := HostIf.reset
  gpPsh := GpSide.reset
  gpGld := GpSide.reset
  crossHeld := List.replicate 9 false
  svc := Service.reset
  brk := Breaker.reset
  meter := Meter.reset
  pmb := PmBus.reset
  card := Recorder.reset
  mgmt := List.replicate 101 ⟨1, false, true⟩
  thermal := Thermal.reset
  sec := Sec.reset
  dbg := Debug.reset
  fab := Fabric.reset
  pass := HallPass.reset
  cap := Capture.reset
  akg := Akgal.reset
  dram := []
  dramEra := DramEra.reset
  nor := []
  pending := []

/-! The state with one component replaced: every change outside the register words goes through these. -/

def State.withRegs (s : State) (v : Store Word) : State := { s with regs := v }
def State.withMirror (s : State) (v : Store Word) : State := { s with mirror := v }
def State.withLatch (s : State) (v : Store (Option Word)) : State := { s with latch := v }
def State.withHiStage (s : State) (v : Store (Option Word)) : State := { s with hiStage := v }
def State.withLastRead (s : State) (v : Word) : State := { s with lastRead := v }
def State.withNow (s : State) (v : Nat) : State := { s with now := v }
def State.withColdAt (s : State) (v : Nat) : State := { s with coldAt := v }
def State.withFresh (s : State) (v : Nat) : State := { s with fresh := v }
def State.withSlotStraps (s : State) (v : Nat) : State := { s with slotStraps := v }
def State.withHost (s : State) (v : HostIf) : State := { s with host := v }
def State.withGpPsh (s : State) (v : GpSide) : State := { s with gpPsh := v }
def State.withGpGld (s : State) (v : GpSide) : State := { s with gpGld := v }
def State.withCrossHeld (s : State) (v : List Bool) : State := { s with crossHeld := v }
def State.withSvc (s : State) (v : Service) : State := { s with svc := v }
def State.withBrk (s : State) (v : Breaker) : State := { s with brk := v }
def State.withMeter (s : State) (v : Meter) : State := { s with meter := v }
def State.withPmb (s : State) (v : PmBus) : State := { s with pmb := v }
def State.withCard (s : State) (v : Recorder) : State := { s with card := v }
def State.withMgmt (s : State) (v : List MgmtEntry) : State := { s with mgmt := v }
def State.withThermal (s : State) (v : Thermal) : State := { s with thermal := v }
def State.withSec (s : State) (v : Sec) : State := { s with sec := v }
def State.withDbg (s : State) (v : Debug) : State := { s with dbg := v }
def State.withFab (s : State) (v : Fabric) : State := { s with fab := v }
def State.withCap (s : State) (v : Capture) : State := { s with cap := v }
def State.withAkg (s : State) (v : Akgal) : State := { s with akg := v }
def State.withDram (s : State) (v : Store Byte) : State := { s with dram := v }
def State.withDramEra (s : State) (v : DramEra) : State := { s with dramEra := v }
def State.withNor (s : State) (v : Store Byte) : State := { s with nor := v }
def State.withPass (s : State) (v : HallPass) : State := { s with pass := v }
def State.withPending (s : State) (v : List Instr) : State := { s with pending := v }

end Sys2Proof.Machine
end

