-- ==== Sys2Proof/Machine/Ops.lean ====
section
/-!
DEFINITION. Machine/Ops.lean: the named operations every family shares: register fields, recorder counters, interrupt causes, MSI-X messages, GP link queues and PMB_ALERT_N.
-/
namespace Sys2Proof.Machine

open Sys2Proof

/-- Bits [lo + width - 1 : lo] of a word. -/
def fieldOf (w : Word) (lo width : Nat) : Nat := (w.toNat >>> lo) % 2 ^ width

/-- The word with bits [lo + width - 1 : lo] replaced by the low bits of `v`. -/
def withField (w : Word) (lo width v : Nat) : Word :=
  (w &&& ~~~(BitVec.ofNat 32 (2 ^ width - 1) <<< lo)) ||| (BitVec.ofNat 32 (v % 2 ^ width) <<< lo)

/-- The register word at a BAR0 offset. -/
def State.word (s : State) (off : Nat) : Word := Store.read resetWord s.regs off

/-- Set a register word. -/
def State.setWord (s : State) (off : Nat) (w : Word) : State :=
  s.withRegs (Store.write resetWord s.regs off w)

/-- The value of a register field. -/
def State.get (s : State) (f : Fld) : Nat := fieldOf (s.word f.off) f.lo f.width

/-- Set a register field. -/
def State.put (s : State) (f : Fld) (v : Nat) : State :=
  s.setWord f.off (withField (s.word f.off) f.lo f.width v)

/-- A field read as a flag. -/
def State.flag (s : State) (f : Fld) : Bool := decide (s.get f ≠ 0)

/-- Set a one-bit field from a Bool. -/
def State.putFlag (s : State) (f : Fld) (b : Bool) : State := s.put f (if b then 1 else 0)

/-- Add `n` to a counter field that saturates at its largest value. -/
def State.add (s : State) (f : Fld) (n : Nat) : State := s.put f (min (s.get f + n) (2 ^ f.width - 1))

/-- Count one event in a saturating counter field. -/
def State.bump (s : State) (f : Fld) : State := s.add f 1

/-- GLB_TIME: nanoseconds since GLD1 cold reset (06 R163). -/
def State.time (s : State) : Nat := s.now - s.coldAt

/-- Continue when `ok` holds; otherwise the command names a unit the hardware does not have. -/
def need (ok : Bool) (s : State) : Host.Outcome State Fault Refusal :=
  if ok then .next s else .fault .noSuchUnit

/-- What a command's meaning answers. -/
abbrev Out := Host.Outcome State Fault Refusal

/-- Run `f` when `c` holds. -/
def State.when_ (s : State) (c : Bool) (f : State → State) : State := if c then f s else s

/-- Run `f` on every element in turn. -/
def State.each {α : Type} (s : State) (l : List α) (f : State → α → State) : State := l.foldl f s

/-- Two's complement value of the low `w` bits of `v`. -/
def signed (w v : Nat) : Int := if v % 2 ^ w < 2 ^ (w - 1) then (v % 2 ^ w : Nat) else (v % 2 ^ w : Nat) - (2 ^ w : Nat)

/-- The low `w` bits of an integer in two's complement. -/
def unsigned (w : Nat) (v : Int) : Nat := (v % (2 ^ w : Nat)).toNat

/-- Limit an integer to [lo, hi]. -/
def clampInt (lo hi v : Int) : Int := if v < lo then lo else if hi < v then hi else v

/-- `n` little-endian bytes of `v` (00 R7). -/
def leBytes (n v : Nat) : List Byte :=
  match n with
  | 0 => []
  | n + 1 => BitVec.ofNat 8 v :: leBytes n (v / 256)

/-- The number little-endian bytes spell (00 R7). -/
def leNat : List Byte → Nat
  | [] => 0
  | b :: t => b.toNat + 256 * leNat t

/-- `n` bytes of a list from `i` on, missing bytes 0. -/
def bytesAt (l : List Byte) (i n : Nat) : List Byte := (List.range n).map (fun k => l.getD (i + k) 0)

/-- The little-endian number of `n` bytes from `i` on. -/
def natAt (l : List Byte) (i n : Nat) : Nat := leNat ((l.drop i).take n)

/-! Writes under the access codes (00 R1, R6). -/

/-- A field of a word written with `value`: the word after it, and whether the value was offending. `expert` tells whether the block is in Expert. -/
def AccRow.write (r : AccRow) (expert : Bool) (value : Word) (acc : Word × Bool) : Word × Bool :=
  let v := fieldOf value r.lo r.width
  let cur := fieldOf acc.1 r.lo r.width
  match r.acc with
  | .rw =>
    if r.expert && !expert then acc
    else if r.legal v then (withField acc.1 r.lo r.width v, acc.2)
    else (acc.1, true)
  | .w1c => (withField acc.1 r.lo r.width (cur &&& (2 ^ r.width - 1 - v)), acc.2)
  | .w1s => if r.expert && !expert then acc else (withField acc.1 r.lo r.width (cur ||| v), acc.2)
  | .ro | .wo | .rc => acc

/-- The word at `off` after a write of `value`, field by field, and whether some field was offending. -/
def writtenWord (cur : Word) (off : Nat) (expert : Bool) (value : Word) : Word × Bool :=
  ((rowsOf off).filter (fun r => r.covers off)).foldl (fun acc r => r.write expert value acc) (cur, false)

/-- The fields an RC read clears, and the word it leaves: reset values for them (00 R1). -/
def rcCleared (cur : Word) (off : Nat) : Word :=
  ((rowsOf off).filter (fun r => r.covers off)).foldl (fun w r =>
    match r.acc with
    | .rc => withField w r.lo r.width (fieldOf (resetWord off) r.lo r.width)
    | _ => w) cur

/-- Bits of a word that some field of the tables gives and that can be read: WO and reserved bits read 0. -/
def readableWord (cur : Word) (off : Nat) : Word :=
  ((rowsOf off).filter (fun r => r.covers off)).foldl (fun w r =>
    match r.acc with
    | .wo => w
    | _ => withField w r.lo r.width (fieldOf cur r.lo r.width)) 0

/-! 64-bit quantities (00 R5). -/

/-- No half is latched or staged where nothing is listed. -/
def noHalf (_ : Nat) : Option Word := none

/-- A high half is written and waits for the low one. -/
def State.stageHi (s : State) (off : Nat) (v : Word) : State := s.withHiStage (Store.write noHalf s.hiStage off (some v))

/-- The high half that a write of the low half at `off` commits: the one that waits, else the present one. -/
def State.stagedHi (s : State) (off : Nat) : Word := (Store.read noHalf s.hiStage (off + 4)).getD (s.word (off + 4))

/-- The high half waits no more. -/
def State.stageTaken (s : State) (off : Nat) : State := s.withHiStage (Store.write noHalf s.hiStage (off + 4) none)

/-- The low offset of the 64-bit quantity that a register belongs to: ring bases, a partition's masks of 64 rings, MSI-X addresses and the counters and addresses of 04 Table 04-8, 07 Table 07-9 and 15 Table 15-9 (06 Tables 06-15, 06-16). -/
def pair64 (off : Nat) : Option Nat :=
  let lo := if off % 8 = 4 then off - 4 else off
  if lo = 0x18 ∨ lo = 0x210 ∨ lo = 0x20020 ∨ lo = 0xA0460 ∨ lo = 0xA0468 ∨ lo = 0xA0470 ∨ lo = 0xD0130 then some lo
  else if off = 0xD0144 ∨ off = 0xD0148 then some 0xD0144
  else if 0x11000 ≤ off ∧ off < 0x12800 ∧ off % 0x1000 < 0x800 ∧ off % 0x20 < 8 then some lo
  else if 0x13000 ≤ off ∧ off < 0x13240 ∧ (off % 64 = 4 ∨ off % 64 = 8) then some (off / 64 * 64 + 4)
  else if 0x13000 ≤ off ∧ off < 0x13240 ∧ (off % 64 = 12 ∨ off % 64 = 16) then some (off / 64 * 64 + 12)
  else if 0x18000 ≤ off ∧ off < 0x18080 ∧ off % 16 < 8 then some lo
  else if 0xD0200 ≤ off ∧ off < 0xD0300 ∧ off % 0x20 < 16 then some lo
  else none

/-! Report Card counters (13 R345). -/

/-- Add `n` to counter `k`, saturating; a protected counter (32 to 37) has a lifetime counter only. -/
def Live.count (c : Live) (k n : Nat) : Live :=
  let up := fun v => min (v + n) 0xFFFFFFFF
  { c with
    cycle := if 32 ≤ k && k ≤ 37 then c.cycle else c.cycle.modify k up
    life := c.life.modify k up }

/-- Count an event of PSH2, in the hold copy while the summary is frozen (13 R358). -/
def State.pshCount (s : State) (k : Nat) : State :=
  if s.card.frozenBar || s.card.frozenPmb then
    s.withCard { s.card with hold := s.card.hold.count k 1 }
  else s.withCard { s.card with live := s.card.live.count k 1 }

/-- Count an event of GLD1 among the increments it sends every 100 ms (13 R346). -/
def State.gldCount (s : State) (k : Nat) : State :=
  s.withCard { s.card with gld := s.card.gld.count k 1 }

/-- Make a flush due with the given cause bit; `spaced` when Table 13-6 gives it fault_spacing (13 R350). -/
def State.flushDue (s : State) (bit : Nat) (spaced : Bool) : State :=
  (s.withCard { s.card with
      due := s.card.due ||| 2 ^ bit
      dueSpaced := spaced && (s.card.due = 0 || s.card.dueSpaced) })
  |>.put Reg.RCD_STATUS.flush_pending 1

/-! Interrupts (06 R153, R154). -/

/-- Append a write to those issued to the host. -/
def State.post (s : State) (p : Posted) : State :=
  s.withHost { s.host with posted := s.host.posted ++ [p] }

/-- The configuration controls of a function. -/
def State.fnCfg (s : State) (part : Nat) : FnCfg := s.host.fn.getD part FnCfg.reset

/-- The MSI-X entry of vector `v` of function `part`. -/
def State.msixVec (s : State) (part v : Nat) : MsixVec := s.host.msix.getD (8 * part + v) ⟨0, 0, true, false⟩

/-- Can the vector send now? -/
def State.canSend (s : State) (part v : Nat) : Bool :=
  (s.fnCfg part).busMaster && (s.fnCfg part).msixEnable && !(s.fnCfg part).funcMask && !(s.msixVec part v).masked

/-- Set the pending bit of a vector. -/
def State.setPending (s : State) (part v : Nat) (b : Bool) : State :=
  s.withHost { s.host with msix := s.host.msix.modify (8 * part + v) (fun m => { m with pending := b }) }

/-- A message of the vector falls due: sent, or held as its one pending message. -/
def State.sendVec (s : State) (part v : Nat) : State :=
  if s.canSend part v then
    (s.setPending part v false).post (.msix part v (s.msixVec part v).addr (s.msixVec part v).data)
  else s.setPending part v true

/-- The partition fields in force. -/
def State.part (s : State) (p : Nat) : PartCfg :=
  s.host.parts.getD p ⟨0, 0, 0, 0, 0, 0, false, false, false, 0, false, 0, 0⟩

/-- Do a CQ's entries wait on-die for resume after a claim, the pair CQ apart (11 R297)? -/
def State.awaitsResume (s : State) (n : Nat) : Bool :=
  s.flag Reg.AKG_RESUME_CTRL.resume_pending && decide (n ≠ s.get Reg.AKG_PAIR_CFG.pair_cq)

/-- Let an entry wait on-die for its CQ (06 R158, 11 R297). -/
def State.hold (s : State) (h : Held) : State :=
  s.withHost { s.host with held := s.host.held ++ [{ h with
    waited := s.flag (Reg.HIF_CQ_STATUS.full h.cq) || s.host.cqStopped.getD h.cq false || s.awaitsResume h.cq }] }

/-- The event entry of a cause (06 Table 06-9a, Table 06-12): event code in the tag, unit and detail in result0. -/
def eventEntry (part bit unit detail cq time : Nat) : Entry :=
  { tag := bit + 1, status := 0, kind := .event, infoShort := false, infoReplayed := false, infoCancel := false,
    sq := cq, part := part, replay := 0, result0 := unit + detail * 2 ^ 32, result1 := 0, time := time }

/-- Post the event entry of a newly set cause when the partition asks for events. -/
def State.postEvent (s : State) (part bit unit detail : Nat) : State :=
  if (s.part part).eventEn then
    s.hold ⟨(s.part part).eventCq, eventEntry part bit unit detail (s.part part).eventCq s.time, true, false, none, none, none, false⟩
  else s

/-- The cause word of a function: GLB_INT_CAUSE or the VF's copy (06 R134). -/
def State.causes (s : State) (part : Nat) : Nat :=
  if part = 0 then s.get Reg.GLB_INT_CAUSE.cause else (s.host.vfCause.getD (part - 1) 0).toNat

/-- The enable word of a function. -/
def State.enables (s : State) (part : Nat) : Nat :=
  if part = 0 then s.get Reg.GLB_INT_ENABLE.enable else (s.host.vfEnable.getD (part - 1) 0).toNat

/-- Set the cause word of a function. -/
def State.setCauses (s : State) (part v : Nat) : State :=
  if part = 0 then s.put Reg.GLB_INT_CAUSE.cause v
  else s.withHost { s.host with vfCause := s.host.vfCause.set (part - 1) (BitVec.ofNat 32 v) }

/-- Raise a cause to one function: the bit sets; when it newly sets, vector 0 is sent if it is enabled, and the event entry is posted (06 R154). -/
def State.raiseTo (s : State) (bit unit detail part : Nat) : State :=
  if (s.causes part).testBit bit then s
  else
    let s1 := s.setCauses part (s.causes part ||| 2 ^ bit)
    let s2 := if (s1.enables part).testBit bit then s1.sendVec part 0 else s1
    s2.postEvent part bit unit detail

/-- Raise a cause to the PF; while GLD1 is held in reset there is nothing to raise it in. -/
def State.raise (s : State) (bit unit detail : Nat) : State :=
  if s.svc.rstLow then s else s.raiseTo bit unit detail 0

/-- Raise a cause marked "all" to the PF and to the VFs concerned (06 R154). -/
def State.raiseAll (s : State) (bit unit detail : Nat) (vfs : List Nat) : State :=
  if s.svc.rstLow then s else (s.raise bit unit detail).each vfs (fun t p => t.raiseTo bit unit detail p)

/-- Cause bits of Table 06-12. -/
def cause.serviceChange : Nat := 0
def cause.gpLink : Nat := 1
def cause.clockLost : Nat := 2
def cause.slot : Nat := 3
def cause.breaker : Nat := 4
def cause.metering : Nat := 5
def cause.thermal : Nat := 6
def cause.tileFault : Nat := 7
def cause.ledger : Nat := 8
def cause.akgal : Nat := 9
def cause.pair : Nat := 10
def cause.firmware : Nat := 11
def cause.ringError : Nat := 12
def cause.verdictDrop : Nat := 13
def cause.recorder : Nat := 14
def cause.debug : Nat := 15

/-- The ledger index that stands for no unit (06 Table 06-9a). -/
def noUnit : Nat := 0xFFFF

/-- VF 1 to 8. -/
def allVfs : List Nat := [1, 2, 3, 4, 5, 6, 7, 8]

/-- The service-change cause, to all (06 Table 06-12). -/
def State.raiseService (s : State) : State :=
  s.raiseAll cause.serviceChange noUnit (s.word 0x100).toNat allVfs

/-! Reachability. -/

/-- Service state codes (05 Table 05-1). -/
def svcBoot : Nat := 1
def svcHomeroom : Nat := 2
def svcFull : Nat := 3
def svcEntering : Nat := 4
def svcRecess : Nat := 5
def svcWaking : Nat := 6
def svcRecovery : Nat := 7
def svcQuiesced : Nat := 8

/-- GLB_SERVICE.state. -/
def State.service (s : State) : Nat := s.get Reg.GLB_SERVICE.state

/-- Does the PCIe core carry accesses: GLD1 out of reset, link trained, PERST_N high, REFCLK not lost (05 R114, 01 R21)? -/
def State.pcieUp (s : State) : Bool := !s.svc.rstLow && s.host.linkUp && !s.host.perstLow && !s.crossHeld.getD 0 false

/-- Does the endpoint carry BAR accesses: the PCIe core does, and the BARs are enabled (05 Table 05-1, R114)? -/
def State.hostUp (s : State) : Bool := s.pcieUp && decide (2 ≤ s.service) && decide (s.service ≤ 7)

/-- May an Ethernet or Akgal link be up: not in Boot, Recovery, Quiesced or Recess, nor past the commit point of an entry (02 R32, R33)? -/
def State.linksRun (s : State) : Bool :=
  !s.svc.rstLow && (decide (s.service = svcHomeroom) || decide (s.service = svcFull) || decide (s.service = svcWaking) ||
    (decide (s.service = svcEntering) && decide (s.now < s.svc.commitAt)))

/-- Is a management core halted: GLD1's 0 to 3, PSH2's 4 (15 R406)? -/
def State.halted (s : State) (c : Nat) : Bool := (s.dbg.cores.getD c Core.reset).halted

/-- Work that core `c` carries waits while the core is halted (15 R407). -/
def State.onCore (s : State) (c : Nat) (f : State → State) : State := if s.halted c then s else f s

/-- PSH2's own image runs, its core not halted: it answers PMBus (05 R110, 15 R407). -/
def State.pshUp (s : State) : Bool := s.svc.pshPower && s.svc.pshRun && !s.halted 4

/-- Do the PSH2 image or the ROM in ROM recovery answer PMBus (14 R394)? -/
def State.romUp (s : State) : Bool := s.svc.pshPower && (s.svc.pshRun || s.svc.romRecovery)

/-- Run a step of the power path, which needs PSH2's supply. -/
def State.viaSupply (s : State) (f : State → State) : State := if s.svc.pshPower then f s else s

/-- Run a step of PSH2's image. -/
def State.viaImage (s : State) (f : State → State) : State := if s.pshUp then f s else s

/-- DBG_STATUS shows the cores (15 Table 15-9). -/
def State.showCores (s : State) : State :=
  let bits := fun (p : Core → Bool) => ((List.range 4).map (fun c => if p (s.dbg.cores.getD c Core.reset) then 2 ^ c else 0)).sum
  let s1 := (s.put Reg.DBG_STATUS.halted (bits (·.halted))).put Reg.DBG_STATUS.deferred (bits (·.deferred))
  (s1.putFlag Reg.DBG_STATUS.psh2_halted (s.halted 4)).putFlag Reg.DBG_STATUS.psh2_deferred (s.dbg.cores.getD 4 Core.reset).deferred

/-- Change a core as the debugger sees it. -/
def State.mapCore (s : State) (c : Nat) (f : Core → Core) : State :=
  (s.withDbg { s.dbg with cores := s.dbg.cores.modify c f }).showCores

/-! GP link queues (01 R12). -/

/-- PSH2 queues a frame for GLD1. -/
def State.toGld (s : State) (m : GpMsg) : State :=
  s.withGpPsh { s.gpPsh with queue := s.gpPsh.queue ++ [m] }

/-- GLD1 queues a frame for PSH2. -/
def State.toPsh (s : State) (m : GpMsg) : State :=
  s.withGpGld { s.gpGld with queue := s.gpGld.queue ++ [m] }

/-- Does the link run: GLD1 out of reset and PSH2's management core started? -/
def State.gpRuns (s : State) : Bool := s.svc.pshPower && s.svc.pshRun && !s.svc.rstLow

/-- Is a register word one of PSH2's own, PWR or RCD? -/
def isPsh2Word (off : Nat) : Bool := decide (0xA0000 ≤ off) && decide (off < 0xC0000)

/-- PSH2 queues a mirror frame for each of its words that GLD1's mirror shows otherwise and that no queued frame carries (R11, R12, 03 R80). -/
def State.mirrorOut (s : State) : State :=
  if s.gpRuns && !s.gpPsh.lost then
    s.each (((s.regs ++ s.mirror).map (·.1)).filter isPsh2Word) (fun t off =>
      if t.word off = Store.read resetWord t.mirror off ∨ GpMsg.mirror off (t.word off) ∈ t.gpPsh.queue then t
      else t.toGld (.mirror off (t.word off)))
  else s

/-- Which use of a step notice, as a number for the open figures. -/
def StepUse.code : StepUse → Nat
  | .gangPower _ => 0 | .denseBurst _ => 1 | .restoreShed => 2 | .throttleRelease => 3 | .wake => 4

/-- GLD1 sends a step notice (03 R65): the figures are open but for the wake's 1.0 A (05 Table 05-8) and Table 03-5a's ranges. -/
def State.sendNotice (s : State) (use : StepUse) : State :=
  let fig := Config.noticeFigure use.code s.fresh
  let n : Notice := ⟨s.svc.nextNotice, if use = StepUse.wake then 10 else 1 + fig.1 % 80, fig.2.1 % 4096, 1 + fig.2.2 % 65535⟩
  ((s.withFresh (s.fresh + 1)).withSvc { s.svc with nextNotice := s.svc.nextNotice + 1, notices := s.svc.notices ++ [GldNotice.mk n use .sent] }).toPsh
    (.notice n.id n.amplitude n.start n.duration)

/-! Service state and wake (05 R109, R124, R126). -/

/-- Enter a service state; a change raises the service-change cause (06 Table 06-12). -/
def State.setService (s : State) (st : Nat) : State :=
  let s1 := ((s.put Reg.GLB_SERVICE.state st).putFlag Reg.GLB_SERVICE.full_service (st == svcFull)).putFlag
    Reg.GLB_SERVICE.homeroom (st == svcHomeroom)
  if s.service = st then s1 else s1.raiseService

/-- A wake event (05 R124, R126): from Recess the module wakes; an entry not yet committed is abandoned; a committed one completes first; further events are absorbed. -/
def State.wakeEvent (s : State) : State :=
  if s.service = svcRecess then
    let s1 := s.withHost { s.host with linkL1 := false }
    ((s1.setService svcWaking).bump Reg.GLB_RECESS_STATUS.wakes).sendNotice .wake
  else if s.service = svcEntering then
    if s.svc.commitAt ≤ s.now then s.withSvc { s.svc with wakeWaits := true }
    else (s.setService svcFull).put Reg.GLB_RECESS_STATUS.abandoned 1
  else s

/-- A host access over BAR0 or BAR2: it reaches the module when the BARs are enabled, and wakes it from Recess (05 R124). -/
def State.viaHost (s : State) (f : State → State) : State := if s.hostUp then f s.wakeEvent else s

/-- A write to a PWR or RCD register inside GLD1: dropped while the GP link is lost (01 R13), otherwise in force in PSH2 (03 R80). -/
def State.overPsh (s : State) (f : State → State) : State :=
  if s.gpGld.lost then s.put Reg.GLB_GPLINK_STATUS.write_dropped 1 else if s.pshUp then f s else s

/-- A BAR0 write to a PWR or RCD register. -/
def State.viaPsh (s : State) (f : State → State) : State := s.viaHost (fun t => t.overPsh f)

/-! PMB_ALERT_N (16 R429). -/

/-- Some source of PMB_ALERT_N is set. -/
def State.alertSource (s : State) : Bool :=
  s.pmb.cml7 || s.pmb.cml6 || s.pmb.cml5 || s.pmb.stPlaus || s.flag Reg.PWR_SLOT_STATUS.lever_event
    || s.flag Reg.PWR_SLOT_STATUS.off_request || s.flag Reg.PWR_SLOT_STATUS.slot_id_differ

/-- A source has changed from clear to set. -/
def State.alertOn (s : State) : State := s.withPmb { s.pmb with alert := true }

/-- Release PMB_ALERT_N once every source is clear. -/
def State.alertRefresh (s : State) : State := s.withPmb { s.pmb with alert := s.pmb.alert && s.alertSource }

/-- Set STATUS_CML bit 6, data refused or not acknowledged (16 R425). -/
def State.cml6 (s : State) : State :=
  let s' := if s.pmb.cml6 then s else s.alertOn
  (s'.withPmb { s'.pmb with cml6 := true })

/-- Set STATUS_CML bit 5, a failed PEC check. -/
def State.cml5 (s : State) : State :=
  let s' := if s.pmb.cml5 then s else s.alertOn
  (s'.withPmb { s'.pmb with cml5 := true })

/-- Set STATUS_CML bit 7, an unsupported command code or direction. -/
def State.cml7 (s : State) : State :=
  let s' := if s.pmb.cml7 then s else s.alertOn
  (s'.withPmb { s'.pmb with cml7 := true, acked := false })

/-- The last transaction was acknowledged at every byte. -/
def State.ack (s : State) : State := s.withPmb { s.pmb with acked := true }

/-- A data byte was not acknowledged: bit 6 sets and nothing else changes (16 R425). -/
def State.nack (s : State) : State :=
  let s' := s.cml6
  (s'.withPmb { s'.pmb with acked := false })

/-- PSH2 returns the bytes of a read. -/
def State.answer (s : State) (bytes : List Byte) : State :=
  s.withPmb { s.pmb with acked := true, reply := bytes }

/-- A PMBus write that reaches PSH2: a failed PEC or a short write is discarded (16 R425); a whole one acts. -/
def State.pmbWrite (s : State) (fin : PmbEnd) (act : State → State) : State :=
  if !s.pshUp then s
  else match fin with
    | .whole => act s.ack
    | .badPec => s.cml5
    | .short => s.cml6

/-- A PMBus read that reaches PSH2. -/
def State.pmbRead (s : State) (act : State → State) : State := if s.pshUp then act s else s

/-- A read and write command. -/
def State.pmbAcc (s : State) (x : PmbAcc) (rd : State → State) (wr : Nat → State → State) : State :=
  match x with
  | .read => s.pmbRead rd
  | .write fin v => s.pmbWrite fin (wr v)

/-! Expert state (06 R155, R156). -/

/-- Bits of GLB_EXPERT_STATUS, Table 06-3 order. -/
def blk.glb : Nat := 0
def blk.hif : Nat := 1
def blk.fab : Nat := 2
def blk.smp : Nat := 3
def blk.syl : Nat := 4
def blk.cap : Nat := 5
def blk.hps : Nat := 6
def blk.akg : Nat := 7
def blk.mem : Nat := 8
def blk.thm : Nat := 9
def blk.pwr : Nat := 10
def blk.rcd : Nat := 11
def blk.sec : Nat := 12
def blk.dbg : Nat := 13

/-- PWR and RCD share one Expert state (04 R100, 13 R363). -/
def sharedBlk (b : Nat) : Nat := if b = blk.rcd then blk.pwr else b

/-- Is the block in Expert? -/
def State.expert (s : State) (b : Nat) : Bool := (s.get Reg.GLB_EXPERT_STATUS.expert).testBit (sharedBlk b)

/-- The bits of GLB_EXPERT_STATUS that a block's Expert state shows. -/
def expertBits (b : Nat) : Nat := if sharedBlk b = blk.pwr then 2 ^ blk.pwr + 2 ^ blk.rcd else 2 ^ b

/-- Enter Expert. -/
def State.enterExpert (s : State) (b : Nat) : State :=
  s.put Reg.GLB_EXPERT_STATUS.expert (s.get Reg.GLB_EXPERT_STATUS.expert ||| expertBits b)

/-- Leave Expert and cancel the half-written pairs of every path (06 R155, R156). -/
def State.leaveExpert (s : State) (b : Nat) : State :=
  let s1 := s.put Reg.GLB_EXPERT_STATUS.expert
    (s.get Reg.GLB_EXPERT_STATUS.expert &&& (0x3FFF - expertBits b))
  (s1.withHost { s1.host with halves := s1.host.halves.filter (fun h => sharedBlk h.block ≠ sharedBlk b) })

/-- One write of an unlock key to a block's register on a path; a pair is two writes to that register (06 R155). -/
def State.unlockKey (s : State) (b : Nat) (path : MgmtPath) (key : Nat) : State :=
  let mine := fun h : HalfPair => decide (h.block = b) && decide (h.path = path)
  let half := s.host.halves.find? mine
  let s1 := s.withHost { s.host with halves := s.host.halves.filter (fun h => !mine h) }
  if key = 0x4558 then
    s1.withHost { s1.host with halves := s1.host.halves ++ [⟨b, path, s.now⟩] }
  else if key = 0x5054 then
    match half with
    | some h => if s.now ≤ h.since + 10000000 then s1.enterExpert b else s1
    | none => s1
  else s1

end Sys2Proof.Machine
end

