-- ==== Sys2Proof/Machine/RecorderOps.lean ====
section
/-!
DEFINITION. Machine/RecorderOps.lean: the Report Card recorder's shared operations: samples, blocks, erases under the journal, flushes, freezes and clears (spec/13_report_card.md).
-/
namespace Sys2Proof.Machine

open Sys2Proof

/-- The largest count a bin or counter holds. -/
def maxCount : Nat := 0xFFFFFFFF

/-- One more, saturating. -/
def satInc (v : Nat) : Nat := min (v + 1) maxCount

/-- Edge and width of histogram `h` in hundredths of its unit (13 Table 13-1). -/
def histShape (h : Nat) : Int × Int :=
  match h with
  | 0 => (0, 75) | 1 => (0, 800) | 2 => (1000, 25) | 3 => (2000, 600) | 4 => (2000, 600) | 5 => (2000, 600)
  | 6 => (-3000, 1000) | 7 => (2000, 600) | 8 => (0, 50000) | 9 => (0, 200000) | 10 => (0, 12800) | _ => (0, 100)

/-- The bin of a value: 0 under, 1 to 16 the bins, 17 over (13 R344). The value is `num / den` in the histogram's unit. -/
def histBin (h : Nat) (num : Int) (den : Nat) : Nat :=
  let i := (100 * num - (histShape h).1 * den) / ((histShape h).2 * den)
  if i < 0 then 0 else if 16 ≤ i then 17 else i.toNat + 1

/-- Add one sample to a histogram. -/
def Hist.sample (x : Hist) (b : Nat) : Hist :=
  { under := if b = 0 then satInc x.under else x.under
    bins := if 1 ≤ b ∧ b ≤ 16 then x.bins.modify (b - 1) satInc else x.bins
    above := if b = 17 then satInc x.above else x.above
    samples := min (x.samples + 1) (2 ^ 64 - 1) }

/-- Take a value into an extreme, stamped with operating seconds and power cycle (13 R343). -/
def Extreme.take (x : Extreme) (v : Int) (sec cyc : Nat) : Extreme :=
  let x1 := if v < x.min then { x with min := v, minSec := sec, minCycle := cyc } else x
  if x1.max < v then { x1 with max := v, maxSec := sec, maxCycle := cyc } else x1

/-- One sample of quantity `h`: the histogram takes `num / den`, the extremes take `ext`. -/
def Live.sample (c : Live) (h : Nat) (num : Int) (den : Nat) (lo hi : Int) (sec cyc : Nat) : Live :=
  { c with
    hists := c.hists.modify h (fun x => x.sample (histBin h num den))
    extremes := c.extremes.modify h (fun x => (x.take lo sec cyc).take hi sec cyc) }

/-- Add the bins of one histogram to another. -/
def Hist.merge (x y : Hist) : Hist :=
  { under := min (x.under + y.under) maxCount
    bins := List.zipWith (fun a b => min (a + b) maxCount) x.bins y.bins
    above := min (x.above + y.above) maxCount
    samples := min (x.samples + y.samples) (2 ^ 64 - 1) }

/-- Take the extremes of `y`, under the stamps they carry. -/
def Extreme.merge (x y : Extreme) : Extreme :=
  let x1 := if y.min < x.min then { x with min := y.min, minSec := y.minSec, minCycle := y.minCycle } else x
  if x1.max < y.max then { x1 with max := y.max, maxSec := y.maxSec, maxCycle := y.maxCycle } else x1

/-- Add increments to a summary (13 R346, R358). -/
def Live.merge (x y : Live) : Live :=
  { hists := List.zipWith Hist.merge x.hists y.hists
    extremes := List.zipWith Extreme.merge x.extremes y.extremes
    cycle := List.zipWith (fun a b => min (a + b) maxCount) x.cycle y.cycle
    life := List.zipWith (fun a b => min (a + b) maxCount) x.life y.life }

/-- Stamp every extreme that holds a value (13 R346). -/
def Live.stamp (x : Live) (sec cyc : Nat) : Live :=
  { x with extremes := x.extremes.map (fun e => { e with minSec := sec, minCycle := cyc, maxSec := sec, maxCycle := cyc }) }

/-- Is the live summary held still (13 R358)? -/
def State.frozen (s : State) : Bool := s.card.frozenBar || s.card.frozenPmb

/-- Change the summary that takes samples: the hold copy during a freeze. -/
def State.onLive (s : State) (f : Live → Live) : State :=
  if s.frozen then s.withCard { s.card with hold := f s.card.hold }
  else s.withCard { s.card with live := f s.card.live }

/-- A sample PSH2 takes, stamped now; the sample and its extremes. -/
def State.pshSample (s : State) (h : Nat) (num : Int) (den : Nat) (lo hi : Int) : State :=
  s.onLive (fun c => c.sample h num den lo hi (s.get Reg.RCD_OP_SECONDS.op_seconds) (s.get Reg.RCD_POWER_CYCLE.power_cycle))

/-- A sample GLD1 takes; PSH2 stamps it when the increment arrives (13 R346). -/
def State.gldSample (s : State) (h : Nat) (num : Int) (den : Nat) (ext : Int) : State :=
  s.withCard { s.card with gld := s.card.gld.sample h num den ext ext 0 0 }

/-! Blocks (13 R347). -/

/-- NOR address of circulating slot `n` (13 Table 13-4). -/
def circAddr (n : Nat) : Nat := 0x03882000 + 0x1000 * n

/-- The next slot of the ring of 514. -/
def nextSlot (n : Nat) : Nat := (n + 1) % 514

/-- What an unlisted NOR byte reads as: the firmware slots and the certificate chain as manufactured, whose bytes the spec does not give, and elsewhere erased (14 Table 14-4). -/
def norBlank : Nat → Byte := fun a => if a < 0x410000 then Config.factoryByte a else 0xFF

/-- Bytes of the NOR. -/
def State.norRead (s : State) (a n : Nat) : List Byte := Store.readList norBlank s.nor a n

/-- Program bytes into the NOR. -/
def State.norProgram (s : State) (a : Nat) (bytes : List Byte) : State :=
  s.withNor (Store.writeList norBlank s.nor a bytes)

/-- Erase `n` bytes of the NOR to 0xFF. -/
def State.norErase (s : State) (a n : Nat) : State :=
  if 0x410000 ≤ a then s.withNor (Store.clear s.nor a n)
  else s.withNor (Store.writeList norBlank s.nor a (List.replicate n 0xFF))

/-- Is a NOR range blank? -/
def State.norIsBlank (s : State) (a n : Nat) : Bool := (s.norRead a n).all (fun b => b == 0xFF)

/-- The bytes of one histogram, 80 in all. -/
def Hist.bytes (x : Hist) : List Byte :=
  leBytes 4 x.under ++ x.bins.flatMap (leBytes 4) ++ leBytes 4 x.above ++ leBytes 8 x.samples

/-- The bytes of one extreme, 24 in all. -/
def Extreme.bytes (x : Extreme) : List Byte :=
  leBytes 4 (unsigned 32 x.min) ++ leBytes 4 x.minSec ++ leBytes 4 x.minCycle ++
  leBytes 4 (unsigned 32 x.max) ++ leBytes 4 x.maxSec ++ leBytes 4 x.maxCycle

/-- Bytes 64 to 4,091 of a block: histograms, extremes and counters. -/
def Live.body (c : Live) : List Byte :=
  let t := c.hists.flatMap Hist.bytes ++ c.extremes.flatMap Extreme.bytes ++
    c.cycle.flatMap (leBytes 4) ++ c.life.flatMap (leBytes 4)
  t ++ List.replicate (4028 - t.length) 0

/-- A block of Table 13-3 but for its commit word: 4,092 bytes. -/
def blockBody (c : Live) (bits seq cycle secs start epoch : Nat) : List Byte :=
  let head := leBytes 4 0x44524352 ++ leBytes 2 1 ++ leBytes 2 bits ++ leBytes 4 seq ++ leBytes 4 cycle ++
    leBytes 4 secs ++ leBytes 4 start
  let tail := leBytes 4 epoch ++ List.replicate 32 0 ++ c.body
  head ++ leBytes 4 (crc32 (head ++ leBytes 4 0 ++ tail ++ leBytes 4 0)) ++ tail

/-- Cause bits of a snapshot: those due, bit 8 while the gate is on, bit 9 when the window delayed it. -/
def State.snapBits (s : State) (due : Nat) : Nat :=
  due ||| (if s.flag Reg.PWR_STATE.gate_on then 2 ^ 8 else 0) ||| (if s.card.delayed then 2 ^ 9 else 0)

/-- A snapshot of a live summary as a block. -/
def State.snapshot (s : State) (c : Live) (bits seq : Nat) : List Byte :=
  blockBody c bits seq (s.get Reg.RCD_POWER_CYCLE.power_cycle) (s.get Reg.RCD_OP_SECONDS.op_seconds)
    s.card.startSeconds (s.get Reg.RCD_CLEARS.clears)

/-- A block is valid when magic, CRC and commit word match (13 R347). -/
def blockValid (b : List Byte) : Bool :=
  decide (natAt b 0 4 = 0x44524352) && decide (natAt b 4092 4 = 0) &&
  decide (natAt b 24 4 = crc32 (b.take 24 ++ leBytes 4 0 ++ (b.drop 28).take 4064 ++ leBytes 4 0))

/-- RCD_STATUS.visible: valid blocks at or above the hiding epoch (13 R357). -/
def State.showVisible (s : State) : State :=
  s.put Reg.RCD_STATUS.visible ((s.card.blocks.filter (fun b => decide (s.card.hidingEpoch ≤ b.epoch))).length)

/-! Erases under the journal (13 R353, R354). -/

/-- Journal entry address. -/
def journalAddr (sector entry : Nat) : Nat := 0x03880000 + 0x1000 * sector + 16 * entry

/-- Purpose code of Table 13-7. -/
def ErasePurpose.code : ErasePurpose → Nat
  | .circulating => 1 | .journal => 2 | .staging => 3

/-- Write the next journal entry and start the erase it announces. -/
def State.issueErase (s : State) (addr : Nat) (p : ErasePurpose) : State :=
  let j := journalAddr s.card.journalSector s.card.journalEntry
  let s1 := s.norProgram j (leBytes 4 addr ++ leBytes 2 p.code ++ leBytes 2 0 ++ leBytes 4 s.card.journalSeq)
  (s1.withCard { s1.card with
      erase := some ⟨addr, p, j, false⟩
      journalEntry := s1.card.journalEntry + 1
      journalSeq := s1.card.journalSeq + 1 })

/-- Start the next waiting erase when none runs and the window is open; entry 255 goes to the switch of journal sectors. -/
def State.pumpErase (s : State) : State :=
  if s.card.erase.isSome || s.flag Reg.RCD_STATUS.window_closed then s
  else if s.card.journalEntry = 255 then
    s.issueErase (0x03880000 + 0x1000 * (1 - s.card.journalSector)) .journal
  else match s.card.eraseQueue with
    | [] => s
    | (a, p) :: t => (s.withCard { s.card with eraseQueue := t }).issueErase a p

/-- Ask for a sector erase. -/
def State.wantErase (s : State) (addr : Nat) (p : ErasePurpose) : State :=
  (s.withCard { s.card with eraseQueue := s.card.eraseQueue ++ [(addr, p)] }).pumpErase

/-- reserve_ready sets once the recorder is prepared and flush slot and reserve are blank (13 R355 step 8). -/
def State.checkReserve (s : State) : State :=
  if s.card.started && s.card.flushErased && s.card.reserveErased && s.card.eraseQueue.isEmpty then
    s.put Reg.RCD_STATUS.reserve_ready 1
  else s

/-- A NOR erase has completed: the sector is blank and its journal entry closed (13 R353, R354). -/
def State.eraseDone (s : State) : State :=
  match s.card.erase with
  | none => s
  | some e =>
    let s1 := ((s.norErase e.addr 0x1000).norProgram (e.entry + 12) (leBytes 4 0))
    let s2 := s1.withCard { s1.card with
      erase := none
      flushErased := s1.card.flushErased || decide (e.addr = circAddr s1.card.flushSlot)
      reserveErased := s1.card.reserveErased || decide (e.addr = circAddr s1.card.reserve)
      journalSector := if e.purpose = ErasePurpose.journal then 1 - s1.card.journalSector else s1.card.journalSector
      journalEntry := if e.purpose = ErasePurpose.journal then 0 else s1.card.journalEntry }
    s2.pumpErase.checkReserve

/-! Flushes (13 R350, R351, R369). -/

/-- May the due flush run: slots erased, no freeze, window open, not waiting after a failed retry? -/
def State.flushReady (s : State) : Bool :=
  decide (s.card.due ≠ 0) && !s.frozen && s.card.flushErased && s.card.reserveErased
    && !s.flag Reg.RCD_STATUS.window_closed && decide (s.card.failures < 2)

/-- The reserve becomes the flush slot, and the slot after it is erased as the new reserve (13 R351 steps 5, 6). -/
def State.rotateSlots (s : State) : State :=
  let r := nextSlot s.card.reserve
  (s.withCard { s.card with
      flushSlot := s.card.reserve
      flushErased := s.card.reserveErased
      reserve := r
      reserveErased := false
      blocks := s.card.blocks.filter (fun b => b.slot ≠ r) }).wantErase (circAddr r) .circulating

/-- Program a block into a slot and commit it. -/
def State.writeBlock (s : State) (slot bits : Nat) (c : Live) : State :=
  let seq := s.get Reg.RCD_LAST_SEQ.last_seq + 1
  let s1 := s.norProgram (circAddr slot) (s.snapshot c bits seq ++ leBytes 4 0)
  (s1.withCard { s1.card with blocks := ⟨slot, seq, s.get Reg.RCD_CLEARS.clears⟩ :: s1.card.blocks })
  |>.put Reg.RCD_LAST_SEQ.last_seq seq

/-- The due flush runs. -/
def State.runFlush (s : State) (programOk : Bool) : State :=
  if !s.flushReady then
    -- A flush that finds the window closed is delayed (13 R366).
    if decide (s.card.due ≠ 0) && s.flag Reg.RCD_STATUS.window_closed then
      s.withCard { s.card with delayed := true }
    else s
  else if programOk then
    let s1 := s.writeBlock s.card.flushSlot (s.snapBits s.card.due) s.card.live
    let s2 := (s1.withCard { s1.card with due := 0, dueSpaced := false, delayed := false, failures := 0 })
    (s2.put Reg.RCD_STATUS.flush_pending 0).rotateSlots.showVisible
  else
    -- FLUSH_FAIL: the slot stays invalid, with no commit word (13 R369).
    let seq := s.get Reg.RCD_LAST_SEQ.last_seq + 1
    let s1 := s.norProgram (circAddr s.card.flushSlot) (s.snapshot s.card.live (s.snapBits s.card.due) seq)
    let s2 := (s1.pshCount 36).put Reg.RCD_STATUS.flush_fail 1
    let s3 := s2.raise cause.recorder noUnit (s2.word 0xB0010).toNat
    (s3.withCard { s3.card with failures := s3.card.failures + 1 }).rotateSlots

/-- A trigger of Table 13-6; a flush that waited after a failed retry becomes ready again. -/
def State.trigger (s : State) (bit : Nat) (spaced : Bool) : State :=
  let s1 := s.flushDue bit spaced
  (s1.withCard { s1.card with failures := if s1.card.failures = 2 then 0 else s1.card.failures })

/-- At power-fail the block goes into the first erased slot ahead of the newest valid block (13 R352, R367); the window may forbid it (03 R77). -/
def State.powerFailBlock (s : State) : State :=
  let s1 := s.withCard { s.card with erase := s.card.erase.map (fun e => { e with suspended := true }) }
  if s1.flag Reg.RCD_STATUS.window_closed then s1
  else
    let slot := if s1.card.flushErased then s1.card.flushSlot else s1.card.reserve
    let c := if s1.frozen then s1.card.live.merge s1.card.hold else s1.card.live
    let s2 := s1.writeBlock slot (s1.snapBits (s1.card.due ||| 2 ^ 4)) c
    (s2.withCard { s2.card with
        due := 0, dueSpaced := false, delayed := false
        flushErased := s2.card.flushErased && decide (slot ≠ s2.card.flushSlot)
        reserveErased := s2.card.reserveErased && decide (slot ≠ s2.card.reserve) })
    |>.put Reg.RCD_STATUS.flush_pending 0 |>.showVisible

/-! Reading (13 R357). -/

/-- The slots of the visible blocks, newest first. -/
def State.visibleBlocks (s : State) : List BlockRef :=
  s.card.blocks.filter (fun b => decide (s.card.hidingEpoch ≤ b.epoch))

/-- The 4 KiB a source gives; beyond what exists, zeros (13 Table 13-8). -/
def State.readSource (s : State) (source index : Nat) : List Byte :=
  let zeros := List.replicate 4096 (0 : Byte)
  match source with
  | 0 => s.snapshot s.card.live (s.snapBits 0) (s.get Reg.RCD_LAST_SEQ.last_seq) ++ leBytes 4 0
  | 1 => match s.visibleBlocks[index]? with
    | some b => s.norRead (circAddr b.slot) 4096
    | none => zeros
  | 2 => if index < 64 ∧ s.norIsBlank (0x03800000 + 0x1000 * index) 4096 = false then
      s.norRead (0x03800000 + 0x1000 * index) 4096 else zeros
  | _ => if index < s.card.records then s.norRead (0x03840000 + 0x100 * index) 256 ++ List.replicate 3840 0 else zeros

/-! Clears (13 R361). -/

/-- Check a token in the order of R361: 0x1 applies it, other codes name the first failure (13 Table 13-10). -/
def State.tokenResult (s : State) (t : List Byte) : Nat :=
  if t.length ≠ 160 ∨ natAt t 0 4 ≠ 0x4C434352 ∨ natAt t 4 2 ≠ 1 ∨ 8 ≤ natAt t 6 2 ∨ natAt t 32 32 ≠ 0 then 3
  else if natAt t 8 8 ≠ (s.word 0x18).toNat + (s.word 0x1C).toNat * 2 ^ 32 then 4
  else if natAt t 16 4 ≠ s.get Reg.RCD_CLEARS.clears then 5
  else if s.card.nonceValid = false ∨ natAt t 20 4 ≠ s.get Reg.RCD_CLEAR_NONCE.nonce then 6
  else match s.card.opKey with
    | none => 8
    | some key =>
      if Config.ecdsaVerify key (t.take 64) (t.drop 64) = false then 7
      else if 1024 ≤ s.card.records then 9
      else if s.flag Reg.RCD_STATUS.window_closed then 10
      else 1

/-- Scope bit 2 zeroes every counter but the protected ones. -/
def clearCounters (l : List Nat) : List Nat :=
  l.mapIdx (fun k v => if 32 ≤ k && k ≤ 37 then v else 0)

/-- Apply a scope to a summary. -/
def Live.clearScope (c : Live) (scope : Nat) : Live :=
  let c1 := if scope.testBit 0 then { c with hists := Live.empty.hists, extremes := Live.empty.extremes } else c
  if scope.testBit 2 then { c1 with cycle := clearCounters c1.cycle, life := clearCounters c1.life } else c1

/-- Steps 2 to 5 of R361 for a verified token. -/
def State.applyClear (s : State) (t : List Byte) : State :=
  let epoch := s.get Reg.RCD_CLEARS.clears + 1
  let rec_ := leBytes 4 0x52434352 ++ leBytes 4 epoch ++ leBytes 4 (s.get Reg.RCD_OP_SECONDS.op_seconds) ++
    leBytes 4 (s.get Reg.RCD_POWER_CYCLE.power_cycle) ++ leBytes 8 (natAt t 6 2) ++ List.replicate 40 0 ++
    t ++ List.replicate 28 0 ++ leBytes 4 0
  let s1 := s.norProgram (0x03840000 + 0x100 * s.card.records) rec_
  let s2 := s1.withCard { s1.card with
      records := s1.card.records + 1
      live := s1.card.live.clearScope (natAt t 6 2)
      hidingEpoch := if (natAt t 6 2).testBit 1 then epoch else s1.card.hidingEpoch
      nonceValid := false }
  let s3 := ((s2.pshCount 37).put Reg.RCD_CLEARS.clears epoch).put Reg.RCD_CLEAR_NONCE.nonce 0
  let s4 := ((s3.put Reg.RCD_STATUS.clear_done 1).put Reg.RCD_STATUS.clear_result 1).showVisible
  (s4.raise cause.recorder noUnit (s4.word 0xB0010).toNat).trigger 6 false

/-- A path freezes the live summary (13 R358). -/
def State.freeze (s : State) (p : MgmtPath) : State :=
  (s.withCard { s.card with
      frozenBar := s.card.frozenBar || decide (p = MgmtPath.bar0)
      frozenPmb := s.card.frozenPmb || decide (p = MgmtPath.pmbus) }).put Reg.RCD_STATUS.frozen 1

/-- The freeze has ended: the hold copy is added, and a held clear runs (13 R358, R367). -/
def State.endFreeze (s : State) : State :=
  let s1 := (s.withCard { s.card with
      frozenBar := false, frozenPmb := false
      live := s.card.live.merge s.card.hold
      hold := Live.empty }).put Reg.RCD_STATUS.frozen 0
  match s1.card.clearWaits with
  | some t => (s1.withCard { s1.card with clearWaits := none }).applyClear t
  | none => s1

/-- A path thaws; the freeze ends when no path holds it. -/
def State.thaw (s : State) (p : MgmtPath) : State :=
  let s1 := s.withCard { s.card with
      frozenBar := s.card.frozenBar && decide (p ≠ MgmtPath.bar0)
      frozenPmb := s.card.frozenPmb && decide (p ≠ MgmtPath.pmbus) }
  if s.frozen && !s1.frozen then s1.endFreeze else s1

/-- Draw a new clear nonce (13 R361): an open value. -/
def State.drawNonce (s : State) : State :=
  ((s.withFresh (s.fresh + 1)).withCard { s.card with nonceValid := true }).put Reg.RCD_CLEAR_NONCE.nonce
    (Config.clearNonce s.fresh).toNat

/-- Submit a token for verification; one already under verification goes on. -/
def State.submitToken (s : State) (t : List Byte) : State :=
  if s.card.verifying.isSome || s.card.clearWaits.isSome then s
  else (s.withCard { s.card with verifying := some t }).put Reg.RCD_STATUS.clear_result 2

/-- The token that RCD_CLEAR_TOKEN spells. -/
def State.barToken (s : State) : List Byte :=
  (List.range 40).flatMap (fun i => leBytes 4 (s.word (0xB0100 + 4 * i)).toNat)

/-- RCD_CTRL bits on a path, in bit order; `apply` is BAR0's alone (13 R372). -/
def State.rcdCtrl (s : State) (p : MgmtPath) (v : Nat) : State :=
  (((((s.when_ (v.testBit 0) (·.freeze p)).when_ (v.testBit 1) (·.thaw p)).when_ (v.testBit 2) (·.trigger 5 false)).when_
    (v.testBit 3) (·.drawNonce)).when_ (v.testBit 4 && decide (p = MgmtPath.bar0)) (fun t => t.submitToken t.barToken))

/-- RCD profile values: flush_period and fault_spacing (13 Table 13-11). -/
def rcdProfile (v : Nat) : Nat × Nat :=
  match v with
  | 0 => (10, 60) | 1 => (10, 10) | _ => (30, 300)

/-- A write of RCD_PROFILE.profile: leaves the shared Expert and loads Table 13-11; an unlisted value changes nothing (00 R6). -/
def State.rcdProfileWrite (s : State) (v : Nat) : State :=
  if v < 3 then
    ((s.put Reg.RCD_PROFILE.profile v).leaveExpert blk.rcd).put Reg.RCD_CFG.flush_period (rcdProfile v).1
    |>.put Reg.RCD_CFG.fault_spacing (rcdProfile v).2
  else s

/-- RCD_SELECT written on the BAR0 path: the block is copied and ready sets (13 R357). -/
def State.rcdSelect (s : State) (v : Nat) : State :=
  let s1 := (s.put Reg.RCD_SELECT.source v).put Reg.RCD_SELECT.index (v / 2 ^ 16)
  (s1.withCard { s1.card with bufBar := s1.readSource (s1.get Reg.RCD_SELECT.source) (s1.get Reg.RCD_SELECT.index) })
  |>.put Reg.RCD_SELECT.ready 1

/-! Start at power-on (13 R355). -/

/-- Open entries of a journal sector that name a sector's start: their addresses (13 R354). -/
def State.openEntries (s : State) (sector : Nat) : List Nat :=
  (List.range 256).filterMap (fun i =>
    let e := s.norRead (journalAddr sector i) 16
    if (e.take 12).any (fun b => b != 0xFF) && decide (natAt e 12 4 = 0xFFFFFFFF) && decide (natAt e 0 4 % 0x1000 = 0)
    then some (natAt e 0 4) else none)

/-- Highest entry sequence number of a journal sector, its entry index and whether any entry is written. -/
def State.lastEntry (s : State) (sector : Nat) : Option (Nat × Nat) :=
  (List.range 256).foldl (fun acc i =>
    let e := s.norRead (journalAddr sector i) 16
    if (e.take 12).any (fun b => b != 0xFF) then
      match acc with
      | some (q, j) => if q ≤ natAt e 8 4 then some (natAt e 8 4, i) else some (q, j)
      | none => some (natAt e 8 4, i)
    else acc) none

/-- Insert a block by falling sequence number. -/
def insertBlock (b : BlockRef) : List BlockRef → List BlockRef
  | [] => [b]
  | c :: t => if c.seq ≤ b.seq then b :: c :: t else c :: insertBlock b t

/-- The valid blocks outside suspect sectors, newest first (13 R355 step 2). -/
def State.scanBlocks (s : State) (suspects : List Nat) : List BlockRef :=
  (List.range 514).foldl (fun acc n =>
    let b := s.norRead (circAddr n) 4096
    if !suspects.contains (circAddr n) && blockValid b then insertBlock ⟨n, natAt b 8 4, natAt b 28 4⟩ acc else acc) []

/-- Committed clear records from the lowest on: their number, highest epoch, its scope and the hiding epoch. -/
def State.scanRecords (s : State) : Nat × Nat × Nat × Nat :=
  (List.range 1024).foldl (fun (acc : Nat × Nat × Nat × Nat) j =>
    let r := s.norRead (0x03840000 + 0x100 * j) 256
    if natAt r 252 4 = 0 ∧ natAt r 0 4 = 0x52434352 then
      let scope := natAt r 16 8
      (j + 1, max acc.2.1 (natAt r 4 4), if acc.2.1 ≤ natAt r 4 4 then scope else acc.2.2.1,
        if scope.testBit 1 then max acc.2.2.2 (natAt r 4 4) else acc.2.2.2)
    else acc) (0, 0, 0, 0)

/-- Where the journal goes on: sector, entry and sequence number (13 R354). -/
def State.journalPlace (s : State) : Nat × Nat × Nat :=
  match s.lastEntry 0, s.lastEntry 1 with
  | none, none => (0, 0, 0)
  | some (q, i), none => (0, i + 1, q + 1)
  | none, some (q, i) => (1, i + 1, q + 1)
  | some (q, i), some (r, j) => if q < r then (1, j + 1, r + 1) else (0, i + 1, q + 1)

/-- RECORDER_START: the recorder is prepared at PSH2 power-on, in the order of R355. -/
def State.recorderStart (s : State) : State :=
  let suspects := s.openEntries 0 ++ s.openEntries 1
  let lostSlots := (suspects.filter (fun a => decide (0x03882000 ≤ a) && decide (a < 0x03882000 + 0x1000 * 514))).length
  let blocks := s.scanBlocks suspects
  let newest := match blocks.head? with
    | some b => s.norRead (circAddr b.slot) 4096
    | none => List.replicate 4096 0
  let prevCycle := natAt newest 12 4
  let bits := natAt newest 6 2
  let lost := blocks.head?.isSome && bits.testBit 8 && !bits.testBit 4
  let permAddr := 0x03800000 + 0x1000 * (prevCycle - 1)
  let s1 := if blocks.head?.isSome && decide (1 ≤ prevCycle) && decide (prevCycle ≤ 64) && s.norIsBlank permAddr 4096
    then s.norProgram permAddr newest else s
  let (recs, epoch, scope, hide) := s1.scanRecords
  let life0 := if blocks.head?.isSome then (List.range 64).map (fun n => natAt newest (1568 + 4 * n) 4) else List.replicate 64 0
  let life1 := if natAt newest 28 4 < epoch ∧ scope.testBit 2 then clearCounters life0 else life0
  let life2 := (life1.modify 35 (fun v => min (v + lostSlots) maxCount)).modify 34 (fun v => if lost then satInc v else v)
  let life3 := (life2.modify 32 satInc).modify 37 (fun v => max v epoch)
  let flush := match blocks.head? with
    | some b => nextSlot b.slot
    | none => 0
  let place := s1.journalPlace
  let flushBlank := s1.norIsBlank (circAddr flush) 4096 && !suspects.contains (circAddr flush)
  let reserveBlank := s1.norIsBlank (circAddr (nextSlot flush)) 4096 && !suspects.contains (circAddr (nextSlot flush))
  let want := suspects.map (fun a => (a, if a < 0x03882000 then (if 0x03880000 ≤ a then ErasePurpose.journal else .staging) else .circulating))
    ++ (if flushBlank || suspects.contains (circAddr flush) then [] else [(circAddr flush, .circulating)])
    ++ (if reserveBlank || suspects.contains (circAddr (nextSlot flush)) then [] else [(circAddr (nextSlot flush), .circulating)])
  let s2 := s1.withCard { s1.card with
      live := { Live.empty with life := life3 }
      hold := Live.empty, gld := Live.empty
      frozenBar := false, frozenPmb := false
      due := 0, dueSpaced := false, delayed := false, failures := 0
      blocks := blocks, records := recs, started := true
      flushSlot := flush, reserve := nextSlot flush
      flushErased := flushBlank, reserveErased := reserveBlank
      erase := none, eraseQueue := want
      journalSector := place.1, journalEntry := place.2.1, journalSeq := place.2.2
      hidingEpoch := hide, nonceValid := false, verifying := none, clearWaits := none
      tenths := 0, startSeconds := life3.getD 33 0, peakMa := none }
  let s3 := (((s2.put Reg.RCD_STATUS.lost_flush (if lost then 1 else 0)).put Reg.RCD_LAST_SEQ.last_seq (natAt newest 8 4)).put
    Reg.RCD_POWER_CYCLE.power_cycle (life3.getD 32 0)).put Reg.RCD_OP_SECONDS.op_seconds (life3.getD 33 0)
  let s4 := (s3.put Reg.RCD_CLEARS.clears (life3.getD 37 0)).put Reg.RCD_STATUS.opkey_present (if s3.card.opKey.isSome then 1 else 0)
  s4.showVisible.pumpErase.checkReserve

end Sys2Proof.Machine
end

