-- ==== Sys2Proof/Machine/LedgerOps.lean ====
section
/-!
DEFINITION. Machine/LedgerOps.lean: shared operations on sensors and on the unit ledger (spec/12_thermal_unit_health.md).
-/
namespace Sys2Proof.Machine

open Sys2Proof

/-- A sensor's reading, signed, in 0.125 °C. -/
def State.reading (s : State) (n : Nat) : Int := signed 16 (s.get (Reg.THM_SENSOR.reading n))

/-- A sensor that is not flagged; the hotspot estimator never is (12 R309). -/
def State.live (s : State) (n : Nat) : Bool := decide (s.get (Reg.THM_SENSOR.flag n) = 0)

/-- The largest reading among the live sensors of a list, with the sensor that gives it. -/
def State.hottestOf (s : State) (l : List Nat) : Option (Int × Nat) :=
  l.foldl (fun acc n =>
    if s.live n then
      match acc with
      | some (t, m) => if t < s.reading n then some (s.reading n, n) else some (t, m)
      | none => some (s.reading n, n)
    else acc) none

/-- The hottest live GLD1 sensor, IDs 0 to 16 (13 Table 13-1). -/
def State.hottestGld (s : State) : Option Int := (s.hottestOf (List.range 17)).map (·.1)

/-- The hotter live LPDDR5X sensor (13 Table 13-1). -/
def State.hottestMem (s : State) : Option Int := (s.hottestOf [17, 18]).map (·.1)

/-! The ledger. -/

/-- mgmt_state and data_state codes (12 Table 12-5). -/
def mgmtAbsent : Nat := 0
def mgmtInService : Nat := 1
def mgmtHold : Nat := 2
def mgmtOff : Nat := 3
def mgmtFault : Nat := 4
def dataOut : Nat := 0
def dataReady : Nat := 1
def dataDraining : Nat := 2
def dataFenced : Nat := 3
def dataFailed : Nat := 4

/-- Table 12-6: does the pair agree? -/
def pairAgrees (mgmt data : Nat) : Bool :=
  match mgmt with
  | 0 => data == dataOut || data == dataFailed
  | 1 => true
  | 2 => data == dataOut || data == dataDraining || data == dataFenced || data == dataFailed
  | _ => data == dataOut || data == dataFenced || data == dataFailed

/-- The rail PL1 to PL4 that feeds a unit (12 Table 12-4). -/
def railOf (u : Nat) : Nat :=
  if u < 84 then 1 else if u < 96 then 2 else if u < 100 then 3 else 4

/-- PSH2's half of an entry. -/
def State.mgmtOf (s : State) (u : Nat) : MgmtEntry := s.mgmt.getD u ⟨0, false, false⟩

/-- The quad that holds a tile: 2 × 2 tiles of the 8 × 8 grid (06 "Partitions"). -/
def quadOf (t : Nat) : Nat := 4 * (t / 16) + (t % 8) / 2

/-- The four tiles of a quad, in ascending order. -/
def quadTiles (q : Nat) : List Nat :=
  let r := 2 * (q / 4)
  let c := 2 * (q % 4)
  [8 * r + c, 8 * r + c + 1, 8 * (r + 1) + c, 8 * (r + 1) + c + 1]

/-- The region, 4 × 4 tiles, that holds a tile. -/
def regionOf (t : Nat) : Nat := 2 * (t / 32) + (t % 8) / 4

/-- The sixteen tiles of a region. -/
def regionTiles (R : Nat) : List Nat :=
  (List.range 64).filter (fun t => regionOf t = R)

/-- The tiles a tile or gang unit covers. -/
def unitTiles (u : Nat) : List Nat :=
  if u < 64 then [u] else if u < 80 then quadTiles (u - 64) else if u < 84 then regionTiles (u - 80) else []

/-- The partitions that own a unit, VFs only (06 R150). -/
def State.unitVfs (s : State) (u : Nat) : List Nat :=
  allVfs.filter (fun p =>
    let c := s.part p
    if u < 84 then (unitTiles u).any (fun t => c.quads.testBit (quadOf t))
    else if u < 92 then c.streams.testBit (u - 84)
    else if u < 96 then c.akgal
    else if u < 100 then decide (0 < c.memSize)
    else c.hallPass)

/-- Show whether the pair is outside Table 12-6, and count the units FENCED or FAILED. -/
def State.showLedger (s : State) (u : Nat) : State :=
  let s1 := s.putFlag (Reg.FAB_LEDGER.disagree u)
    (!pairAgrees (s.get (Reg.FAB_LEDGER.mgmt_state u)) (s.get (Reg.FAB_LEDGER.data_state u)))
  s1.put Reg.FAB_LEDGER_STATUS.fenced_units
    ((List.range 101).filter (fun v => decide (s1.get (Reg.FAB_LEDGER.data_state v) = dataFenced) ||
      decide (s1.get (Reg.FAB_LEDGER.data_state v) = dataFailed))).length

/-- Set a unit's data_state (GLD1's half). -/
def State.setData (s : State) (u d : Nat) : State := (s.put (Reg.FAB_LEDGER.data_state u) d).showLedger u

/-- PSH2 sets mgmt_state and lock, and sends the change to GLD1 (12 R324, 01 R12). -/
def State.setMgmt (s : State) (u v : Nat) (lock : Bool) : State :=
  (s.withMgmt (s.mgmt.modify u (fun e => { e with mgmt := v, lock := lock }))).toGld
    (.mgmt u (v + (if lock then 8 else 0)))

/-- PSH2 sets pgood and tells GLD1. -/
def State.setPgood (s : State) (u : Nat) (b : Bool) : State :=
  (s.withMgmt (s.mgmt.modify u (fun e => { e with pgood := b }))).toGld (.pgood u b)

/-- RAIL_FAULT: every unit on rail `r` becomes FAULT, with pgood 0 (12 R327). -/
def State.railFault (s : State) (r : Nat) : State :=
  s.each ((List.range 101).filter (fun u => railOf u = r)) (fun t u => (t.setMgmt u mgmtFault (t.mgmtOf u).lock).setPgood u false)

/-- Does PSH2 judge the unit's rail outside ±5 %: two bad results in a row? -/
def State.railOut (s : State) (u : Nat) : Bool := decide (2 ≤ s.meter.railBad.getD (railOf u - 1) 0)

/-- The lowest depth allowed (12 R311). -/
def State.depthFloor (s : State) : Nat := if s.flag Reg.THM_STATUS.degraded then 1 else 0

/-- Sixteenths of the cycles that a mode passes at a depth (12 R314). -/
def rate16 (mode d : Nat) : Nat := if mode = 0 then 16 / 2 ^ d else 16 - d

/-- The depth changes: counted; a rise from 0 is an event and raises the thermal cause (12 Table 12-9, 06 Table 06-12). -/
def State.setDepth (s : State) (d : Nat) : State :=
  let old := s.get Reg.THM_STATUS.depth
  if old = d then s
  else
    let s1 := ((s.put Reg.THM_STATUS.depth d).bump Reg.THM_THROTTLE_COUNT.throttle_steps).gldCount 17
    if old = 0 then
      let s2 := s1.put Reg.THM_STATUS.throttle_event 1
      s2.raise cause.thermal noUnit (s2.word Reg.THM_STATUS.depth.off).toNat
    else s1

/-- An accepted release step starts: the mode waiting takes over, or the depth falls by one step (12 R315, R322). -/
def State.releaseDepth (s : State) : State :=
  let s1 := s.withThermal { s.thermal with releaseWaits := false, mode := s.get Reg.THM_CTRL.mode }
  if s.thermal.mode ≠ s.get Reg.THM_CTRL.mode then s1.setDepth s.depthFloor
  else if s.get Reg.THM_STATUS.depth ≤ s.depthFloor then s1
  else s1.setDepth (s.get Reg.THM_STATUS.depth - 1)

end Sys2Proof.Machine
end

