-- ==== Sys2Proof/Machine/TraceOps.lean ====
section
/-!
DEFINITION. Machine/TraceOps.lean: the trace unit, and the reads and writes of host memory and LPDDR5X that it can record (spec/15_debug_trace.md R409 to R413, 06 R138, R151).
-/
namespace Sys2Proof.Machine

open Sys2Proof

/-- Bytes of a record. -/
def TraceRec.size (r : TraceRec) : Nat := 16 + 8 * r.words.length

/-- A record's bytes (R410, Table 15-6). -/
def TraceRec.bytes (r : TraceRec) : List Byte :=
  leBytes 1 (r.source + (if r.write then 8 else 0) + (r.words.length + 7) % 8 * 16) ++
  leBytes 1 (r.part + r.space * 16) ++ leBytes 1 (r.range + r.sizeLog2 * 8) ++ [0] ++
  leBytes 4 r.time ++ leBytes 8 r.addr ++ r.words.flatMap (leBytes 8)

/-- Priority of a source (Table 15-9). -/
def State.tracePri (s : State) (source : Nat) : Nat :=
  if source < 4 then s.get Reg.DBG_TRACE_CTRL.pri_core
  else if source = 4 then s.get Reg.DBG_TRACE_CTRL.pri_desc
  else if source = 5 then s.get Reg.DBG_TRACE_CTRL.pri_dma
  else s.get Reg.DBG_TRACE_CTRL.pri_mirror

/-- Priorities below this are dropped at a queue fill (Table 15-7). -/
def traceLimit (fill : Nat) : Nat :=
  if 0x3800 ≤ fill then 3 else if 0x3000 ≤ fill then 2 else if 0x2000 ≤ fill then 1 else 0

/-- The drop counter of a source. -/
def traceDrop (source : Nat) : Fld :=
  if source < 4 then Reg.DBG_TRACE_DROP.drop_core
  else if source = 4 then Reg.DBG_TRACE_DROP.drop_desc
  else if source = 5 then Reg.DBG_TRACE_DROP.drop_dma
  else Reg.DBG_TRACE_DROP.drop_mirror

/-- Is tracing on and not stopped by a full buffer? -/
def State.tracing (s : State) : Bool :=
  s.flag Reg.DBG_TRACE_CTRL.enable && !s.flag Reg.DBG_TRACE_STATUS.stopped_full

/-- TRACE_RECORD: a record is offered to the staging queue (R410, R411). -/
def State.traceOffer (s : State) (r : TraceRec) : State :=
  let fill := (s.dbg.queue.map TraceRec.size).sum
  let marker : TraceRec := ⟨7, false, 0, 0, 0, 0, s.time % 2 ^ 32, s.dbg.dropped, []⟩
  let new := if s.dbg.dropped = 0 then [r] else [marker, r]
  if s.tracePri r.source < traceLimit fill || decide (0x4000 < fill + (new.map TraceRec.size).sum) then
    (s.withDbg { s.dbg with dropped := s.dbg.dropped + 1 }).bump (traceDrop r.source)
  else s.withDbg { s.dbg with queue := s.dbg.queue ++ new, dropped := 0 }

/-- Base and limit of a trace range. -/
def State.traceBounds (s : State) (r : Nat) : Nat × Nat :=
  (s.get (Reg.DBG_TRACE_RANGE.base_lo r) + s.get (Reg.DBG_TRACE_RANGE.base_hi r) * 2 ^ 32,
   s.get (Reg.DBG_TRACE_RANGE.limit_lo r) + s.get (Reg.DBG_TRACE_RANGE.limit_hi r) * 2 ^ 32)

/-- Does range `r` take an access to [lo, hi] (R409, R413)? -/
def State.traceMatch (s : State) (r source part space lo hi : Nat) (write : Bool) : Bool :=
  let owner := s.get Reg.DBG_TRACE_CTRL.owner
  let p := s.get (Reg.DBG_TRACE_RANGE.partition r)
  let mask := if source < 4 then 1 else if source = 4 then 2 else 4
  s.flag (Reg.DBG_TRACE_RANGE.valid r) &&
  (if write then s.flag (Reg.DBG_TRACE_RANGE.writes r) else s.flag (Reg.DBG_TRACE_RANGE.reads r)) &&
  decide (s.get (Reg.DBG_TRACE_RANGE.space r) = space) &&
  decide (s.get (Reg.DBG_TRACE_RANGE.sources r) &&& mask ≠ 0) &&
  (if owner = 0 then decide (p = 0xF) || decide (p = part) else decide (part = owner) && decide (space < 2)) &&
  decide (lo ≤ (s.traceBounds r).2) && decide ((s.traceBounds r).1 ≤ hi)

/-- The part of one 64-byte line that an access touches is offered as one record (R410). -/
def State.traceLine (s : State) (source part space addr : Nat) (bytes : List Byte) (write : Bool) (line : Nat) : State :=
  let lo := max addr (64 * line)
  let hi := min (addr + bytes.length) (64 * line + 64) - 1
  match (List.range 8).find? (fun r => s.traceMatch r source part space lo hi write) with
  | none => s
  | some r =>
    let b := s.traceBounds r
    let data := (List.range (hi + 1 - lo)).map (fun i =>
      if decide (b.1 ≤ lo + i) && decide (lo + i ≤ b.2) then bytes.getD (lo + i - addr) 0 else (0 : Byte))
    let words := (List.range ((hi - lo) / 8 + 1)).map (fun k => natAt data (8 * k) 8)
    s.traceOffer ⟨source, write, part, space, r, Nat.log2 (2 * (hi + 1 - lo) - 1), s.time % 2 ^ 32, lo, words⟩

/-- An access by a core, the descriptor engine (4) or DMA (5) of partition `part` is traced where a range matches. -/
def State.traceAccess (s : State) (source part space addr : Nat) (bytes : List Byte) (write : Bool) : State :=
  if s.tracing && decide (bytes ≠ []) then
    s.each (List.range ((addr + bytes.length - 1) / 64 + 1 - addr / 64))
      (fun t k => t.traceLine source part space addr bytes write (addr / 64 + k))
  else s

/-- Write bytes into the on-chip buffer from a byte on, wrapping at 256 KiB. -/
def bufWrite (buf : Store Byte) (i : Nat) : List Byte → Store Byte
  | [] => buf
  | b :: t => bufWrite (Store.write (fun _ => (0 : Byte)) buf (i % 0x40000) b) (i + 1) t

/-- A record goes into the on-chip buffer (R412). -/
def State.traceChip (s : State) (bytes : List Byte) : State :=
  let n := bytes.length
  let wp := s.get Reg.DBG_TRACE_WP.wp
  if decide (0x40000 < s.dbg.bufUsed + n) && !s.flag Reg.DBG_TRACE_CTRL.wrap then s.put Reg.DBG_TRACE_STATUS.stopped_full 1
  else
    let s1 := (s.withDbg { s.dbg with
      queue := s.dbg.queue.drop 1
      buf := bufWrite s.dbg.buf wp bytes
      bufUsed := min (s.dbg.bufUsed + n) 0x40000 }).put Reg.DBG_TRACE_WP.wp (wp + n)
    (s1.when_ (decide (0x40000 < s.dbg.bufUsed + n)) (·.put Reg.DBG_TRACE_STATUS.wrapped 1)).bump Reg.DBG_TRACE_RECORDS.records

/-- The host ring's base and size. -/
def State.traceRing (s : State) : Nat × Nat :=
  (s.get Reg.DBG_TRACE_RING_BASE.ring_base_lo * 4096 + s.get Reg.DBG_TRACE_RING_BASE.ring_base_hi * 2 ^ 32,
   2 ^ s.get Reg.DBG_TRACE_RING_SIZE.size_log2)

/-- A record goes into the host ring, or is dropped where it would pass the read pointer (R412). -/
def State.traceHost (s : State) (bytes : List Byte) : State :=
  let n := bytes.length
  let base := s.traceRing.1
  let size := s.traceRing.2
  let wp := s.get Reg.DBG_TRACE_RING_WP.ring_wp % size
  let rp := s.get Reg.DBG_TRACE_RING_RP.ring_rp % size
  let part := s.get Reg.DBG_TRACE_CTRL.owner
  let s1 := s.withDbg { s.dbg with queue := s.dbg.queue.drop 1 }
  if n ≤ (rp + size - wp - 1) % size then
    let head := bytes.take (size - wp)
    let tail := bytes.drop (size - wp)
    let s2 := (s1.post (.dma part (base + wp) head false)).when_ (decide (tail ≠ [])) (·.post (.dma part base tail false))
    (((s2.withDbg { s2.dbg with sinceWp := s2.dbg.sinceWp + n })).put Reg.DBG_TRACE_RING_WP.ring_wp ((wp + n) % size)).bump
      Reg.DBG_TRACE_RECORDS.records
  else s1.bump Reg.DBG_TRACE_SINK_DROP.drop_sink

/-- The queue drains one record into its sink (R412, R413). -/
def State.traceDrain (s : State) : State :=
  match s.dbg.queue with
  | [] => s
  | r :: _ =>
    if s.flag Reg.DBG_TRACE_STATUS.stopped_full then s
    else if s.flag Reg.DBG_TRACE_CTRL.sink || decide (s.get Reg.DBG_TRACE_CTRL.owner ≠ 0) then s.traceHost r.bytes
    else s.traceChip r.bytes

/-- The router writes the 8-byte write pointer to wp_addr, unless that is 0 (R412). -/
def State.traceWp (s : State) : State :=
  let a := s.get Reg.DBG_TRACE_WP_ADDR.wp_addr_lo + s.get Reg.DBG_TRACE_WP_ADDR.wp_addr_hi * 2 ^ 32
  let s1 := s.withDbg { s.dbg with sinceWp := 0 }
  s1.when_ (decide (a ≠ 0)) (·.post (.dma (s.get Reg.DBG_TRACE_CTRL.owner) a (leBytes 8 (s.get Reg.DBG_TRACE_RING_WP.ring_wp)) false))

/-! Memory as the module's engines reach it. -/

/-- A data write to host memory for partition `part`, with Relaxed Ordering as HIF_DATA_CFG allows (06 R138). -/
def State.hostWrite (s : State) (part addr : Nat) (bytes : List Byte) : State :=
  if bytes = [] then s
  else (s.post (.dma part addr bytes (s.flag Reg.HIF_DATA_CFG.ro_data))).traceAccess 5 part 0 addr bytes true

/-- Does an area hold the address? -/
def DevArea.holds (x : DevArea) (a : Nat) : Bool := decide (x.base ≤ a) && decide (a < x.base + x.len)

/-- What an unlisted LPDDR5X byte reads as, by the last loss of contents or writing of an area. -/
def dramBlank (e : DramEra) (a : Nat) : Byte :=
  Config.dramByte ((e.areas.filter (·.holds a)).foldl (fun m x => max m x.mark) (e.channels.getD (Config.dramChannel a % 4) 0)) a

/-- LPDDR5X address of a partition's offset (06 R151). -/
def State.dramAddr (s : State) (part off : Nat) : Nat := (s.part part).memBase * 2 ^ 28 + off

/-- Read LPDDR5X for a partition. -/
def State.dramRead (s : State) (part off n : Nat) : List Byte := Store.readList (dramBlank s.dramEra) s.dram (s.dramAddr part off) n

/-- Write LPDDR5X for a partition. -/
def State.dramWrite (s : State) (part off : Nat) (bytes : List Byte) : State :=
  (s.withDram (Store.writeList (dramBlank s.dramEra) s.dram (s.dramAddr part off) bytes)).traceAccess 5 part 1 off bytes true

/-- A channel loses its contents (12 R317, Table 12-4). -/
def State.dramLose (s : State) (c : Nat) : State :=
  ((s.withDram (s.dram.filter (fun p => decide (Config.dramChannel p.1 % 4 ≠ c)))).withDramEra
    { s.dramEra with channels := s.dramEra.channels.set c (s.fresh + 1) }).withFresh (s.fresh + 1)

/-- The module writes a dev_bytes area: the spec gives neither the layout nor the contents of its bytes (08 R196, R206, R217). -/
def State.dramRenew (s : State) (base len : Nat) : State :=
  if len = 0 then s
  else ((s.withDram (Store.clear s.dram base len)).withDramEra { s.dramEra with
      areas := s.dramEra.areas.filter (fun x => !(decide (x.base = base) && decide (x.len = len))) ++ [⟨base, len, s.fresh + 1⟩] }).withFresh (s.fresh + 1)

/-- Write a result where a descriptor's address and space bit point (06 Table 06-6). -/
def State.writeOut (s : State) (part : Nat) (dev : Bool) (addr : Nat) (bytes : List Byte) : State :=
  if dev then s.dramWrite part addr bytes else s.hostWrite part addr bytes

/-- Data a descriptor reads: from LPDDR5X, or from host memory as `host` brings it (missing bytes 0; none is a PCIe error). -/
def State.readIn (s : State) (part : Nat) (dev : Bool) (addr n : Nat) (host : Option (List Byte)) : Option (List Byte) :=
  if dev then some (s.dramRead part addr n) else host.map (fun b => bytesAt b 0 n)

/-- The read of `readIn` is traced. -/
def State.traceIn (s : State) (part : Nat) (dev : Bool) (addr : Nat) (bytes : List Byte) : State :=
  s.traceAccess 5 part (if dev then 1 else 0) addr bytes false

end Sys2Proof.Machine
end

