-- ==== Sys2Proof/Machine/Desc.lean ====
section
/-!
DEFINITION. Machine/Desc.lean: the operand forms of the module: the fields of a 64-byte descriptor and the checks on them that need no state (spec/06_host_rings.md R141, R142).
-/
namespace Sys2Proof.Machine

open Sys2Proof

/-- A descriptor's 64 bytes. -/
abbrev Desc := List Byte

/-- Opcodes of Table 06-7. -/
def opLoadModel : Nat := 0x01
def opLoadCoeff : Nat := 0x02
def opRunMac : Nat := 0x03
def opRunSample : Nat := 0x04
def opRunAnneal : Nat := 0x05
def opClassify : Nat := 0x06
def opTrain : Nat := 0x07
def opReadStates : Nat := 0x08
def opBankSwap : Nat := 0x09
def opPublish : Nat := 0x0A
def opFence : Nat := 0x0B
def opReconcile : Nat := 0x0C
def opMirror : Nat := 0x0D
def opFwStage : Nat := 0x0E
def opNop : Nat := 0x0F

/-- Header fields (Table 06-6). -/
def dOp (d : Desc) : Nat := natAt d 0 1
def dFence (d : Desc) : Bool := (natAt d 1 1).testBit 0
def dChain (d : Desc) : Bool := (natAt d 1 1).testBit 1
def dNoIrq (d : Desc) : Bool := (natAt d 1 1).testBit 2
def dTag (d : Desc) : Nat := natAt d 2 2
def dModel (d : Desc) : Nat := natAt d 4 2
def dGang (d : Desc) : Nat := natAt d 6 1
def dMode (d : Desc) : Nat := natAt d 7 1 % 4
def dDev0 (d : Desc) : Bool := (natAt d 7 1).testBit 2
def dDev1 (d : Desc) : Bool := (natAt d 7 1).testBit 3
def dAddr0 (d : Desc) : Nat := natAt d 8 8
def dAddr1 (d : Desc) : Nat := natAt d 16 8

/-- A named field of bytes 24 to 63: byte, lowest bit, width, and the values its range allows. -/
structure DField where
  off : Nat
  lo : Nat
  width : Nat
  min : Nat
  max : Nat
  step : Nat
  deriving DecidableEq, Repr

/-- The field's value. -/
def DField.get (f : DField) (d : Desc) : Nat := natAt d f.off 8 / 2 ^ f.lo % 2 ^ f.width

/-- Is the value in range? -/
def DField.ok (f : DField) (d : Desc) : Bool :=
  decide (f.min ≤ f.get d) && decide (f.get d ≤ f.max) && decide (f.get d % f.step = 0)

/-- Fields RUN_SAMPLE and RUN_ANNEAL share (Table 06-8). -/
def sampleFields : List DField := [
  ⟨24, 0, 32, 1, 0xFFFFFFFF, 1⟩, ⟨28, 0, 16, 1, 256, 1⟩, ⟨30, 0, 16, 1, 1024, 1⟩,
  ⟨32, 0, 64, 0, 2 ^ 64 - 1, 1⟩, ⟨40, 0, 1, 0, 1, 1⟩, ⟨40, 1, 1, 0, 1, 1⟩]

/-- Bytes 24 to 63 by opcode (Table 06-8). -/
def opFields (op : Nat) : List DField :=
  if op = opLoadModel then [⟨24, 0, 32, 64, 0x10000000, 64⟩, ⟨32, 0, 64, 0, 2 ^ 64 - 1, 4096⟩]
  else if op = opLoadCoeff then [⟨24, 0, 32, 16, 16777216, 16⟩, ⟨28, 0, 32, 0, 0xFFFFFFFF, 16⟩]
  else if op = opRunMac then [⟨24, 0, 32, 1, 0x1000000, 1⟩, ⟨28, 0, 16, 0, 0xFFFF, 1⟩, ⟨30, 0, 8, 0, 16, 4⟩]
  else if op = opRunSample then sampleFields
  else if op = opRunAnneal then sampleFields ++ [⟨44, 0, 16, 1, 4096, 1⟩]
  else if op = opClassify then [⟨24, 0, 3, 0, 7, 1⟩, ⟨24, 3, 1, 0, 1, 1⟩, ⟨25, 0, 8, 0, 16, 1⟩,
    ⟨28, 0, 32, 0, 0xFFFFFFFF, 1⟩, ⟨32, 0, 32, 0, 0xFFFFFFFF, 1⟩, ⟨36, 0, 32, 0, 0xFFFFFFFF, 64⟩]
  else if op = opTrain then [⟨24, 0, 32, 1, 65536, 1⟩, ⟨28, 0, 32, 0, 0xFFFFFFFF, 1⟩, ⟨32, 0, 32, 1, 0xFFFFFFFF, 1⟩,
    ⟨36, 0, 16, 1, 256, 1⟩, ⟨40, 0, 64, 0, 2 ^ 64 - 1, 1⟩, ⟨48, 0, 1, 0, 1, 1⟩]
  else if op = opReadStates then [⟨24, 0, 16, 1, 1024, 1⟩, ⟨26, 0, 1, 0, 1, 1⟩, ⟨28, 0, 32, 0, 0xFFFFFFFF, 1⟩]
  else if op = opBankSwap then [⟨24, 0, 32, 0, 0xFFFFFFFF, 1⟩]
  else if op = opFence then [⟨24, 0, 2, 0, 1, 1⟩]
  else if op = opReconcile then [⟨24, 0, 16, 0, 100, 1⟩, ⟨26, 0, 2, 0, 2, 1⟩]
  else if op = opMirror then [⟨24, 0, 8, 0, 5, 1⟩, ⟨28, 0, 32, 0, 0xFFFFFFFF, 1⟩]
  else if op = opFwStage then [⟨24, 0, 1, 0, 1, 1⟩, ⟨25, 0, 8, 0, 2, 1⟩, ⟨28, 0, 32, 0, 0xFFFFFFFF, 4096⟩,
    ⟨32, 0, 32, 64, 0x100000, 64⟩]
  else []

/-- How an opcode uses an address (Table 06-8). -/
inductive AddrUse where
  | none | opt | req
  deriving DecidableEq, Repr

/-- Use of addr0. -/
def use0 (d : Desc) : AddrUse :=
  let op := dOp d
  if op = opLoadModel ∨ op = opLoadCoeff ∨ op = opRunMac ∨ op = opRunAnneal ∨ op = opTrain then .req
  else if op = opRunSample ∨ op = opClassify ∨ op = opBankSwap ∨ op = opPublish then .opt
  else if op = opFwStage then (if natAt d 25 1 = 0 then .req else .opt)
  else .none

/-- Use of addr1. -/
def use1 (d : Desc) : AddrUse :=
  let op := dOp d
  if op = opRunMac ∨ op = opRunSample ∨ op = opRunAnneal ∨ op = opReadStates then .req
  else if op = opLoadModel ∨ op = opLoadCoeff ∨ op = opTrain then .opt
  else .none

/-- Bits of a field of the descriptor read as one number. -/
def bitsAt (byte lo width : Nat) : Nat := (2 ^ width - 1) * 2 ^ (8 * byte + lo)

/-- Every bit some table names for the descriptor; the others are RSV (R142). -/
def namedBits (d : Desc) : Nat :=
  bitsAt 0 0 11 + bitsAt 2 0 16 + bitsAt 4 0 16 + bitsAt 6 0 8 + bitsAt 7 0 4 +
  (if use0 d = .none then 0 else bitsAt 8 0 64) + (if use1 d = .none then 0 else bitsAt 16 0 64) +
  ((opFields (dOp d)).map (fun f => bitsAt f.off f.lo f.width)).sum

/-- Opcodes that need a model slot; CLASSIFY_STREAM may name one. -/
def needsModel (op : Nat) : Bool := decide (1 ≤ op) && decide (op ≤ 5) || decide (op = 7) || decide (op = 8)

/-- Opcodes that run on the gang they name. -/
def usesGang (op : Nat) : Bool := op == opLoadModel || op == opRunMac || op == opRunSample || op == opRunAnneal || op == opTrain

/-- Is an address as its use asks: aligned to 64 bytes, and not 0 where required? -/
def addrOk (u : AddrUse) (a : Nat) : Bool :=
  match u with
  | .none => true
  | .opt => decide (a % 64 = 0)
  | .req => decide (a % 64 = 0) && decide (a ≠ 0)

/-- RUN_MAC's fields, as their codes: in_exp −64 to +63 signed, group 0, 4, 8 or 16. -/
def macFieldsOk (d : Desc) : Bool :=
  decide (-64 ≤ signed 16 (natAt d 28 2)) && decide (signed 16 (natAt d 28 2) ≤ 63) && [0, 4, 8, 16].contains (natAt d 30 1)

/-- Rules between fields: a rule image's length (09 R244), a firmware chunk inside its slot (14 R384, R385), TRAIN_STEP's rate. -/
def crossOk (d : Desc) : Bool :=
  let op := dOp d
  if op = opRunMac then macFieldsOk d
  else if op = opTrain then f32pos (natAt d 28 4)
  else if op = opBankSwap then
    if dAddr0 d = 0 then decide (natAt d 24 4 = 0)
    else decide (64 ≤ natAt d 24 4) && decide (natAt d 24 4 ≤ 6291776) && decide (natAt d 24 4 % 64 = 0)
  else if op = opFwStage then
    if natAt d 25 1 = 0 then decide (natAt d 28 4 + natAt d 32 4 ≤ 0x100000)
    else decide (natAt d 28 4 = 0) && decide (natAt d 32 4 = 64)
  else true

/-- R143 step 1 as far as the descriptor alone shows it: opcode, reserved bits, ranges, addresses. -/
def descFits (d : Desc) : Bool :=
  decide (1 ≤ dOp d) && decide (dOp d ≤ 15) && decide (leNat (d.take 64) &&& namedBits d = leNat (d.take 64)) &&
  decide (dMode d ≠ 3) &&
  (decide (dModel d = 0xFFFF) || decide (dModel d < 256)) &&
  (if needsModel (dOp d) then decide (dModel d ≠ 0xFFFF) else dOp d == opClassify || decide (dModel d = 0xFFFF)) &&
  (decide (dGang d = 0xFF) || decide (dGang d < 64)) &&
  (opFields (dOp d)).all (fun f => f.ok d) && addrOk (use0 d) (dAddr0 d) && addrOk (use1 d) (dAddr1 d) && crossOk d

end Sys2Proof.Machine
end

