-- ==== Sys2Proof/Machine/EgressOps.lean ====
section
/-!
DEFINITION. Machine/EgressOps.lean: release of finished records, and context packets on the Ethernet ports (spec/09_capture_syllabus.md R237, R248; 11_akgal_pairs.md R300).
-/
namespace Sys2Proof.Machine

open Sys2Proof

/-- Change the ingest state. -/
def State.setCap (s : State) (g : Capture → Capture) : State := s.withCap (g s.cap)

/-- The record with a number. -/
def State.recOf (s : State) (id : Nat) : Option Rec := s.cap.recs.find? (fun r => decide (r.id = id))

/-- Change a record. -/
def State.mapRec (s : State) (id : Nat) (g : Rec → Rec) : State :=
  s.setCap (fun c => { c with recs := c.recs.map (fun r => if r.id = id then g r else r) })

/-- Space of a record of a payload length (R237). -/
def recSpace (len : Nat) : Nat := 64 + 64 * ((len + 63) / 64)

/-- Bytes reserved in a stream's buffer. -/
def State.reserved (s : State) (stream : Nat) : Nat :=
  ((s.cap.recs.filter (fun r => decide (r.stream = stream))).map (fun r => recSpace r.len)).sum

/-- CAP_STREAM_FILL.fill. -/
def State.showReserved (s : State) (stream : Nat) : State := s.put (Reg.CAP_STREAM_FILL.fill stream) (s.reserved stream)

/-- Records of a stream that are finished and have no unfinished one before them leave the buffer (R237). -/
def dropFinished (stream : Nat) : List Rec → List Rec
  | [] => []
  | r :: t => if r.stream ≠ stream then r :: dropFinished stream t
    else if r.finished then dropFinished stream t else r :: t

/-- Finished records leave a stream's buffer; the last one that left is the stream's release point (11 Table 11-6). -/
def State.release (s : State) (stream : Nat) : State :=
  let left := dropFinished stream s.cap.recs
  let gone := s.cap.recs.filter (fun r => decide (r.stream = stream) && !left.any (fun q => decide (q.id = r.id)))
  let point := match gone.getLast? with
    | some r => r.seq + 1
    | none => s.cap.released.getD stream 0
  (s.setCap (fun c => { c with recs := left, released := c.released.set stream point })).showReserved stream

/-- A record is finished: its space is freed once every earlier one is (R237). -/
def State.finishRec (s : State) (id : Nat) : State :=
  match s.recOf id with
  | none => s
  | some r => (s.mapRec id (fun x => { x with finished := true })).release r.stream

/-! Context packets (R248, Table 09-10). Layouts of Ethernet, IP and UDP headers are the published ones (PRESUMED). -/

/-- `n` big-endian bytes of `v`. -/
def beBytes (n v : Nat) : List Byte := (leBytes n v).reverse

/-- The number big-endian bytes spell. -/
def beNat (b : List Byte) : Nat := leNat b.reverse

/-- Sum of big-endian halfwords, ends folded: the Internet checksum's sum. -/
def onesSum (b : List Byte) : Nat :=
  let t := ((List.range ((b.length + 1) / 2)).map (fun i => beNat (bytesAt b (2 * i) 2))).sum
  let t := t % 65536 + t / 65536
  t % 65536 + t / 65536

/-- The checksum that makes the sum all ones. -/
def onesCheck (b : List Byte) : Nat := 65535 - onesSum b

/-- The pseudo-header of a UDP datagram of `n` bytes (17 is UDP). -/
def pseudoHeader (v6 : Bool) (src dst n : Nat) : List Byte :=
  if v6 then beBytes 16 src ++ beBytes 16 dst ++ beBytes 4 n ++ beBytes 4 17
  else beBytes 4 src ++ beBytes 4 dst ++ beBytes 2 17 ++ beBytes 2 n

/-- The port's own MAC address, first byte in the low bits. -/
def State.ownMac (s : State) (p : Nat) : Nat := s.get (Reg.CAP_ETH_MAC_LO.mac_lo p) + s.get (Reg.CAP_ETH_MAC_HI.mac_hi p) * 2 ^ 32

/-- The port's IPv6 address. -/
def State.ownIpv6 (s : State) (p : Nat) : Nat :=
  ((List.range 4).map (fun w => s.get (Reg.CAP_ETH_IPV6.ipv6 p w) * 2 ^ (32 * w))).sum

/-- The 13 words of a context packet. -/
def contextWords (count stream oui info pkt time seq w8 w9 anomaly energy last : Nat) : List Nat := [
  0x58E0000D + count % 16 * 2 ^ 16, stream, oui, info * 2 ^ 16 + pkt, time / 10 ^ 9,
  time % 10 ^ 9 * 1000 / 2 ^ 32, time % 10 ^ 9 * 1000 % 2 ^ 32, seq, w8, w9, anomaly, energy, last]

/-- The Ethernet frame of a context packet on egress entry `e`. -/
def State.contextFrame (s : State) (e : Nat) (words : List Nat) : List Byte :=
  let p := s.get (Reg.CAP_EGRESS.port e)
  let v6 := s.flag (Reg.CAP_EGRESS.ipv6 e)
  let body := words.flatMap (beBytes 4)
  let n := body.length + 8
  let src := if v6 then s.ownIpv6 p else s.get (Reg.CAP_ETH_IPV4.ipv4 p)
  let dst := if v6 then ((List.range 4).map (fun w => s.get (Reg.CAP_EGRESS.dst_ipv6 e w) * 2 ^ (32 * w))).sum
    else s.get (Reg.CAP_EGRESS.dst_ipv4 e)
  let ports := beBytes 2 (s.get (Reg.CAP_EGRESS.src_udp e)) ++ beBytes 2 (s.get (Reg.CAP_EGRESS.dst_udp e)) ++ beBytes 2 n
  let sum := onesCheck (pseudoHeader v6 src dst n ++ ports ++ [0, 0] ++ body)
  let udp := ports ++ beBytes 2 (if sum = 0 then 65535 else sum) ++ body
  let free := Config.packetOpen s.fresh
  let tc := s.get (Reg.CAP_EGRESS.dscp e) * 4
  let ttl := s.get (Reg.CAP_EGRESS.ttl e)
  let mac := leBytes 4 (s.get (Reg.CAP_EGRESS.dst_mac_lo e)) ++ leBytes 2 (s.get (Reg.CAP_EGRESS.dst_mac_hi e)) ++ leBytes 6 (s.ownMac p)
  if v6 then mac ++ beBytes 2 0x86DD ++ beBytes 4 (6 * 2 ^ 28 + tc * 2 ^ 20 + free % 2 ^ 20) ++ beBytes 2 n ++ beBytes 1 17 ++
    beBytes 1 ttl ++ beBytes 16 src ++ beBytes 16 dst ++ udp
  else
    let a := beBytes 1 0x45 ++ beBytes 1 tc ++ beBytes 2 (n + 20) ++ beBytes 2 free ++ beBytes 2 (free / 2 ^ 16 % 2 * 2 ^ 14) ++
      beBytes 1 ttl ++ beBytes 1 17
    let b := beBytes 4 src ++ beBytes 4 dst
    mac ++ beBytes 2 0x0800 ++ a ++ beBytes 2 (onesCheck (a ++ [0, 0] ++ b)) ++ b ++ udp

/-- Is the port's link up? -/
def State.ethUp (s : State) (p : Nat) : Bool := s.flag (Reg.CAP_ETH_MAC_HI.link_up p)

/-- Packets queued at a port. -/
def State.egressQueue (s : State) (p : Nat) : List EgressPkt := s.cap.egress.getD p []

/-- Set a port's queue. -/
def State.setEgress (s : State) (p : Nat) (q : List EgressPkt) : State := s.setCap (fun c => { c with egress := c.egress.set p q })

/-- A packet queued at `since` leaves on a port. -/
def State.sendPacket (s : State) (p : Nat) (b : List Byte) (since : Nat) : State :=
  (s.setCap (fun c => { c with sent := c.sent ++ [(p, b)], sentSince := c.sentSince.set p since })).bump (Reg.CAP_ETH_EGRESS.egress_sent p)

/-- Packets sent without the last one of a port. -/
def dropLastSent (p : Nat) (l : List (Nat × List Byte)) : List (Nat × List Byte) := (l.reverse.eraseP (fun x => decide (x.1 = p))).reverse

/-- Does a packet for a port meet a full queue, or a port that is down with no hold time (R248, 11 R300)? -/
def State.egressDrops (s : State) (p : Nat) : Bool :=
  !s.ethUp p && (decide (s.get (Reg.CAP_ETH_HOLD.hold_time p) = 0) || decide (256 ≤ (s.egressQueue p).length))

/-- A packet for a port: sent, queued while the port is down, or dropped (R248, 11 R300). -/
def State.egressPacket (s : State) (p : Nat) (b : List Byte) : State :=
  if s.ethUp p then s.sendPacket p b s.now
  else if s.egressDrops p then
    s.bump (Reg.CAP_ETH_EGRESS.egress_dropped p)
  else s.setEgress p (s.egressQueue p ++ [⟨b, s.now⟩])

/-- The context packet of a verdict entry of a record; one that is dropped counts for neither the entry's packet count nor its previous verdict (R248). -/
def State.contextPacket (s : State) (r : Rec) (x : Entry) : State :=
  let e := s.get (Reg.CAP_STREAM_CFG.egress_entry r.stream)
  if !r.egress || !s.flag (Reg.CAP_EGRESS.valid e) then s
  else
    let b := leBytes 8 x.result0
    let cls := natAt b 4 1
    let pri := natAt b 5 1 / 16
    let words := contextWords (s.get (Reg.CAP_EGRESS.pkt_count e)) (s.get (Reg.CAP_EGRESS.stream_id_out e)) (s.get (Reg.CAP_EGRESS.oui e))
      (s.get (Reg.CAP_EGRESS.info_class e)) (s.get (Reg.CAP_EGRESS.packet_class e)) x.time r.seq
      (cls * 2 ^ 24 + pri * 2 ^ 21 + r.stream * 2 ^ 18 + x.status) (r.tag * 2 ^ 16 + natAt b 6 2)
      (x.result1 % 2 ^ 32) (x.result1 / 2 ^ 32) (s.cap.lastOut.getD e 0)
    let s1 := s.egressPacket (s.get (Reg.CAP_EGRESS.port e)) (s.contextFrame e words)
    if s.egressDrops (s.get (Reg.CAP_EGRESS.port e)) then s1 else
    ((s1.withFresh (s1.fresh + 1)).put (Reg.CAP_EGRESS.pkt_count e) (s.get (Reg.CAP_EGRESS.pkt_count e) + 1)).setCap
      (fun c => { c with lastOut := c.lastOut.set e r.seq })

/-- A verdict entry has been written: its packet goes out and its record is finished (R237, R248). -/
def State.recWritten (s : State) (id : Nat) (x : Entry) : State :=
  match s.recOf id with
  | none => s
  | some r => (s.contextPacket r x).finishRec id

end Sys2Proof.Machine
end

