-- ==== Sys2Proof/Machine/RingOps.lean ====
section
/-!
DEFINITION. Machine/RingOps.lean: shared operations on rings, descriptors in flight, completion entries and moderation (spec/06_host_rings.md).
-/
namespace Sys2Proof.Machine

open Sys2Proof

/-- The partition that owns SQ `n` (R150). -/
def State.sqOwner (s : State) (n : Nat) : Option Nat := (List.range 9).find? (fun p => (s.part p).sqs.testBit n)

/-- The partition that owns CQ `n`. -/
def State.cqOwner (s : State) (n : Nat) : Option Nat := (List.range 9).find? (fun p => (s.part p).cqs.testBit n)

/-- Entries of a ring. -/
def State.sqSize (s : State) (n : Nat) : Nat := 2 ^ s.get (Reg.HIF_SQ_CFG.size_log2 n)
def State.cqSize (s : State) (n : Nat) : Nat := 2 ^ s.get (Reg.HIF_CQ_CFG.size_log2 n)

/-- Base address of a ring. -/
def State.sqBase (s : State) (n : Nat) : Nat :=
  s.get (Reg.HIF_SQ_BASE_LO.base_lo n) * 4096 + s.get (Reg.HIF_SQ_BASE_HI.base_hi n) * 2 ^ 32
def State.cqBase (s : State) (n : Nat) : Nat :=
  s.get (Reg.HIF_CQ_BASE_LO.base_lo n) * 4096 + s.get (Reg.HIF_CQ_BASE_HI.base_hi n) * 2 ^ 32

/-- Is a ring enabled? -/
def State.sqOn (s : State) (n : Nat) : Bool := s.flag (Reg.HIF_SQ_CFG.enable n)
def State.cqOn (s : State) (n : Nat) : Bool := s.flag (Reg.HIF_CQ_CFG.enable n)

/-- Descriptors waiting in an SQ. -/
def State.sqWaiting (s : State) (n : Nat) : Nat :=
  (s.get (Reg.HIF_SQ_STATE.tail n) + s.sqSize n - s.get (Reg.HIF_SQ_STATE.head n)) % s.sqSize n

/-- Unreleased entries of a CQ (R137). -/
def State.cqUsed (s : State) (n : Nat) : Nat :=
  if s.flag (Reg.HIF_CQ_STATUS.full n) then s.cqSize n
  else (s.get (Reg.HIF_CQ_STATE.tail n) + s.cqSize n - s.get (Reg.HIF_CQ_HEAD.head n)) % s.cqSize n

/-- Is a CQ stopped by an entry write that was not issued (R159)? -/
def State.cqStop (s : State) (n : Nat) : Bool := s.host.cqStopped.getD n false

/-- Is an SQ stopped by an error (R157)? -/
def State.sqStop (s : State) (n : Nat) : Bool := s.host.sqStopped.getD n false

/-- Descriptors of an SQ in flight. -/
def State.sqFlights (s : State) (n : Nat) : List Flight := s.host.flights.filter (fun f => decide (f.sq = n))

/-- HIF_STATUS.inflight and HIF_SQ_STATUS.idle follow the descriptors in flight (Tables 06-15, 06-16). -/
def State.showFlights (s : State) (sq : Nat) : State :=
  (s.put Reg.HIF_STATUS.inflight s.host.flights.length).putFlag (Reg.HIF_SQ_STATUS.idle sq) (s.sqFlights sq).isEmpty

/-- The descriptor in flight with a number. -/
def State.flight (s : State) (id : Nat) : Option Flight := s.host.flights.find? (fun f => decide (f.id = id))

/-- HPS_STATUS.publish_pending: an HPS_TABLE_PUBLISH is between fetch and flip (10 Table 10-6). -/
def State.showPublish (s : State) : State :=
  s.putFlag Reg.HPS_STATUS.publish_pending (decide (s.pass.publishes ≠ []) ||
    s.host.flights.any (fun f => decide (dOp f.bytes = opPublish) && decide (f.stage = .waiting)))

/-- Change a descriptor in flight. -/
def State.mapFlight (s : State) (id : Nat) (g : Flight → Flight) : State :=
  s.withHost { s.host with flights := s.host.flights.map (fun f => if f.id = id then g f else f) }

/-- Raise ring_error to the PF and to the owner of a ring (Table 06-12). -/
def State.raiseRing (s : State) (owner : Option Nat) (detail : Nat) : State :=
  s.raiseAll cause.ringError noUnit detail (match owner with | some p => if p = 0 then [] else [p] | none => [])

/-- An SQ error: the ring stops fetching and the tail stays (R157). -/
def State.sqError (s : State) (n code : Nat) : State :=
  let s1 := (s.put (Reg.HIF_SQ_STATUS.error n) 1).put (Reg.HIF_SQ_STATUS.err_code n) code
  (s1.withHost { s1.host with sqStopped := s1.host.sqStopped.set n true }).raiseRing (s.sqOwner n)
    (s1.word (Reg.HIF_SQ_STATUS.error n).off).toNat

/-- A CQ error; `stop` when an entry write was not issued (R159). -/
def State.cqError (s : State) (n : Nat) (stop : Bool) : State :=
  let s1 := s.put (Reg.HIF_CQ_STATUS.error n) 1
  (s1.withHost { s1.host with cqStopped := s1.host.cqStopped.set n (stop || s1.cqStop n) }).raiseRing (s.cqOwner n)
    (s1.word (Reg.HIF_CQ_STATUS.error n).off).toNat

/-! Work of a descriptor ends (R144, R145, R147, R161). -/

/-- What a completion entry reports beside status and results: the info bits and repeated epochs. -/
structure Info where
  short : Bool
  replays : Nat
  cancel : Bool
  deriving DecidableEq, Repr

/-- Nothing to report. -/
def Info.plain : Info := ⟨false, 0, false⟩

/-- R145: the highest code that applies to work that ended as Done; R192: ACC_SAT counts among them. -/
def Info.status (i : Info) (sat : Bool) : Nat :=
  if sat then 0x30 else if i.cancel then 3 else if i.replays ≠ 0 then 2 else if i.short then 1 else 0

/-- The work of a descriptor ends: its entry waits to be written, and the standing descriptor stands no more. -/
def State.finishWith (s : State) (id status r0 r1 : Nat) (info : Info) : State :=
  match s.flight id with
  | none => s
  | some f =>
    if f.stage = .ended then s
    else
      let e : Entry := {
        tag := dTag f.bytes, status := status, kind := .descriptor, infoShort := info.short
        infoReplayed := decide (info.replays ≠ 0), infoCancel := info.cancel, sq := f.sq, part := f.part
        replay := min info.replays 15, result0 := r0, result1 := r1, time := s.time }
      (s.mapFlight id (fun g => { g with stage := .ended, status := status, standing := false, heldBack := false })).hold
        ⟨s.get (Reg.HIF_SQ_CFG.cq f.sq), e, !dNoIrq f.bytes, false, none, some id, none, false⟩
      |>.showPublish

/-- Without info bits. -/
def State.finish (s : State) (id status r0 r1 : Nat) : State := s.finishWith id status r0 r1 Info.plain

/-- Work that runs marks its descriptor. -/
def State.runFlight (s : State) (id : Nat) : State := s.mapFlight id (fun g => { g with stage := .running })

/-- Descriptors whose chained predecessor has completed badly end ABORTED without work (Table 06-6, R161). -/
def State.chainAborts (s : State) : State :=
  s.each (s.host.flights.filter (fun f => f.chainBad && decide (f.chainOn = none) && decide (f.stage = .waiting)))
    (fun t f => t.finish f.id 0x13 0 0)

/-- A descriptor's entry has been written: it leaves flight, and what waits on it learns its status. -/
def State.complete (s : State) (id : Nat) : State :=
  match s.flight id with
  | none => s
  | some f =>
    let bad := decide (0x10 ≤ f.status)
    let h := s.host
    let s1 := (s.withHost { h with
      flights := (h.flights.filter (fun (g : Flight) => decide (g.id ≠ id))).map (fun (g : Flight) =>
        if g.chainOn = some id then { g with chainOn := none, chainBad := bad } else g)
      sqLastDone := if h.sqLast.getD f.sq 0 = id then h.sqLastDone.set f.sq (some f.status) else h.sqLastDone })
    (s1.showFlights f.sq).chainAborts

/-- May a fetched descriptor start (R147, R148, Table 06-6)? Those before it on its SQ have started, none of them is a FENCE, and its fence and chain bits allow it. -/
def State.mayStart (s : State) (f : Flight) : Bool :=
  let before := s.host.flights.filter (fun (g : Flight) => decide (g.sq = f.sq) && decide (g.id < f.id))
  decide (f.stage = .waiting) && !f.heldBack && decide (f.chainOn = none) &&
  before.all (fun g => decide (g.stage ≠ .waiting) && decide (dOp g.bytes ≠ opFence)) &&
  (!dFence f.bytes || decide (before = []))

/-- The core that carries an opcode's work (15 "Halting the cores"). -/
def opCore (op : Nat) : Nat :=
  if op = opFence ∨ op = opNop then 0 else if op = opClassify ∨ op = opBankSwap then 1
  else if op = opReconcile ∨ op = opMirror ∨ op = opFwStage then 3 else 2

/-- The flight `id` if it carries `op` and may start; its core is not halted (15 R407). -/
def State.startable (s : State) (id op : Nat) : Option Flight :=
  (s.flight id).filter (fun f => decide (dOp f.bytes = op) && s.mayStart f && !s.halted (opCore op))

/-! Moderation and completion writes (R137, R138, R153, R158). -/

/-- The CQ's vector is sent; what was counted is signalled. -/
def State.signalCq (s : State) (n : Nat) : State :=
  (s.withHost { s.host with unsignalled := s.host.unsignalled.set n 0 }).sendVec ((s.cqOwner n).getD 0)
    (s.get (Reg.HIF_CQ_CFG.vector n))

/-- The moderation decision after an entry is written (R153). -/
def State.moderate (s : State) (n : Nat) (h : Held) : State :=
  let s1 := if h.counted then
      s.withHost { s.host with unsignalled := s.host.unsignalled.modify n (· + 1) }
    else s
  if !s1.flag (Reg.HIF_CQ_CFG.irq_en n) then s1
  else if h.urgent && s1.flag (Reg.HIF_CQ_CFG.urgent_bypass n) then s1.signalCq n
  else if h.counted && decide (s1.get (Reg.HIF_CQ_COALESCE.coalesce_count n) ≤ s1.host.unsignalled.getD n 0) then s1.signalCq n
  else s1

/-- The 32 bytes of an entry (Table 06-9). -/
def Entry.bytes (e : Entry) (phase sqHead : Nat) : List Byte :=
  let kind := match e.kind with | .descriptor => 0 | .verdict => 1 | .event => 2
  let bit := fun (b : Bool) (n : Nat) => if b then 2 ^ n else 0
  leBytes 2 e.tag ++ leBytes 1 e.status ++
  leBytes 1 (phase + kind * 2 + bit e.infoShort 3 + bit e.infoReplayed 4 + bit e.infoCancel 5) ++
  leBytes 1 (e.sq % 64) ++ leBytes 1 (e.part + e.replay * 16) ++ leBytes 2 sqHead ++
  leBytes 8 e.result0 ++ leBytes 8 e.result1 ++ leBytes 8 e.time

/-- A priority-7 verdict's latency to J1 is measured (10 R269). -/
def State.measureP7 (s : State) (h : Held) : State :=
  if h.urgent then
    let ns := s.time - h.entry.time
    let s1 := s.put Reg.HPS_DEADLINE.worst_p7 (max (s.get Reg.HPS_DEADLINE.worst_p7) (min (ns / 10) 0xFFFF))
    s1.when_ (decide (7250 < ns)) (·.bump Reg.HPS_DEADLINE.late_p7)
  else s

/-- The entry is written to its slot as one 32-byte posted write; tail, phase and full follow (R137, R138). -/
def State.writeEntry (s : State) (n : Nat) (h : Held) : State :=
  let part := (s.cqOwner n).getD 0
  let tail := s.get (Reg.HIF_CQ_STATE.tail n)
  let head := match h.entry.kind with | .event => 0 | _ => s.get (Reg.HIF_SQ_STATE.head h.entry.sq)
  let bytes := h.entry.bytes (s.get (Reg.HIF_CQ_STATE.phase n)) head
  let addr := s.cqBase n + 32 * tail
  let next := (tail + 1) % s.cqSize n
  let s1 := (s.post (.dma part addr bytes false)).traceAccess 4 h.entry.part 0 addr bytes true
  let s2 := s1.put (Reg.HIF_CQ_STATE.tail n) next
  let s3 := if next = 0 then s2.put (Reg.HIF_CQ_STATE.phase n) (1 - s.get (Reg.HIF_CQ_STATE.phase n)) else s2
  s3.putFlag (Reg.HIF_CQ_STATUS.full n) (decide (next = s.get (Reg.HIF_CQ_HEAD.head n)))

/-- Can the module write to host memory at all: not quiesced, endpoint up (R160)? -/
def State.mayPost (s : State) : Bool := s.hostUp && decide (s.service ≠ svcRecess)

/-- The entry that CQ `n` takes next: a priority-7 verdict first, else the one whose work ended first (R147, 10 R266); of a stream's verdicts that waited for space the earliest record (R158). -/
def State.nextHeld (s : State) (n : Nat) : Option Held :=
  let l := s.host.held.filter (fun h => decide (h.cq = n))
  match (l.find? (·.urgent)).orElse (fun _ => l.head?) with
  | none => none
  | some h =>
    if h.waited && h.stream.isSome then
      some ((l.filter (fun g => g.waited && decide (g.stream = h.stream))).foldl
        (fun a g => if g.record.getD 0 < a.record.getD 0 then g else a) h)
    else some h

/-- The next entry that waits for CQ `n` is written, once it has space and is not stopped; a write that cannot be issued stops the CQ (R158, R159). -/
def State.completionWrite (s : State) (n : Nat) (parityOk : Bool) : State :=
  match s.nextHeld n with
  | none => s
  | some h =>
    if !s.mayPost || !s.cqOn n || s.cqStop n || s.flag (Reg.HIF_CQ_STATUS.full n) then s
    else if !parityOk || !(s.fnCfg ((s.cqOwner n).getD 0)).busMaster then s.cqError n true
    else
      let s1 := (s.writeEntry n h).measureP7 h
      let s2 := s1.withHost { s1.host with held := s1.host.held.erase h }
      let s3 := match h.flight with | some id => s2.complete id | none => s2
      let s4 := match h.record with | some id => s3.recWritten id h.entry | none => s3
      s4.moderate n h

/-- Is a verdict entry of a stream dropped: does its full or stopped CQ already hold 64 of them (R158, R159)? -/
def State.verdictDrops (s : State) (n stream : Nat) : Bool :=
  let mine := (s.host.held.filter (fun g => decide (g.cq = n) && decide (g.stream = some stream))).length
  (s.flag (Reg.HIF_CQ_STATUS.full n) || s.cqStop n || s.awaitsResume n) && decide (64 ≤ mine)

/-- A verdict entry is dropped and reported (R158). -/
def State.dropVerdict (s : State) (n part : Nat) : State :=
  let s1 := (s.bump (Reg.HIF_CQ_STATUS.verdicts_dropped n)).put (Reg.HIF_CQ_STATUS.overflow n) 1
  s1.raiseAll cause.verdictDrop noUnit (s1.word (Reg.HIF_CQ_STATUS.overflow n).off).toNat (if part = 0 then [] else [part])

/-! Ring configuration (R135, R139, R140). -/

/-- A write of HIF_SQ_CFG. -/
def State.sqCfgWrite (s : State) (n : Nat) (v : Word) : State :=
  let f := Reg.HIF_SQ_CFG.enable n
  let old := s.word f.off
  let w := (writtenWord old f.off (s.expert blk.hif) v).1
  let was := old.toNat.testBit 24
  let now := w.toNat.testBit 24
  if was && now then
    s.setWord f.off (withField (withField w 0 5 (fieldOf old 0 5)) 8 6 (fieldOf old 8 6))
  else if now then
    let cq := fieldOf w 8 6
    if s.cqOn cq && decide (s.cqOwner cq = s.sqOwner n) then
      let s1 := ((s.setWord f.off w).put (Reg.HIF_SQ_STATE.head n) 0).put (Reg.HIF_SQ_STATE.tail n) 0
      let err := s1.flag (Reg.HIF_SQ_STATUS.error n)
      let s2 := s1.withHost { s1.host with
        sqStopped := s1.host.sqStopped.set n err
        sqLastDone := s1.host.sqLastDone.set n none }
      if err then s2 else s2.put (Reg.HIF_SQ_STATUS.err_code n) 0
    else s.put (Reg.HIF_SQ_STATUS.err_code n) 4
  else s.setWord f.off w

/-- Is an enabled SQ bound to the CQ? -/
def State.cqBound (s : State) (n : Nat) : Bool :=
  (List.range 64).any (fun q => s.sqOn q && decide (s.get (Reg.HIF_SQ_CFG.cq q) = n))

/-- A write of HIF_CQ_CFG. -/
def State.cqCfgWrite (s : State) (n : Nat) (v : Word) : State :=
  let f := Reg.HIF_CQ_CFG.enable n
  let old := s.word f.off
  let w := (writtenWord old f.off (s.expert blk.hif) v).1
  let was := old.toNat.testBit 16
  let now := w.toNat.testBit 16
  if was && now then s.setWord f.off (withField w 0 5 (fieldOf old 0 5))
  else if was then (if s.cqBound n then s else s.setWord f.off w)
  else if now then
    let s1 := ((s.setWord f.off w).put (Reg.HIF_CQ_STATE.tail n) 0).put (Reg.HIF_CQ_HEAD.head n) 0
    let s2 := (s1.put (Reg.HIF_CQ_STATE.phase n) 1).put (Reg.HIF_CQ_STATUS.full n) 0
    (s2.withHost { s2.host with unsignalled := s2.host.unsignalled.set n 0 })
  else s.setWord f.off w

/-- A ring's base word keeps its value while the ring is enabled (R140); the high half waits for the low one (00 R5). -/
def State.baseWrite (s : State) (off : Nat) (v : Word) : State :=
  let n := off % 0x1000 / 0x20
  let on := if off < 0x12000 then s.sqOn n else s.cqOn n
  if off % 8 = 4 then s.stageHi off v
  else if on then s.stageTaken off
  else ((s.stageTaken off).setWord (off + 4) (s.stagedHi off)).setWord off (v &&& 0xFFFFF000)

/-- Clearing the error bit of an SQ: it stays stopped until it is enabled again (R157). -/
def State.sqErrorClear (s : State) (n : Nat) : State := s.put (Reg.HIF_SQ_STATUS.error n) 0

/-- Clearing the error bit of a CQ restarts it (R159). -/
def State.cqErrorClear (s : State) (n : Nat) : State :=
  (s.withHost { s.host with cqStopped := s.host.cqStopped.set n false }).put (Reg.HIF_CQ_STATUS.error n) 0

/-! Doorbells (R133, R136, R157, R159). -/

/-- A tail doorbell at a ring its sender owns; a stopped SQ that is enabled takes it too, and stays stopped (R157). -/
def State.sqTail (s : State) (n v : Nat) : State :=
  let size := s.sqSize n
  let tail := s.get (Reg.HIF_SQ_STATE.tail n)
  if !s.sqOn n then s
  else if size ≤ v then s.sqError n 1
  else if size - 1 - s.sqWaiting n < (v + size - tail) % size then s.sqError n 2
  else s.put (Reg.HIF_SQ_STATE.tail n) v

/-- A head doorbell. -/
def State.cqHead (s : State) (n v : Nat) : State :=
  let size := s.cqSize n
  let head := s.get (Reg.HIF_CQ_HEAD.head n)
  let used := s.cqUsed n
  if !s.cqOn n then s
  else if decide (size ≤ v) || decide (used < (v + size - head) % size) then s.cqError n false
  else
    let released := (v + size - head) % size
    let s1 := s.put (Reg.HIF_CQ_HEAD.head n) v
    if used = size || released ≠ 0 then s1.put (Reg.HIF_CQ_STATUS.full n) 0 else s1

/-- A doorbell to a ring its sender's partition does not own counts as a misdirected one (R133, Table 06-15). -/
def State.misdirected (s : State) : State := s.bump Reg.HIF_STATUS.backpressure

/-! Interrupt controls (R153). -/

/-- Messages held for the vectors of a function are sent where they now can be. -/
def State.releaseHeld (s : State) (fn : Nat) : State :=
  s.each (List.range 8) (fun t v =>
    if (t.msixVec fn v).pending && t.canSend fn v then t.sendVec fn v else t)

/-- Change a function's configuration control (Table 06-1, R153, 05 R121). -/
def State.cfgSet (s : State) (fn : Nat) (f : CfgField) : State :=
  let fnMap := fun (g : FnCfg → FnCfg) => s.withHost { s.host with fn := s.host.fn.modify fn g }
  match f with
  | .msixEnable on => (fnMap (fun c => { c with msixEnable := on })).releaseHeld fn
  | .funcMask on => (fnMap (fun c => { c with funcMask := on })).releaseHeld fn
  | .busMaster on => (fnMap (fun c => { c with busMaster := on })).releaseHeld fn
  | .aspmL1 on => if fn = 0 then s.withHost { s.host with aspmL1 := on } else s
  | .d3hot on => fnMap (fun c => { c with d3hot := on })
  | .maxPayload n => if n = 128 ∨ n = 256 ∨ n = 512 then fnMap (fun c => { c with maxPayload := n }) else s
  | .maxRead n => if n ∈ [128, 256, 512, 1024, 2048, 4096] then fnMap (fun c => { c with maxRead := n }) else s
  | .numVfs n => if fn = 0 then s.withHost { s.host with numVfs := min n 8 } else s

/-- Unmask or mask a vector. -/
def State.maskVec (s : State) (fn v : Nat) (on : Bool) : State :=
  (s.withHost { s.host with msix := s.host.msix.modify (8 * fn + v) (fun m => { m with masked := on }) }).releaseHeld fn

/-! Profile (Table 06-13). -/

/-- coalesce_count, coalesce_time, fetch_burst, ro_data of a HIF profile. -/
def hifTable (p : Nat) : Nat × Nat × Nat × Nat :=
  if p = 0 then (1, 0, 4, 0) else if p = 1 then (16, 8, 8, 0) else (64, 64, 16, 1)

/-- HIF_PROFILE loads every SQ, every CQ and the globals, and leaves Expert (R156, R162). -/
def State.hifProfileWrite (s : State) (p : Nat) : State :=
  if 3 ≤ p then s
  else
    let t := hifTable p
    let s1 := ((s.leaveExpert blk.hif).put Reg.HIF_PROFILE.profile p).put Reg.HIF_DATA_CFG.ro_data t.2.2.2
    let s2 := (s1.put Reg.HIF_FETCH_CFG.urgent_reserve 64).put Reg.HIF_FETCH_CFG.fetch_burst t.2.2.1
    s2.each (List.range 64) (fun u n =>
      (((u.put (Reg.HIF_SQ_CFG.weight n) 1).put (Reg.HIF_CQ_CFG.urgent_bypass n) 1).put
        (Reg.HIF_CQ_COALESCE.coalesce_count n) t.1).put (Reg.HIF_CQ_COALESCE.coalesce_time n) t.2.1)

end Sys2Proof.Machine
end

