-- ==== Sys2Proof/Machine/FabricOps.lean ====
section
/-!
DEFINITION. Machine/FabricOps.lean: shared operations on the cell fabric: layout, capacity, banks, MAC arithmetic and the gang scheduler (spec/07_cell_fabric_arithmetic.md; 10_hall_pass_deadlines.md R266; 12 R329 to R331).
-/
namespace Sys2Proof.Machine

open Sys2Proof

/-! Layout (R165 to R168). -/

/-- Tiles of the gang of a size with an ID, row by row (R165). -/
def gangTiles (size id : Nat) : List Nat :=
  (List.range 64).filter (fun t => decide (id / 8 ≤ t / 8) && decide (t / 8 < id / 8 + 2 ^ size) && decide (id % 8 ≤ t % 8) && decide (t % 8 < id % 8 + 2 ^ size))

/-- The ledger unit of a gang (12 Table 12-4). -/
def gangUnit (size id : Nat) : Nat :=
  if size = 0 then id else if size = 1 then 64 + quadOf id else 80 + regionOf id

/-- The region that holds a quad. -/
def regionOfQuad (q : Nat) : Nat := 2 * (q / 8) + q % 4 / 2

/-- A gang layout: the bits of FAB_GANG_CFG, the spare quad of the guarded profile, and whether only Homeroom's tiles exist. -/
structure Layout where
  quad4 : Nat
  region16 : Nat
  spare : Option Nat
  homeroom : Bool
  deriving DecidableEq, Repr

/-- Does the layout hold the gang (Table 07-2, R166, R168)? -/
def Layout.has (l : Layout) (size id : Nat) : Bool :=
  let q := quadOf id
  let R := regionOf id
  decide (id < 64) && (!l.homeroom || (decide (id < 16) && decide (size < 2))) &&
  (if size = 0 then !l.quad4.testBit q && !l.region16.testBit R && decide (l.spare ≠ some q)
   else if size = 1 then l.quad4.testBit q && !l.region16.testBit R && decide ((quadTiles q).head? = some id) && decide (l.spare ≠ some q)
   else if size = 2 then l.region16.testBit R && decide ((regionTiles R).head? = some id)
   else false)

/-- IDs of the gangs of a size, ascending. -/
def Layout.gangs (l : Layout) (size : Nat) : List Nat := (List.range 64).filter (fun id => l.has size id)

/-- The spare quad, in the guarded profile. -/
def State.spareQuad (s : State) : Option Nat :=
  if s.get Reg.FAB_PROFILE.profile = 0 then some (s.get Reg.FAB_PROFILE.spare_quad) else none

/-- The layout in force. -/
def State.layout (s : State) : Layout :=
  ⟨s.get Reg.FAB_GANG_CFG.quad4, s.get Reg.FAB_GANG_CFG.region16, s.spareQuad, s.flag Reg.GLB_SERVICE.homeroom⟩

/-- Does partition `p` own every tile of the gang? -/
def State.ownsGang (s : State) (p size id : Nat) : Bool :=
  (gangTiles size id).all (fun t => (s.part p).quads.testBit (quadOf t))

/-- Gang sets a run of `count` gangs may use: consecutive gangs of the layout, all the partition's, starting at the named gang unless that is 0xFF (R167, R197). -/
def State.gangSets (s : State) (p size count gang : Nat) : List (List Nat) :=
  let all := s.layout.gangs size
  ((List.range all.length).map (fun i => (all.drop i).take count)).filter (fun w =>
    decide (w.length = count) && (decide (gang = 0xFF) || decide (w.head? = some gang)) && w.all (s.ownsGang p size))

/-- The spare that stands in for a tile (12 R330). -/
def State.standIn (s : State) (t : Nat) : Option Nat :=
  (List.range 64).find? (fun u => s.flag (Reg.FAB_TILE_STATUS.standing_in u) && decide (s.get (Reg.FAB_TILE_STATUS.stands_for u) = t))

/-- The tile that does the work of `t`: itself, its spare or its partner. -/
def State.carrier (s : State) (t : Nat) : Nat :=
  match s.standIn t with
  | some u => u
  | none => match s.fab.partners.find? (fun p => decide (p.1 = t) && decide (p.2 < 64)) with
    | some p => p.2
    | none => t

/-- Is a unit READY? -/
def State.unitReady (s : State) (u : Nat) : Bool := decide (s.get (Reg.FAB_LEDGER.data_state u) = dataReady)

/-- Can the tile's position take work: READY, or stood in for? -/
def State.tileReady (s : State) (t : Nat) : Bool := s.unitReady t || decide (s.carrier t ≠ t)

/-- Is a gang in service (12 R325)? -/
def State.gangReady (s : State) (size id : Nat) : Bool :=
  (decide (size = 0) || s.unitReady (gangUnit size id)) && (gangTiles size id).all s.tileReady

/-- Tiles a run holds. -/
def Run.tiles (r : Run) : List Nat := (r.gangs.getD []).flatMap (gangTiles r.size)

/-- Is a gang held by a run? -/
def State.gangHeld (s : State) (size id : Nat) : Bool :=
  s.fab.runs.any (fun r => r.tiles.any (fun t => (gangTiles size id).contains t))

/-! Capacity (Table 07-8, 12 R331). -/

/-- Is the tile one of the spare quad? -/
def State.isSpare (s : State) (t : Nat) : Bool := decide (s.spareQuad = some (quadOf t))

/-- FAB_CAPACITY and the spare bits follow the profile, the ledger and the faults. -/
def State.showCapacity (s : State) : State :=
  let able := (List.range 64).filter (fun t => !s.isSpare t && (s.unitReady t || (s.standIn t).isSome))
  let free := (List.range 64).filter (fun t => s.isSpare t && s.unitReady t && !s.flag (Reg.FAB_TILE_STATUS.standing_in t))
  let g16 := (List.range 4).filter (fun R => !s.flag Reg.GLB_SERVICE.homeroom &&
    decide (s.get (Reg.FAB_LEDGER.data_state (80 + R)) ≠ dataFailed) &&
    (regionTiles R).all (fun t => !s.isSpare t) &&
    decide (((regionTiles R).filter (fun t => !able.contains t)).length ≤ 1))
  let s1 := ((s.put Reg.FAB_CAPACITY.tiles_in_service able.length).put Reg.FAB_CAPACITY.spares_free free.length).put
    Reg.FAB_CAPACITY.gangs16 g16.length
  s1.each (List.range 64) (fun u t => u.putFlag (Reg.FAB_TILE_STATUS.spare t) (s.isSpare t))

/-- Does a tile hold a loaded model or have work in flight: it or the tile that stands for it is busy, or a run has been given its gang (R166, R187)? -/
def State.tileTaken (s : State) (t : Nat) : Bool :=
  s.flag (Reg.FAB_TILE_STATUS.model_valid t) || s.flag (Reg.FAB_TILE_STATUS.busy t) || s.flag (Reg.FAB_TILE_STATUS.busy (s.carrier t)) ||
    s.fab.runs.any (fun r => r.tiles.contains t)

/-- Would a change of layout touch no gang that holds a model or has work in flight (R166)? -/
def State.layoutFree (s : State) (new : Layout) : Bool :=
  [0, 1, 2].all (fun z => (List.range 64).all (fun id =>
    decide (s.layout.has z id = new.has z id) || (gangTiles z id).all (fun t => !s.tileTaken t)))

/-- Are the quads of a region all one partition's, and none of them the spare quad (R166)? -/
def State.regionWhole (s : State) (R : Nat) : Bool :=
  (List.range 9).any (fun p => (regionTiles R).all (fun t => (s.part p).quads.testBit (quadOf t))) &&
  (regionTiles R).all (fun t => !s.isSpare t)

/-- A refused layout, profile or spare_quad write. -/
def State.cfgRefused (s : State) : State := s.put Reg.FAB_STATUS.cfg_refused 1

/-- A write of FAB_GANG_CFG (R166). -/
def State.gangCfgWrite (s : State) (v : Nat) : State :=
  let q := v % 2 ^ 16
  let r := v / 2 ^ 16 % 16
  if s.layoutFree { s.layout with quad4 := q, region16 := r } && (List.range 4).all (fun R => !r.testBit R || s.regionWhole R) then
    (s.put Reg.FAB_GANG_CFG.quad4 q).put Reg.FAB_GANG_CFG.region16 r
  else s.cfgRefused

/-- May the spare quad become `new` (R187)? -/
def State.spareMay (s : State) (new : Option Nat) : Bool :=
  decide (s.spareQuad = new) ||
  ((match new with
    | some q => (quadTiles q).all (fun t => !s.tileTaken t) && !(s.get Reg.FAB_GANG_CFG.region16).testBit (regionOfQuad q)
    | none => true) &&
   (match s.spareQuad with
    | some q => (quadTiles q).all (fun t => !s.flag (Reg.FAB_TILE_STATUS.standing_in t))
    | none => true))

/-- A write of FAB_PROFILE.profile (R187, R188). -/
def State.fabProfileWrite (s : State) (p : Nat) : State :=
  if 2 ≤ p then s
  else if s.spareMay (if p = 0 then some 15 else none) then
    let s1 := ((s.leaveExpert blk.fab).put Reg.FAB_PROFILE.profile p).put Reg.FAB_PROFILE.spare_quad 15
    ((((s1.put Reg.FAB_PROFILE.group_r0 2).put Reg.FAB_PROFILE.group_r1 2).put Reg.FAB_PROFILE.group_r2 2).put
      Reg.FAB_PROFILE.group_r3 2).showCapacity
  else s.cfgRefused

/-- An Expert write of spare_quad (R188). -/
def State.spareWrite (s : State) (q : Nat) : State :=
  if !s.expert blk.fab then s
  else if s.get Reg.FAB_PROFILE.profile ≠ 0 then s.put Reg.FAB_PROFILE.spare_quad q
  else if s.spareMay (some (q % 16)) then (s.put Reg.FAB_PROFILE.spare_quad q).showCapacity
  else s.cfgRefused

/-- The shape-order group size a region's setting gives (Table 07-8). -/
def State.groupOf (s : State) (gang : Nat) : Nat :=
  4 * 2 ^ s.get ([Reg.FAB_PROFILE.group_r0, Reg.FAB_PROFILE.group_r1, Reg.FAB_PROFILE.group_r2].getD (regionOf gang)
    Reg.FAB_PROFILE.group_r3)

/-! Grading (R169 to R172). -/

/-- One graded block: exponent, mantissas, flags, and the block error as binary32. -/
structure Grade where
  e : Nat
  ms : List Int
  clamped : Bool
  nonfinite : Bool
  zero : Bool
  floor : Bool
  err : Nat
  deriving DecidableEq, Repr

/-- round(c ÷ 2^(e − 48)), ties to even. -/
def mantissaOf (c : Dy) (e : Nat) : Int := (c.mul ⟨1, 48 - (e : Int)⟩).toIntEven

/-- The smallest exponent from `lo` up at which `a` rounds to at most 2,047. -/
def fitExp (a : Dy) (lo : Nat) : Option Nat := ((List.range 64).drop lo).find? (fun e => decide (mantissaOf a e ≤ 2047))

/-- The largest magnitude among finite couplings. -/
def blockMax (cs : List (Option Dy)) : Dy := cs.foldl (fun a c => a.max ((c.getD Dy.zero).abs)) Dy.zero

/-- The largest magnitude of a list. -/
def largestDy (l : List Dy) : Dy := l.foldl (fun a c => a.max c.abs) Dy.zero

/-- Grade one block of float32 couplings; none stands for a NaN or an infinity (R171). -/
def gradeBlock (eMin : Nat) (cs : List (Option Dy)) : Grade :=
  let nonfinite := cs.any (·.isNone)
  let vs := cs.map (·.getD Dy.zero)
  let a := blockMax cs
  if a.m = 0 then ⟨eMin, cs.map (fun _ => 0), false, nonfinite, true, false, if nonfinite then f32inf else 0⟩
  else
    let fit := fitExp a eMin
    let e := fit.getD 63
    let ms := vs.map (fun c => clampInt (-2047) 2047 (mantissaOf c e))
    let diff := largestDy (List.zipWith (fun (c : Dy) (m : Int) => (Dy.mk m ((e : Int) - 48)).sub c) vs ms)
    ⟨e, ms, fit.isNone, nonfinite, false, decide (fitExp a 0 ≠ fit), if nonfinite then f32inf else f32bits (diff.divP 24 a)⟩

/-- A grading report record (Table 07-4). -/
def Grade.bytes (g : Grade) : List Byte :=
  let bit := fun (b : Bool) (n : Nat) => if b then 2 ^ n else 0
  leBytes 1 g.e ++ leBytes 1 (bit g.clamped 0 + bit g.nonfinite 1 + bit g.zero 2 + bit g.floor 3) ++ [0, 0] ++ leBytes 4 g.err

/-- Float32 couplings from bytes. -/
def f32list (b : List Byte) : List (Option Dy) := (List.range (b.length / 4)).map (fun i => f32val (natAt b (4 * i) 4))

/-- Split a list into blocks of 16. -/
def blocksOf {α : Type} (l : List α) : List (List α) := (List.range ((l.length + 15) / 16)).map (fun i => (l.drop (16 * i)).take 16)

/-- The floor exponent of a model: the smallest exponent among its nonzero blocks, 0 if none (R171). -/
def floorExp (blocks : List (List (Option Dy))) : Nat :=
  (blocks.foldl (fun acc b =>
    if (blockMax b).m = 0 then acc
    else some (min (acc.getD 63) ((fitExp (blockMax b) 0).getD 63))) (none : Option Nat)).getD 0

/-- The worst block error of a load, as binary32. -/
def worstErr (gs : List Grade) : Nat := gs.foldl (fun w g => max w g.err) 0

/-! Banks. -/

/-- A bank entry that is not 0: gang, gang row ρ, gang column γ, entry k, mantissa and block exponent. -/
structure Term where
  gang : Nat
  row : Nat
  col : Nat
  k : Nat
  m : Int
  e : Nat
  deriving DecidableEq, Repr

/-- The model's tiles in ascending tile ID, as gang and gang-tile position (R170). -/
def Model.tileOrder (m : Model) : List (Nat × Nat × Nat) :=
  (List.range 64).flatMap (fun t => m.gangs.zipIdx.filterMap (fun g =>
    if decide (g.1 ≤ t) && decide ((t - g.1) / 8 < 2 ^ m.size) && decide ((t - g.1) % 8 < 2 ^ m.size) then
      some (g.2, (t - g.1) / 8, (t - g.1) % 8)
    else none))

/-- A block's exponent. -/
def Model.expAt (m : Model) (block : Nat) : Nat := Store.read (fun _ => m.eMin) m.exps block

/-- A bank entry's mantissa. -/
def Model.mantAt (m : Model) (b : Nat) : Int := Store.read (fun _ => (0 : Int)) m.mants b

/-- The nonzero bank entries in bank order. -/
def Model.terms (m : Model) : List Term :=
  let ord := m.tileOrder
  m.mants.map (fun p =>
    let o := ord.getD (p.1 / 2 ^ 18) (0, 0, 0)
    ⟨o.1, 64 * o.2.1 + p.1 / 2 ^ 6 % 64, 64 * o.2.2 + p.1 % 64, p.1 / 2 ^ 12 % 64, p.2, m.expAt (p.1 / 16)⟩)

/-- Couplings in the model's bank order: 2^18 a tile (R170, R431). -/
def Model.couplings (m : Model) : Nat := m.gangs.length * 4 ^ m.size * 2 ^ 18

/-- Array side N. -/
def Model.side (m : Model) : Nat := 64 * 2 ^ m.size

/-- The window exponent w (R176). -/
def Model.window (m : Model) : Int := (m.eMin : Int) - 48

/-- The aligned coefficient m_c × 2^(e − e_min) (R176). -/
def Term.aligned (t : Term) (eMin : Nat) : Int := t.m * 2 ^ (t.e - eMin)

/-- The coefficient's value. -/
def Term.value (t : Term) : Dy := ⟨t.m, (t.e : Int) - 48⟩

/-- The 68-bit two's complement value of a sum (R177). -/
def wrap68 (v : Int) : Int := signed 68 (unsigned 68 v)

/-- Store graded blocks from a block index on. -/
def Model.store (m : Model) (first : Nat) (gs : List Grade) : Model :=
  { m with
    mants := Store.writeList (fun _ => (0 : Int)) m.mants (16 * first) (gs.flatMap (·.ms))
    exps := Store.writeList (fun _ => m.eMin) m.exps first (gs.map (·.e)) }

/-- The products of a position's field that its banks do not hold, as a bound: those placed in the dev_bytes area, on this module or another (R178, 08 R206). -/
def Model.rotBound (m : Model) (p : Nat) : Nat :=
  if m.rotation then ((List.range (m.positions + 1)).map (fun b => (Config.rotCoupling m.image p b).natAbs)).sum else 0

/-- The operand bound: the largest over MAC outputs (x_max 32,768) and over the fields of positions (x_max 1) (R178). -/
def Model.bound (m : Model) : Nat :=
  let ts := m.terms
  let n := m.side
  let rowSum := fun (r : Nat) => ((ts.filter (fun t => decide (t.row = r))).map (fun t => (t.aligned m.eMin).natAbs)).sum
  let macs := (List.range n).map (fun r => rowSum r * 32768)
  let fields := (if m.rotation then List.range m.positions else m.rows.eraseDups).map (fun p =>
    ((ts.filter (fun t => decide (m.rows.getD (t.gang * n + t.row) 0xFFFFFFFF = p))).map (fun t => (t.aligned m.eMin).natAbs)).sum + m.rotBound p)
  (macs ++ fields).foldl max 0

/-- Recompute bound_log2 and exact_ok (R178). -/
def Model.judge (m : Model) : Model :=
  let b := m.bound
  let n := if b = 0 then 0 else Nat.log2 b + 1
  { m with boundLog2 := min n 127, exactOk := decide (n ≤ 67) }

/-- The model in a slot. -/
def State.model (s : State) (slot : Nat) : Option Model := (s.fab.models.find? (fun p => decide (p.1 = slot))).map (·.2)

/-- Change the fabric's state. -/
def State.setFab (s : State) (g : Fabric → Fabric) : State := s.withFab (g s.fab)

/-- Put a model in a slot, slots ascending. -/
def putModel (l : List (Nat × Model)) (slot : Nat) (m : Model) : List (Nat × Model) :=
  l.filter (fun p => decide (p.1 < slot)) ++ [(slot, m)] ++ l.filter (fun p => decide (slot < p.1))

/-- FAB_MODEL_STATUS and SMP_SLOT_STATUS show the slot (Tables 07-8, 08-9). -/
def State.showModel (s : State) (slot : Nat) (m : Model) : State :=
  let s1 := ((s.put (Reg.FAB_MODEL_STATUS.window slot) (unsigned 8 m.window)).put (Reg.FAB_MODEL_STATUS.loaded slot) 1).putFlag
    (Reg.FAB_MODEL_STATUS.exact_ok slot) m.exactOk
  let s2 := (s1.put (Reg.FAB_MODEL_STATUS.bound_log2 slot) m.boundLog2).put (Reg.FAB_MODEL_STATUS.gang_size slot) m.size
  let s3 := s2.put (Reg.SMP_SLOT_STATUS.tracked slot) ((m.last.map (fun r => r.states.length)).getD 0)
  (s3.put (Reg.SMP_SLOT_STATUS.kept slot) (if m.chains = [] then m.kept.length else m.chains.length)).putFlag
    (Reg.SMP_SLOT_STATUS.trained slot) m.trained

/-- Change the model in a slot and show it. -/
def State.setModel (s : State) (slot : Nat) (m : Model) : State :=
  (s.setFab (fun f => { f with models := putModel f.models slot m })).showModel slot m

/-! MAC passes (R173 to R185, R189). -/

/-- The input elements of a vector: 16-bit two's complement, little-endian (R174). -/
def inputOf (b : List Byte) : List Int := (List.range (b.length / 2)).map (fun i => signed 16 (natAt b (2 * i) 2))

/-- The exact outputs of one pass, as 68-bit sums (R173, R176, R177, R179). -/
def Model.macExact (m : Model) (x : List Int) : List Int :=
  let ts := m.terms
  let a := x.toArray
  (List.range m.side).map (fun r => wrap68 (((ts.filter (fun t => decide (t.row = r))).map (fun t =>
    t.aligned m.eMin * a.getD (t.k * m.side + t.col) 0)).sum))

/-- Is the sum inside the 64-bit window (R189)? -/
def inWindow (v : Int) : Bool := decide (-(2 ^ 63 : Int) ≤ v) && decide (v < 2 ^ 63)

/-- The output a sum resolves to (R189). -/
def resolve64 (v : Int) : Int := clampInt (-(2 ^ 63 : Int)) (2 ^ 63 - 1) v

/-- A shape-order sum under way: the running sum and the largest partial. -/
structure ShapeSum where
  run : Dy
  largest : Dy
  deriving DecidableEq, Repr

/-- The group of a term: entry, then group of columns within the gang-tile column (R181). -/
def Term.group (t : Term) (G : Nat) : Nat × Nat := (t.k, t.col % 64 / G)

/-- The partial P_b of terms of one gang-tile column, in bank order: groups summed exactly and rounded, then a running sum (R182). -/
def shapeColumn (G : Nat) (ts : List Term) (val : Term → Dy) : ShapeSum :=
  ((ts.map (·.group G)).eraseDups).foldl (fun acc g =>
    let sum := (((ts.filter (fun t => decide (t.group G = g))).map val).foldl Dy.add Dy.zero).roundP 24
    let run := acc.run.add32 sum
    ⟨run, (acc.largest.max sum.abs).max run.abs⟩) ⟨Dy.zero, Dy.zero⟩

/-- The sum of one gang row of one gang, combined over the gang-tile columns (Table 07-6). -/
def shapeRow (size G : Nat) (ts : List Term) (val : Term → Dy) : ShapeSum :=
  let col := fun b => shapeColumn G (ts.filter (fun t => decide (t.col / 64 = b))) val
  let two := fun (p q : ShapeSum) => ShapeSum.mk (p.run.add32 q.run) (p.largest.max q.largest)
  if size = 0 then col 0
  else if size = 1 then two (col 0) (col 1)
  else two (two (col 0) (col 1)) (two (col 2) (col 3))

/-- CANCEL_WARN: the output below 2^−20 of its largest partial (R184). -/
def ShapeSum.cancels (x : ShapeSum) : Bool := decide (x.largest.m ≠ 0) && x.run.abs.lt (x.largest.mul ⟨1, -20⟩)

/-- Sum over rows of several gangs, in ascending gang order, each in the groups of its region (R181). -/
def shapeGangs (size : Nat) (G : Nat → Nat) (ts : List Term) (val : Term → Dy) (gangs : Nat) : ShapeSum :=
  (List.range gangs).foldl (fun acc g =>
    let r := shapeRow size (G g) (ts.filter (fun t => decide (t.gang = g))) val
    if g = 0 then r else ⟨acc.run.add32 r.run, acc.largest.max r.largest⟩) ⟨Dy.zero, Dy.zero⟩

/-- The shape-order outputs of one pass (R181 to R184). -/
def Model.macShape (m : Model) (x : List Int) (inExp : Int) (G : Nat → Nat) : List ShapeSum :=
  let ts := m.terms
  let a := x.toArray
  (List.range m.side).map (fun r => shapeGangs m.size G (ts.filter (fun t => decide (t.row = r)))
    (fun t => (t.value).mul ⟨a.getD (t.k * m.side + t.col) 0, inExp⟩) m.gangs.length)

/-- The tile whose cells hold a position's accumulators: the spare that stands in for it, else its own; a partner's second position is kept apart under its own tile (DESIGN CHOICE, log 136). -/
def State.accTile (s : State) (t : Nat) : Nat := (s.standIn t).getD t

/-- The cells' accumulators after a pass on a run's gangs, for inputs by gang and element (R164, R186). -/
def State.setAccs (s : State) (r : Run) (m : Model) (x : Nat → Nat → Int) : State :=
  let tiles := r.tiles.map s.accTile
  let cleared := s.fab.accs.filter (fun p => !tiles.contains (p.1 / 4096))
  s.setFab (fun f => { f with accs := (m.terms).foldl (fun acc t =>
    let tile := s.accTile ((r.gangs.getD []).getD t.gang 0 + 8 * (t.row / 64) + t.col / 64)
    let key := tile * 4096 + t.row % 64 * 64 + t.col % 64
    Store.write (fun _ => (0 : Int)) acc key
      (wrap68 (Store.read (fun _ => (0 : Int)) acc key + t.aligned m.eMin * x t.gang (t.k * m.side + t.col)))) cleared })

/-! The gang scheduler (10 R266, R164, R175, 03 R65). -/

/-- Change the run with a number. -/
def State.mapRun (s : State) (id : Nat) (g : Run → Run) : State :=
  s.setFab (fun f => { f with runs := f.runs.map (fun r => if r.id = id then g r else r) })

/-- The run with a number. -/
def State.run (s : State) (id : Nat) : Option Run := s.fab.runs.find? (fun r => decide (r.id = id))

/-- Is the run of MAC passes at present? -/
def Run.inMac (r : Run) : Bool :=
  match r.kind with
  | .mac => true
  | .record _ _ => decide (r.done < r.vectors)
  | _ => false

/-- Set mode and busy of the tiles that carry a run's positions (R164). -/
def State.tileMode (s : State) (r : Run) (mode : Nat) (busy : Bool) : State :=
  s.each r.tiles (fun u t =>
    (u.put (Reg.FAB_TILE_STATUS.mode (u.carrier t)) mode).putFlag (Reg.FAB_TILE_STATUS.busy (u.carrier t)) busy)

/-- The mode a run puts its tiles in. -/
def Run.mode (r : Run) : Nat := if r.inMac then 1 else 2

/-- The mode the tiles of a run show: Hold, stopped at a boundary, while core 2, which carries passes and sweeps, is halted (Table 07-1; DESIGN CHOICE, log 134). -/
def State.runMode (s : State) (r : Run) : Nat := if s.halted 2 then 3 else r.mode

/-- Tiles with started work show its mode afresh. -/
def State.showModes (s : State) : State := s.each (s.fab.runs.filter (·.started)) (fun t r => t.tileMode r (t.runMode r) true)

/-- The group size of each gang of a run in shape-order work: the descriptor's, or that of the gang's region (R181). -/
def State.runGroups (s : State) (r : Run) : List Nat := (r.gangs.getD []).map (fun g => if r.group ≠ 0 then r.group else s.groupOf g)

/-- The group size of gang `i` of a run in its present pass (R188). -/
def Run.groupAt (r : Run) (i : Nat) : Nat := r.groups.getD i 16

/-- A run's next pass starts: it takes the group settings of its regions as they stand (R188). -/
def State.passStart (s : State) (id : Nat) : State := s.mapRun id (fun q => { q with groups := s.runGroups q })

/-- A run's step may begin: its work runs. -/
def State.startRun (s : State) (id : Nat) : State :=
  match s.run id with
  | none => s
  | some r =>
    if r.gangs = none then s
    else ((s.mapRun id (fun q => { q with started := true })).passStart id).tileMode r (s.runMode r) true

/-- Replicas in flight: those of runs that have held gangs, and those held for streams (08 R208, R215). -/
def State.replicas (s : State) : Nat :=
  ((s.fab.runs.filter (fun r => r.live && (match r.kind with | .record _ _ => false | _ => true))).map (fun r => r.path.reps.length)).sum +
  (s.fab.holds.map (·.count)).sum

/-- SMP_STATUS.replicas. -/
def State.showReplicas (s : State) : State := s.put Reg.SMP_STATUS.replicas s.replicas

/-- Does a load fetched before `id` still wait for the slot (07 R191)? -/
def State.loadAhead (s : State) (slot id : Nat) : Bool :=
  s.host.flights.any (fun f => decide (f.id < id) && decide (dModel f.bytes = slot) &&
    (decide (dOp f.bytes = opLoadModel) || decide (dOp f.bytes = opLoadCoeff) || decide (dOp f.bytes = opTrain)))

/-- Are the LPDDR5X channels that hold a rotated model's area in service (08 R206)? -/
def State.areaReady (s : State) (slot : Nat) : Bool :=
  match s.model slot with | some m => !m.rotation || [96, 97, 98, 99].all s.unitReady | none => true

/-- A waiting run takes gangs that are idle and in service; a gang that is powered down or a dense burst asks for a step first (10 R266, 08 R208, 03 R65). -/
def State.grant (s : State) (id : Nat) : State :=
  match s.run id with
  | none => s
  | some r =>
    let free := (s.gangSets r.part r.size r.count r.gang).find? (fun w =>
      w.all (fun g => s.gangReady r.size g && !s.gangHeld r.size g))
    let need := if r.live then 0 else match r.kind with | .record _ _ => 0 | _ => r.path.reps.length
    match free with
    | none => s
    | some w =>
      if decide (r.gangs ≠ none) || decide (r.failed ≠ 0) || !s.fab.powered || decide (256 < s.replicas + need) || !s.areaReady r.slot ||
          (match r.kind with | .record _ _ => s.loadAhead r.slot r.ready | _ => false) then s
      else
        let s1 := (s.mapRun id (fun q => { q with gangs := some w, live := true })).showReplicas
        let gated := (w.flatMap (gangTiles r.size)).any (fun t => decide (s.get (Reg.FAB_TILE_STATUS.mode (s.carrier t)) = 0))
        if gated then s1.sendNotice (.gangPower id)
        else if r.inMac then s1.sendNotice (.denseBurst id)
        else s1.startRun id

/-- Insert into waiting order: class, then readiness (10 R266). -/
def insertRun (r : Run) : List Run → List Run
  | [] => [r]
  | q :: t => if q.prio < r.prio || (decide (q.prio = r.prio) && decide (r.ready < q.ready)) then r :: q :: t else q :: insertRun r t

/-- Runs that wait for gangs, in the order they are served. -/
def State.waitingRuns (s : State) : List Run :=
  (s.fab.runs.filter (fun r => decide (r.gangs = none) && decide (r.failed = 0) &&
    (decide (r.total = 0) || decide (r.path.sweeps < r.total)))).foldl (fun acc r => insertRun r acc) []

/-- Give out idle gangs. -/
def State.schedule (s : State) : State := s.each s.waitingRuns (fun u r => u.grant r.id)

/-- A run enters the scheduler. -/
def State.submit (s : State) (r : Run) : State := (s.setFab (fun f => { f with runs := f.runs ++ [r] })).schedule

/-- Does waiting work of a higher class want gangs this run holds? -/
def State.wanted (s : State) (r : Run) : Bool :=
  s.waitingRuns.any (fun w => decide (r.prio < w.prio) && (s.gangSets w.part w.size w.count w.gang).any (fun gs =>
    gs.any (fun g => (gangTiles w.size g).any (fun t => r.tiles.contains t))))

/-- Tiles of a run are no longer busy; they keep the mode of their last work until other work, Recess, a reset or a loss of power changes it (DESIGN CHOICE, log 135: R164 gives no return to Gated). -/
def State.idleTiles (s : State) (r : Run) : State :=
  s.each r.tiles (fun u t => u.put (Reg.FAB_TILE_STATUS.busy (u.carrier t)) 0)

/-- Spares that stand in for a tile that is READY again return once its gang is idle (12 R333). -/
def State.returnSpares (s : State) : State :=
  let back := (List.range 64).filter (fun u => s.flag (Reg.FAB_TILE_STATUS.standing_in u) &&
    s.unitReady (s.get (Reg.FAB_TILE_STATUS.stands_for u)) && !s.flag (Reg.FAB_TILE_STATUS.busy u))
  if back = [] then s
  else (s.each back (fun t u => ((t.put (Reg.FAB_TILE_STATUS.standing_in u) 0).put (Reg.FAB_TILE_STATUS.stands_for u) 0).put
      (Reg.FAB_TILE_STATUS.model_valid u) 0)).showCapacity

/-- A unit that drains is OUT once nothing is in flight on it (12 R325). -/
def State.unitBusy (s : State) (u : Nat) : Bool := (unitTiles u).any (fun t => s.flag (Reg.FAB_TILE_STATUS.busy (s.carrier t)))

/-- Drop a run's notices: its step is not wanted any more. -/
def State.dropNotices (s : State) (id : Nat) : State :=
  s.withSvc { s.svc with notices := s.svc.notices.filter (fun g =>
      decide (g.use ≠ .gangPower id) && decide (g.use ≠ .denseBurst id)) }

/-- A run leaves the fabric and its gangs go to waiting work. -/
def State.endRun (s : State) (id : Nat) : State :=
  match s.run id with
  | none => s
  | some r =>
    let s1 := (s.setFab (fun f => { f with runs := f.runs.filter (fun q => decide (q.id ≠ id)) })).idleTiles r
    ((s1.dropNotices id).showReplicas.returnSpares).schedule

/-- A run gives up its gangs at an epoch boundary and waits again (10 R266). -/
def State.yieldGangs (s : State) (id : Nat) : State :=
  match s.run id with
  | none => s
  | some r => ((s.mapRun id (fun q => { q with gangs := none, started := false })).idleTiles r).schedule

/-- Work on the fabric ends with a status and no result: a descriptor ends, a record's verdict reports it (Table 06-10). -/
def State.failRun (s : State) (id status : Nat) : State :=
  match s.run id with
  | none => s
  | some r =>
    match r.kind with
    | .record _ _ => ((s.mapRun id (fun q => { q with failed := status, gangs := none, started := false })).idleTiles r).dropNotices id |>.schedule
    | _ => (s.finishWith id status 0 0 ⟨false, r.replays, r.cancel⟩).endRun id

/-! Slots (R191, R223). -/

/-- Opcodes that change a slot's coefficients. -/
def isLoad (d : Desc) : Bool := decide (dOp d = opLoadModel) || decide (dOp d = opLoadCoeff) || decide (dOp d = opTrain)

/-- May a descriptor use its model slot now: what used the slot before it has ended, and for a load or after one, completed (R191, R223)? -/
def State.slotTurn (s : State) (f : Flight) : Bool :=
  (s.host.flights.filter (fun g => decide (g.id < f.id) && needsModel (dOp g.bytes) && decide (dModel g.bytes = dModel f.bytes))).all
    (fun g => decide (g.stage = .ended) && !isLoad g.bytes && !isLoad f.bytes) &&
  (!isLoad f.bytes || s.fab.runs.all (fun r => decide (r.slot ≠ dModel f.bytes) ||
    (match r.kind with | .record _ _ => !r.live || decide (r.failed ≠ 0) | _ => false)))

/-- A flight that may start on its slot now. -/
def State.startSlot (s : State) (id op : Nat) : Option Flight := (s.startable id op).filter s.slotTurn

/-- Is exact mode selected: by the descriptor, or by the model's default? -/
def exactMode (mode : Nat) (m : Model) : Bool := if mode = 0 then m.exactDefault else decide (mode = 1)

end Sys2Proof.Machine
end

