-- ==== Sys2Proof/Machine/MeterOps.lean ====
section
/-!
DEFINITION. Machine/MeterOps.lean: the metering converters' shared operations (spec/04_metering_converters.md).
-/
namespace Sys2Proof.Machine

open Sys2Proof

/-- Offset of the sequence entry word `e` of converter `c` (04 Table 04-8). -/
def entryOff (c e : Nat) : Nat := 0xA0500 + 0x40 * c + 4 * e

/-- Offset of seq_len of converter `c`. -/
def lenOff (c : Nat) : Nat := 0xA0420 + 4 * c

/-- Words whose writes are collected until a pass starts (04 R103). -/
def isCollected (off : Nat) : Bool :=
  decide (off = lenOff 0) || decide (off = lenOff 1) || (decide (0xA0500 ≤ off) && decide (off < 0xA0580))

/-- The words of the sequence configuration. -/
def seqOffs : List Nat := [lenOff 0, lenOff 1] ++ (List.range 32).map (fun k => 0xA0500 + 4 * k)

/-- A sequence configuration, read by word. -/
abbrev SeqCfg := Nat → Word

/-- The configuration in force. -/
def State.cfgForce (s : State) : SeqCfg := Store.read resetWord s.meter.force

/-- The configuration the registers hold. -/
def State.cfgRegs (s : State) : SeqCfg := s.word

/-- seq_len of converter `c`. -/
def SeqCfg.len (g : SeqCfg) (c : Nat) : Nat := fieldOf (g (lenOff c)) 0 4

/-- A field of entry `e` of converter `c`. -/
def SeqCfg.ent (g : SeqCfg) (c e lo w : Nat) : Nat := fieldOf (g (entryOff c e)) lo w

/-- Is index `e` paired: A's pair bit decides, below A's seq_len; entry 15 always (04 R87)? -/
def SeqCfg.paired (g : SeqCfg) (e : Nat) : Bool :=
  decide (e = 15) || (decide (e < g.len 0) && decide (g.ent 0 e 12 1 = 1))

/-- The converter whose entry gives osr, order, post_notch, every and acc_only: A's for a paired entry (04 R87). -/
def SeqCfg.src (g : SeqCfg) (c e : Nat) : Nat := if g.paired e then 0 else c

/-- acc_only of entry `e` run on converter `c`. -/
def SeqCfg.accOnly (g : SeqCfg) (c e : Nat) : Bool := decide (g.ent (g.src c e) e 11 1 = 1)

/-- The input an entry converts: entry 15 is fixed to the check divider. -/
def SeqCfg.input (g : SeqCfg) (c e : Nat) : Nat := if e = 15 then 15 else g.ent c e 0 4

/-- The power pair: the lowest paired index with VIN on A and IIN on B (04 R88). -/
def SeqCfg.powerPair (g : SeqCfg) : Option Nat :=
  (List.range 15).find? (fun e => g.paired e && decide (g.ent 0 e 0 4 = 0) && decide (g.ent 1 e 0 4 = 1))

/-- One converter of the two. -/
def State.conv (s : State) (c : Nat) : Conv := if c = 0 then s.meter.a else s.meter.b

/-- Change a converter. -/
def State.setConv (s : State) (c : Nat) (v : Conv) : State :=
  if c = 0 then s.withMeter { s.meter with a := v } else s.withMeter { s.meter with b := v }

/-- May conversions run: reference ready and no calibration (04 R86, R95)? -/
def State.convReady (s : State) : Bool := s.flag Reg.PWR_ADC_STATUS.ref_ready && !s.flag Reg.PWR_ADC_STATUS.cal_busy

/-- Start what converter `c` may start by itself: an urgent request first (04 R101), else an unpaired entry. -/
def State.kick (s : State) (c : Nat) : State :=
  let v := s.conv c
  if v.run.isSome || !s.convReady then s
  else if v.urgent.isSome then s.setConv c { v with run := some .urgent }
  else match v.todo with
    | e :: _ => if s.cfgForce.paired e then s else s.setConv c { v with run := some (.entry e) }
    | [] => s

/-- Both converters start what they may. -/
def State.kickBoth (s : State) : State := (s.kick 0).kick 1

/-- The sequence restarts at pass 1: an urgent conversion runs on (04 R101); a running sequence conversion is dropped without a result (DESIGN CHOICE, log 132: the spec says so of a gate change and a calibration, not of a profile load or a restart). -/
def State.restartSeq (s : State) : State :=
  let drop := fun v : Conv => { v with todo := [], run := if v.run = some .urgent then v.run else none }
  (s.withMeter { s.meter with a := drop s.meter.a, b := drop s.meter.b, restart := true }).kickBoth

/-- A gate or mode change stops the running conversions; an urgent one stays pending and runs again (04 R104, R96). -/
def State.stopConvs (s : State) : State :=
  let drop := fun v : Conv => { v with todo := [], run := none }
  (s.withMeter { s.meter with a := drop s.meter.a, b := drop s.meter.b, restart := true }).kickBoth

/-- LP_GATE_CHANGE: the gate or lp_gate_off has changed; low-power mode holds while the bit is set and the gate is off (04 R96, R104). -/
def State.lpChange (s : State) : State :=
  let lp := s.flag Reg.PWR_ADC_CTRL.lp_gate_off && !s.flag Reg.PWR_STATE.gate_on
  if lp = s.flag Reg.PWR_ADC_STATUS.lp_active then s
  else (s.putFlag Reg.PWR_ADC_STATUS.lp_active lp).stopConvs

/-- Empty the trackers of one entry. -/
def State.emptyTracker (s : State) (c e : Nat) : State :=
  (s.put (Reg.PWR_ADC_MIN.min c e) 0x7FFFFF).put (Reg.PWR_ADC_MAX.max c e) 0x800000

/-- Collected writes take effect together at a pass start, or are dropped for want of a power pair (04 R103). -/
def State.takeCollected (s : State) : State :=
  if !s.meter.collected then s
  else if s.cfgRegs.powerPair.isSome then
    let changed := (List.range 32).filter (fun k => s.cfgRegs.input (k / 16) (k % 16) ≠ s.cfgForce.input (k / 16) (k % 16))
    let s1 := s.withMeter { s.meter with
      collected := false, restart := true
      force := seqOffs.foldl (fun f o => Store.write resetWord f o (s.word o)) s.meter.force }
    s1.each changed (fun t k => t.emptyTracker (k / 16) (k % 16))
  else
    let s1 := s.each seqOffs (fun t o => t.setWord o (s.cfgForce o))
    (s1.withMeter { s1.meter with collected := false }).put Reg.PWR_ADC_STATUS.cfg_refused 1

/-- One converter's countdowns at a pass start: an entry whose count runs out is due and reloads (04 R85). -/
def dueCounts (g : SeqCfg) (c : Nat) (counts : List Nat) : List (Bool × Nat) :=
  counts.mapIdx (fun e n =>
    let every := g.ent (g.src c e) e 16 8
    if n ≤ 1 then (true, max every 1) else (false, n - 1))

/-- A pass starts on both converters; `all` ignores the countdowns, as low-power mode does (04 R85 to R87, R96). -/
def State.beginPass (s0 : State) (all : Bool) : State :=
  let s := s0.takeCollected
  let g := s.cfgForce
  let fresh := List.replicate 16 1
  let ca := dueCounts g 0 (if s.meter.restart then fresh else s.meter.a.counts)
  let cb := dueCounts g 1 (if s.meter.restart then fresh else s.meter.b.counts)
  let dueA := fun e => all || (ca.getD e (false, 0)).1
  let dueB := fun e => all || (cb.getD e (false, 0)).1
  let tail := if dueA 15 then [15] else []
  let todoA := (List.range 15).filter (fun e => decide (e < g.len 0) && dueA e) ++ tail
  let todoB := (List.range 15).filter (fun e =>
    if g.paired e then dueA e else decide (e < g.len 1) && dueB e) ++ tail
  let s1 := s.withMeter { s.meter with
      restart := false
      a := { s.meter.a with todo := todoA, counts := ca.map Prod.snd }
      b := { s.meter.b with todo := todoB, counts := cb.map Prod.snd } }
  s1.kickBoth

/-- Has a converter finished its entries of the pass? An urgent conversion is none of them (04 R96, R101). -/
def Conv.passDone (v : Conv) : Bool :=
  v.todo.isEmpty && (match v.run with | none | some .urgent => true | some (.entry _) | some .cal => false)

/-- Have both converters finished the pass? -/
def State.passDone (s : State) : Bool := s.meter.a.passDone && s.meter.b.passDone

/-- A corrected result before its clamp: ((raw − offset) × gain) ÷ 2^22 toward minus infinity (04 R82). -/
def corrected (raw offset : Int) (gain : Nat) : Int := (raw - offset) * gain / 2 ^ 22

/-- The clamp of R82. -/
def clamp24 (v : Int) : Int := clampInt (-8388608) 8388607 v

/-- The code of a raw value on converter `c`, and whether it was clamped. -/
def State.code (s : State) (c : Nat) (raw : Int) : Int × Bool :=
  let v := corrected raw (signed 24 (s.get (Reg.PWR_ADC_OFFSET.offset c))) (s.get (Reg.PWR_ADC_GAIN.gain c))
  (clamp24 v, clamp24 v ≠ v)

/-- ln of num / den in units of 2^-80, by powers of two and the series of 2 artanh. -/
def lnSeries (z zz : Int) : Nat → Nat → Int
  | _, 0 => 0
  | k, n + 1 => z / (2 * k + 1 : Nat) + lnSeries (z * zz / 2 ^ 80) zz (k + 1) n

/-- 2 artanh(num / den) in units of 2^-80. -/
def twoArtanh (num : Int) (den : Nat) : Int :=
  let z := num * 2 ^ 80 / den
  2 * lnSeries z (z * z / 2 ^ 80) 0 40

/-- ln 2 in units of 2^-80. -/
def ln2 : Int := twoArtanh 1 3

/-- ln(num / den) in units of 2^-80, for positive num and den. -/
def lnFix (num den : Nat) : Int :=
  let k : Int := (num.log2 : Int) - den.log2
  let n := if 0 ≤ k then num else num * 2 ^ (-k).toNat
  let d := if 0 ≤ k then den * 2 ^ k.toNat else den
  k * ln2 + twoArtanh ((n : Int) - d) (n + d)

/-- Temperature of a housekeeping code in 0.125 °C, rounded to nearest even (04 Table 04-3, R93); none for an invalid NTC1 code (R92). -/
def tempOf (input : Nat) (c : Int) : Option Int :=
  if input = 10 then
    if 8220836 < c ∨ c < 167772 then none
    else
      let d := 2 ^ 80 * 68700 + lnFix c.toNat (8388608 - c.toNat) * 5963
      some (roundEven (8 * 2 ^ 80 * 5963 * 3435 * 10 - 21852 * d) (10 * d.toNat))
  else if input = 11 then
    -- T = (c × 2.5 / 2^23 − 0.5) / 0.01
    some (roundEven (8 * (250 * c - 50 * 2 ^ 23)) (2 ^ 23))
  else
    -- T = 25 + (0.6 − c × 2.5 / 2^23) / 0.002
    some (roundEven (8 * (25 * 2 ^ 23 + 300 * 2 ^ 23 - 1250 * c)) (2 ^ 23))

/-- The THM sensor a temperature input is (12 Table 12-1). -/
def sensorOf (input : Nat) : Nat := if input = 10 then 21 else if input = 11 then 20 else 19

/-- Store a reading and keep its peak (12 Table 12-9). -/
def State.setReading (s : State) (n : Nat) (v : Int) : State :=
  let s1 := s.put (Reg.THM_SENSOR.reading n) (unsigned 16 v)
  if signed 16 (s1.get (Reg.THM_PEAK.peak n)) < v then s1.put (Reg.THM_PEAK.peak n) (unsigned 16 v) else s1

/-- The sensor the flash-write window is judged on: the board sensor, else the PSH2 die, else the hotter of 17 and 18 (12 R312, R320). -/
def State.windowSensor (s : State) : Option Nat :=
  if s.live 20 then some 20 else if s.live 19 then some 19
  else (s.hottestOf [17, 18]).map (·.2)

/-- At a housekeeping result of PSH2 sensor `n`, the window is judged where its sensor is `n`, or on 17 and 18 at each board result (12 R312, R320): limits −20, 95, −17 and 92 °C. -/
def State.windowResult (s : State) (n : Nat) : State :=
  if decide (s.windowSensor = some n) || (decide (n = 20) && (s.windowSensor.getD 0 == 17 || s.windowSensor.getD 0 == 18)) then
    let v := s.reading (s.windowSensor.getD 0)
    let out := decide (v < -160) || decide (760 < v)
    let inn := decide (-136 ≤ v) && decide (v ≤ 736)
    (s.withThermal { s.thermal with
        winOut := if out then s.thermal.winOut + 1 else 0
        winIn := if inn then s.thermal.winIn + 1 else 0 })
  else s

/-- The PSH2 die warning: set at 115 °C with the thermal cause, cleared below 112 °C (12 Table 12-1). -/
def State.dieWarning (s : State) (n : Nat) (v : Int) : State :=
  if n ≠ 19 then s
  else
    let on := decide (920 ≤ v) || (s.thermal.dieWarn && decide (896 ≤ v))
    let s1 := s.withThermal { s.thermal with dieWarn := on }
    s1.when_ (on && !s.thermal.dieWarn) (fun t => t.raise cause.thermal noUnit (t.word Reg.THM_STATUS.depth.off).toNat)

/-- A temperature result of PSH2: mirrored to THM, sampled by the Report Card, judged for the window (12 R308, 13 Table 13-1). -/
def State.tempResult (s : State) (input : Nat) (c : Int) : State :=
  let n := sensorOf input
  let h := if input = 10 then 7 else if input = 11 then 6 else 5
  match tempOf input c with
  | some v =>
    if s.live n then (((s.setReading n v).pshSample h v 8 v v).dieWarning n v).windowResult n
    else (s.put (Reg.THM_SENSOR.reading n) 0x7FFF).windowResult n
  | none => s.put (Reg.THM_SENSOR.reading n) 0x7FFF

/-- A rail result: outside ±5 % of the set voltage twice in a row faults the rail's units (12 R327); judged while the regulators are enabled. -/
def State.railResult (s : State) (input : Nat) (c : Int) : State :=
  let r := input - 3
  let set : Int := Config.railSetCode (r + 1)
  if s.brk.regsUp < 4 then s
  else
    let bad := decide (20 * (c - set) > set) || decide (20 * (set - c) > set)
    let n := if bad then s.meter.railBad.getD r 0 + 1 else 0
    let s1 := s.withMeter { s.meter with railBad := s.meter.railBad.set r n }
    if n = 2 then s1.railFault (r + 1) else s1

/-- What every corrected result of an input does beside its register. -/
def State.inputResult (s : State) (input : Nat) (c : Int) : State :=
  let s1 := s.withMeter { s.meter with latest := s.meter.latest.set input (some c) }
  if 10 ≤ input ∧ input ≤ 12 then s1.tempResult input c
  else if 3 ≤ input ∧ input ≤ 6 then s1.railResult input c
  else s1

/-- The result of entry `e` on converter `c` (04 R82, R89). -/
def State.entryResult (s : State) (c e : Nat) (raw : Int) : State :=
  let (v, sat) := s.code c raw
  let s1 := (s.putFlag (Reg.PWR_ADC_RESULT.sat c e) sat).put (Reg.PWR_ADC_RESULT.fresh c e) 1
  let s2 := if sat then s1.put Reg.PWR_ADC_STATUS.sat 1 else s1
  let s3 :=
    if s.cfgForce.accOnly c e then
      let t := s2.put (Reg.PWR_ADC_RESULT.result c e) 0
      let t1 := if v < signed 24 (t.get (Reg.PWR_ADC_MIN.min c e)) then t.put (Reg.PWR_ADC_MIN.min c e) (unsigned 24 v) else t
      if signed 24 (t1.get (Reg.PWR_ADC_MAX.max c e)) < v then t1.put (Reg.PWR_ADC_MAX.max c e) (unsigned 24 v) else t1
    else s2.put (Reg.PWR_ADC_RESULT.result c e) (unsigned 24 v)
  s3.inputResult (s.cfgForce.input c e) v

/-- The urgent result (04 R101). -/
def State.urgentResult (s : State) (c : Nat) (raw : Int) : State :=
  let (v, sat) := s.code c raw
  let u := (s.conv c).urgent
  let s1 := ((s.put (Reg.PWR_ADC_URGENT_RESULT.result c) (unsigned 24 v)).put (Reg.PWR_ADC_URGENT_RESULT.done c) 1).put
    (Reg.PWR_ADC_URGENT_RESULT.busy c) 0
  let s2 := if sat then s1.put Reg.PWR_ADC_STATUS.sat 1 else s1
  let s3 := s2.setConv c { s2.conv c with urgent := none, run := none }
  match u with
  | some r => s3.inputResult r.input v
  | none => s3

/-- The longest window, 10 s, in 1/64 ns (03 Table 03-8). -/
def longestWindow : Nat := 640000000000

/-- Keep the results of the longest window. -/
def pruneHistory (longest : Nat) : Nat → List (Nat × Int) → List (Nat × Int)
  | _, [] => []
  | age, r :: t => if longest < age then [] else r :: pruneHistory longest (age + r.1) t

/-- Take a power result for the rules, `at` after the last pair result: it stands as long after the newest one as the two times say (04 R98, R102). -/
def State.powerResult (s : State) (time : Int) (p : Int) : State :=
  s.withMeter { s.meter with
    history := pruneHistory longestWindow 0 (((time - s.meter.headAge).toNat, p) :: s.meter.history), headAge := time }

/-- A pair result comes `dt` after the one before it: times count from it now. -/
def State.pairTime (s : State) (dt : Nat) : State :=
  s.withMeter { s.meter with tickAge := s.meter.tickAge - dt, headAge := s.meter.headAge - dt }

/-- Power of a product of codes: V × I × 500 / 2^46 W, in units of W / (2^44 × 10^4). -/
def pairPower (v i : Int) : Int := v * i * 125 * 10000

/-- ENERGY_ACCUMULATE: V × I × Δt and I × Δt, each addend truncated toward minus infinity at the 32nd fractional bit (04 R90). `dt` is in 1/64 ns. -/
def State.accumulate (s : State) (v i : Int) (dt : Nat) : State :=
  s.withMeter { s.meter with
      energy := s.meter.energy + v * i * 500 * dt * 2 ^ 32 / (2 ^ 46 * 64000 : Nat)
      charge := s.meter.charge + i * 25 * dt * 2 ^ 32 / (2 ^ 23 * 64000 : Nat)
      elapsed := s.meter.elapsed + dt * 2 ^ 32 / 64000
      pairs := min (s.meter.pairs + 1) 0xFFFFFFFF }

/-- A power-pair result: rules, 100 ms sums and, when accumulate-only, the accumulators (04 R88 to R93). -/
def State.pairResult (s : State) (e : Nat) (v i : Int) (dt : Nat) : State :=
  let dt' := if s.meter.anyPair then dt else 0
  let s0 := s.pairTime dt'
  let s1 := if s.flag Reg.PWR_ADC_STATUS.plaus_fallback then s0 else s0.powerResult 0 (pairPower v i)
  let s2 := if s.cfgForce.accOnly 0 e then s1.accumulate v i dt' else s1
  (s2.withMeter { s2.meter with
      anyPair := true, lastPair := some (v, i), sumN := s2.meter.sumN + 1
      sumV := s2.meter.sumV + v, sumI := s2.meter.sumI + i, sumVI := s2.meter.sumVI + v * i })

/-- A bit of PWR_ADC_STATUS sets; newly set it raises the metering cause (06 Table 06-12). -/
def State.meterBit (s : State) (f : Fld) : State :=
  if s.flag f then s else (s.put f 1).raise cause.metering noUnit ((s.put f 1).word 0xA040C).toNat

/-- A check has failed (04 R97, R98): status, MFR bit, Report Card, flush; the third in a row starts the fallback. -/
def State.plausFail (s : State) : State :=
  let s1 := (s.bump Reg.PWR_ADC_PLAUS_COUNT.fails).meterBit Reg.PWR_ADC_STATUS.adc_plaus
  let s2 := if s1.pmb.stPlaus then s1 else s1.alertOn
  let s3 := (s2.withPmb { s2.pmb with stPlaus := true }).withMeter { s2.meter with failRun := s2.meter.failRun + 1, passRun := 0 }
  let s4 := (s3.pshCount 7).trigger 1 true
  s4.when_ (decide (2 ≤ s.meter.failRun)) (·.put Reg.PWR_ADC_STATUS.plaus_fallback 1)

/-- A check has passed: the third in a row ends the fallback. -/
def State.plausPass (s : State) : State :=
  let s1 := s.withMeter { s.meter with passRun := s.meter.passRun + 1, failRun := 0 }
  s1.when_ (decide (2 ≤ s.meter.passRun)) (·.put Reg.PWR_ADC_STATUS.plaus_fallback 0)

/-- More than 0.1 % of full scale apart (04 R97). -/
def plausBad (a b : Int) : Bool := decide (8388 < a - b) || decide (8388 < b - a)

/-- PLAUSIBILITY_CHECK and PLAUS_FALLBACK: the two entry-15 results are compared while both converters are calibrated (04 R97, R98). -/
def State.plausCheck (s : State) (a b : Int) : State :=
  if s.flag Reg.PWR_ADC_STATUS.cal_valid_a && s.flag Reg.PWR_ADC_STATUS.cal_valid_b then
    let s1 := (s.bump Reg.PWR_ADC_PLAUS_COUNT.checks).put Reg.PWR_ADC_LAST_DIFF.last_diff (unsigned 24 (clamp24 (a - b)))
    if plausBad a b then s1.plausFail else s1.plausPass
  else s

/-- READ_VIN, READ_IIN and READ_PIN of `n` results with the given sums of codes (04 R93). -/
def readWords (n : Nat) (v i vi : Int) : Nat × Nat × Nat :=
  (linear11 (-5) (v * 20) (2 ^ 23 * n), linear11 (-6) (i * 25) (2 ^ 23 * n), linear11 (-2) (vi * 500) (2 ^ 46 * n))

/-- The three values a PMBus read reports now. -/
def State.readNow (s : State) : Nat × Nat × Nat :=
  if s.meter.anyInterval then (s.meter.readVin, s.meter.readIin, s.meter.readPin)
  else match s.meter.lastPair with
    | some (v, i) => readWords 1 v i (v * i)
    | none => (0, 0, 0)

/-- A calibration is refused, stopped or does not fit (04 R94, R105). -/
def State.calRefuse (s : State) : State := s.meterBit Reg.PWR_ADC_STATUS.cal_refused

/-- CALIBRATION_STOP: a running calibration stops with the previous values kept, and the sequence restarts at pass 1 (04 R105). -/
def State.calStop (s : State) : State :=
  if s.flag Reg.PWR_ADC_STATUS.cal_busy then ((s.put Reg.PWR_ADC_STATUS.cal_busy 0).calRefuse).stopConvs else s

/-- Is a rule's condition a power over window that holds (04 R105)? -/
def State.powerHolds (s : State) : Bool :=
  (List.range 8).any (fun n =>
    decide (fieldOf (Store.read resetWord s.brk.live (0xA0100 + 16 * n)) 0 3 = 4) && (s.brk.timers.getD n RuleTimer.fresh).holding)

/-- A calibration request (04 R94, R95, R105): ignored while one runs or waits, refused under R105, held until the reference is ready, else both converters are taken at once. A calibration that waits is not yet busy (DESIGN CHOICE, log 133). -/
def State.calStart (s : State) : State :=
  if s.flag Reg.PWR_ADC_STATUS.cal_busy || s.meter.calWaits then s
  else if s.flag Reg.PWR_STATE.shed_active || s.get Reg.PWR_STATE.state == 2 || s.get Reg.PWR_STATE.state == 6 || s.powerHolds then
    s.calRefuse
  else if !s.flag Reg.PWR_ADC_STATUS.ref_ready then s.withMeter { s.meter with calWaits := true }
  else
    let take := fun v : Conv => { v with todo := [], run := some ConvRun.cal }
    (s.withMeter { s.meter with a := take s.meter.a, b := take s.meter.b, restart := true }).put
      Reg.PWR_ADC_STATUS.cal_busy 1

/-- Offset of R94: the mean of 19 results in whole codes; the spec gives no rounding. -/
def calOffset (sum : Int) : Int := roundOpen 0 sum 19

/-- Gain of R94 from the offset and the 19 results of the gain phase; none when mean − offset is not positive. -/
def calGain (offset sum : Int) : Option Int :=
  let d := sum - 19 * offset
  if d ≤ 0 then none else some (roundOpen 1 (19 * 2 ^ 44) d.toNat)

/-- Do offset and gain fit their registers? -/
def calFits (offset : Int) (gain : Option Int) : Bool :=
  decide (-8388608 ≤ offset) && decide (offset ≤ 8388607) && (gain.map (fun g => decide (g ≤ 0xFFFFFF))).getD false

/-- The values of Table 04-4 per profile: power pair word but for its input, housekeeping word but for its input, lp_gate_off. -/
def adcProfile (v : Nat) : Nat × Nat × Nat :=
  match v with
  | 0 => (0x00011820, 0x00100030, 0)
  | 1 => (0x000118C0, 0x00400050, 0)
  | _ => (0x00011820, 0x00100030, 1)

/-- Inputs of entries 1 to 5 (04 Table 04-5). -/
def hkInput (c e : Nat) : Nat :=
  ((if c = 0 then [0, 2, 3, 4, 7, 10] else [1, 5, 6, 9, 11, 12]).getD e 0)

/-- The entry word a profile loads (04 Tables 04-4, 04-5); entries 6 to 14 read 0 (16 Table 16-6). -/
def adcEntryWord (v c e : Nat) : Nat :=
  if e = 0 then (adcProfile v).1 + c
  else if e ≤ 5 then (adcProfile v).2.1 + hkInput c e
  else if e = 15 then (adcProfile v).2.1 + 0x100F
  else 0

/-- A write of PWR_ADC_PROFILE.profile (04 R99, R100): leaves the shared Expert, loads the set-up and restarts at pass 1. -/
def State.adcProfileWrite (s : State) (v : Nat) : State :=
  if v < 3 then
    let s1 := (s.put Reg.PWR_ADC_PROFILE.profile v).leaveExpert blk.pwr
    let s2 := s1.each (List.range 32) (fun t k =>
      t.setWord (0xA0500 + 4 * k) (BitVec.ofNat 32 (adcEntryWord v (k / 16) (k % 16))))
    let s3 := ((s2.put (Reg.PWR_ADC_SEQ_LEN.seq_len 0) 6).put (Reg.PWR_ADC_SEQ_LEN.seq_len 1) 6).put
      Reg.PWR_ADC_LP.pass_interval 100
    let s4 := s3.put Reg.PWR_ADC_CTRL.lp_gate_off (adcProfile v).2.2
    let s5 := s4.withMeter { s4.meter with
      collected := false
      force := seqOffs.foldl (fun f o => Store.write resetWord f o (s4.word o)) s4.meter.force }
    s5.restartSeq.lpChange
  else s

/-- PWR_ADC_URGENT written on converter `c` (04 R101). -/
def State.urgentWrite (s : State) (c v : Nat) : State :=
  if v.testBit 0 then
    if s.flag (Reg.PWR_ADC_URGENT_RESULT.busy c) || decide (v / 256 % 4 = 3) then
      s.put (Reg.PWR_ADC_URGENT_RESULT.refused c) 1
    else
      ((s.put (Reg.PWR_ADC_URGENT_RESULT.busy c) 1).setConv c
        { s.conv c with urgent := some ⟨v / 2 % 16, v / 32 % 8, v / 256 % 4⟩ }).kick c
  else s

/-- ACC_SNAP: the four accumulators into the snapshot registers, truncated toward minus infinity (04 R90). -/
def State.accSnap (s : State) : State :=
  let e := unsigned 64 (s.meter.energy / 2 ^ 32)
  let q := unsigned 64 (s.meter.charge / 2 ^ 32)
  let t := s.meter.elapsed / 2 ^ 32 % 2 ^ 64
  let lo := fun v : Nat => BitVec.ofNat 32 v
  ((((((s.setWord 0xA0460 (lo e)).setWord 0xA0464 (lo (e / 2 ^ 32))).setWord 0xA0468 (lo q)).setWord 0xA046C (lo (q / 2 ^ 32))).setWord
    0xA0470 (lo t)).setWord 0xA0474 (lo (t / 2 ^ 32))).setWord 0xA0478 (lo s.meter.pairs)

/-- ACC_CLEAR: the accumulators, not the snapshot (04 R90). -/
def State.accClear (s : State) : State := s.withMeter { s.meter with energy := 0, charge := 0, elapsed := 0, pairs := 0 }

/-- MINMAX_CLEAR: every tracker empties (04 Table 04-7). -/
def State.minmaxClear (s : State) : State := s.each (List.range 32) (fun t k => t.emptyTracker (k / 16) (k % 16))

/-- Setting ref_buf_en starts the 3 ms count (04 R95). -/
def State.refEnable (s : State) : State :=
  if s.flag Reg.PWR_ADC_CTRL.ref_buf_en then s
  else (s.withMeter { s.meter with refCount := true }).put Reg.PWR_ADC_CTRL.ref_buf_en 1

/-- Clearing ref_buf_en: discarded while the gate is on; else running conversions end, nothing follows them and ref_ready clears; a calibration waits for the reference again (04 R95, R106). -/
def State.refClear (s : State) : State :=
  if s.flag Reg.PWR_STATE.gate_on then s
  else
    let s1 := (s.put Reg.PWR_ADC_CTRL.ref_buf_en 0).put Reg.PWR_ADC_STATUS.ref_ready 0
    let busy := s.flag Reg.PWR_ADC_STATUS.cal_busy
    let last := fun v : Conv => { v with todo := [], run := if v.run = some .cal then none else v.run }
    (s1.withMeter { s1.meter with
      refCount := false, calWaits := s1.meter.calWaits || busy, a := last s1.meter.a, b := last s1.meter.b, restart := true }).put
        Reg.PWR_ADC_STATUS.cal_busy 0

end Sys2Proof.Machine
end

