-- ==== Sys2Proof/Machine/Reset.lean ====
section
/-!
DEFINITION. Machine/Reset.lean: what each reset kind resets and keeps (spec/05_bringup_homeroom_recess.md R119).
-/
namespace Sys2Proof.Machine

open Sys2Proof

/-- Bits of GLB_EXPERT_STATUS that show PSH2's shared Expert state. -/
def psh2Expert : Nat := 2 ^ blk.pwr + 2 ^ blk.rcd

/-- GLD1 cold reset: all of GLD1 resets, GP_RST_N is low; the slot address stays as last sampled (02 R48), and PSH2, the breaker, the metering, the Report Card, the flash and the pins keep their state (05 Table 05-6), and a thermal shutdown holds the fabric until its restart (12 R335). -/
def State.coldGld (s : State) : State :=
  let t : State := { State.reset with
    regs := s.regs.filter (fun p => isPsh2Word p.1)
    lastRead := s.lastRead
    now := s.now
    coldAt := s.now
    fresh := s.fresh + 1
    dramEra := ⟨List.replicate 4 (s.fresh + 1), []⟩
    slotStraps := s.slotStraps
    host := { HostIf.reset with
      posted := s.host.posted
      perstLow := s.host.perstLow
      halves := s.host.halves.filter (fun h => decide (sharedBlk h.block = blk.pwr)) }
    svc := { Service.reset with
      pshPower := s.svc.pshPower
      pshRun := s.svc.pshRun
      romRecovery := s.svc.romRecovery
      powerGoodAt := s.svc.powerGoodAt }
    brk := s.brk
    meter := s.meter
    pmb := s.pmb
    card := { s.card with gld := Live.empty }
    mgmt := s.mgmt
    thermal := { Thermal.reset with winOut := s.thermal.winOut, winIn := s.thermal.winIn, dieWarn := s.thermal.dieWarn }
    sec := { s.sec with lastResult := 0 }
    dbg := { Debug.reset with
      cores := List.replicate 4 Core.reset ++ (s.dbg.cores.drop 4).map (·.run)
      coreEra := List.replicate 5 (s.fresh + 1)
      noHaltPsh := s.dbg.noHaltPsh
      tapPsh := s.dbg.tapPsh
      tapGld := { Tap.reset with inReset := s.dbg.tapGld.inReset } }
    nor := s.nor
    pending := s.pending }
  let u := (t.put Reg.GLB_EXPERT_STATUS.expert (s.get Reg.GLB_EXPERT_STATUS.expert &&& psh2Expert)).put
    Reg.THM_FLAGS.psh2_flagged (s.get Reg.THM_FLAGS.psh2_flagged)
  let v := ((u.put Reg.GLB_SLOT.slot_id (s.get Reg.GLB_SLOT.slot_id)).each [19, 20, 21] (fun x n => x.setWord (Reg.THM_SENSOR.reading n).off (s.word (Reg.THM_SENSOR.reading n).off))).put
    Reg.THM_BANDS.flash_open (s.get Reg.THM_BANDS.flash_open)
  if s.flag Reg.THM_STATUS.restart_wait then
    ((v.withFab { v.fab with powered := false }).put Reg.THM_STATUS.restart_wait 1).put Reg.THM_STATUS.shutdown
      (s.get Reg.THM_STATUS.shutdown)
  else v

end Sys2Proof.Machine
end

