-- ==== Sys2Proof/Machine/FwOps.lean ====
section
/-!
DEFINITION. Machine/FwOps.lean: shared operations on firmware slots, the boot-control record and the interface check (spec/14_identity_firmware.md).
-/
namespace Sys2Proof.Machine

open Sys2Proof

/-- The images: 0 GLD1 sequencer, 1 PSH2 (14 Table 14-5). -/
def State.image (s : State) (i : Nat) : FwImage := if i = 0 then s.sec.gld else s.sec.psh

/-- Change an image's record. -/
def State.setImage (s : State) (i : Nat) (v : FwImage) : State :=
  if i = 0 then s.withSec { s.sec with gld := v } else s.withSec { s.sec with psh := v }

/-- NOR address of a slot (14 Table 14-4). -/
def slotBase (i slot : Nat) : Nat := (if i = 0 then 0x200000 else 0) + 0x100000 * slot

/-- The manifest in a slot: 4 KiB (14 R378). -/
def State.slotManifest (s : State) (i slot : Nat) : List Byte := s.norRead (slotBase i slot) 4096

/-- Manifest fields (14 Table 14-5). -/
def mfVersion (m : List Byte) : Nat := natAt m 8 4
def mfSvn (m : List Byte) : Nat := natAt m 12 4
def mfBodySize (m : List Byte) : Nat := natAt m 16 4
def mfEpoch (m : List Byte) : Nat := natAt m 20 2
def mfPeerMin (m : List Byte) : Nat := natAt m 22 2
def mfPeerMax (m : List Byte) : Nat := natAt m 24 2
def mfMirror (m : List Byte) : Nat := natAt m 26 2
def mfPairs (m : List Byte) : Nat := natAt m 80 2

/-- Largest body of an image's kind (14 R378). -/
def bodyLimit (i : Nat) : Nat := if i = 0 then 0x80000 else 0xC0000

/-- Do magic, format and kind fit, and is every field in range (14 R379)? -/
def manifestFits (i : Nat) (m : List Byte) : Bool :=
  decide (natAt m 0 4 = 0x464D4B4F) && decide (natAt m 4 2 = 1) && decide (natAt m 6 1 = i) &&
  decide (mfSvn m ≤ (if i = 0 then 64 else 32)) && decide (mfBodySize m % 4096 = 0) && decide (mfBodySize m ≤ bodyLimit i) &&
  decide (mfPeerMin m ≤ mfPeerMax m) && (decide (i = 0) || decide (mfMirror m = 0)) && decide (mfPairs m ≤ 128)

/-- The check of R379: 0 when the slot is valid, else the first failing check of Table 14-7. -/
def State.checkSlot (s : State) (i slot : Nat) : Nat :=
  let m := s.slotManifest i slot
  let signer := (m.drop 1120).take 97
  if !manifestFits i m then 2
  else if Config.sha384 signer ≠ Config.signerDigest i then 3
  else if !Config.ecdsaVerify signer (m.take 4000) (m.drop 4000) then 3
  else if Config.sha384 (s.norRead (slotBase i slot + 4096) (mfBodySize m)) ≠ (m.drop 32).take 48 then 4
  else if mfSvn m < (s.image i).floor then 5
  else 0

/-- Measurement of a slot: the digest of its manifest, or zeros without a valid one (14 R376). -/
def State.slotDigest (s : State) (i slot : Nat) : List Byte :=
  if manifestFits i (s.slotManifest i slot) then Config.sha384 (s.slotManifest i slot) else List.replicate 48 0

/-- Do two images meet (14 R382)? -/
def mfMeet (g p : List Byte) : Bool :=
  decide (mfPeerMin p ≤ mfEpoch g) && decide (mfEpoch g ≤ mfPeerMax p) &&
  decide (mfPeerMin g ≤ mfEpoch p) && decide (mfEpoch p ≤ mfPeerMax g)

/-- Does a manifest list the pair of versions? -/
def mfLists (m : List Byte) (gv pv : Nat) : Bool :=
  (List.range (mfPairs m)).any (fun j => decide (natAt m (96 + 8 * j) 4 = gv) && decide (natAt m (100 + 8 * j) 4 = pv))

/-- Is the pair tested (14 R382)? -/
def mfTested (g p : List Byte) : Bool := mfLists g (mfVersion g) (mfVersion p) || mfLists p (mfVersion g) (mfVersion p)

/-- The result code that refuses a pair, or 1 when it is accepted (14 Table 14-6). -/
def fwPair (strict : Bool) (g p : List Byte) : Nat :=
  if !mfMeet g p then 8 else if strict && !mfTested g p then 9 else 1

/-- SEC registers show the boot-control record, the fuses and the running images (14 Table 14-8). -/
def State.showFw (s : State) : State :=
  let b := fun (t : State) (f : Fld) (v : Bool) => t.putFlag f v
  let x := s.sec
  let s1 := ((s.put Reg.SEC_FW_STATUS.gld1_slot x.gld.slot).put Reg.SEC_FW_STATUS.psh2_slot x.psh.slot)
  let s2 := b (b (b (b (b s1 Reg.SEC_FW_STATUS.gld1_trial x.gld.trial) Reg.SEC_FW_STATUS.psh2_trial x.psh.trial)
    Reg.SEC_FW_STATUS.gld1_pending x.gld.pending) Reg.SEC_FW_STATUS.psh2_pending x.psh.pending) Reg.SEC_FW_STATUS.joint x.joint
  let s3 := b (b (b (b s2 Reg.SEC_FW_STATUS.rolled_back x.rolledBack) Reg.SEC_FW_STATUS.strict_pairs x.strict)
    Reg.SEC_FW_STATUS.gld1_staged_valid x.gld.staged) Reg.SEC_FW_STATUS.psh2_staged_valid x.psh.staged
  let s4 := ((s3.put Reg.SEC_FW_STATUS.last_result x.lastResult).put Reg.SEC_GLD1_VERSION.gld1_version (mfVersion x.gld.manifest)).put
    Reg.SEC_PSH2_VERSION.psh2_version (mfVersion x.psh.manifest)
  let s5 := (s4.put Reg.SEC_GLD1_STAGED.gld1_staged (if x.gld.staged then mfVersion (s.slotManifest 0 (1 - x.gld.slot)) else 0)).put
    Reg.SEC_PSH2_STAGED.psh2_staged (if x.psh.staged then mfVersion (s.slotManifest 1 (1 - x.psh.slot)) else 0)
  let s6 := ((s5.put Reg.SEC_EPOCHS.gld1_if_epoch (mfEpoch x.gld.manifest)).put Reg.SEC_EPOCHS.psh2_if_epoch (mfEpoch x.psh.manifest)).put
    Reg.SEC_EPOCHS.mf_epoch (mfMirror x.gld.manifest)
  (s6.put Reg.SEC_FLOORS.gld1_floor x.gld.floor).put Reg.SEC_FLOORS.psh2_floor x.psh.floor

/-- Report a result code (14 Table 14-7). -/
def State.fwResult (s : State) (r : Nat) : State := (s.withSec { s.sec with lastResult := r }).put Reg.SEC_FW_STATUS.last_result r

/-- Write the boot-control record to the copy that does not hold the newest one (14 R380). -/
def State.bootWrite (s : State) : State :=
  s.withSec { s.sec with bootCopy := 1 - s.sec.bootCopy, bootSeq := s.sec.bootSeq + 1 }

/-- Abandon an image's trial: the previous slot runs again (14 R389). -/
def State.abandon (s : State) (i : Nat) : State :=
  let m := s.image i
  if m.trial then
    let s1 := (s.setImage i { m with slot := 1 - m.slot, trial := false })
    (s1.withSec { s1.sec with rolledBack := true, jointTrial := false }).bootWrite
  else s

/-- An activated image takes its place with its trial flag set (14 R387). -/
def State.activate (s : State) (i : Nat) : State :=
  let m := s.image i
  if m.pending then
    let s1 := s.setImage i { m with slot := 1 - m.slot, trial := true, pending := false, staged := false }
    (s1.withSec { s1.sec with trialDelay := s1.get Reg.SEC_CFG.confirm_delay }).bootWrite
  else s

/-- PSH2 makes a Report Card flush as flush_now does and its management core restarts: the converter sequence stops, PMBus is silent and the link will be lost (14 R388). -/
def State.pshRestart (s : State) : State :=
  let t := (s.trigger 5 false).runFlush true
  (((t.withSvc { t.svc with pshRun := false }).withGpPsh { GpSide.reset with lost := t.gpPsh.lost }).withSec { t.sec with restarting := true })

/-- A PSH2 image is in place and starts to run. -/
def State.pshStarts (s : State) : State := s.setImage 1 { s.sec.psh with manifest := s.slotManifest 1 s.sec.psh.slot }

/-- What a GLD1 cold reset does to the firmware: an unconfirmed trial is abandoned, a pending activation takes effect; a joint one takes both dies (14 R387, R389, R396). -/
def State.coldFw (s : State) : State :=
  if s.sec.gld.trial then
    if s.sec.jointTrial then ((s.abandon 0).abandon 1).pshRestart else s.abandon 0
  else if s.sec.gld.pending then
    if s.sec.joint then
      let s1 := (s.activate 0).activate 1
      (s1.withSec { s1.sec with joint := false, jointTrial := true }).pshRestart
    else s.activate 0
  else s

/-- All of GLD1 resets; requests at the vault get no response (14 R397). -/
def State.coldTail (s : State) : State :=
  let s1 := s.coldGld
  (s1.withSec { s1.sec with vault := [], reply := none, otherTried := false }).showFw

/-- GLD1 cold reset: firmware slots settle, then all of GLD1 resets (05 Table 05-6). -/
def State.coldReset (s : State) : State := s.coldFw.coldTail

end Sys2Proof.Machine
end

