-- ==== Sys2Proof/Machine/BreakerOps.lean ====
section
/-!
DEFINITION. Machine/BreakerOps.lean: the circuit breaker's shared operations: states, trips, trip rules, shed, step notices, profiles (spec/02_slot_connector.md, 03_power_path_breaker.md).
-/
namespace Sys2Proof.Machine

open Sys2Proof

/-- Breaker state codes (03 Table 03-3). -/
def bkStandby : Nat := 0
def bkQualifying : Nat := 1
def bkSoftStart : Nat := 2
def bkOn : Nat := 3
def bkBackoff : Nat := 4
def bkLatched : Nat := 5
def bkPowerFail : Nat := 6
def bkOffSettled : Nat := 7

/-- PWR_STATE.state. -/
def State.bk (s : State) : Nat := s.get Reg.PWR_STATE.state

/-- How a lamp of the front shows (02 Table 02-7). -/
inductive Lamp where
  | off | steady | blink1Hz | blink4Hz
  deriving DecidableEq, Repr

/-- The SERVICE lamp: 4 Hz while locate is set, 1 Hz in Homeroom or while an extraction request is pending, steady in full service, otherwise off (02 Table 02-7, R47). -/
def State.serviceLamp (s : State) : Lamp :=
  if s.flag Reg.PWR_SLOT_CTRL.locate then .blink4Hz
  else if decide (s.service = svcHomeroom) || s.brk.extracting then .blink1Hz
  else if s.service = svcFull then .steady
  else .off

/-- REMOVE is lit while the gate is off in the states of Table 02-7. -/
def State.lamp (s : State) : State :=
  s.putFlag Reg.PWR_SLOT_STATUS.remove_led
    (!s.flag Reg.PWR_STATE.gate_on && [bkStandby, bkQualifying, bkBackoff, bkLatched, bkOffSettled].contains s.bk)

/-- Enter a breaker state. -/
def State.setBk (s : State) (st : Nat) : State := (s.put Reg.PWR_STATE.state st).lamp

/-- The lever is closed. -/
def State.leverClosed (s : State) : Bool := !s.flag Reg.PWR_SLOT_STATUS.lever_open

/-! The live trip-rule table. -/

/-- A field of the live table. -/
def State.live? (s : State) (f : Fld) : Nat := fieldOf (Store.read resetWord s.brk.live f.off) f.lo f.width

/-- Duration of rule `n` in 1/64 ns. -/
def State.ruleTime (s : State) (n : Nat) : Nat :=
  s.live? (Reg.PWR_RULE_DURATION.duration n) *
    (if s.live? (Reg.PWR_RULE_DURATION.dur_unit n) = 0 then 64000 else 64000000)

/-- A duration of 1 ms or more makes a trip rule slow (R60). -/
def State.ruleSlow (s : State) (n : Nat) : Bool := decide (64000000 ≤ s.ruleTime n)

/-- The hold timer of rule `n`. -/
def State.timer (s : State) (n : Nat) : RuleTimer := s.brk.timers.getD n RuleTimer.fresh

/-- Change the hold timer of rule `n`. -/
def State.setTimer (s : State) (n : Nat) (t : RuleTimer) : State :=
  s.withBrk { s.brk with timers := s.brk.timers.set n t }

/-- The limit in force: the lower of ilimit and the limit levels of rules whose limit action holds (Table 03-10). -/
def State.activeLimit (s : State) : Nat :=
  s.brk.limitBy.foldl (fun m n =>
    if s.live? (Reg.PWR_RULE_LEVEL.limit_level n) = 0 then m else min m (s.live? (Reg.PWR_RULE_LEVEL.limit_level n)))
    (s.get Reg.PWR_LIMIT_CFG.ilimit)

/-! Gate. -/

/-- The gate drive goes: Q1 is off (R53, R104, R105). -/
def State.driveOff (s : State) : State := ((s.calStop.put Reg.PWR_STATE.gate_on 0).put Reg.PWR_STATE.limiting 0).lpChange

/-- PL1 to PL4 are off and the discharge path is on: GLD1 is in reset without its supply (R53). -/
def State.railsOff (s : State) : State :=
  (s.withBrk { s.brk with discharge := true, voutLow := false, regsUp := 0 }).coldGld.showFw

/-- The gate turns off with the regulators together (R53, R104, R105), which makes the gate-off flush (13 Table 13-6). -/
def State.gateOff (s : State) : State := if s.flag Reg.PWR_STATE.gate_on then s.driveOff.railsOff.trigger 3 false else s

/-- GP_QUIESCE rises and reaches GLD1: the service state is Quiesced, descriptors in flight get no completion and fetch stops, the tile clocks stop, the capture link is down, LPDDR5X is in self-refresh, and halted GLD1 cores run again (R71 step 2, 05 Table 05-1, 06 R160, 15 R418). The module writes no host memory from here, so no interrupt is raised. -/
def State.quiesceGld (s : State) : State :=
  let s1 := s.put Reg.PWR_STATE.quiesce 1
  if s.svc.rstLow then s1
  else
    let s2 := ((s1.put Reg.GLB_SERVICE.state svcQuiesced).put Reg.GLB_SERVICE.full_service 0).put Reg.GLB_SERVICE.homeroom 0
    let s3 := s2.withHost { s2.host with flights := [], held := [] }
    let s4 := s3.each (List.range 64) (fun t k => t.put (Reg.FAB_TILE_STATUS.mode k) 0)
    let s5 := s4.each (List.range 4) (fun t c => if t.flag (Reg.MEM_CH_STATUS.trained c) then t.put (Reg.MEM_CH_STATUS.self_refresh c) 1 else t)
    let s6 := ((s5.put Reg.CAP_LINK_STATUS.lane_lock 0).put Reg.CAP_LINK_STATUS.aligned 0).put Reg.CAP_LINK_STATUS.link_up 0
    s6.each (List.range 4) (fun t c => t.mapCore c Core.resume)

/-- PL3, PL2, PL1 and PL4 are disabled one after another, the reverse of the order in which they came up (05 R111). -/
def State.regulatorsDown (s : State) : State := s.each (List.range s.brk.regsUp) (fun t _ => t.withBrk { t.brk with regsUp := t.brk.regsUp - 1 })

/-- PMBus status of a trip by cause (Table 03-12): overcurrent causes, overvoltage, other. -/
def State.tripStatus (s : State) (overcurrent overvoltage : Bool) : State :=
  s.withPmb { s.pmb with
      stIoutOc := s.pmb.stIoutOc || overcurrent
      siIinOc := s.pmb.siIinOc || overcurrent
      siVinOv := s.pmb.siVinOv || overvoltage
      stMfr := s.pmb.stMfr || !overcurrent }

/-- One of the causes of a trip decision: its last_cause code, its bits of PWR_TRIP_STATUS, its retries. -/
structure TripCause where
  code : Nat
  bits : Nat
  retries : Nat
  deriving DecidableEq, Repr

/-- The trip cause of rule `n`. -/
def State.ruleCause (s : State) (n : Nat) : TripCause := ⟨0x10 + n, 2 ^ (8 + n), s.live? (Reg.PWR_RULE_CFG.retries n)⟩

/-- Does a cause code name an overcurrent cause (Table 03-12)? -/
def State.overcurrent (s : State) (code : Nat) : Bool :=
  if code < 0x10 then true else decide (s.live? (Reg.PWR_RULE_CFG.kind (code - 0x10)) = 1)

/-- A trip cause is recorded in PWR_TRIP_STATUS and in the PMBus status (R74, Table 03-12). -/
def State.recordTrip (s : State) (c : TripCause) : State :=
  (s.setWord 0xA0028 (s.word 0xA0028 ||| BitVec.ofNat 32 c.bits)).tripStatus
    (s.overcurrent c.code) (decide (0x10 ≤ c.code) && decide (s.live? (Reg.PWR_RULE_CFG.kind (c.code - 0x10)) = 3))

/-- A trip decision (R60, R62, R74): the gate turns off, the strictest retry policy governs, last_cause names FAST_TRIP or else the lowest rule. During Power-fail the gate goes at once and the procedure continues at its next step; last_cause goes on naming the power-fail (DEDUCED, log 27). -/
def State.trip (s : State) (causes : List TripCause) : State :=
  match causes with
  | [] => s
  | c0 :: rest =>
    if s.bk == bkPowerFail then (s.each (c0 :: rest) State.recordTrip).driveOff
    else if s.bk == bkSoftStart || s.bk == bkOn then
      let all := c0 :: rest
      let code := rest.foldl (fun m c => min m c.code) c0.code
      let retries := rest.foldl (fun m c => min m c.retries) c0.retries
      let used := s.get Reg.PWR_STATE.retry_count
      let s1 := s.each all State.recordTrip
      let s2 := (s1.put Reg.PWR_STATE.last_cause code).pshCount 0
      let s3 := (s2.when_ (code == 1) (·.pshCount 1)).when_ (code == 2 || code == 3) (·.pshCount 2)
      let s4 := ((s3.raise cause.breaker noUnit (s3.word 0xA0000).toNat).trigger 1 true).gateOff
      if retries ≤ used then
        let s5 := (s4.setBk bkLatched).pshCount 4
        (s5.withBrk { s5.brk with faultLed := true })
      else (s4.setBk bkBackoff).put Reg.PWR_STATE.retry_count (used + 1)
    else s

/-! Starting and stopping. -/

/-- Off-Settled for a cause: `hold` keeps the gate off until the lever or OPERATION on (R29), `minOff` starts the 200 ms (R73, R78). GP_QUIESCE is low again, and so is GP_SHED unless a rule that asked for it still waits for its release (R64). -/
def State.settle (s : State) (code : Nat) (hold minOff : Bool) : State :=
  let s1 := ((s.put Reg.PWR_STATE.last_cause code).putFlag Reg.PWR_STATE.shed_active
    (s.flag Reg.PWR_STATE.shed_active && !s.brk.shedBy.isEmpty)).put Reg.PWR_STATE.quiesce 0
  let s2 := (s1.withBrk { s1.brk with
      minOff := s1.brk.minOff || minOff, holdOff := hold, qualDone := s1.brk.qualDone && !hold
      extracting := false, grace := false }).withDbg { s1.dbg with noHaltPsh := false }
  s2.setBk bkOffSettled

/-- SLOT_ID_SAMPLE: PSH2 samples the straps and takes its address; slot_id_differ follows (02 R48). -/
def State.sampleSlot (s : State) : State :=
  let s1 := s.put Reg.PWR_SLOT_STATUS.psh2_slot_id s.slotStraps
  (s1.withPmb { s1.pmb with address := 0x40 + s.slotStraps % 32 })

/-- slot_id_differ compares the two dies' samples; newly set it alerts and raises the slot cause (02 R48, R49). -/
def State.slotDiffer (s : State) : State :=
  let d := decide (s.get Reg.PWR_SLOT_STATUS.psh2_slot_id ≠ s.get Reg.GLB_SLOT.slot_id)
  if d && !s.flag Reg.PWR_SLOT_STATUS.slot_id_differ then
    let s1 := (s.put Reg.PWR_SLOT_STATUS.slot_id_differ 1).alertOn
    s1.raise cause.slot noUnit (s1.word 0xA0F00).toNat
  else (s.putFlag Reg.PWR_SLOT_STATUS.slot_id_differ d).alertRefresh

/-- SOFT_START: the gate ramps, the discharge path is off, and GLD1 takes its cold reset (R53, R54, R63). -/
def State.softStart (s : State) : State :=
  let s1 := (s.put Reg.PWR_STATE.gate_on 1).setBk bkSoftStart
  let s2 := s1.withBrk { s1.brk with discharge := false, minOff := false, regsUp := 0 }
  s2.lpChange.coldReset

/-- A soft-start begins once R28's count is complete, VOUT is below 0.5 V, no minimum off time runs, and the recorder's reserve is ready or the flash-write window is closed (R53, R62, R73, 13 R355). -/
def State.tryStart (s : State) : State :=
  if s.bk == bkQualifying && s.brk.qualDone && s.brk.voutLow && !s.brk.minOff && s.leverClosed && s.svc.pshPower &&
      (s.flag Reg.RCD_STATUS.reserve_ready || s.flag Reg.RCD_STATUS.window_closed) then s.softStart
  else s

/-- The start conditions govern again: Qualifying while they hold, Standby otherwise (R28, R29). -/
def State.qualify (s : State) : State :=
  (s.setBk (if s.leverClosed && s.brk.supplyOk then bkQualifying else bkStandby)).tryStart

/-- An orderly off, by breaker state (R430); in On it quiesces GLD1, disables the regulators in the reverse order (05 R111) and turns the gate off. While Latched a later off replaces the one remembered (DESIGN CHOICE, log 128). -/
def State.orderlyOff (s : State) : State :=
  if s.bk == bkOn then
    s.quiesceGld.regulatorsDown.gateOff.settle 6 true false
  else if s.bk == bkSoftStart then s.gateOff.settle 6 true false
  else if s.bk == bkStandby || s.bk == bkQualifying || s.bk == bkBackoff then
    ((s.put Reg.PWR_STATE.retry_count 0).settle 6 true false).trigger 3 false
  else if s.bk == bkLatched then (s.withBrk { s.brk with rememberedOff := some 6 }).trigger 3 false
  else s

/-- An immediate off, by breaker state (R78): GP_QUIESCE rises, and the gate goes without waiting for GLD1. While Latched a later off replaces the one remembered (DESIGN CHOICE, log 128). -/
def State.immediateOff (s : State) : State :=
  if s.bk == bkOn || s.bk == bkSoftStart then s.quiesceGld.gateOff.settle 7 true true
  else if s.bk == bkStandby || s.bk == bkQualifying || s.bk == bkBackoff then
    ((s.put Reg.PWR_STATE.retry_count 0).settle 7 true true).trigger 3 false
  else if s.bk == bkLatched then (s.withBrk { s.brk with rememberedOff := some 7 }).trigger 3 false
  else s

/-- The latch is cleared (R62, R78, R430). -/
def State.clearLatch (s : State) : State :=
  if s.bk == bkLatched then
    let s1 := (s.put Reg.PWR_STATE.retry_count 0)
    let s2 := s1.withBrk { s1.brk with faultLed := false, rememberedOff := none }
    match s.brk.rememberedOff with
    | some code => s2.settle code true (code == 7)
    | none => s2.qualify
  else s

/-- The power-fail detector fires (R71, R74): `code` 5, or 4 for reverse current, whose gate is off at once (R58); it resumes the PSH2 core (15 R418). With the gate path active, Procedure: POWER-FAIL runs its steps in order within this one (spec/95: POWER_FAIL is one indivisible step that ends in Off-Settled): GP_SHED and state Power-fail, GP_QUIESCE, the block, the gate, Off-Settled. R28's count starts again, since VIN has failed (R73). From Backoff and Qualifying, where no procedure runs, last_cause names the power-fail too and VIN_UV sets (DESIGN CHOICE, log 129). -/
def State.powerFail (s0 : State) (code : Nat) : State :=
  let s := s0.mapCore 4 Core.resume
  let vin := fun t : State => t.withPmb { t.pmb with stVinUv := true, siVinUv := true }
  if s.bk == bkOn || s.bk == bkSoftStart then
    let s1 := (s.put Reg.PWR_TRIP_STATUS.power_fail 1).when_ (code == 4) (·.put Reg.PWR_TRIP_STATUS.reverse_current 1)
    let s2 := (vin ((s1.put Reg.PWR_STATE.last_cause code).pshCount 0)).pshCount 3
    let s3 := (s2.withBrk { s2.brk with qualDone := false }).setBk bkPowerFail
    let s4 := s3.when_ (code == 4) State.driveOff
    let s5 := ((s4.raise cause.breaker noUnit (s4.word 0xA0000).toNat).calStop).put Reg.PWR_STATE.shed_active 1
    let s6 := s5.quiesceGld.powerFailBlock
    s6.driveOff.railsOff.settle code false true
  else if s.bk == bkLatched then
    let s1 := (vin ((s.put Reg.PWR_TRIP_STATUS.power_fail 1).pshCount 3)).calStop
    let s2 := (s1.withBrk { s1.brk with qualDone := false }).powerFailBlock
    (s2.withDbg { s2.dbg with noHaltPsh := true })
  else if s.bk == bkQualifying || s.bk == bkBackoff then
    let s1 := (vin s).calStop
    (s1.withBrk { s1.brk with qualDone := false }).settle code false true
  else s

/-! Shed (R64, R75). -/

/-- A rule asks for GP_SHED; its rise counts, raises the breaker cause and stops a calibration (R64, R105). -/
def State.assertShed (s : State) (n : Nat) : State :=
  let s1 := s.withBrk { s.brk with shedBy := if s.brk.shedBy.contains n then s.brk.shedBy else s.brk.shedBy ++ [n] }
  if s1.flag Reg.PWR_STATE.shed_active then s1
  else
    let s2 := (s1.put Reg.PWR_STATE.shed_active 1).pshCount 5
    (s2.raise cause.breaker noUnit (s2.word 0xA0000).toNat).calStop

/-! Trip rules (R59 to R61). -/

/-- A near-miss of rule `n` (R61). -/
def State.nearMiss (s : State) (n : Nat) : State :=
  (s.bump (if n % 2 = 0 then Reg.PWR_NEAR_MISS.near_miss_even (n / 2) else Reg.PWR_NEAR_MISS.near_miss_odd (n / 2))).pshCount (8 + n)

/-- One evaluation of rule `n`; a rule that has fired fires again only after its condition has cleared, also through a Backoff, a cleared latch and a new soft-start (DESIGN CHOICE, log 31): `since` is the time since the evaluation before it, in 1/64 ns (R59, R61). -/
def State.evalRule (s : State) (n : Nat) (holds : Bool) (since : Nat) : State :=
  let t := s.timer n
  let held := if t.holding then t.held + since else 0
  if holds then
    let due := !t.fired && (decide (s.ruleTime n ≤ held) || decide (s.ruleTime n < since))
    s.setTimer n { t with holding := true, held := held, due := t.due || due }
  else
    let s1 := s.setTimer n { RuleTimer.fresh with confirming := t.confirming, cleared := t.confirming }
    if t.holding && !t.fired && decide (s.ruleTime n ≤ 2 * held) then s1.nearMiss n else s1

/-- The step allowance, in 0.1 A (R67). -/
def State.allowance (s : State) : Nat :=
  s.get Reg.PWR_STEP_CFG.base_allowance + (s.brk.notices.map (·.amplitude)).sum

/-- Does the condition of a fast rule hold (Table 03-9)? -/
def State.fastHolds (s : State) (n : Nat) : Bool :=
  let level := s.live? (Reg.PWR_RULE_LEVEL.level n)
  match s.live? (Reg.PWR_RULE_CFG.kind n) with
  | 1 => decide (level < s.brk.iin)
  | 2 => decide (s.brk.vin < level)
  | 3 => decide (level < s.brk.vin)
  | 6 => s.brk.recent.any (fun i => decide (i + 10 * s.allowance < s.brk.iin))
  | _ => false

/-- Sum and number of the power results that ended inside a window; ages in 1/64 ns. -/
def windowSum (window : Nat) : Nat → List (Nat × Int) → Int × Nat
  | _, [] => (0, 0)
  | age, r :: t =>
    if window < age then (0, 0)
    else let (p, k) := windowSum window (age + r.1) t
         (p + r.2, k + 1)

/-- Does a power-over-window condition hold, `since` after the most recent result (R102)? -/
def State.powerRuleHolds (s : State) (n since : Nat) : Bool :=
  let level : Int := s.live? (Reg.PWR_RULE_LEVEL.level n)
  let w := windowSum (64000000 * s.live? (Reg.PWR_RULE_WINDOW.window n)) since s.meter.history
  let (p, k) := if w.2 = 0 then ((s.meter.history.head?.map (·.2)).getD 0, 1) else w
  -- 0.1 W is 1000 × 2^44 of the history's unit.
  decide (level * 1000 * 2 ^ 44 * k < p)

/-- Does a temperature in 0.125 °C lie above a level in 0.1 °C? -/
def hotter (level : Nat) (t : Int) : Bool := decide (8 * signed 16 level < 10 * t)

/-- Does a temperature condition hold (R59, R92, 12 R312, Table 03-11)? -/
def State.tempHolds (s : State) (n : Nat) : Bool :=
  let level := s.live? (Reg.PWR_RULE_LEVEL.level n)
  let own := fun input : Nat =>
    match s.meter.latest.getD input none with
    | none => false
    | some c => if !s.live (sensorOf input) then true else
      match tempOf input c with
      | none => true
      | some t => hotter level t
  match s.live? (Reg.PWR_RULE_CFG.sensor n) with
  | 0 => own 10
  | 1 => own 12
  | 2 => own 11
  | _ => match s.brk.gldTemp with
    | none => false
    | some none => true
    | some (some t) => hotter level t

/-- Is the rule one that a tick evaluates? -/
def State.ruleIs (s : State) (n : Nat) (kinds : List Nat) : Bool := kinds.contains (s.live? (Reg.PWR_RULE_CFG.kind n))

/-- VIN at or above 10.8 V completes R28's supply conditions after a break: with the lever closed, Standby goes to Qualifying (R28, Table 03-3). -/
def State.supplyBack (s : State) : State :=
  if !s.brk.supplyOk && decide (1080 ≤ s.brk.vin) then
    let s1 := s.withBrk { s.brk with supplyOk := true }
    if s1.bk == bkStandby && s1.leverClosed && s1.pshUp then s1.qualify else s1
  else s

/-- One microsecond sample of the fast monitors: R28's VIN condition, rules, limit loop, and results in the fallback of R98. -/
def State.fastTick (s : State) (iin vin : Nat) : State :=
  let s1 := (s.withBrk { s.brk with iin := iin, vin := vin, recent := (iin :: s.brk.recent).take (s.get Reg.PWR_STEP_CFG.step_window + 1) }).withCard { s.card with peakMa := some (max (10 * iin) (s.card.peakMa.getD 0)) }
  let lim := s1.flag Reg.PWR_STATE.gate_on && decide (10 * s1.activeLimit ≤ iin)
  let s2 := s1.putFlag Reg.PWR_STATE.limiting lim
  let s3 := s2.withPmb { s2.pmb with siIinWarn := s2.pmb.siIinWarn || lim }
  let s3' := s3.withMeter { s3.meter with tickAge := s3.meter.tickAge + 64000 }
  let s4 := if s3'.flag Reg.PWR_ADC_STATUS.plaus_fallback then s3'.powerResult s3'.meter.tickAge ((iin : Int) * vin * 2 ^ 44) else s3'
  (s4.each (List.range 8) (fun t n => if t.ruleIs n [1, 2, 3, 6] then t.evalRule n (t.fastHolds n) 64000 else t)).supplyBack

/-- The power rules, when a converter result comes; a calibration holds their timers (04 R94, R102). -/
def State.powerTick (s : State) (since period : Nat) : State :=
  if s.flag Reg.PWR_ADC_STATUS.cal_busy then s
  else s.each (List.range 8) (fun t n => if t.ruleIs n [4] then t.evalRule n (t.powerRuleHolds n since) period else t)

/-- The temperature rules, every 100 ms. -/
def State.tempTick (s : State) : State :=
  s.each (List.range 8) (fun t n => if t.ruleIs n [5] then t.evalRule n (t.tempHolds n) 6400000000 else t)

/-- Rules of a list that are due to fire. -/
def State.dueRules (s : State) (rules : List Nat) : List Nat := (List.range 8).filter (fun n => rules.contains n && (s.timer n).due)

/-- Rule `n` fires: it stops being due and stays fired while its condition holds. -/
def State.markFired (s : State) (n : Nat) : State := s.setTimer n { s.timer n with due := false, fired := true }

/-- Is the firing rule a fast trip rule (R60)? -/
def State.fastTripRule (s : State) (n : Nat) : Bool :=
  decide (s.live? (Reg.PWR_RULE_CFG.action n) = 2) && decide (s.live? (Reg.PWR_RULE_CFG.kind n) ≠ 2) && !s.ruleSlow n

/-- The action of a firing rule but for a fast trip (Table 03-10, R60). -/
def State.ruleAction (s : State) (n : Nat) : State :=
  match s.live? (Reg.PWR_RULE_CFG.action n) with
  | 0 => s.withBrk { s.brk with limitBy := if s.brk.limitBy.contains n then s.brk.limitBy else s.brk.limitBy ++ [n] }
  | 1 => s.assertShed n
  | _ =>
    if s.live? (Reg.PWR_RULE_CFG.kind n) = 2 then s.powerFail 5
    else if s.ruleSlow n then (s.setTimer n { s.timer n with confirming := true, cleared := false }).assertShed n
    else s

/-- RULE_FIRES: the due rules of one evaluation act; fast trips among them are one decision (R60, R74). -/
def State.fireRules (s : State) (rules : List Nat) : State :=
  let due := s.dueRules rules
  let s1 := s.each due (fun t n => t.markFired n)
  let s2 := s1.trip ((due.filter s1.fastTripRule).map s1.ruleCause)
  s2.each (due.filter (fun n => !s1.fastTripRule n)) (fun t n => t.ruleAction n)

/-- CONFIRM_WINDOW_END: rules whose condition still holds trip together; the others count a near-miss (R60, R61). -/
def State.confirmEnd (s : State) (rules : List Nat) : State :=
  let mine := (List.range 8).filter (fun n => rules.contains n && (s.timer n).confirming)
  let trips := mine.filter (fun n => !(s.timer n).cleared)
  let s1 := s.each mine (fun t n => t.setTimer n { t.timer n with confirming := false, cleared := false })
  let s2 := s1.each (mine.filter (fun n => (s.timer n).cleared)) (fun t n => t.nearMiss n)
  s2.trip (trips.map s2.ruleCause)

/-! Step notices (R65 to R67). -/

/-- Would the notice break a limit of R66? -/
def State.noticeRefused (s : State) (amplitude : Nat) : Bool :=
  let sum := (s.brk.notices.map (·.amplitude)).sum + amplitude
  decide (s.get Reg.PWR_STEP_CFG.notice_max < sum) ||
    decide (10 * s.get Reg.PWR_LIMIT_CFG.ilimit < s.brk.iin + 10 * sum + 50)

/-- PSH2 judges a step notice and answers (R65, R66). -/
def State.judgeNotice (s : State) (n : Notice) : State :=
  if s.noticeRefused n.amplitude then ((s.bump Reg.PWR_STEP_STATUS.refused).pshCount 6).toGld (.answer n.id false)
  else
    let s1 := s.bump Reg.PWR_STEP_STATUS.accepted
    (s1.withBrk { s1.brk with notices := s1.brk.notices ++ [n] }).toGld (.answer n.id true)

/-- GLD1 takes PSH2's answer to its notice (R65, 05 R125). -/
def State.takeAnswer (s : State) (id : Nat) (accepted : Bool) : State :=
  s.withSvc { s.svc with
      wakeRefused := s.svc.wakeRefused || (!accepted && s.svc.notices.any (fun g => decide (g.notice.id = id) && decide (g.use = StepUse.wake)))
      notices := s.svc.notices.map (fun g =>
        if g.notice.id = id then { g with stage := if accepted then .accepted else .refused } else g) }

/-! Rule tables (R69, R70, R76). -/

/-- Offsets of the rule words. -/
def ruleOffs : List Nat := (List.range 32).map (fun k => 0xA0100 + 4 * k)

/-- The limit_level of every rule in the live table and in both staging copies, those of 0 left out (R69). -/
def State.limitLevels (s : State) : List Nat :=
  ((List.range 8).flatMap (fun n =>
    let f := Reg.PWR_RULE_LEVEL.limit_level n
    [s.live? f, s.get f, fieldOf (Store.read resetWord s.brk.pmbStage f.off) f.lo f.width])).filter (fun l => decide (l ≠ 0))

/-- Largest SOA timer for a current in 0.1 A (Table 03-8). -/
def soaMax (i : Nat) : Nat := if i ≤ 20 then 50 else if i ≤ 40 then 20 else if i ≤ 60 then 10 else if i ≤ 80 then 5 else 2

/-- The staging copy of a path, read by offset. -/
def State.staging (s : State) (p : MgmtPath) (off : Nat) : Word :=
  match p with
  | .bar0 => s.word off
  | .pmbus => Store.read resetWord s.brk.pmbStage off

/-- Write a word of a path's staging copy. -/
def State.setStaging (s : State) (p : MgmtPath) (off : Nat) (w : Word) : State :=
  match p with
  | .bar0 => s.setWord off w
  | .pmbus => s.withBrk { s.brk with pmbStage := Store.write resetWord s.brk.pmbStage off w }

/-- A path's stale flag. -/
def State.stale (s : State) (p : MgmtPath) : Bool :=
  match p with
  | .bar0 => s.flag Reg.PWR_RULE_COMMIT.stale
  | .pmbus => s.brk.pmbStale

/-- Set a path's stale flag. -/
def State.setStale (s : State) (p : MgmtPath) (b : Bool) : State :=
  match p with
  | .bar0 => s.putFlag Reg.PWR_RULE_COMMIT.stale b
  | .pmbus => s.withBrk { s.brk with pmbStale := b }

/-- Set a path's commit result. -/
def State.setResult (s : State) (p : MgmtPath) (r : Nat) : State :=
  match p with
  | .bar0 => s.put Reg.PWR_RULE_COMMIT.result r
  | .pmbus => s.withBrk { s.brk with pmbResult := r }

/-- The other path. -/
def otherPath : MgmtPath → MgmtPath
  | .bar0 => .pmbus
  | .pmbus => .bar0

/-- The live table takes a whole table; every hold timer starts again and the retry count is 0 (R62, R70). -/
def State.setLive (s : State) (w : Nat → Word) : State :=
  (s.withBrk { s.brk with
      live := ruleOffs.foldl (fun c o => Store.write resetWord c o (w o)) s.brk.live
      timers := List.replicate 8 RuleTimer.fresh }).put Reg.PWR_STATE.retry_count 0

/-- RULE_COMMIT on a path (R70, R76); discarded while PSH2 runs slot-safe from ROM (14 R383). -/
def State.commitRules (s : State) (p : MgmtPath) : State :=
  if s.sec.romSafe then s
  else if s.stale p then s.setResult p 2
  else ((s.setLive (s.staging p)).setResult p 1).setStale (otherPath p) true

/-- RULE_RELOAD on a path (R70). -/
def State.reloadRules (s : State) (p : MgmtPath) : State :=
  (s.each ruleOffs (fun t o => t.setStaging p o (Store.read resetWord t.brk.live o))).setStale p false

/-- The rule word a profile loads (03 Tables 03-6, 03-7). -/
def profileRule (v off : Nat) : Word :=
  let w := resetWord off
  let k := (off - 0xA0100) % 16
  if k = 0 then
    if fieldOf w 12 4 = 0 || v = 0 then w else withField w 12 4 (if v = 1 then 1 else 0)
  else if v = 1 && off = 0xA0104 then withField w 0 16 1210
  else if v = 1 && off = 0xA0114 then withField w 0 16 960
  else w

/-- Load a breaker profile's settings and rules (R68, R70). -/
def State.loadBreaker (s : State) (v : Nat) : State :=
  let s1 := s.each [0xA0010, 0xA0014, 0xA0018, 0xA001C, 0xA0020, 0xA0024] (fun t o => t.setWord o (resetWord o))
  let s2 := if v = 1 then ((s1.put Reg.PWR_LIMIT_CFG.ilimit 115).put Reg.PWR_STEP_CFG.notice_max 50).put Reg.PWR_RETRY_CFG.hw_retries 1
    else if v = 2 then s1.put Reg.PWR_RETRY_CFG.hw_retries 0 else s1
  let s3 := s2.setLive (profileRule v)
  let s4 := s3.each ruleOffs (fun t o => (t.setStaging .bar0 o (profileRule v o)).setStaging .pmbus o (profileRule v o))
  (s4.setStale .bar0 false).setStale .pmbus false

/-- A write of PWR_PROFILE.profile (R68, R70, 04 R100); an unlisted value changes nothing (00 R6); discarded while PSH2 runs slot-safe from ROM (14 R383). -/
def State.pwrProfileWrite (s : State) (v : Nat) : State :=
  if decide (v < 3) && !s.sec.romSafe then ((s.put Reg.PWR_PROFILE.profile v).leaveExpert blk.pwr).loadBreaker v else s

/-- A write of PWR_SLOT_CTRL.profile loads its grace time and leaves the shared Expert (02 Expert control, 04 R100). -/
def State.slotProfileWrite (s : State) (v : Nat) : State :=
  if v < 2 then ((s.put Reg.PWR_SLOT_CTRL.profile v).leaveExpert blk.pwr).put Reg.PWR_SLOT_CTRL.extract_grace 0x14 else s

/-- GLD1's increments reach PSH2, which stamps and adds them (13 R346). -/
def State.sendIncrements (s : State) : State :=
  let x := s.card.gld.stamp (s.get Reg.RCD_OP_SECONDS.op_seconds) (s.get Reg.RCD_POWER_CYCLE.power_cycle)
  let s1 := s.onLive (fun c => c.merge x)
  (s1.withCard { s1.card with gld := Live.empty })

end Sys2Proof.Machine
end

