-- ==== Sys2Proof/Machine/PshBus.lean ====
section
/-!
DEFINITION. Machine/PshBus.lean: a write of one PWR or RCD register word inside PSH2, on either management path (spec/16_register_index.md R428, 00 R6, 03 R69, R70, 04 R84, R103).
-/
namespace Sys2Proof.Machine

open Sys2Proof

/-- A data value of a PMBus write was refused: STATUS_CML bit 6, on that path only (16 R425). -/
def State.offend (s : State) (p : MgmtPath) (bad : Bool) : State :=
  match p with
  | .pmbus => if bad then s.cml6 else s
  | .bar0 => s

/-- Fields of a word written under their access codes alone. -/
def State.plainWrite (s : State) (p : MgmtPath) (off : Nat) (x : Bool) (v : Word) : State :=
  let w := writtenWord (s.word off) off x v
  (s.setWord off w.1).offend p w.2

/-- A timer word judged with its current (R69): a pair beyond Table 03-8 keeps what each field written would have changed. -/
def soaJudge (old new : Word) (tLo iLo iW scale : Nat) : Word × Bool :=
  let t := fieldOf new tLo 6
  let i := fieldOf new iLo iW * scale
  if t ≤ soaMax i then (new, false)
  else (withField (withField new tLo 6 (fieldOf old tLo 6)) iLo iW (fieldOf old iLo iW), true)

/-- A soa_limit beyond Table 03-8 for a limit_level that some rule carries keeps its old value (R69). -/
def soaLevels (old new : Word) (levels : List Nat) : Word × Bool :=
  if fieldOf new 8 6 = fieldOf old 8 6 || levels.all (fun l => decide (fieldOf new 8 6 ≤ soaMax l)) then (new, false)
  else (withField new 8 6 (fieldOf old 8 6), true)

/-- A write of an inrush or limit word (R69); soa_limit is judged against limit_level in the live table and in both staging copies (DESIGN CHOICE, log 41). -/
def State.soaWrite (s : State) (p : MgmtPath) (off : Nat) (x : Bool) (v : Word) : State :=
  let old := s.word off
  let w0 := writtenWord old off x v
  let k := if off = 0xA0010 then (w0.1, false) else soaLevels old w0.1 s.limitLevels
  let w := (k.1, w0.2 || k.2)
  let j := if off = 0xA0010 then soaJudge old w.1 16 8 5 5 else soaJudge old w.1 8 0 7 1
  let s1 := s.setWord off j.1
  let s2 := if off = 0xA0014 then
      s1.put Reg.PWR_LIMIT_CFG.fast_trip_level (min (2 * s1.get Reg.PWR_LIMIT_CFG.ilimit) 200)
    else s1
  s2.offend p (w.2 || j.2)

/-- A write of a trip-rule word into the path's staging copy (R69, R70). -/
def State.ruleWrite (s : State) (p : MgmtPath) (off : Nat) (x : Bool) (v : Word) : State :=
  let old := s.staging p off
  let w := writtenWord old off x v
  let lvl := fieldOf w.1 16 7
  let tooLong := decide ((off - 0xA0100) % 16 = 4) && decide (lvl ≠ 0) && decide (soaMax lvl < s.get Reg.PWR_LIMIT_CFG.soa_limit)
  (s.setStaging p off (if tooLong then withField w.1 16 7 (fieldOf old 16 7) else w.1)).offend p (w.2 || tooLong)

/-- PWR_RULE_COMMIT: commit, then reload (R70). -/
def State.commitWrite (s : State) (p : MgmtPath) (v : Word) : State :=
  (s.when_ (v.toNat.testBit 0) (·.commitRules p)).when_ (v.toNat.testBit 1) (·.reloadRules p)

/-- PWR_SLOT_CTRL (02 Table 02-9): the profile, else the grace time in Expert; locate; power_off. -/
def State.slotCtrlWrite (s : State) (p : MgmtPath) (x : Bool) (v : Word) : State :=
  let pv := fieldOf v 0 2
  let s1 := if decide (pv < 2) && (!x || decide (pv ≠ s.get Reg.PWR_SLOT_CTRL.profile)) then
      (s.slotProfileWrite pv).put Reg.PWR_SLOT_CTRL.locate (fieldOf v 3 1)
    else s.plainWrite p 0xA0F04 x v
  s1.when_ (v.toNat.testBit 2) (·.orderlyOff)

/-- PWR_ADC_CTRL (04 Table 04-7), bits in the order that R90 and R94 give. -/
def State.adcCtrlWrite (s : State) (x : Bool) (v : Word) : State :=
  let b := v.toNat
  let s1 := s.when_ x (fun t => if b.testBit 1 then t.refEnable else t.refClear)
  let s2 := s1.when_ x (fun t => (t.put Reg.PWR_ADC_CTRL.lp_gate_off (fieldOf v 2 1)).lpChange)
  let s3 := (s2.when_ (b.testBit 3) (·.accSnap)).when_ (b.testBit 4) (·.accClear)
  (s3.when_ (b.testBit 5) (·.minmaxClear)).when_ (b.testBit 0) (·.calStart)

/-- A write of seq_len or of an entry: collected until the next pass start (R103), the post-notch judged with its OSR (R84). -/
def State.collectWrite (s : State) (p : MgmtPath) (off : Nat) (x : Bool) (v : Word) : State :=
  let old := s.word off
  let w := writtenWord old off x v
  let bad := decide (0xA0500 ≤ off) && decide (fieldOf w.1 9 2 ≠ 0) && decide (fieldOf w.1 4 3 < 3)
  let w1 := if bad then
      (if fieldOf old 9 2 = 0 then withField w.1 9 2 0 else withField w.1 4 3 (fieldOf old 4 3))
    else w.1
  let s1 := (s.setWord off w1).offend p (w.2 || bad)
  if x then s1.withMeter { s1.meter with collected := true } else s1

/-- A write of a calibration value: in Expert it also clears that converter's cal_valid (04 R94, Table 04-7). -/
def State.calWrite (s : State) (p : MgmtPath) (off : Nat) (x : Bool) (v : Word) : State :=
  let s1 := s.plainWrite p off x v
  s1.when_ x (·.put (if (off - 0xA0430) / 8 = 0 then Reg.PWR_ADC_STATUS.cal_valid_a else Reg.PWR_ADC_STATUS.cal_valid_b) 0)

/-- A write of a PWR word. -/
def State.pwrWrite (s : State) (p : MgmtPath) (off : Nat) (v : Word) : State :=
  let x := s.expert blk.pwr
  if off = 0xA0004 then (s.pwrProfileWrite (fieldOf v 0 2)).offend p (fieldOf v 0 2 == 3)
  else if off = 0xA0008 then (if s.sec.romSafe then s else s.unlockKey blk.pwr p (fieldOf v 0 16))
  else if off = 0xA000C then s.when_ (v.toNat.testBit 0) (·.clearLatch)
  else if off = 0xA0010 ∨ off = 0xA0014 then s.soaWrite p off x v
  else if 0xA0100 ≤ off ∧ off < 0xA0180 then s.ruleWrite p off x v
  else if off = 0xA0180 then s.commitWrite p v
  else if off = 0xA0400 then (s.adcProfileWrite (fieldOf v 0 2)).offend p (fieldOf v 0 2 == 3)
  else if off = 0xA0404 then s.adcCtrlWrite x v
  else if isCollected off then s.collectWrite p off x v
  else if 0xA0430 ≤ off ∧ off < 0xA0440 then s.calWrite p off x v
  else if off = 0xA0440 then s.urgentWrite 0 (v.toNat)
  else if off = 0xA0448 then s.urgentWrite 1 (v.toNat)
  else if off = 0xA0F00 then (s.plainWrite p off x v).alertRefresh
  else if off = 0xA0F04 then s.slotCtrlWrite p x v
  else s.plainWrite p off x v

/-- A write of an RCD word. -/
def State.rcdWrite (s : State) (p : MgmtPath) (off : Nat) (v : Word) : State :=
  let x := s.expert blk.rcd
  if off = 0xB0000 then (s.rcdProfileWrite (fieldOf v 0 2)).offend p (fieldOf v 0 2 == 3)
  else if off = 0xB0004 then (if s.sec.romSafe then s else s.unlockKey blk.rcd p (fieldOf v 0 16))
  else if off = 0xB000C then s.rcdCtrl p (fieldOf v 0 5)
  else if off = 0xB0018 then s.rcdSelect v.toNat
  else s.plainWrite p off x v

/-- One register write that reaches PSH2's core. -/
def State.pshWrite (s : State) (p : MgmtPath) (off : Nat) (v : Word) : State :=
  if off < 0xB0000 then s.pwrWrite p off v else s.rcdWrite p off v

/-- A read of a PWR or RCD word inside PSH2 on the PMBus path: RC fields clear, the staging copy and result are the path's own (03 R70, 00 R1). -/
def State.pmbWordRead (s : State) (off : Nat) : Word × State :=
  if 0xA0100 ≤ off ∧ off < 0xA0180 then (s.staging .pmbus off, s)
  else if off = 0xA0180 then
    (withField (BitVec.ofNat 32 (if s.brk.pmbStale then 4 else 0)) 3 2 s.brk.pmbResult, s)
  else (readableWord (s.word off) off, s.setWord off (rcCleared (s.word off) off))

end Sys2Proof.Machine
end

