-- ==== Sys2Proof/Machine/Breaker.lean ====
section
/-!
DEFINITION. Machine/Breaker.lean: the commands of the power path and the circuit breaker (spec/03_power_path_breaker.md).
-/
namespace Sys2Proof.Machine

open Sys2Proof

/-- POWER_GOOD: the ramp ends, the breaker is On, and the regulators are enabled in order (R54, 13 Table 13-6). -/
def execPowerGood (s : State) : Out :=
  .next (if s.bk == bkSoftStart then
    let s1 := (s.setBk bkOn).trigger 2 false
    (s1.withSvc { s1.svc with powerGoodAt := s1.now })
  else s)

/-- DISCHARGE_COMPLETE: VOUT is below 0.5 V (R53). -/
def execDischargeComplete (s : State) : Out :=
  .next (if s.brk.discharge then (s.withBrk { s.brk with voutLow := true }).tryStart else s)

/-- SOA_INRUSH: the inrush SOA timer reaches soa_inrush (R55, R62). -/
def execSoaInrush (s : State) : Out :=
  .next (if s.bk == bkSoftStart then s.trip [⟨2, 2, s.get Reg.PWR_RETRY_CFG.hw_retries⟩] else s)

/-- SOA_LIMIT: the limit SOA timer reaches soa_limit while the gate is on (R56, R62). -/
def execSoaLimit (s : State) : Out := .next (s.trip [⟨3, 4, s.get Reg.PWR_RETRY_CFG.hw_retries⟩])

/-- FAST_TRIP: the comparator acts; the fast trip rules due in the same evaluation are part of the decision, and every rule that fires in it is recorded and acts (R57, R74). -/
def execFastTrip (rules : List Nat) (s : State) : Out :=
  let due := if s.pshUp then s.dueRules rules else []
  let s1 := s.each due (fun t n => t.markFired n)
  let s2 := s1.each due (fun t n => t.put Reg.PWR_TRIP_STATUS.rule_trip (t.get Reg.PWR_TRIP_STATUS.rule_trip ||| 2 ^ n))
  let s3 := s2.trip (⟨1, 1, s.get Reg.PWR_RETRY_CFG.hw_retries⟩ :: (due.filter s2.fastTripRule).map s2.ruleCause)
  .next (if s.flag Reg.PWR_STATE.gate_on then s3.each (due.filter (fun n => !s2.fastTripRule n)) (fun t n => t.ruleAction n) else s)

/-- REVERSE_CURRENT: the gate turns off and the power-fail sequence runs (R58, R71). -/
def execReverseCurrent (s : State) : Out := .next (if s.flag Reg.PWR_STATE.gate_on then s.powerFail 4 else s)

/-- RULE_EVALUATION: one tick of the fast, power or temperature rules (R59, R61). -/
def execRuleEvaluation (t : EvalTick) (s : State) : Out :=
  .next (s.viaSupply (fun s =>
    match t with
    | .fast iin vin => s.fastTick iin vin
    | .power since period => s.powerTick since period
    | .temperature => s.tempTick))

/-- RULE_FIRES: the rules due act (R60, Table 03-10). -/
def execRuleFires (rules : List Nat) (s : State) : Out := .next (s.viaSupply (·.fireRules rules))

/-- CONFIRM_WINDOW_END: a slow trip or a near-miss (R60, R61). -/
def execConfirmWindowEnd (rules : List Nat) (s : State) : Out := .next (s.viaSupply (·.confirmEnd rules))

/-- LIMIT_ACTION_RELEASE: the condition has stayed clear for 10 ms (Table 03-10). -/
def execLimitActionRelease (n : Nat) (s : State) : Out :=
  .next (if (s.timer n).holding then s else (s.withBrk { s.brk with limitBy := s.brk.limitBy.filter (fun m => decide (m ≠ n)) }))

/-- BACKOFF_END: the backoff of a retry ends (R62). -/
def execBackoffEnd (s : State) : Out := .next (if s.bk == bkBackoff then s.qualify else s)

/-- RETRY_CLEAR: the breaker has stayed On for retry_clear (R62). -/
def execRetryClear (s : State) : Out := .next (if s.bk == bkOn then s.put Reg.PWR_STATE.retry_count 0 else s)

/-- CLEAR_LATCH: a BAR0 write of PWR_BREAKER_CTRL.clear_latch (R62, R78). -/
def execClearLatch (s : State) : Out := .next (s.viaPsh (·.clearLatch))

/-- CLEAR_FAULTS clears the PMBus status bits, and a latch as clear_latch does (Table 03-12, 16 R425, R429). -/
def execClearFaults (fin : PmbEnd) (s : State) : Out :=
  .next (s.pmbWrite fin (fun t =>
    let t1 := t.withPmb { t.pmb with
      cml7 := false, cml6 := false, cml5 := false
      stVinUv := false, stIoutOc := false, stMfr := false, stPlaus := false
      siVinOv := false, siVinUv := false, siIinOc := false, siIinWarn := false }
    t1.alertRefresh.clearLatch))

/-- SHED_REQUEST: GP_SHED reaches GLD1, which halves the tile clock enables (R64). -/
def execShedRequest (s : State) : Out :=
  .next (if s.flag Reg.PWR_STATE.shed_active && !s.svc.rstLow && s.service != svcRecess then
    (s.withSvc { s.svc with shedHalf := true }).calStop
  else s)

/-- SHED_RELEASE: every condition that asked has stayed clear for shed_hold; GLD1 restores load through a new notice (R64, R65, R75). -/
def execShedRelease (s : State) : Out :=
  .next (if s.flag Reg.PWR_STATE.shed_active && s.brk.shedBy.all (fun n => !(s.timer n).holding && !(s.timer n).confirming) then
    let s1 := (s.withBrk { s.brk with shedBy := [] }).put Reg.PWR_STATE.shed_active 0
    if s1.svc.shedHalf && !s1.svc.rstLow then s1.sendNotice .restoreShed else s1
  else s)

/-- STEP_NOTICE: PSH2 takes a notice and judges it (R65, R66); while it counts the link as lost its allowances stay as last agreed (01 R13). -/
def execStepNotice (id amplitude start duration : Nat) (s : State) : Out :=
  .next (s.viaImage (fun s => if s.gpPsh.lost then s else
    (((s.withGpGld { s.gpGld with queue := s.gpGld.queue.erase (.notice id amplitude start duration) })).judgeNotice
      ⟨id, amplitude, start, duration⟩)))

/-- STEP_NOTICE_ANSWER: GLD1 takes the answer (R65). -/
def execStepNoticeAnswer (id : Nat) (accepted : Bool) (s : State) : Out :=
  .next (if s.svc.rstLow then s else
    (s.withGpPsh { s.gpPsh with queue := s.gpPsh.queue.erase (.answer id accepted) }).takeAnswer id accepted)

/-- STEP_START: an accepted notice reaches its start time; while the link is lost GLD1 starts no step (R65, R76, 12 R315). -/
def execStepStart (id : Nat) (s : State) : Out :=
  .next (match s.svc.notices.find? (fun g => decide (g.notice.id = id) && decide (g.stage = .accepted)) with
    | none => s
    | some g =>
      if s.gpGld.lost || s.svc.rstLow || (decide (g.use = .throttleRelease) && s.flag Reg.PWR_STATE.shed_active) then s
      else
        let s1 := s.withSvc { s.svc with notices := s.svc.notices.filter (fun h => decide (h.notice.id ≠ id)) }
        match g.use with
        | .restoreShed => s1.withSvc { s1.svc with shedHalf := s1.flag Reg.PWR_STATE.shed_active }
        | .throttleRelease => s1.releaseDepth
        | .gangPower n | .denseBurst n => s1.startRun n
        | .wake => s1)

/-- STEP_NOTICE_RETRY: GLD1 sends a refused notice again (R66). -/
def execStepNoticeRetry (id : Nat) (s : State) : Out :=
  .next (match s.svc.notices.find? (fun g => decide (g.notice.id = id) && decide (g.stage = .refused)) with
    | none => s
    | some g =>
      let s1 := s.withSvc { s.svc with notices := s.svc.notices.map (fun (h : GldNotice) =>
        if h.notice.id = id then { h with stage := NoticeStage.sent } else h) }
      s1.toPsh (.notice id g.notice.amplitude g.notice.start g.notice.duration))

/-- NOTICE_CLOSE: a notice stops widening the allowance (R67). -/
def execNoticeClose (id : Nat) (s : State) : Out :=
  .next (s.withBrk { s.brk with notices := s.brk.notices.filter (fun n => decide (n.id ≠ id)) })

/-- PWR_PROFILE: a BAR0 write of PWR_PROFILE.profile (R68, R70). -/
def execPwrProfile (value : Nat) (s : State) : Out := .next (s.viaPsh (·.pwrProfileWrite (value % 4)))

/-- RULE_COMMIT: the path's staging copy is applied or refused, then reloaded if the same write asks for it (R70, R76). -/
def execRuleCommit (path : MgmtPath) (alsoReload : Bool) (s : State) : Out :=
  let act := fun t : State => (t.commitRules path).when_ alsoReload (·.reloadRules path)
  .next (match path with
    | .bar0 => s.viaPsh act
    | .pmbus => s.viaImage act)

/-- RULE_RELOAD: the live table is copied into the path's staging copy (R70). -/
def execRuleReload (path : MgmtPath) (s : State) : Out :=
  .next (match path with
    | .bar0 => s.viaPsh (·.reloadRules path)
    | .pmbus => s.viaImage (·.reloadRules path))

/-- POWER_FAIL: VIN has stayed below pf_level for pf_filter (R71, R74). -/
def execPowerFail (s : State) : Out := .next (s.viaSupply (·.powerFail 5))

/-- MIN_OFF_END: the minimum off time ends (R73, R78). -/
def execMinOffEnd (s : State) : Out :=
  .next (if s.brk.minOff then
    let s1 := s.withBrk { s.brk with minOff := false }
    if s1.bk == bkOffSettled && !s1.brk.holdOff then s1.qualify else s1.tryStart
  else s)

/-- An OPERATION value is accepted (Table 03-12). -/
def State.setOperation (s : State) (v : Nat) : State := s.withPmb { s.pmb with operation := v }

/-- OPERATION_ON: a read returns the value last accepted; 0x80 from Off-Settled after an off lets R28 apply again (R29, Table 03-12). -/
def execOperationOn (fin : Option PmbEnd) (s : State) : Out :=
  .next (match fin with
    | none => s.pmbRead (fun t => t.answer (leBytes 1 t.pmb.operation))
    | some e => s.pmbWrite e (fun t0 =>
      let t := t0.setOperation 0x80
      if t.bk == bkOffSettled && t.brk.holdOff then (t.withBrk { t.brk with holdOff := false }).qualify else t))

/-- OPERATION_SOFT_OFF: PMBus OPERATION 0x40 (R430). -/
def execOperationSoftOff (fin : PmbEnd) (s : State) : Out := .next (s.pmbWrite fin (fun t => (t.setOperation 0x40).orderlyOff))

/-- OPERATION_IMMEDIATE_OFF: PMBus OPERATION 0x00 (R78). -/
def execOperationImmediateOff (fin : PmbEnd) (s : State) : Out := .next (s.pmbWrite fin (fun t => (t.setOperation 0).immediateOff))

/-- STATUS_WORD: MFR bit 12, OFF bit 6, IOUT_OC bit 4, VIN_UV bit 3, CML bit 1 (Table 03-12; 14 R394 in ROM recovery). -/
def State.statusWord (s : State) : Nat :=
  let b := fun (c : Bool) (k : Nat) => if c then 2 ^ k else 0
  b (s.pmb.stMfr || s.pmb.stPlaus || s.svc.romRecovery) 12 + b (!s.flag Reg.PWR_STATE.gate_on) 6 + b s.pmb.stIoutOc 4 +
    b s.pmb.stVinUv 3 + b (s.pmb.cml7 || s.pmb.cml6 || s.pmb.cml5) 1

/-- STATUS_WORD: the read (Table 03-12). -/
def execStatusWord (s : State) : Out := .next (if s.romUp then s.answer (leBytes 2 s.statusWord) else s)

/-- STATUS_INPUT: bit 7 VIN_OV, bit 4 VIN_UV, bit 2 IIN_OC fault, bit 1 IIN_OC warning (Table 03-12). -/
def execStatusInput (s : State) : Out :=
  let b := fun (c : Bool) (k : Nat) => if c then 2 ^ k else 0
  .next (s.pmbRead (fun t => t.answer (leBytes 1
    (b t.pmb.siVinOv 7 + b t.pmb.siVinUv 4 + b t.pmb.siIinOc 2 + b t.pmb.siIinWarn 1))))

/-- STATUS_CML: bits 7, 6 and 5 (16 R425). -/
def execStatusCml (s : State) : Out :=
  let b := fun (c : Bool) (k : Nat) => if c then 2 ^ k else 0
  .next (s.pmbRead (fun t => t.answer (leBytes 1 (b t.pmb.cml7 7 + b t.pmb.cml6 6 + b t.pmb.cml5 5))))

/-- MFR_POWER_STATE: PWR_STATE[15:0] (Table 03-12). -/
def execMfrPowerState (s : State) : Out := .next (s.pmbRead (fun t => t.answer (leBytes 2 (t.word 0xA0000).toNat)))

/-- MFR_BREAKER_PROFILE: PWR_PROFILE[7:0]; an unlisted value sets bit 6 (R70, 16 R425). -/
def execMfrBreakerProfile (x : PmbAcc) (s : State) : Out :=
  .next (s.pmbAcc x (fun t => t.answer (leBytes 1 (t.get Reg.PWR_PROFILE.profile)))
    (fun v t => (t.pwrProfileWrite (v % 4)).offend .pmbus (v % 4 == 3)))

/-- MFR_EXPERT_UNLOCK: one value of the unlock pair on the PMBus path (06 R155, 14 R383). -/
def execMfrExpertUnlock (fin : PmbEnd) (key : Nat) (s : State) : Out :=
  .next (s.pmbWrite fin (fun t => if t.sec.romSafe then t else t.unlockKey blk.pwr .pmbus (key % 0x10000)))

/-- MFR_REG_ADDR: a multiple of 4 in 0x0000 to 0x01FC (Table 03-12). -/
def execMfrRegAddr (x : PmbAcc) (s : State) : Out :=
  .next (s.pmbAcc x (fun t => t.answer (leBytes 2 t.pmb.regAddr))
    (fun v t => if v ≤ 0x1FC ∧ v % 4 = 0 then t.withPmb { t.pmb with regAddr := v } else t.nack))

/-- MFR_REG_DATA: the selected PWR register on the PMBus path (Table 03-12, 16 R428). -/
def execMfrRegData (x : PmbAcc) (s : State) : Out :=
  .next (s.pmbAcc x
    (fun t =>
      let r := t.pmbWordRead (0xA0000 + t.pmb.regAddr)
      r.2.answer (leBytes 4 r.1.toNat))
    (fun v t => t.pwrWrite .pmbus (0xA0000 + t.pmb.regAddr) (BitVec.ofNat 32 v)))

/-- PSH2_REGISTER_WRITE: a BAR0 write carried to PSH2 (R80, 16 R428). -/
def execPsh2RegisterWrite (off value : Nat) (s : State) : Out :=
  .next (if isPsh2Word off && decide (off % 4 = 0) then s.viaPsh (·.pshWrite .bar0 off (BitVec.ofNat 32 value)) else s)

end Sys2Proof.Machine
end

