-- ==== Sys2Proof/Machine/AkgOps.lean ====
section
/-!
DEFINITION. Machine/AkgOps.lean: shared operations on the Akgal ports: frames, replay, routes, link-down, and what a Prefect sends its Deputy (spec/11_akgal_pairs.md R277 to R286, R291).
-/
namespace Sys2Proof.Machine

open Sys2Proof

/-- Port states of Table 11-1. -/
def akDisabled : Nat := 0
def akDetect : Nat := 1
def akEqualise : Nat := 2
def akAlign : Nat := 3
def akExchange : Nat := 4
def akUp : Nat := 5
def akRetrain : Nat := 6
def akNoPeer : Nat := 7

/-- A port's state. -/
def State.akState (s : State) (p : Nat) : Nat := s.get (Reg.AKG_PORT_STATUS.state p)

/-- A port. -/
def State.port (s : State) (p : Nat) : AkPort := s.akg.ports.getD p AkPort.reset

/-- Change the Akgal state. -/
def State.setAkg (s : State) (g : Akgal → Akgal) : State := s.withAkg (g s.akg)

/-- Change a port. -/
def State.mapPort (s : State) (p : Nat) (g : AkPort → AkPort) : State := s.setAkg (fun a => { a with ports := a.ports.modify p g })

/-- A number for each kind of content, for the open payload sizes. -/
def akCode : AkMsg → Nat
  | .shareDropped _ _ => 27 | .shareWave _ => 28 | .pairFailed _ => 29
  | .partialSum _ _ _ => 0 | .shareLoaded _ _ => 1 | .shareFetched _ _ => 2 | .shareOffer _ _ _ => 3 | .shareDecide _ _ _ _ => 4
  | .register _ _ _ => 5 | .rules _ => 6 | .model _ _ => 7 | .table _ => 8 | .refresh _ _ => 9 | .snapshot _ => 10 | .rings _ _ _ _ _ _ => 11
  | .copyDone => 12 | .doorbell _ _ _ => 13 | .want _ => 14 | .chain _ => 15 | .nonce _ => 16 | .signature _ => 17 | .snapshotAck _ _ => 18
  | .copyAck => 19 | .unpair => 20 | .swap => 21 | .swapState _ => 22 | .swapAck => 23 | .claim _ => 24
  | .config _ _ => 25 | .memory _ => 26

/-- Payload bytes of a frame: 16 for an exact partial, otherwise open (Table 11-3). -/
def akPayload (f : AkFrame) (fresh : Nat) : Nat :=
  match f.msg with
  | .partialSum _ _ _ => 16
  | m => Config.framePayload (akCode m) fresh % 65 * 16

/-- Bytes in a replay buffer. -/
def AkPort.fill (p : AkPort) : Nat := (p.unacked.map (fun u => 16 + u.2.1)).sum

/-- AKG_PORT_RETRAIN.replay_fill, in units of 64 bytes. -/
def State.showFill (s : State) (p : Nat) : State :=
  s.put (Reg.AKG_PORT_RETRAIN.replay_fill p) (min (((s.port p).fill + 63) / 64) 1024)

/-- Last number received in order. -/
def AkPort.lastIn (p : AkPort) : Nat := (p.expect + 4095) % 4096

/-- May one more frame of `n` payload bytes go out (R281)? -/
def AkPort.mayNumber (p : AkPort) (n : Nat) : Bool := decide (p.unacked.length < 2047) && decide (p.fill + 16 + n ≤ 65536)

/-- Number a frame and put it on the link. -/
def AkPort.put (p : AkPort) (f : AkFrame) (n : Nat) : AkPort :=
  { p with
    next := (p.next + 1) % 4096
    unacked := p.unacked ++ [(p.next, n, f)]
    out := p.out ++ [.data p.next p.lastIn f] }

/-- Put out the frames that wait, as far as window and buffer allow. -/
def State.drainPort (s : State) (p : Nat) : State :=
  if s.akState p ≠ akUp then s
  else (((s.port p).waiting).foldl (fun (t : State) f =>
    let n := akPayload f t.fresh
    let q := t.port p
    if q.waiting.head? = some f && q.mayNumber n then
      (t.mapPort p (fun x => { (x.put f n) with waiting := x.waiting.drop 1 })).withFresh (t.fresh + 1)
    else t) s).showFill p

/-- Send a DATA frame on a port: it goes out, or waits (R281, R286). -/
def State.sendOn (s : State) (p : Nat) (f : AkFrame) : State :=
  (s.mapPort p (fun q => { q with waiting := q.waiting ++ [f] })).drainPort p

/-- Frames acknowledged up to `n` leave the replay buffer (R281). -/
def AkPort.acked (p : AkPort) (n : Nat) : AkPort :=
  match p.unacked.findIdx? (fun u => decide (u.1 = n)) with
  | none => p
  | some i => { p with unacked := p.unacked.drop (i + 1), timeouts := 0 }

/-- Every unacknowledged frame is sent again in order. -/
def AkPort.replay (p : AkPort) : AkPort := { p with out := p.out ++ p.unacked.map (fun u => AkOut.data u.1 p.lastIn u.2.2) }

/-- A replay starts, and is counted. -/
def State.replayPort (s : State) (p : Nat) : State := (s.mapPort p AkPort.replay).bump (Reg.AKG_PORT_REPLAY.replays p)

/-- Bytes 0 to 11 of a frame's header (Table 11-3): type, class, length, seq, ack, src, dst and context. The CRC over them and the payload is the operand of an arriving frame. -/
def frameHeader (type cls len seq ack src dst context : Nat) : List Byte :=
  leBytes 1 type ++ leBytes 1 (cls % 8) ++ leBytes 2 (len % 2048) ++ leBytes 2 (seq % 4096) ++ leBytes 2 (ack % 4096) ++
  leBytes 1 (src % 16) ++ leBytes 1 (dst % 16) ++ leBytes 2 context

/-- The header of what a port puts on its link, whose last number received in order is `last` (Tables 11-3, 11-4). -/
def AkOut.header (o : AkOut) (len last : Nat) : List Byte :=
  match o with
  | .data seq n f => frameHeader 1 f.cls len seq n f.src f.dst f.context
  | .ack n => frameHeader 2 0 0 0 n 0 0 0
  | .nak n => frameHeader 3 0 0 0 n 0 0 0
  | .ident r _ => frameHeader 4 0 16 0 last r.index r.index 0

/-! Routes (R284, R286). -/

/-- Is port 0 the pair's (Table 11-9)? -/
def State.pairProfile (s : State) : Bool := decide (s.get Reg.AKG_PROFILE.profile = 1) || decide (s.get Reg.AKG_PROFILE.profile = 2)

/-- Modules of the system: a pair member is always a system of size 1 (R284). -/
def State.systemSize (s : State) : Nat := if s.pairProfile then 1 else s.get Reg.AKG_SYS_CFG.size_m1 + 1

/-- Hops between positions of a ring of n. -/
def ringHops (n a b : Nat) : Nat := min ((b + n - a) % n) ((a + n - b) % n)

/-- Hops on the module's topology. -/
def hops (topology n a b : Nat) : Nat :=
  if topology = 1 then min (ringHops n a b) (1 + ringHops n ((a + n / 2) % n) b) else ringHops n a b

/-- The port a frame for `dst` leaves through: the shortest path, ties to the lower port; with topology 0b10 forward frames spread over ports 0 and 1 by parity (R284, R286). -/
def State.routePort (s : State) (dst seq : Nat) : Nat :=
  let n := s.systemSize
  let i := s.get Reg.AKG_SYS_CFG.index
  let t := s.get Reg.AKG_SYS_CFG.topology
  let d1 := hops t n ((i + 1) % n) dst
  let d2 := hops t n ((i + n - 1) % n) dst
  let d3 := hops t n ((i + n / 2) % n) dst
  if d1 ≤ d2 && (decide (t ≠ 1) || decide (d1 ≤ d3)) then (if decide (t = 2) && decide (seq % 2 = 1) && !s.pairProfile then 0 else 1)
  else if t ≠ 1 || d2 ≤ d3 then 2 else 3

/-- Send a frame toward another member of the system; the source counts its frames, whose parity spreads them in topology 0b10 (R284). -/
def State.sendSystem (s : State) (cls dst context : Nat) (m : AkMsg) : State :=
  let f : AkFrame := ⟨cls, s.get Reg.AKG_SYS_CFG.index, dst, context, m⟩
  (s.sendOn (s.routePort dst s.akg.spread) f).setAkg (fun a => { a with spread := a.spread + 1 })

/-! Pair (R289, R291, R294). -/

/-- Role codes of R294. -/
def State.role (s : State) : Nat := s.get Reg.AKG_PAIR_STATUS.role
def State.isPrefect (s : State) : Bool := decide (s.role = 1)
def State.isDeputy (s : State) : Bool := decide (2 ≤ s.role)

/-- A Prefect that gives up its role in a swap fetches no more (R295 step 1). -/
def State.swapDrains (s : State) : Bool := s.isPrefect && (s.akg.swap.isSome || s.akg.swapPeer)

/-- The context of a pair frame: the gang of a snapshot in class 2, else 0 (Table 11-3). -/
def pairContext : AkMsg → Nat
  | .snapshot r => (r.gangs.getD []).headD 0
  | _ => 0

/-- Send a pair frame over port 0: class 2 mirror, class 3 control. -/
def State.sendPair (s : State) (cls : Nat) (m : AkMsg) : State :=
  s.sendOn 0 ⟨cls, s.get Reg.AKG_SYS_CFG.index, s.get Reg.AKG_SYS_CFG.index, pairContext m, m⟩

/-- Does a Prefect mirror to a Deputy: a copy runs or nothing was lost since it ended (R291, R305)? -/
def State.mirrors (s : State) : Bool := s.isPrefect && s.akg.follows

/-- Mirror an item when a Deputy stands. -/
def State.mirrorMsg (s : State) (m : AkMsg) : State := s.when_ s.mirrors (·.sendPair 2 m)

/-- The fields a host writes of a word: those the tables give access RW. -/
def rwBits (off : Nat) : Word :=
  ((rowsOf off).filter (fun r => r.covers off)).foldl (fun w r => match r.acc with
    | .rw => withField w r.lo r.width (2 ^ r.width - 1)
    | _ => w) 0

/-- Is a register word one the Prefect mirrors: ring, partition, CAP stream, map and egress, SYL, SMP, HPS and FAB configuration, the pair rings, CAP port addresses and windows into tables apart (Table 11-6)? -/
def State.isMirrored (s : State) (off : Nat) : Bool :=
  let sq := s.get Reg.AKG_PAIR_CFG.pair_sq
  let cq := s.get Reg.AKG_PAIR_CFG.pair_cq
  let pairRing := (decide (0x11000 ≤ off) && decide (off < 0x11800) && decide ((off - 0x11000) / 0x20 = sq)) ||
    (decide (0x12000 ≤ off) && decide (off < 0x12800) && decide ((off - 0x12000) / 0x20 = cq))
  let portAddress := decide (0x50100 ≤ off) && decide (off < 0x50180)
  let tableWindow := (decide (0x40100 ≤ off) && decide (off < 0x40110)) || (decide (0x60014 ≤ off) && decide (off < 0x60020)) || decide (off = 0x30100)
  (decide (rwBits off ≠ 0) || decide (off = Reg.HIF_PART_COMMIT.commit.off)) && !pairRing && !portAddress && !tableWindow &&
  decide (0x10000 ≤ off) && decide (off < 0x70000) && !(decide (0x20100 ≤ off) && decide (off < 0x30000))

/-- A configuration register write goes to the Deputy, as a write made while the block was in Expert or not. -/
def State.mirrorWrite (s : State) (off v : Nat) (expert : Bool) : State :=
  s.when_ (s.isMirrored off) (·.mirrorMsg (.register off (BitVec.ofNat 32 v) expert))

/-- A host write of a configuration register: a Prefect mirrors it before it completes (Table 11-6). -/
def State.cfgWrite (s : State) (off v : Nat) (f : State → State) : State := (f s).mirrorWrite off v (s.expert (off / 0x10000))

/-- Such a write arriving over BAR0. -/
def State.hostCfg (s : State) (off v : Nat) (f : State → State) : State := s.viaHost (fun t => t.cfgWrite off v f)

/-- A descriptor completes, on a Prefect only once the Deputy holds what it changed (Table 11-6). -/
def State.finishMirrored (s : State) (id status r0 r1 : Nat) (m : AkMsg) : State :=
  if s.mirrors && decide (s.akState 0 = akUp) then
    let seq := ((s.port 0).next + (s.port 0).waiting.length) % 4096
    (s.setAkg (fun a => { a with waits := a.waits ++ [⟨seq, id, status, r0, r1⟩] })).sendPair 2 m
  else (s.mirrorMsg m).finish id status r0 r1

/-- Completions whose mirrored item is acknowledged, or that wait no longer because port 0 is down (R305). -/
def State.settleWaits (s : State) : State :=
  let held := fun (w : MirrorWait) => decide (s.akState 0 = akUp) &&
    ((s.port 0).unacked.any (fun u => decide (u.1 = w.seq)) || decide ((s.port 0).waiting ≠ []))
  let done := s.akg.waits.filter (fun w => !held w)
  (s.setAkg (fun a => { a with waits := a.waits.filter held })).each done (fun t w => t.finish w.flight w.status w.r0 w.r1)

/-- The CLAIM descriptor completes OK with the role that stands (R296, R302). -/
def State.claimDone (s : State) : State :=
  match s.akg.claimBy with
  | none => s
  | some id => (s.setAkg (fun a => { a with claimBy := none })).finish id 0 s.role 0

/-- Runs held for a snapshot that is not acknowledged go on: while port 0 is down a hold ends after the capture (R292). -/
def State.endHolds (s : State) : State :=
  s.withFab { s.fab with runs := s.fab.runs.map (fun r => if s.akg.swapReady.contains r.id then r else { r with held := false }) }

/-- The pair interrupt cause (R294). -/
def State.raisePair (s : State) : State := s.raise cause.pair noUnit (s.word Reg.AKG_PAIR_STATUS.role.off).toNat

/-- A role change. -/
def State.setRole (s : State) (r : Nat) : State :=
  if s.role = r then s
  else ((s.put Reg.AKG_PAIR_STATUS.role r).put Reg.AKG_PAIR_STATUS.role_changed 1).raisePair

/-! Doorbells (06 R133, R289, R295). -/

/-- Does a function's write reach a ring page: the ring exists and its owner is the function's partition (R133)? -/
def ownRing (owner : Option Nat) (fn : Nat) : Bool := decide (owner = some fn)

/-- A doorbell write reaches its ring, is forwarded by a Deputy or a Prefect that gives up its role, or is misdirected (R133, 11 R289, R295). -/
def State.doorbell (s : State) (cq : Bool) (fn n v : Nat) : State :=
  if !ownRing (if cq then s.cqOwner n else s.sqOwner n) fn then s.misdirected
  else
    let pair := if cq then s.get Reg.AKG_PAIR_CFG.pair_cq else s.get Reg.AKG_PAIR_CFG.pair_sq
    if (s.isDeputy || s.swapDrains) && decide (n ≠ pair) then s.sendPair 3 (.doorbell cq n v)
    else if cq then s.cqHead n v else s.sqTail n v

/-! Link down (R282, R305). -/

/-- Raise akgal for a port. -/
def State.raiseAkgal (s : State) (p : Nat) : State :=
  s.raise cause.akgal (92 + p) (s.word (Reg.AKG_PORT_STATUS.state p).off).toNat

/-- A link that was up goes down; training starts in `phase`; on port 0 what waits on the peer goes on (R282, R292, R305). -/
def State.linkDown (s : State) (p phase : Nat) : State :=
  let s1 := ((s.put (Reg.AKG_PORT_STATUS.state p) phase).bump (Reg.AKG_PORT_RETRAIN.retrains p)).raiseAkgal p
  let s2 := s1.mapPort p (fun q => { q with timeouts := 0, nakOut := false })
  if p = 0 && s.role ≠ 0 then
    let s3 := (s2.put Reg.AKG_PAIR_STATUS.in_step 0).put Reg.AKG_PAIR_STATUS.peer_lost 1
    (((s3.setAkg (fun a => { a with downAt := s.now })).endHolds).settleWaits).claimDone
  else s2

end Sys2Proof.Machine
end

