-- ==== Sys2Proof/Machine/PassOps.lean ====
section
/-!
DEFINITION. Machine/PassOps.lean: shared operations on the Hall Pass table: banks, shadow writes, the refresh queue and profiles (spec/10_hall_pass_deadlines.md R262 to R272).
-/
namespace Sys2Proof.Machine

open Sys2Proof

/-- What an unlisted table entry reads as (R262). -/
def passBlank (_ : Nat) : Nat := 0

/-- A bank's entries. -/
def State.bank (s : State) (b : Nat) : Store Nat := if b = 0 then s.pass.bank0 else s.pass.bank1

/-- Change the Hall Pass state. -/
def State.setPass (s : State) (g : HallPass → HallPass) : State := s.withPass (g s.pass)

/-- Replace a bank. -/
def State.setBank (s : State) (b : Nat) (x : Store Nat) : State :=
  s.setPass (fun p => if b = 0 then { p with bank0 := x } else { p with bank1 := x })

/-- The active bank and the shadow bank. -/
def State.activeBank (s : State) : Nat := s.get Reg.HPS_STATUS.active_bank
def State.shadowBank (s : State) : Nat := 1 - s.activeBank

/-- An entry of a bank. -/
def State.entry (s : State) (b i : Nat) : Nat := Store.read passBlank (s.bank b) (i % 65536)

/-- Entries of a 32 KiB image: the low nibble holds even entries (R262). -/
def imageBank (b : List Byte) : Store Nat :=
  (b.take 32768).zipIdx.flatMap (fun x =>
    let v := x.1.toNat
    (if v % 16 = 0 then [] else [(2 * x.2, v % 16)]) ++ (if v / 16 = 0 then [] else [(2 * x.2 + 1, v / 16)]))

/-- Every entry holds one code. -/
def fillBank (v : Nat) : Store Nat := if v = 0 then [] else (List.range 65536).map (fun i => (i, v))

/-- Do shadow writes go to the queue: a publish pending or loading, or the copy running or waiting (R264, R272)? -/
def State.passHolds (s : State) : Bool :=
  s.flag Reg.HPS_STATUS.publish_pending || s.flag Reg.HPS_STATUS.copying || s.pass.copyWaits

/-- HPS_STATUS.queue_depth. -/
def State.showQueue (s : State) : State := s.put Reg.HPS_STATUS.queue_depth s.pass.queue.length

/-- A shadow write takes effect. -/
def State.shadowPut (s : State) (w : PassWrite) : State :=
  (s.setBank s.shadowBank (Store.write passBlank (s.bank s.shadowBank) (w.index % 65536) (w.value % 16))).when_ w.refresh
    (·.bump Reg.HPS_REFRESH_COUNT.refresh_writes)

/-- A shadow write is applied, or queued while the queue holds; a refresh that meets a full queue is dropped and counted, a host write is refused (R264). -/
def State.shadowWrite (s : State) (w : PassWrite) : State :=
  if !s.passHolds then s.shadowPut w
  else if s.pass.queue.length < 1024 then (s.setPass (fun p => { p with queue := p.queue ++ [w] })).showQueue
  else if w.refresh then s.bump Reg.HPS_REFRESH_COUNT.refresh_dropped
  else s.put Reg.HPS_STATUS.write_refused 1

/-- The queued writes are applied in order, a fill in its place among them. -/
def State.shadowDrain (s : State) : State :=
  let q := s.pass.queue
  let s1 := s.setPass (fun p => { p with queue := [], fill := none })
  (match s.pass.fill with
    | some (k, v) => ((s1.each (q.take k) State.shadowPut).setBank s.shadowBank (fillBank v)).each (q.drop k) State.shadowPut
    | none => s1.each q State.shadowPut).showQueue

/-- A record's reduction refreshes the table (R263, R275): index the signature, value by class and anomaly score. -/
def State.refresh (s : State) (stream sig cls anomaly : Nat) : State :=
  let above := match f32val anomaly, f32val (s.get Reg.HPS_ANOMALY.threshold) with
    | some a, some t => !a.lt t
    | some _, none => decide (s.get Reg.HPS_ANOMALY.threshold = 0xFF800000)
    | none, _ => (decide (anomaly = f32inf)
      && (f32finite (s.get Reg.HPS_ANOMALY.threshold) || decide (s.get Reg.HPS_ANOMALY.threshold % 2 ^ 31 = f32inf)))
      || (decide (anomaly = 0xFF800000) && decide (s.get Reg.HPS_ANOMALY.threshold = 0xFF800000))
  let v := if above then s.get (Reg.HPS_CLASS_MAP.anomaly_code cls) else s.get (Reg.HPS_CLASS_MAP.normal_code cls)
  if (s.get Reg.HPS_CFG.refresh_en).testBit stream && decide (s.service ≠ svcHomeroom) && decide (s.service ≠ svcRecess) then
    (s.shadowWrite ⟨sig, v, true⟩).when_ s.mirrors (fun t => t.setAkg (fun a => { a with refreshes := a.refreshes ++ [(sig, v)] }))
  else s

/-- The new shadow becomes a copy of the active bank and the queued writes follow (R265 step 6). -/
def State.copyBank (s : State) : State :=
  ((s.setBank s.shadowBank (s.bank s.activeBank)).put Reg.HPS_STATUS.copying 0).shadowDrain

/-- normal_code, anomaly_code and refresh_en of a profile (Table 10-5). -/
def hpsTable (p : Nat) : Nat × Nat × Nat := if p = 0 then (0, 2, 0xFF) else if p = 1 then (1, 2, 0xFF) else (0, 0, 0)

/-- Load the class map of a profile. -/
def State.loadClassMap (s : State) (p : Nat) : State :=
  s.each (List.range 256) (fun t c =>
    (t.put (Reg.HPS_CLASS_MAP.normal_code c) (hpsTable p).1).put (Reg.HPS_CLASS_MAP.anomaly_code c) (hpsTable p).2.1)

/-- HPS_PROFILE leaves Expert and loads Table 10-5 (R270, R271). -/
def State.hpsProfileWrite (s : State) (p : Nat) : State :=
  if 3 ≤ p then s
  else
    let s1 := ((s.leaveExpert blk.hps).put Reg.HPS_PROFILE.profile p).put Reg.HPS_CFG.default_verdict 0
    ((s1.put Reg.HPS_CFG.refresh_en (hpsTable p).2.2).put Reg.HPS_ANOMALY.threshold 0x3F800000).loadClassMap p

/-- A write of HPS_SHADOW_DATA: refused while a publish is pending, else the entry at index is written and index advances (R264, Table 10-6). -/
def State.hpsDataWrite (s : State) (v : Nat) : State :=
  if s.flag Reg.HPS_STATUS.publish_pending then s.put Reg.HPS_STATUS.write_refused 1
  else
    let i := s.get Reg.HPS_SHADOW_ADDR.index
    (s.put Reg.HPS_SHADOW_ADDR.index (i + 1)).shadowWrite ⟨i, v % 16, false⟩

/-- HPS_SHADOW_CTRL.shadow_fill, a host write to every shadow entry: discarded while a publish is pending, with write_refused; during a copy it waits in its place among the queued writes (Table 10-6, R264). -/
def State.hpsFill (s : State) : State :=
  let v := s.get Reg.HPS_CFG.default_verdict
  if s.flag Reg.HPS_STATUS.publish_pending then s.put Reg.HPS_STATUS.write_refused 1
  else if s.passHolds then s.setPass (fun p => { p with fill := some (p.queue.length, v) })
  else s.setBank s.shadowBank (fillBank v)

/-- Band limits of Table 10-3, in 0.125 °C: the band for a temperature, from the present one (R261). -/
def bandStep (b : Nat) (t : Int) : Nat :=
  let up := [160, 440, 680]
  let b1 := (List.range 3).foldl (fun x i => if decide (x = i) && decide ((up.getD i 0 : Int) ≤ t) then x + 1 else x) b
  [2, 1, 0].foldl (fun x i => if decide (x = i + 1) && decide (t < (up.getD i 0 : Int) - 24) then x - 1 else x) b1

/-- Taps of a band. -/
def bandTaps (b : Nat) : Nat := [10, 7, 4, 1].getD b 1

/-- Is the Hall Pass port driven: GLD1 out of reset and unit 100 powered (02 Tables 02-4, 02-4a, 12 Table 12-4)? -/
def State.passDriven (s : State) : Bool :=
  !s.svc.rstLow && decide ((s.mgmtOf 100).mgmt ≠ mgmtAbsent) && decide ((s.mgmtOf 100).mgmt ≠ mgmtOff) &&
    decide ((s.mgmtOf 100).mgmt ≠ mgmtFault)

end Sys2Proof.Machine
end

