-- ==== Sys2Proof/Machine/SamplerOps.lean ====
section
/-!
DEFINITION. Machine/SamplerOps.lean: generators, activation tables, Timetables, sweeps, exchange, the tracker and result areas (spec/08_sampling_tempering.md).
-/
namespace Sys2Proof.Machine

open Sys2Proof

/-! Generators (R202). -/

/-- One call: the output and the next state. -/
def Xo.next (g : Xo) : BitVec 32 × Xo :=
  let out := (g.s0 + g.s3).rotateLeft 7 + g.s0
  let t := g.s1 <<< 9
  let s2 := g.s2 ^^^ g.s0
  let s3 := g.s3 ^^^ g.s1
  (out, ⟨g.s0 ^^^ s3, g.s1 ^^^ s2, s2 ^^^ t, s3.rotateLeft 11⟩)

/-- A seeded generator: 16 outputs discarded. -/
def Xo.seed (seed ident : Nat) : Xo :=
  (List.range 16).foldl (fun g _ => g.next.2)
    ⟨BitVec.ofNat 32 seed, BitVec.ofNat 32 (seed / 2 ^ 32), BitVec.ofNat 32 ident, 0x9E3779B9⟩

/-- The seeded generator of an identity, which a store of generators lists once it has been called. -/
def xoBlank (seed : Nat) (ident : Nat) : Xo := Xo.seed seed ident

/-- Identity of a column generator. -/
def columnIdent (replica column : Nat) : Nat := replica * 2 ^ 16 + column

/-- Identity of a ladder generator. -/
def ladderIdent (ladder : Nat) : Nat := 0xFFFF0000 + ladder

/-- Call the generator of an identity. -/
def drawGen (seed : Nat) (gens : Store Xo) (ident : Nat) : Nat × Store Xo :=
  let r := (Store.read (xoBlank seed) gens ident).next
  (r.1.toNat, Store.write (xoBlank seed) gens ident r.2)

/-! Tables (R201, R209). -/

/-- clamp(round(65,536 × v), 0, 65,536). -/
def tableRound (v : Dy) : Nat := (clampInt 0 65536 (v.mul ⟨1, 16⟩).toIntEven).toNat

/-- Round to binary64. -/
def r64 (v : Dy) : Dy := v.roundP 53

/-- 1 ÷ (1 + e^z) in binary64; beyond |z| = 64 it is 0 or 1 to that precision of an entry. -/
def heatBath (z : Dy) : Dy :=
  if (Dy.ofInt 64).lt z then Dy.zero
  else if z.lt (Dy.ofInt (-64)) then Dy.ofInt 1
  else (Dy.ofInt 1).divP 53 (r64 ((Dy.ofInt 1).add (exp64 z)))

/-- min(1, e^z) in binary64. -/
def metropolisUp (z : Dy) : Dy :=
  if 0 ≤ z.m then Dy.ofInt 1
  else if z.lt (Dy.ofInt (-64)) then Dy.zero
  else exp64 z

/-- The argument of entry i: β × (i − 127.5) × 2^(shift + w), in binary64. -/
def tableArg (beta : Dy) (i : Nat) (shift : Nat) (w : Int) : Dy := r64 (beta.mul ⟨2 * (i : Int) - 255, (shift : Int) + w - 1⟩)

/-- An activation table's entry (R201). -/
def actEntry (metropolis : Bool) (beta : Dy) (q : Nat) (w : Int) (i : Nat) : Nat :=
  tableRound (if metropolis then metropolisUp (tableArg beta i q w).neg else heatBath (tableArg beta i q w))

/-- An exchange table's entry, for the difference of the pair's β (R209). -/
def exchEntry (dBeta : Dy) (qx : Nat) (w : Int) (i : Nat) : Nat := tableRound (metropolisUp (tableArg dBeta i qx w))

/-- The table index of a value in units of 2^w (R200). -/
def tableIndex (v : Dy) (shift : Nat) : Nat := (clampInt (-128) 127 (v.floorAt shift) + 128).toNat

/-! Timetables (R207, R220). -/

/-- The rung with a number. -/
def TimeTable.rung (t : TimeTable) (r : Nat) : Rung := t.rungs.getD r ⟨Dy.zero, 0, 0⟩

/-- The default rule of a shift: the smallest with 127 × 2^(q + w) × β ≥ 12, else 63 (R220). -/
def defaultShift (beta : Dy) (w : Int) : Nat :=
  ((List.range 64).find? (fun (q : Nat) => !((beta.mul ⟨127, (q : Int) + w⟩).lt (Dy.ofInt 12)))).getD 63

/-- Shifts by the default rule for a list of β. -/
def withShifts (betas : List Dy) (w : Int) : List Rung :=
  betas.zipIdx.map (fun p => ⟨p.1, defaultShift p.1 w,
    if p.2 + 1 < betas.length then defaultShift (p.1.sub (betas.getD (p.2 + 1) Dy.zero)) w else 0⟩)

/-- Geometric β from cold to hot: β_cold × (β_hot ÷ β_cold)^(r ÷ (rungs − 1)), computed in binary64 and stored as the Timetable's float32 (R220, Table 08-6). -/
def geometric (cold hot : Dy) (n : Nat) : List Dy :=
  let ratio := if n < 2 then Dy.ofInt 1 else (hot.divP 53 cold).rootP 53 (n - 1)
  (List.range n).map (fun r =>
    if r = 0 then cold else if r + 1 = n then hot
    else f32get (f32bits (r64 (cold.mul ((List.range r).foldl (fun (p : Dy) _ => p.mul ratio) (Dy.ofInt 1))))))

/-- The default Timetable of SMP_PROFILE and SMP_DEFAULTS for a model's β and window (R220, R221). -/
def SmpDefaults.table (d : SmpDefaults) (cold hot : Nat) (w : Int) : TimeTable where
  metropolis := d.metropolis
  interval := d.interval
  epochSweeps := d.epochSweeps
  epochTime := d.epochTime
  rungs := withShifts (geometric (f32get cold) (f32get hot) d.rungs) w

/-- SMP_DEFAULTS as it stands. -/
def State.smpDefaults (s : State) : SmpDefaults where
  metropolis := s.flag Reg.SMP_DEFAULTS.rule
  interval := s.get Reg.SMP_DEFAULTS.exch_interval
  epochSweeps := s.get Reg.SMP_DEFAULTS.epoch_sweeps
  epochTime := s.get Reg.SMP_DEFAULTS.epoch_time
  rungs := s.get Reg.SMP_DEFAULTS.rungs

/-- Does β strictly decrease with rung? -/
def decreasing : List Dy → Bool
  | a :: b :: t => b.lt a && decreasing (b :: t)
  | _ => true

/-- The Timetable in force for a model where the descriptor gives none: the image's, else the default of SMP_PROFILE at the fetch (R207, R220, R221). -/
def Flight.slotTable (f : Flight) (m : Model) : TimeTable := m.own.getD (f.smp.table m.betaCold m.betaHot m.window)

/-- The Timetable where it is valid (R207). -/
def TimeTable.checked (t : TimeTable) : Option TimeTable :=
  if decide (t.rungs ≠ []) && decreasing (t.rungs.map (·.beta)) then some t else none

/-- Are all unnamed bytes of a Timetable 0, and the shifts in range but the last rung's ignored exchange shift (R207, Table 08-6)? -/
def tableReserved (b : List Byte) (n : Nat) : Bool :=
  (bytesAt b 8 56).all (fun x => decide (x = 0)) &&
  (List.range n).all (fun r => natAt b (64 + 16 * r + 4) 1 < 64 && (decide (r + 1 = n) || natAt b (64 + 16 * r + 5) 1 < 64) &&
    (bytesAt b (64 + 16 * r + 6) 10).all (fun x => decide (x = 0)))

/-- Read a Timetable: none when it is not valid (Table 08-6, R207). -/
def parseTable (b : List Byte) : Option TimeTable :=
  let n := natAt b 0 1
  let rs := (List.range n).map (fun r => (natAt b (64 + 16 * r) 4, natAt b (64 + 16 * r + 4) 1, natAt b (64 + 16 * r + 5) 1))
  if decide (1 ≤ n) && decide (n ≤ 32) && decide (natAt b 1 1 ≤ 1) && decide (1 ≤ natAt b 4 2) && tableReserved b n &&
      rs.all (fun r => f32pos r.1) && decreasing (rs.map (fun r => f32get r.1)) then
    some ⟨decide (natAt b 1 1 = 1), natAt b 2 2, natAt b 4 2, natAt b 6 2, rs.map (fun r => ⟨f32get r.1, r.2.1, r.2.2⟩)⟩
  else none

/-- The table with every β multiplied by a point's beta_scale (R211). -/
def TimeTable.scaled (t : TimeTable) (scale : Dy) (reshift : Bool) (w : Int) : TimeTable :=
  let bs := t.rungs.map (fun r => r64 (r.beta.mul scale))
  { t with rungs := if reshift then withShifts bs w else List.zipWith (fun (r : Rung) (b : Dy) => { r with beta := b }) t.rungs bs }

/-- Read a schedule of `n` points: beta_scale, sweeps, reshift; none when a point is not valid (R211, R222). -/
def parseSchedule (b : List Byte) (n : Nat) : Option (List (Dy × Nat × Bool)) :=
  let ok := (List.range n).all (fun i => f32pos (natAt b (16 * i) 4) && decide (1 ≤ natAt b (16 * i + 4) 4) &&
    decide (natAt b (16 * i + 8) 1 < 2) && (bytesAt b (16 * i + 9) 7).all (fun x => decide (x = 0)))
  if ok then some ((List.range n).map (fun i => (f32get (natAt b (16 * i) 4), natAt b (16 * i + 4) 4, decide (natAt b (16 * i + 8) 1 = 1))))
  else none

/-! Fields and energies (R198, R199). -/

/-- Is the variable of two levels held in one position? -/
def Var.two (v : Var) : Bool := decide (v.levels = 1)

/-- Levels of the variable. -/
def Var.count (v : Var) : Nat := if v.levels = 1 then 2 else v.levels

/-- Occupancy of every position, for the level of every variable (R194). -/
def Model.occupancy (m : Model) (levels : List Nat) : List Nat :=
  (m.vars.zip levels).flatMap (fun p =>
    if p.1.two then [p.2 % 2] else (List.range p.1.levels).map (fun l => if l = p.2 then 1 else 0))

/-- The position whose field a row carries (Table 08-3). -/
def Model.rowPos (m : Model) (t : Term) : Nat := m.rows.getD (t.gang * m.side + t.row) 0xFFFFFFFF

/-- The position an input element names; a position that is not of the model is always on (Table 08-3, DESIGN CHOICE). -/
def Model.colPos (m : Model) (t : Term) : Nat := m.columns.getD (t.gang * 64 * m.side + t.k * m.side + t.col) 0xFFFFFFFF

/-- What an input element carries for given occupancies: 0 when it is unused. -/
def Model.element (m : Model) (occ : Array Nat) (pos : Nat) : Int :=
  if pos = 0xFFFFFFFF then 0 else if m.positions ≤ pos then 1 else (occ.getD pos 0 : Nat)

/-- Couplings of a rotated model that its banks do not hold (R206). -/
def Model.rotField (m : Model) (occ : Array Nat) (a : Nat) : Int :=
  if m.rotation then ((List.range m.positions).map (fun b => Config.rotCoupling m.image a b * ((occ.getD b 0 : Nat) : Int))).sum +
    Config.rotCoupling m.image a m.positions
  else 0

/-- The exact field of a position, in units of 2^w (R198). -/
def Model.field (m : Model) (ts : List Term) (occ : Array Nat) (a : Nat) : Int :=
  ((ts.filter (fun t => decide (m.rowPos t = a))).map (fun t => t.aligned m.eMin * m.element occ (m.colPos t))).sum + m.rotField occ a

/-- The shape-order field of a position: its rows under R181 and R182, added in ascending gang and row. It raises no CANCEL_WARN: R198 applies R181 and R182 alone to a field (DESIGN CHOICE, log 137). -/
def Model.shapeField (m : Model) (ts : List Term) (occ : Array Nat) (G : Nat → Nat) (a : Nat) : Dy :=
  let mine := ts.filter (fun t => decide (m.rowPos t = a))
  let parts := ((mine.map (fun t => (t.gang, t.row))).eraseDups).map (fun g =>
    (shapeRow m.size (G g.1) (mine.filter (fun t => decide ((t.gang, t.row) = g)))
      (fun t => (Dy.ofInt (t.aligned m.eMin * m.element occ (m.colPos t))))).run)
  match parts with
  | [] => Dy.ofInt (m.rotField occ a)
  | p :: t => (t.foldl Dy.add32 p).add (Dy.ofInt (m.rotField occ a))

/-- A record's bias at a position (R215). -/
def biasAt (bias : List (Nat × Dy)) (a : Nat) : Dy := (bias.filter (fun b => decide (b.1 = a))).foldl (fun s b => s.add b.2) Dy.zero

/-- The energy of a state in full, in units of 2^w, offset included: positions turn on in ascending order, each adding its field (R198). -/
def Model.energy (m : Model) (bias : List (Nat × Dy)) (levels : List Nat) : Int :=
  let occ := m.occupancy levels
  let ts := m.terms
  let none : Array Nat := (occ.map (fun _ => 0)).toArray
  let r := occ.zipIdx.foldl (fun (acc : Int × Array Nat) p =>
    if p.1 = 0 then acc
    else (acc.1 + m.field ts acc.2 p.2 + ((biasAt bias p.2).floorAt 0), acc.2.set! p.2 1)) (m.offset, none)
  wrap68 r.1

/-! Sweeps (R199, R200, R206). -/

/-- What one replica's sweep needs. -/
structure SweepCtx where
  model : Model
  terms : List Term
  exact : Bool
  /-- The shape-order group of each gang (07 R181). -/
  groups : List Nat
  bias : List (Nat × Dy)
  seed : Nat
  replica : Nat
  metropolis : Bool
  rung : Rung
  deriving DecidableEq, Repr

/-- Levels, energy and generators as a sweep goes. -/
structure SweepAcc where
  levels : List Nat
  energy : Int
  gens : Store Xo
  deriving DecidableEq, Repr

/-- The field of a position at the start of a colour, record's bias included. -/
def SweepCtx.phi (c : SweepCtx) (occ : Array Nat) (a : Nat) : Dy :=
  let b := biasAt c.bias a
  if c.exact then (Dy.ofInt (c.model.field c.terms occ a)).add b
  else (c.model.shapeField c.terms occ (fun g => c.groups.getD g 16) a).add32 b

/-- The decision of variable `i` (R200): its new level and ΔE, and its generator moves on. -/
def SweepCtx.decideVar (c : SweepCtx) (occ : Array Nat) (a : SweepAcc) (i : Nat) : Nat × Dy × Store Xo :=
  let v := c.model.vars.getD i ⟨0, 1, 0, 0, 0⟩
  let l := a.levels.getD i 0
  let d := drawGen c.seed a.gens (columnIdent c.replica v.col)
  let low := d.1 % 2 ^ 16
  let u := d.1 / 2 ^ 16
  let j := low * (v.count - 1) / 2 ^ 16
  let l' := if v.two then 1 - l else if j < l then j else j + 1
  let dE := if v.two then (if l = 0 then c.phi occ v.first else (c.phi occ v.first).neg)
    else (c.phi occ (v.first + l')).sub (c.phi occ (v.first + l))
  if u < actEntry c.metropolis c.rung.beta c.rung.shift c.model.window (tableIndex dE c.rung.shift) then (l', dE, d.2)
  else (l, Dy.zero, d.2)

/-- Insert a variable by home gang row, then by number. -/
def insertRow (vars : List Var) (i : Nat) : List Nat → List Nat
  | [] => [i]
  | j :: t => if (vars.getD i ⟨0, 1, 0, 0, 0⟩).row < (vars.getD j ⟨0, 1, 0, 0, 0⟩).row then i :: j :: t else j :: insertRow vars i t

/-- Variables of a colour within a list of positions, in ascending gang row (R202). -/
def Model.colourVars (m : Model) (colour : Nat) (inside : Nat → Bool) : List Nat :=
  ((List.range m.vars.length).filter (fun i =>
    let v := m.vars.getD i ⟨0, 1, 0, 0, 0⟩
    decide (v.colour = colour) && inside v.first)).foldl (fun acc i => insertRow m.vars i acc) []

/-- One colour: every home cell decides on the fields at the colour's start (R199). A change of energy with a fraction, which a record's bias can give, enters the integer energy rounded down (DESIGN CHOICE, log 76). -/
def SweepCtx.colour (c : SweepCtx) (inside : Nat → Bool) (a : SweepAcc) (colour : Nat) : SweepAcc :=
  let occ := (c.model.occupancy a.levels).toArray
  (c.model.colourVars colour inside).foldl (fun (b : SweepAcc) i =>
    let r := c.decideVar occ b i
    ⟨b.levels.set i r.1, wrap68 (b.energy + r.2.1.floorAt 0), r.2.2⟩) a

/-- All colours in ascending order, over the positions of `inside`. -/
def SweepCtx.colours (c : SweepCtx) (inside : Nat → Bool) (a : SweepAcc) : SweepAcc :=
  (List.range c.model.colours).foldl (c.colour inside) a

/-- All colours over the positions of `inside`; a rotated model visits its blocks in ascending order, block_sweeps sweeps each (R199, R206). -/
def SweepCtx.visit (c : SweepCtx) (inside : Nat → Bool) (a : SweepAcc) : SweepAcc :=
  if c.model.rotation then
    c.model.blocks.foldl (fun (b : SweepAcc) (k : RotBlock) =>
      (List.range c.model.blockSweeps).foldl (fun (d : SweepAcc) _ =>
        c.colours (fun p => inside p && decide (k.first ≤ p) && decide (p < k.first + k.count)) d) b) a
  else c.colours inside a

/-- One sweep of a replica (R199, R206). -/
def SweepCtx.sweep (c : SweepCtx) (a : SweepAcc) : SweepAcc :=
  let r := c.visit (fun _ => true) a
  if c.exact then r else { r with energy := Config.shapeEnergy (c.model.energy c.bias r.levels) r.levels }

/-! The tracker and result areas (R212, R213, R225). -/

/-- Bits of a packed state: one per two-level position, four per Potts variable, ascending (R213). -/
def Model.packBits (m : Model) : Nat := (m.vars.map (fun v => if v.two then 1 else 4)).sum

/-- A packed state as a number. -/
def Model.pack (m : Model) (levels : List Nat) : Nat :=
  ((m.vars.zip levels).foldl (fun (acc : Nat × Nat) p =>
    (acc.1 + p.2 * 2 ^ acc.2, acc.2 + (if p.1.two then 1 else 4))) (0, 0)).1

/-- Bytes of a packed state, and of a record of the result area. -/
def Model.packBytes (m : Model) : Nat := (m.packBits + 7) / 8
def Model.stride (m : Model) : Nat := 64 * ((16 + m.packBytes + 63) / 64)

/-- Tracker order: energy, then packed state (R212). -/
def Tracked.before (a b : Tracked) : Bool := decide (a.energy < b.energy) || (decide (a.energy = b.energy) && decide (a.packed < b.packed))

/-- Insert in tracker order. -/
def insertTracked (x : Tracked) : List Tracked → List Tracked
  | [] => [x]
  | y :: t => if x.before y then x :: y :: t else y :: insertTracked x t

/-- A replica offers its state (R212). -/
def offer (k : Nat) (track : List Tracked) (energy : Int) (packed rung : Nat) : List Tracked :=
  if track.any (fun t => decide (t.packed = packed)) then
    track.map (fun t => if t.packed = packed then { t with visits := min (t.visits + 1) 0xFFFFFFFF } else t)
  else if track.length < k then insertTracked ⟨energy, packed, 1, rung⟩ track
  else match track.getLast? with
    | some w => if energy < w.energy then insertTracked ⟨energy, packed, 1, rung⟩ track.dropLast else track
    | none => track

/-- One record of a result area (Table 08-7). -/
def Model.trackedBytes (m : Model) (t : Tracked) : List Byte :=
  leBytes 8 (unsigned 64 (resolve64 t.energy)) ++ leBytes 4 t.visits ++ leBytes 4 t.rung ++ leBytes (m.stride - 16) t.packed

/-- The header of a result area (Table 08-7). -/
def resultHeader (n stride seed sweeps : Nat) (lowest : Int) (attempts accepted : Nat) : List Byte :=
  leBytes 4 n ++ leBytes 4 stride ++ leBytes 8 seed ++ leBytes 8 sweeps ++ leBytes 8 (unsigned 64 (resolve64 lowest)) ++
  leBytes 4 (min attempts 0xFFFFFFFF) ++ leBytes 4 (min accepted 0xFFFFFFFF) ++ leBytes 24 0

/-! Paths (R202, R208 to R212). -/

/-- Nothing to sample. -/
def TimeTable.none : TimeTable := ⟨false, 0, 1, 0, []⟩
def Path.empty : Path := ⟨TimeTable.none, TimeTable.none, [], 0, [], 0, [], [], 0, 0, 0, [], 0, 0⟩

/-- Initial levels of replica `r`: each variable drawn from its column generator, in position order (R202). -/
def Model.drawLevels (m : Model) (seed r : Nat) (gens : Store Xo) : List Nat × Store Xo :=
  m.vars.foldl (fun (acc : List Nat × Store Xo) v =>
    let d := drawGen seed acc.2 (columnIdent r v.col)
    (acc.1 ++ [if v.two then d.1 / 2 ^ 31 else d.1 % 2 ^ 16 * v.levels / 2 ^ 16], d.2)) ([], gens)

/-- The replicas at the start of a run: states kept or drawn, rungs ρ mod rungs, energies in full (R198, R202, R208). -/
def Model.startReps (m : Model) (bias : List (Nat × Dy)) (seed n rungs : Nat) (kept : List Replica) : List Replica × Store Xo :=
  (List.range n).foldl (fun (acc : List Replica × Store Xo) r =>
    match kept[r]? with
    | some q => (acc.1 ++ [⟨q.levels, m.energy bias q.levels, r % rungs⟩], acc.2)
    | none =>
      let d := m.drawLevels seed r acc.2
      (acc.1 ++ [⟨d.1, m.energy bias d.1, r % rungs⟩], d.2)) ([], [])

/-- An exchange round (R209): attempts and acceptances by rung pair are counted in the registers. -/
def exchangeRound (p : Path) (seed : Nat) (w : Int) : Path × List (Nat × Bool) :=
  let n := p.table.rungs.length
  let ladders := p.reps.length / n
  let pairs := (List.range n).filter (fun k => decide (k % 2 = p.rounds % 2) && decide (k + 1 < n))
  let r := (List.range ladders).foldl (fun (acc : List Replica × Store Xo × List (Nat × Bool)) l =>
    pairs.foldl (fun (a : List Replica × Store Xo × List (Nat × Bool)) k =>
      let at_ := fun (rung : Nat) => ((List.range n).find? (fun i => decide (((a.1.getD (l * n + i) ⟨[], 0, 0⟩).rung) = rung))).getD 0 + l * n
      let i := at_ k
      let j := at_ (k + 1)
      let x := a.1.getD i ⟨[], 0, 0⟩
      let y := a.1.getD j ⟨[], 0, 0⟩
      let d := drawGen seed a.2.1 (ladderIdent l)
      let dB := r64 ((p.table.rung k).beta.sub (p.table.rung (k + 1)).beta)
      let e := exchEntry dB (p.table.rung k).exch w (tableIndex (Dy.ofInt (x.energy - y.energy)) (p.table.rung k).exch)
      if d.1 / 2 ^ 16 < e then
        ((a.1.set i { x with rung := k + 1 }).set j { y with rung := k }, d.2, a.2.2 ++ [(k, true)])
      else (a.1, d.2, a.2.2 ++ [(k, false)])) acc) (p.reps, p.ladders, [])
  ({ p with
      reps := r.1
      ladders := r.2.1
      rounds := p.rounds + 1
      attempts := p.attempts + r.2.2.length
      accepted := p.accepted + (r.2.2.filter (·.2)).length }, r.2.2)

/-- Count exchanges on their rung pairs (Table 08-9). -/
def State.countExchanges (s : State) (l : List (Nat × Bool)) : State :=
  s.each l (fun t p => (t.bump (Reg.SMP_EXCH_ATTEMPTS.attempts p.1)).when_ p.2 (·.bump (Reg.SMP_EXCH_ACCEPTED.accepted p.1)))

/-- One replica's sweep over the model given, with further field terms: the replica after it, and the run (R199). -/
def Run.sweepOnly (r : Run) (m : Model) (extra : List (Nat × Dy)) : Replica × Run :=
  let p := r.path
  let rep := p.reps.getD p.next ⟨[], 0, 0⟩
  let c : SweepCtx := ⟨m, m.terms, r.exact, r.groups, r.bias ++ extra, r.seed, p.next, p.table.metropolis, p.table.rung rep.rung⟩
  let a := c.sweep ⟨rep.levels, rep.energy, p.gens⟩
  let new : Replica := { rep with levels := a.levels, energy := a.energy }
  (new, { r with path := { p with reps := p.reps.set p.next new, gens := a.gens } })

/-- The replica just swept offers its state, and the next one's sweep follows (R212). -/
def Run.sweepOne (r : Run) (m : Model) : Run :=
  let x := r.sweepOnly m []
  let p := x.2.path
  { x.2 with path := { p with track := offer r.k p.track x.1.energy (m.pack x.1.levels) x.1.rung, next := p.next + 1 } }

/-- A fresh seed from the entropy source (R203, R204). -/
def State.drawSeed (s : State) : Nat × State :=
  ((Config.entropySeed s.fresh).toNat, (s.withFresh (s.fresh + 1)).bump Reg.SMP_ENTROPY.seeds)

/-- The whole sweep of a run is done: exchange if due, then the epoch, the point or the run may have ended (R209 to R211). -/
def State.wholeSweep (s : State) (id : Nat) : State :=
  match s.run id with
  | none => s
  | some r =>
    match s.model r.slot with
    | none => s
    | some m =>
      let p := { r.path with next := 0, sweeps := r.path.sweeps + 1, inEpoch := r.path.inEpoch + 1, pointSweeps := r.path.pointSweeps + 1 }
      let due := decide (p.table.interval ≠ 0) && decide (p.sweeps % p.table.interval = 0)
      let x := if due then exchangeRound p r.seed m.window else (p, [])
      (s.countExchanges x.2).mapRun id (fun q => { q with
        path := x.1, boundary := decide (x.1.table.epochSweeps ≤ x.1.inEpoch) || decide (q.total ≤ x.1.sweeps) })

/-- The lowest energy a run reports, 0 when it kept none. -/
def lowestOf (track : List Tracked) : Int := ((track.head?).map (·.energy)).getD 0

end Sys2Proof.Machine
end

