-- ==== Sys2Proof/Machine/ModelOps.lean ====
section
/-!
DEFINITION. Machine/ModelOps.lean: model images, loads of models and coefficients, and training (spec/08_sampling_tempering.md R195 to R197, R215 to R218; 07 R169 to R178).
-/
namespace Sys2Proof.Machine

open Sys2Proof

/-- Does an LPDDR5X range lie in the partition's allocation and below the save area (06 R151)? -/
def State.memOk (s : State) (p off len : Nat) : Bool :=
  decide (off + len ≤ (s.part p).memSize * 2 ^ 28) && decide (s.dramAddr p off + len ≤ 2 ^ 35 - 48 * 2 ^ 20)

/-! The image (Tables 08-2, 08-3). -/

/-- Header fields. -/
def imKind (b : List Byte) : Nat := natAt b 6 1
def imColours (b : List Byte) : Nat := natAt b 7 1
def imPositions (b : List Byte) : Nat := natAt b 8 4
def imSize (b : List Byte) : Nat := natAt b 12 1
def imCount (b : List Byte) : Nat := natAt b 13 1
def imFlag (b : List Byte) (n : Nat) : Bool := (natAt b 15 1).testBit n
def imDev (b : List Byte) : Nat := natAt b 56 4
/-- Offset of section `i`. -/
def imSec (b : List Byte) (i : Nat) : Nat := natAt b (64 + 4 * i) 4

/-- Tiles of the image's model. -/
def imTiles (b : List Byte) : Nat := imCount b * 4 ^ imSize b

/-- Rungs of the Timetable in force: the image's section, or the default's (R207). -/
def imRungs (dflt : Nat) (b : List Byte) : Nat := if imSec b 4 = 0 then dflt else natAt b (imSec b 4) 1

/-- Format and ranges of the header, for the rungs of the default Timetable; header fields out of range count as format (Table 08-2, DESIGN CHOICE). β_hot may equal β_cold for one rung only. -/
def imFormatOk (rungs : Nat) (b : List Byte) : Bool :=
  decide (natAt b 4 2 = 1) && decide (1 ≤ imKind b) && decide (imKind b ≤ 3) && decide (1 ≤ imColours b) && decide (imColours b ≤ 16) &&
  decide (1 ≤ imPositions b) && decide (imPositions b ≤ 268435456) && decide (imSize b ≤ 2) && decide (1 ≤ imCount b) &&
  decide (imCount b ≤ 4) && [1, 2].contains (natAt b 14 1) && decide (natAt b 15 1 < 8) && f32pos (natAt b 28 4) && f32pos (natAt b 32 4) &&
  ((f32get (natAt b 32 4)).lt (f32get (natAt b 28 4)) || (decide (natAt b 32 4 = natAt b 28 4) && decide (imRungs rungs b = 1))) && decide (1 ≤ natAt b 48 4) && decide (natAt b 48 4 ≤ 65535) &&
  decide (natAt b 52 4 ≤ 65535) && decide (imDev b % 4096 = 0) && (bytesAt b 96 32).all (fun x => decide (x = 0)) &&
  (if imFlag b 0 then decide (1 ≤ natAt b 24 4) && decide (natAt b 24 4 ≤ 65535)
   else decide (natAt b 20 4 = 0) && decide (natAt b 24 4 = 0))

/-- The CRC of the image with its own field as 0. -/
def imCrcOk (b : List Byte) : Bool := decide (crc32 (b.take 60 ++ [0, 0, 0, 0] ++ b.drop 64) = natAt b 60 4)

/-- Bytes of section `i`, none where it is absent by the flags. -/
def imNeed (b : List Byte) (i : Nat) : Option Nat :=
  if i = 0 then some (imTiles b * 2 ^ 20)
  else if i = 1 then some (imCount b * 64 * (64 * 2 ^ imSize b) * 4)
  else if i = 2 then some (imCount b * (64 * 2 ^ imSize b) * 4)
  else if i = 3 then some (8 * imPositions b)
  else if i = 4 then (if imSec b 4 = 0 then none else some (64 + 16 * natAt b (imSec b 4) 1))
  else if i = 5 then (if imFlag b 0 then some (32 * natAt b 20 4) else none)
  else if i = 6 then (if imFlag b 1 then some ((imTiles b * 2 ^ 18 + imPositions b + 7) / 8) else none)
  else if imFlag b 2 then some 64 else none

/-- Are the sections aligned, inside the image and present where required? -/
def imSectionsOk (b : List Byte) : Bool :=
  (List.range 8).all (fun i =>
    match imNeed b i with
    | some n => decide (imSec b i ≠ 0) && decide (imSec b i % 64 = 0) && decide (imSec b i + n ≤ b.length)
    | none => decide (imSec b i % 64 = 0) && decide (imSec b i ≤ b.length))

/-- Bit `n` of a map section. -/
def mapBit (b : List Byte) (off n : Nat) : Bool := (natAt b (off + n / 8) 1).testBit (n % 8)

/-- Bits [31:8] of a position's entry, which are 0 (Table 08-3). -/
def imPosZero (b : List Byte) (p : Nat) : Bool := decide (natAt b (imSec b 3 + 8 * p + 1) 3 = 0)

/-- Colour, level and home row of a position (Table 08-3). -/
def imPos (b : List Byte) (p : Nat) : Nat × Nat × Nat :=
  (natAt b (imSec b 3 + 8 * p) 1 % 16, natAt b (imSec b 3 + 8 * p) 1 / 16, natAt b (imSec b 3 + 8 * p + 4) 4)

/-- Home column of a position: that of the lowest input element that names it (DESIGN CHOICE). -/
def homeColumn (columns : List Nat) (side p : Nat) : Nat :=
  match columns.findIdx? (fun c => decide (c = p)) with
  | some i => i / (64 * side) * side + i % side
  | none => 0

/-- Variables from the position table: positions at levels 0, 1, 2 … form one variable; none when the table does not (R194). -/
def imVars (b : List Byte) (columns : List Nat) : Option (List Var) :=
  (List.range (imPositions b)).foldl (fun (acc : Option (List Var)) p =>
    match acc with
    | none => none
    | some l =>
      let x := imPos b p
      if x.2.1 = 0 then some (l ++ [⟨p, 1, x.1, x.2.2, homeColumn columns (64 * 2 ^ imSize b) p⟩])
      else match l.getLast? with
        | some v => if v.levels = x.2.1 ∧ v.colour = x.1 then some (l.dropLast ++ [{ v with levels := v.levels + 1 }]) else none
        | none => none) (some [])

/-- Do the variables fit the kind (Table 08-1)? -/
def varsOk (kind : Nat) (vs : List Var) : Bool :=
  vs.all (fun v => if kind = 1 then decide (v.levels = 1) else if kind = 2 then decide (2 ≤ v.levels) && decide (v.levels ≤ 16)
    else decide (v.levels ≠ 2) && decide (v.levels ≤ 16))

/-- The four-byte entries of a section. -/
def words32 (b : List Byte) (off n : Nat) : List Nat := (List.range n).map (fun i => natAt b (off + 4 * i) 4)

/-- The model of an image on given gangs, its couplings graded and its bound judged; none when the maps do not fit the gangs (R195, R196). -/
def buildModel (b : List Byte) (part devBase : Nat) (gangs : List Nat) (homeroom : Bool) (dflt : Int → TimeTable) : Option (Model × List Grade) :=
  let side := 64 * 2 ^ imSize b
  let blocks := blocksOf (f32list (bytesAt b (imSec b 0) (imTiles b * 2 ^ 20)))
  let eMin := floorExp blocks
  let gs := blocks.map (gradeBlock eMin)
  let columns := words32 b (imSec b 1) (imCount b * 64 * side)
  let rows := words32 b (imSec b 2) (imCount b * side)
  match imVars b columns with
  | none => none
  | some vs =>
    let own := if imSec b 4 = 0 then none else parseTable (bytesAt b (imSec b 4) ((imNeed b 4).getD 0))
    let fits := varsOk (imKind b) vs && rows.all (fun r => decide (r < imPositions b) || decide (r = 0xFFFFFFFF)) &&
      (List.range (imPositions b)).all (fun p => imPosZero b p && decide ((imPos b p).1 < imColours b) && decide ((imPos b p).2.2 < imCount b * side))
    if !fits then none
    else
      let m : Model := {
        part := part, gangs := gangs, size := imSize b, kind := imKind b, colours := imColours b, positions := imPositions b
        exactDefault := decide (natAt b 14 1 = 1), rotation := imFlag b 0, trainable := imFlag b 1
        columnLen := natAt b 16 4, blockSweeps := natAt b 24 4, betaCold := natAt b 28 4, betaHot := natAt b 32 4
        offset := signed 64 (natAt b 36 8), opsPerByte := natAt b 44 4, epochs := natAt b 48 4, posSweeps := natAt b 52 4
        devBase := devBase, devBytes := imDev b, image := natAt b 60 4, eMin := eMin, mants := [], exps := []
        columns := columns, rows := rows, vars := vs
        blocks := if imFlag b 0 then (List.range (natAt b 20 4)).map (fun i =>
            let o := imSec b 5 + 32 * i
            ⟨natAt b o 4, natAt b (o + 4) 4, natAt b (o + 8) 8, natAt b (o + 16) 8, natAt b (o + 24) 8⟩) else []
        own := own, table := own.getD (dflt ((eMin : Int) - 48))
        trainMap := if imFlag b 1 then (List.range (imTiles b * 2 ^ 18)).filter (fun n => mapBit b (imSec b 6) n) else []
        dataPos := if imFlag b 1 then (List.range (imPositions b)).filter (fun p => mapBit b (imSec b 6) (imTiles b * 2 ^ 18 + p)) else []
        verdict := if imFlag b 2 then some ⟨natAt b (imSec b 7) 4, signed 64 (natAt b (imSec b 7 + 4) 8), natAt b (imSec b 7 + 12) 4,
            natAt b (imSec b 7 + 16) 2, natAt b (imSec b 7 + 18) 2⟩ else none
        exactOk := false, boundLog2 := 0, homeroom := homeroom, last := none, kept := [], chains := [], masters := [], trained := false }
      some ((m.store 0 gs).judge, gs)

/-- Is the verdict section valid for the Timetable in force (R215)? -/
def verdictOk (b : List Byte) (m : Model) : Bool :=
  match m.verdict with
  | none => true
  | some v => decide (1 ≤ v.replicas) && decide (v.replicas ≤ 256) && decide (v.replicas % m.table.rungs.length = 0) &&
      decide (1 ≤ v.k) && decide (v.k ≤ 1024) && (decide (v.cls = 0xFFFFFFFF) || decide (v.cls < m.vars.length)) &&
      (bytesAt b (imSec b 7 + 20) 44).all (fun x => decide (x = 0))

/-- The load report (Table 08-4); where the image was refused before it was graded, bytes 4 to 35 are not stated (DESIGN CHOICE, log 71). -/
def loadReport (code image : Nat) (x : Option (Model × List Grade)) : List Byte :=
  match x with
  | none => leBytes 4 code ++ leBytes 32 (Config.openReport code image) ++ leBytes 4060 0
  | some (m, gs) =>
    leBytes 4 code ++ leBytes 4 (Config.storageUsed m.image (m.gangs.length * 4 ^ m.size)) ++ leBytes 4 (worstErr gs) ++
    leBytes 4 m.opsPerByte ++ leBytes 1 m.boundLog2 ++ leBytes 1 (if m.exactOk then 1 else 0) ++ leBytes 1 m.eMin ++
    leBytes 1 m.table.rungs.length ++ leBytes 4 ((gs.filter (·.clamped)).length) ++ leBytes 4 ((gs.filter (·.floor)).length) ++
    leBytes 4 (Config.predictedSweep m.image).1 ++ leBytes 4 (if m.rotation then (Config.predictedSweep m.image).2 else 0) ++ leBytes 4060 0

/-- The checks of an image that need no gang, in the order of Table 08-4's codes; 0 when they pass. -/
def imCode (rungs : Nat) (b : List Byte) : Nat :=
  if natAt b 0 4 ≠ 0x314D4B4F then 1 else if !imFormatOk rungs b then 2 else if !imCrcOk b then 3 else if !imSectionsOk b then 4 else 0

/-- A load that cannot be made: its report, with what grading found where it came that far, and its completion status. -/
def State.loadFails (s : State) (f : Flight) (code status image : Nat) (x : Option (Model × List Grade)) : State :=
  let s1 := if dAddr1 f.bytes = 0 then s else s.writeOut f.part (dDev1 f.bytes) (dAddr1 f.bytes) (loadReport code image x)
  s1.finish f.id status 0 0

/-- Tiles marked with a slot: cleared, or set on the tiles of a load (Table 07-8). -/
def State.unmarkTiles (s : State) (slot : Nat) : State :=
  s.each (List.range 64) (fun u t =>
    if u.flag (Reg.FAB_TILE_STATUS.model_valid t) && decide (u.get (Reg.FAB_TILE_STATUS.model t) = slot) then
      (u.put (Reg.FAB_TILE_STATUS.model_valid t) 0).put (Reg.FAB_TILE_STATUS.model t) 0
    else u)
def State.markTiles (s : State) (slot : Nat) (tiles : List Nat) : State :=
  s.each tiles (fun u t => (u.put (Reg.FAB_TILE_STATUS.model_valid t) 1).put (Reg.FAB_TILE_STATUS.model t) slot)

/-- A load takes effect: the dev_bytes area, whose layout the spec does not give, the banks, status, report, completion (R196, Table 06-11). -/
def State.loadDone (s : State) (f : Flight) (m : Model) (gs : List Grade) : State :=
  let slot := dModel f.bytes
  let s0 := s.dramRenew (s.dramAddr m.part m.devBase) m.devBytes
  let s1 := ((s0.unmarkTiles slot).markTiles slot (m.gangs.flatMap (gangTiles m.size))).setModel slot m
  let s2 := s1.setFab (fun x => { x with holds := x.holds.map (fun h => if h.slot = slot then { h with reps := [], gens := [], ladders := [] } else h) })
  let s3 := if dAddr1 f.bytes = 0 then s2 else s2.writeOut f.part (dDev1 f.bytes) (dAddr1 f.bytes) (loadReport 0 m.image (some (m, gs)))
  s3.finishMirrored f.id 0 (Config.storageUsed m.image (m.gangs.length * 4 ^ m.size)) (worstErr gs + m.opsPerByte * 2 ^ 32) (.model slot m)

/-- LOAD_MODEL's work on the image it read (R196, R197); it waits while its gangs are not idle. -/
def State.loadModel (s : State) (f : Flight) (b : List Byte) : State :=
  let code := imCode f.smp.rungs b
  let crc := natAt b 60 4
  if code ≠ 0 then s.loadFails f code 0x20 crc none
  else
    let sets := s.gangSets f.part (imSize b) (imCount b) (dGang f.bytes)
    if sets = [] then s.loadFails f 5 0x20 crc none
    else match sets.find? (fun w => w.all (fun g => s.gangReady (imSize b) g && !s.gangHeld (imSize b) g)) with
      | none => s
      | some w =>
        match buildModel b f.part (natAt f.bytes 32 8) w (s.flag Reg.GLB_SERVICE.homeroom)
            (f.smp.table (natAt b 28 4) (natAt b 32 4)) with
        | none => s.loadFails f 6 0x20 crc none
        | some (m, gs) =>
          let fails := fun (code status : Nat) => s.loadFails f code status crc (some (m, gs))
          let exact := exactMode (dMode f.bytes) m
          if s.flag Reg.GLB_SERVICE.homeroom && (m.rotation || decide (m.devBytes ≠ 0)) then fails 6 0x21
          else if decide (m.devBytes ≠ 0) && !s.memOk f.part m.devBase m.devBytes then fails 7 0x22
          else if m.rotation && !([96, 97, 98, 99].all s.unitReady) then fails 6 0x21
          else if (decide (imSec b 4 ≠ 0) && m.own.isNone) || m.table.checked.isNone || !verdictOk b m then fails 8 0x20
          else if (exact || m.exactDefault) && s.flag Reg.GLB_SERVICE.homeroom then fails 9 0x21
          else if exact && !m.exactOk then fails 9 0x20
          else s.loadDone f m gs

/-! LOAD_COEFF (R171, R172, R191, R431). -/

/-- The couplings `b` to `b + n − 1` are loaded afresh: training masters of them are dropped. -/
def Model.dropMasters (m : Model) (b n : Nat) : Model :=
  { m with masters := m.masters.filter (fun p => !(decide (b ≤ p.1) && decide (p.1 < b + n))) }

/-- LOAD_COEFF's work (R167, R191, R431). -/
def State.loadCoeff (s : State) (f : Flight) (b : List Byte) : State :=
  let slot := dModel f.bytes
  let count := natAt f.bytes 24 4
  let first := natAt f.bytes 28 4
  match s.model slot with
  | none => s.finish f.id 0x20 0 0
  | some m =>
    if m.couplings < first + count || !(decide (dGang f.bytes = 0xFF) || s.layout.has m.size (dGang f.bytes)) then s.finish f.id 0x20 0 0
    else
      let gs := (blocksOf (f32list (bytesAt b 0 (4 * count)))).map (gradeBlock m.eMin)
      let m' := ((m.store (first / 16) gs).judge).dropMasters first count
      let report := gs.flatMap Grade.bytes
      let pad := List.replicate ((64 - report.length % 64) % 64) (0 : Byte)
      let s1 := s.setModel slot m'
      let s2 := if dAddr1 f.bytes = 0 then s1 else s1.writeOut f.part (dDev1 f.bytes) (dAddr1 f.bytes) (report ++ pad)
      s2.finishMirrored f.id 0 gs.length (worstErr gs) (.model slot m')

/-! TRAIN_STEP (R216 to R218). -/

/-- Levels with the data positions clamped to a vector's bits. -/
def Model.clampData (m : Model) (levels : List Nat) (bits : Nat) : List Nat :=
  let bit := fun (p : Nat) => match m.dataPos.findIdx? (fun d => decide (d = p)) with
    | some i => bits.testBit i
    | none => false
  (m.vars.zip levels).map (fun p =>
    if !m.dataPos.contains p.1.first then p.2
    else if p.1.two then (if bit p.1.first then 1 else 0)
    else ((List.range p.1.levels).find? (fun l => bit (p.1.first + l))).getD 0)

/-- Sweeps at β = 1 over the positions of `inside`, shifts by the default rule; the acceptance rule, which R216 does not name, is that of the Timetable in force (DESIGN CHOICE, log 138). -/
def Model.unitSweeps (m : Model) (rule : Bool) (n seed replica : Nat) (inside : Nat → Bool) (a : SweepAcc) : SweepAcc :=
  let one := Dy.ofInt 1
  let c : SweepCtx := ⟨m, m.terms, true, [], [], seed, replica, rule, ⟨one, defaultShift one m.window, 0⟩⟩
  n.fold (fun _ _ x => c.visit inside x) a

/-- Both ends of a coupling of the bank order are on. -/
def Model.bothOn (m : Model) (levels : List Nat) (b : Nat) : Nat :=
  let o := m.tileOrder.getD (b / 2 ^ 18) (0, 0, 0)
  let t : Term := ⟨o.1, 64 * o.2.1 + b / 2 ^ 6 % 64, 64 * o.2.2 + b % 64, b / 2 ^ 12 % 64, 0, 0⟩
  let occ := (m.occupancy levels).toArray
  occ.getD (m.rowPos t) 0 * (m.element occ (m.colPos t)).toNat

/-- Bytes of one vector of the batch (R216). -/
def Model.vectorBytes (m : Model) : Nat := 64 * ((m.dataPos.length + 511) / 512)

/-- An int64 master value; what it holds of a value outside int64 is not stated (DESIGN CHOICE, log 140). -/
def master64 (v : Int) : Int := if inWindow v then v else (Config.wideMaster v).toInt

/-- A coupling's master value, in units of 2^(w − 16) (R217). -/
def Model.master (m : Model) (b : Nat) : Int :=
  match m.masters.find? (fun p => decide (p.1 = b)) with
  | some p => p.2
  | none => master64 (m.mantAt b * 2 ^ (m.expAt (b / 16) - m.eMin) * 2 ^ 16)

/-- The update of one coupling (R217). -/
def trainDelta (rate : Dy) (q chains p batch : Nat) (w : Int) : Int :=
  let d := r64 (((Dy.ofInt q).divP 53 (Dy.ofInt chains)).sub ((Dy.ofInt p).divP 53 (Dy.ofInt batch)))
  ((r64 (rate.mul d)).mul ⟨1, 16 - w⟩).toIntEven

/-- A block graded again from the masters (R217). -/
def Model.regrade (m : Model) (block : Nat) : Grade :=
  gradeBlock m.eMin ((List.range 16).map (fun i => some
    (if m.trainMap.contains (16 * block + i) then Dy.mk (m.master (16 * block + i)) (m.window - 16)
     else Dy.mk (m.mantAt (16 * block + i)) ((m.expAt block : Int) - 48))))

/-- TRAIN_STEP's work on its batch. -/
def State.trainStep (s : State) (f : Flight) (m : Model) (seed : Nat) (data : List Byte) : State :=
  let batch := natAt f.bytes 24 4
  let neg := natAt f.bytes 32 4
  let chains := natAt f.bytes 36 2
  let n := m.vectorBytes
  let rule := (f.slotTable m).metropolis
  let pseed := (Config.positiveSeed seed).toNat
  let free := fun (p : Nat) => !m.dataPos.contains p
  let start := m.drawLevels pseed 0 []
  let pos := batch.fold (fun i _ (acc : SweepAcc × List (List Nat)) =>
    let lv := m.clampData acc.1.levels (natAt data (n * i) n)
    let a := m.unitSweeps rule m.posSweeps pseed 0 free ⟨lv, 0, acc.1.gens⟩
    (a, acc.2 ++ [a.levels])) (⟨start.1, 0, start.2⟩, [])
  let reps := m.startReps [] seed chains 1 m.chains
  let ends := reps.1.zipIdx.map (fun r => (m.unitSweeps rule neg seed r.2 (fun _ => true) ⟨r.1.levels, 0, reps.2⟩).levels)
  let P := fun (b : Nat) => (pos.2.map (fun l => m.bothOn l b)).sum
  let Q := fun (b : Nat) => (ends.map (fun l => m.bothOn l b)).sum
  let deltas := m.trainMap.map (fun b => (b, P b, Q b, trainDelta (f32get (natAt f.bytes 28 4)) (Q b) chains (P b) batch m.window))
  let m1 := { m with masters := (m.masters.filter (fun p => !m.trainMap.contains p.1)) ++ deltas.map (fun d => (d.1, master64 (m.master d.1 + d.2.2.2))) }
  let m2 := ((m.trainMap.map (· / 16)).eraseDups.foldl (fun (x : Model) k => x.store k [m1.regrade k]) m1).judge
  let m3 := { m2 with trained := true, chains := ends.map (fun l => ⟨l, m2.energy [] l, 0⟩) }
  let s1 := (s.dramRenew (s.dramAddr m.part m.devBase) m.devBytes).setModel (dModel f.bytes) m3
  let stats := deltas.flatMap (fun d => leBytes 4 d.2.1 ++ leBytes 4 d.2.2.1 ++ leBytes 8 (unsigned 64 (resolve64 d.2.2.2)))
  let s2 := if dAddr1 f.bytes = 0 then s1 else s1.writeOut f.part (dDev1 f.bytes) (dAddr1 f.bytes) stats
  s2.finishMirrored f.id (if deltas.any (fun d => !inWindow d.2.2.2) && decide (dAddr1 f.bytes ≠ 0) then 0x30 else 0) (neg * chains)
    (deltas.filter (fun d => decide (d.2.2.2 ≠ 0))).length (.model (dModel f.bytes) m3)

end Sys2Proof.Machine
end

