-- ==== Sys2Proof/Machine/FetchOps.lean ====
section
/-!
DEFINITION. Machine/FetchOps.lean: the checks of a descriptor at fetch, arbitration, and partition commit (spec/06_host_rings.md R143, R149 to R152; 05 R117; 07 R167, R190, R431; 08 R216; 11 R289).
-/
namespace Sys2Proof.Machine

open Sys2Proof

/-- The standing CLASSIFY_STREAM of a stream that has not been taken over. -/
def State.standingOf (s : State) (stream : Nat) : Option Standing :=
  s.cap.standing.find? (fun x => decide (x.stream = stream) && !x.leaving)

/-- Is a load on the slot still in flight ahead of a descriptor fetched now (R431)? -/
def State.slotLoading (s : State) (slot : Nat) : Bool :=
  s.host.flights.any (fun f => decide (dModel f.bytes = slot) && isLoad f.bytes && decide (f.stage ≠ .ended))

/-- Opcodes whose gang field names a gang of the model they use (R167). -/
def namesGang (op : Nat) : Bool := needsModel op || op == opClassify

/-- Checks of R167, R190, R216 and R431 on the model in the slot; READ_STATES and CLASSIFY_STREAM may find the slot empty. -/
def State.modelFits (s : State) (d : Desc) : Bool :=
  let op := dOp d
  match s.model (dModel d) with
  | none => op == opReadStates || op == opClassify
  | some m =>
    (!namesGang op || decide (op = opLoadModel) || decide (dGang d = 0xFF) || s.layout.has m.size (dGang d)) &&
    (decide (op = opLoadCoeff) || decide (op = opReadStates) || !exactMode (dMode d) m || m.exactOk) &&
    (decide (op ≠ opLoadCoeff) || decide (natAt d 28 4 + natAt d 24 4 ≤ m.couplings)) &&
    (decide (op ≠ opTrain) || (m.trainable && exactMode (dMode d) m))

/-- Does the descriptor use the model in its slot, so that R167, R190 and R431 judge it against that? -/
def usesModel (d : Desc) : Bool :=
  (needsModel (dOp d) && decide (dOp d ≠ opLoadModel)) || (dOp d == opClassify && decide (dModel d ≠ 0xFFFF))

/-- R143 step 1 with the state: a named gang exists, and the model suits. -/
def State.descOk (s : State) (d : Desc) : Bool :=
  descFits d &&
  (!namesGang (dOp d) || decide (dGang d = 0xFF) || [0, 1, 2].any (fun z => s.layout.has z (dGang d))) &&
  (!usesModel d || s.slotLoading (dModel d) || s.modelFits d)

/-- Records for which a CLASSIFY_STREAM names its states area: all of a finite count, the first of a continuous one. -/
def statesRecords (d : Desc) : Nat := if natAt d 28 4 = 0xFFFFFFFF then 1 else natAt d 28 4

/-- LPDDR5X ranges a descriptor names, as far as their length is known at fetch: offset and length (R143 step 2, Table 06-8). What is known only later, a Timetable's rungs and the records of a continuous stream, is checked as it is accessed (R151). -/
def State.memRanges (s : State) (d : Desc) : List (Nat × Nat) :=
  let op := dOp d
  let m := s.model (dModel d)
  let side := (m.map (·.side)).getD 0
  let r0 : Nat := if op = opLoadModel then natAt d 24 4 else if op = opLoadCoeff then 4 * natAt d 24 4
    else if op = opRunMac then 128 * side * natAt d 24 4 else if op = opRunSample then 64
    else if op = opRunAnneal then 16 * natAt d 44 2 else if op = opClassify then natAt d 36 4 * statesRecords d
    else if op = opTrain then natAt d 24 4 * (m.map (·.vectorBytes)).getD 0 else if op = opBankSwap then natAt d 24 4
    else if op = opPublish then 32768 else if op = opFwStage then natAt d 32 4 else 0
  let r1 : Nat := if op = opLoadModel then 4096 else if op = opLoadCoeff then 64 * ((natAt d 24 4 + 127) / 128)
    else if op = opRunMac then (match m with | some x => (if exactMode (dMode d) x then 8 else 4) * side * natAt d 24 4 | none => 0)
    else if op = opRunSample ∨ op = opRunAnneal then 64 + natAt d 30 2 * (m.map (·.stride)).getD 0
    else if op = opTrain then 16 * (m.map (·.trainMap.length)).getD 0 else if op = opReadStates then natAt d 28 4 else 0
  (if dDev0 d && decide (dAddr0 d ≠ 0) then [(dAddr0 d, r0)] else []) ++ (if dDev1 d && decide (dAddr1 d ≠ 0) then [(dAddr1 d, r1)] else [])

/-- R143 step 2: gang, slot, stream, memory and ownership bits. -/
def State.descOwned (s : State) (p : Nat) (d : Desc) : Bool :=
  let op := dOp d
  let c := s.part p
  (!namesGang op || decide (dGang d = 0xFF) ||
    [0, 1, 2].all (fun z => !s.layout.has z (dGang d) || s.ownsGang p z (dGang d))) &&
  (decide (dModel d = 0xFFFF) || (match s.model (dModel d) with | some m => decide (m.part = p) | none => true)) &&
  (decide (op ≠ opClassify) || c.streams.testBit (natAt d 24 1 % 8)) &&
  (s.memRanges d).all (fun r => s.memOk p r.1 r.2) &&
  (decide (op ≠ opBankSwap) || c.syllabus) && (decide (op ≠ opPublish) || c.hallPass) && (decide (op ≠ opMirror) || c.akgal) &&
  ((decide (op ≠ opReconcile) && decide (op ≠ opFwStage)) || decide (p = 0))

/-- Does a descriptor ask for a fresh seed (08 R203, R204)? -/
def needsSeed (d : Desc) : Bool :=
  ((dOp d == opRunSample || dOp d == opRunAnneal) && !(natAt d 40 1).testBit 0) || (dOp d == opTrain && !(natAt d 48 1).testBit 0) ||
  (dOp d == opClassify && decide (natAt d 28 4 ≠ 0))

/-- What Homeroom offers (05 Table 05-5). -/
def State.homeroomTakes (s : State) (d : Desc) : Bool :=
  let op := dOp d
  let exact := match s.model (dModel d) with
    | some m => if op = opLoadModel then decide (dMode d = 1) else exactMode (dMode d) m || (decide (op = opLoadCoeff) && m.exactDefault)
    | none => decide (dMode d = 1)
  decide (op ≠ opTrain) && decide (op ≠ opPublish) && decide (op ≠ opMirror) &&
  (decide (op ≠ opClassify) || decide (natAt d 24 1 % 8 < 2)) && !dDev0 d && !dDev1 d &&
  !((usesGang op || op == opLoadCoeff || op == opClassify) && exact) && decide (dMode d ≠ 1) &&
  (!(op == opRunSample || op == opRunAnneal) || (match s.model (dModel d) with | some m => m.homeroom | none => true))

/-- Are the units a descriptor needs READY (12 R325)? -/
def State.unitsReady (s : State) (p : Nat) (d : Desc) : Bool :=
  let op := dOp d
  let rot := match s.model (dModel d) with | some m => m.rotation | none => false
  let gangs := match s.model (dModel d) with
    | some m => if usesGang op && decide (op ≠ opLoadModel) then
        let sets := s.gangSets p m.size m.gangs.length (dGang d)
        decide (sets = []) || sets.any (fun w => w.all (s.gangReady m.size))
      else true
    | none => true
  gangs &&
  (decide (op ≠ opLoadModel) || decide (dGang d = 0xFF) || [0, 1, 2].any (fun z => s.layout.has z (dGang d) && s.gangReady z (dGang d))) &&
  (decide (op ≠ opClassify) || s.unitReady (84 + natAt d 24 1 % 8)) && (decide (op ≠ opPublish) || s.unitReady 100) &&
  (!(dDev0 d || dDev1 d || (rot && (usesGang op || op == opClassify))) || [96, 97, 98, 99].all s.unitReady)

/-- R143 step 3: does the service offer the work? From the start of the handover on it is full service's (05 R118). -/
def State.descServed (s : State) (n p : Nat) (d : Desc) : Bool :=
  let op := dOp d
  let base := op == opNop || op == opFwStage
  (if s.service = svcHomeroom then s.svc.handover || s.homeroomTakes d else if s.service = svcRecovery then base else true) &&
  (!s.isDeputy || (decide (n = s.get Reg.AKG_PAIR_CFG.pair_sq) && (op == opNop || op == opMirror))) &&
  s.unitsReady p d && (!needsSeed d || s.flag Reg.SMP_ENTROPY.health_ok) &&
  (decide (op ≠ opFwStage) || decide (natAt d 25 1 = 1) || s.flag Reg.THM_BANDS.flash_open) &&
  (s.fab.powered || !(usesGang op || op == opLoadCoeff))

/-- The status a descriptor is refused with, none when it is accepted (R143). -/
def State.refusal (s : State) (n p : Nat) (d : Desc) : Option Nat :=
  if !s.descOk d then some 0x20 else if !s.descOwned p d then some 0x22 else if !s.descServed n p d then some 0x21 else none

/-! Arbitration (R149). -/

/-- Descriptors in flight of a partition. -/
def State.partFlights (s : State) (p : Nat) : Nat := (s.host.flights.filter (fun f => decide (f.part = p))).length

/-- Places other partitions' inflight_min still hold back. -/
def State.heldBack (s : State) (p : Nat) : Nat :=
  ((List.range 9).map (fun q => if q = p then 0 else (s.part q).inflightMin - s.partFlights q)).sum

/-- Does the in-flight limit let SQ `n` fetch? -/
def State.limitLets (s : State) (n : Nat) : Bool :=
  let p := (s.sqOwner n).getD 0
  let all := s.host.flights.length
  let urgent := decide (s.get (Reg.HIF_SQ_CFG.priority n) = 7)
  decide (all + s.heldBack p < 2048) && decide (s.partFlights p < (s.part p).inflightMax) &&
  (urgent || decide (all < 2048 - s.get Reg.HIF_FETCH_CFG.urgent_reserve))

/-- Does SQ `n` have something to fetch and room for its completion: enabled, running, its CQ not stopped and free enough (R149, R159)? While its function's Bus Master Enable is 0 it is passed over without an error (DESIGN CHOICE, log 131: the spec names no fetch error there). -/
def State.sqReady (s : State) (n : Nat) : Bool :=
  let cq := s.get (Reg.HIF_SQ_CFG.cq n)
  s.sqOn n && !s.sqStop n && decide (0 < s.sqWaiting n) && (s.sqOwner n).isSome && s.cqOn cq && !s.cqStop cq &&
  decide ((s.sqFlights n).length + 1 ≤ s.cqSize cq - s.cqUsed cq) && (s.fnCfg ((s.sqOwner n).getD 0)).busMaster &&
  (!s.isDeputy || decide (n = s.get Reg.AKG_PAIR_CFG.pair_sq))

/-- The SQ of a list whose turn it is: highest priority first, then round robin after the one served last, which keeps its turn while it has fetches left; a priority written during a turn counts from the next (R140, R149). -/
def State.pickSq (s : State) (ready : List Nat) : Option Nat :=
  let turn := ready.contains s.host.turnSq && decide (0 < s.host.turnLeft)
  let prio := fun n => if turn then s.host.turnPrios.getD n 0 else s.get (Reg.HIF_SQ_CFG.priority n)
  let top := ready.foldl (fun p n => max p (prio n)) 0
  let mine := ready.filter (fun n => decide (prio n = top))
  if turn && mine.contains s.host.turnSq then some s.host.turnSq
  else match mine.find? (fun n => decide (s.host.turnSq < n)) with
    | some n => some n
    | none => mine.head?

/-- The SQ that fetches next, of those that may (R149). -/
def State.arbiter (s : State) : Option Nat := s.pickSq ((List.range 64).filter (fun n => s.sqReady n && s.limitLets n))

/-- Is a turn lost: does a limit keep the SQ whose turn it is from fetching (R149)? -/
def State.turnLost (s : State) : Bool :=
  match s.pickSq ((List.range 64).filter s.sqReady) with
  | none => false
  | some n => !s.limitLets n

/-- May the module fetch at all: a service that runs the rings, not swapping roles, core 0 not halted (15 R407)? -/
def State.mayFetch (s : State) : Bool :=
  s.mayPost && (decide (s.service = svcHomeroom) || decide (s.service = svcFull) || decide (s.service = svcRecovery)) && !s.swapDrains && !s.halted 0

/-- The descriptor is copied on-die: head, flight, counts (R136, R141). -/
def State.takeDesc (s : State) (n : Nat) (d : Desc) : State :=
  let p := (s.sqOwner n).getD 0
  let h := s.host
  let id := h.nextId
  let last := h.sqLast.getD n 0
  let done := (h.sqLastDone.getD n none)
  let prev := (h.flights.find? (fun f => decide (f.id = last) && decide (f.sq = n))).map (·.id)
  let f : Flight := ⟨id, n, p, d, .waiting, 0, false, s.svc.handover && decide (s.service = svcHomeroom),
    if dChain d then prev else none, dChain d && prev.isNone && (match done with | some st => decide (0x10 ≤ st) | none => false), s.smpDefaults⟩
  let goesOn := decide (h.turnSq = n) && decide (0 < h.turnLeft)
  let left := if goesOn then h.turnLeft - 1
    else s.get (Reg.HIF_SQ_CFG.weight n) * s.get Reg.HIF_FETCH_CFG.fetch_burst - 1
  let s1 := s.withHost { h with
    flights := h.flights ++ [f], nextId := id + 1, turnSq := n, turnLeft := left
    turnPrios := if goesOn then h.turnPrios else (List.range 64).map (fun k => s.get (Reg.HIF_SQ_CFG.priority k))
    sqLast := h.sqLast.set n id, sqLastDone := h.sqLastDone.set n none }
  let s2 := (s1.put (Reg.HIF_SQ_STATE.head n) ((s.get (Reg.HIF_SQ_STATE.head n) + 1) % s.sqSize n)).showFlights n
  s2.bump (Reg.HIF_SQ_STATUS.fetched n)

/-- A fetched descriptor is traced, checked, and refused or kept; one that no check refuses ends ABORTED behind a failed predecessor of its chain (R143, Table 06-6, 15 R409). -/
def State.fetchDesc (s : State) (n : Nat) (d : Desc) : State :=
  let id := s.host.nextId
  let p := (s.sqOwner n).getD 0
  let addr := s.sqBase n + 64 * s.get (Reg.HIF_SQ_STATE.head n)
  let s1 := (s.traceAccess 4 p 0 addr d false).takeDesc n d
  match s1.flight id with
  | none => s1
  | some f =>
    match s.refusal n p d with
    | some st => s1.finish id st 0 0
    | none => if f.chainBad then s1.chainAborts else s1.showPublish

/-! Partition commit (R151, R152, 07 R166, 15 R419). -/

/-- The staged fields of a partition. -/
def State.stagedPart (s : State) (p : Nat) : PartCfg where
  quads := s.get (Reg.HIF_PART_QUADS.quads p)
  sqs := s.get (Reg.HIF_PART_SQ_LO.sq_lo p) + s.get (Reg.HIF_PART_SQ_HI.sq_hi p) * 2 ^ 32
  cqs := s.get (Reg.HIF_PART_CQ_LO.cq_lo p) + s.get (Reg.HIF_PART_CQ_HI.cq_hi p) * 2 ^ 32
  memBase := s.get (Reg.HIF_PART_MEM.mem_base p)
  memSize := s.get (Reg.HIF_PART_MEM.mem_size p)
  streams := s.get (Reg.HIF_PART_OWN.streams p)
  syllabus := s.flag (Reg.HIF_PART_OWN.syllabus p)
  hallPass := s.flag (Reg.HIF_PART_OWN.hall_pass p)
  akgal := s.flag (Reg.HIF_PART_OWN.akgal p)
  eventCq := s.get (Reg.HIF_PART_OWN.event_cq p)
  eventEn := s.flag (Reg.HIF_PART_OWN.event_en p)
  inflightMax := s.get (Reg.HIF_PART_INFLIGHT.inflight_max p)
  inflightMin := s.get (Reg.HIF_PART_INFLIGHT.inflight_min p)

/-- Everything a partition owns, as one number: quads, SQs, CQs, LPDDR5X units, streams, the three ownership bits. -/
def PartCfg.owned (c : PartCfg) : Nat :=
  let mem := ((List.range 128).filter (fun u => decide (c.memBase ≤ u) && decide (u < c.memBase + c.memSize))).foldl (fun a u => a + 2 ^ u) 0
  c.quads + c.sqs * 2 ^ 16 + c.cqs * 2 ^ 80 + mem * 2 ^ 144 + c.streams * 2 ^ 272 +
  (if c.syllabus then 2 ^ 280 else 0) + (if c.hallPass then 2 ^ 281 else 0) + (if c.akgal then 2 ^ 282 else 0)

/-- Is a resource given to two partitions? -/
def overlap (l : List PartCfg) : Bool :=
  (l.foldl (fun (acc : Nat × Bool) c => (acc.1 ||| c.owned, acc.2 || decide (acc.1 &&& c.owned ≠ 0))) (0, false)).2

/-- Resources in use, in the numbering of `owned` (R152): quads with a model or work, enabled rings, memory units of loaded models, streams with a standing CLASSIFY_STREAM, and what descriptors in flight hold. -/
def State.busyOwned (s : State) : Nat :=
  let bit := fun (b : Bool) (n : Nat) => if b then 2 ^ n else 0
  let quads := ((List.range 16).map (fun q => bit ((quadTiles q).any s.tileTaken) q)).sum
  let sqs := ((List.range 64).map (fun n => bit (s.sqOn n || decide (s.sqFlights n ≠ [])) (16 + n))).sum
  let cqs := ((List.range 64).map (fun n => bit (s.cqOn n || s.host.held.any (fun h => decide (h.cq = n))) (80 + n))).sum
  let streams := ((List.range 8).map (fun t => bit (s.cap.standing.any (fun x => decide (x.stream = t))) (272 + t))).sum
  let op := fun (o : Nat) => s.host.flights.any (fun f => decide (dOp f.bytes = o))
  let meets := fun (p off len u : Nat) => decide (s.dramAddr p off / 2 ^ 28 ≤ u) && decide (u * 2 ^ 28 < s.dramAddr p off + len)
  let endless := fun (d : Desc) => decide (dOp d = opClassify) && dDev0 d && decide (dAddr0 d ≠ 0) && decide (natAt d 28 4 = 0xFFFFFFFF)
  let mem := ((List.range 128).map (fun u => bit
    (s.host.flights.any (fun f => (s.memRanges f.bytes).any (fun r => meets f.part r.1 r.2 u) ||
       (endless f.bytes && meets f.part (dAddr0 f.bytes) ((s.part f.part).memSize * 2 ^ 28 - dAddr0 f.bytes) u)) ||
     s.fab.models.any (fun x => decide (x.2.devBytes ≠ 0) && meets x.2.part x.2.devBase x.2.devBytes u)) (144 + u))).sum
  quads + sqs + cqs + mem + streams + bit (op opBankSwap) 280 + bit (op opPublish) 281 + bit (op opMirror || decide (s.role ≠ 0)) 282

/-- HIF_PART_COMMIT.commit (R152). -/
def State.partCommit (s : State) : State :=
  let new := (List.range 9).map s.stagedPart
  let mins := (new.map (·.inflightMin)).sum
  let moved := ((List.range 9).map (fun p => ((s.part p).owned) ^^^ ((new.getD p PartCfg.none).owned))).foldl (· ||| ·) 0
  if overlap new || decide (2048 - s.get Reg.HIF_FETCH_CFG.urgent_reserve < mins) then s.put Reg.HIF_PART_COMMIT.result 2
  else if moved &&& s.busyOwned ≠ 0 then s.put Reg.HIF_PART_COMMIT.result 3
  else
    let s1 := (s.withHost { s.host with parts := new }).put Reg.HIF_PART_COMMIT.result 1
    let r := s.get Reg.FAB_GANG_CFG.region16
    let kept := ((List.range 4).map (fun R => if r.testBit R && s1.regionWhole R then 2 ^ R else 0)).sum
    s1.put Reg.FAB_GANG_CFG.region16 kept

end Sys2Proof.Machine
end

