-- ==== Sys2Proof/Machine/ShareOps.lean ====
section
/-!
DEFINITION. Machine/ShareOps.lean: models shared by the members of a system: loads, starts, sweeps and results (spec/11_akgal_pairs.md R287, R288, R304).
-/
namespace Sys2Proof.Machine

open Sys2Proof

/-- Members that share a slot, ascending; none when it is not shared, or on a pair member, a system of size 1 (Table 11-10, R284). -/
def State.members (s : State) (slot : Nat) : List Nat :=
  let l := (List.range 16).filter (fun i => (s.get (Reg.AKG_SHARE.members slot)).testBit i)
  if decide (l.length < 2) || s.pairProfile then [] else l

/-- This module's index in the system. -/
def State.myIndex (s : State) : Nat := s.get Reg.AKG_SYS_CFG.index

/-- The other members of a slot. -/
def State.others (s : State) (slot : Nat) : List Nat := (s.members slot).filter (fun i => decide (i ≠ s.myIndex))

/-- Is the slot shared? -/
def State.sharedSlot (s : State) (slot : Nat) : Bool := decide (s.members slot ≠ [])

/-- Is this module the leader: the lowest index? -/
def State.leads (s : State) (slot : Nat) : Bool := decide ((s.members slot).head? = some s.myIndex)

/-- A share that holds nothing. -/
def Share.empty (slot : Nat) : Share := ⟨slot, [], none, [], none, [], [], none, 0, 0, false, []⟩

/-- The share of a slot. -/
def State.share (s : State) (slot : Nat) : Share := (s.akg.shares.find? (fun x => decide (x.slot = slot))).getD (Share.empty slot)

/-- Set the share of a slot, slots ascending. -/
def State.setShare (s : State) (x : Share) : State :=
  let l := s.akg.shares
  let l' := l.filter (fun y => decide (y.slot < x.slot)) ++ [x] ++ l.filter (fun y => decide (x.slot < y.slot))
  s.setAkg (fun a => { a with shares := l' })

/-- Send a frame to every other member. -/
def State.tellMembers (s : State) (slot cls : Nat) (m : AkMsg) : State := s.each (s.others slot) (fun t i => t.sendSystem cls i slot m)

/-- Have all members an entry in the list? -/
def State.allMembers (s : State) (slot : Nat) (have_ : List Nat) : Bool := (s.members slot).all (fun i => have_.contains i)

/-- The slot holds no model any more. -/
def State.clearModel (s : State) (slot : Nat) : State :=
  (((s.unmarkTiles slot).setFab (fun f => { f with models := f.models.filter (fun p => decide (p.1 ≠ slot)) })).setWord
    (Reg.FAB_MODEL_STATUS.loaded slot).off 0).setWord (Reg.SMP_SLOT_STATUS.kept slot).off 0

/-- A shared load completes once every member has loaded an image with the same CRC (R287). -/
def State.shareLoadCheck (s : State) (slot : Nat) : State :=
  let x := s.share slot
  match x.load, s.model slot with
  | some (id, r0, r1), some m =>
    if s.allMembers slot ((x.loaded.filter (fun l => decide (l.2 = m.image))).map (·.1)) then
      (s.setShare { x with load := none }).finish id 0 r0 r1
    else s
  | _, _ => s

/-- A load this member had announced is withdrawn from every member (R287). -/
def State.withdrawLoad (s : State) (slot : Nat) : State :=
  let x := s.share slot
  if x.loaded.any (fun l => decide (l.1 = s.myIndex)) then
    (s.setShare { x with load := none, loaded := x.loaded.filter (fun l => decide (l.1 ≠ s.myIndex)) }).tellMembers slot 1 (.shareDropped slot true)
  else s

/-- LOAD_MODEL on a shared slot: the image must be rotated; its completion waits for the other members. -/
def State.shareLoad (s : State) (f : Flight) (b : List Byte) : State :=
  let slot := dModel f.bytes
  if imCode f.smp.rungs b = 0 && !imFlag b 0 then (s.loadFails f 6 0x20 (natAt b 60 4) none).withdrawLoad slot
  else
    let t := s.loadModel f b
    match t.model slot, t.flight f.id with
    | some m, some g =>
      if g.stage = .ended && g.status = 0 then
        let r0 := Config.storageUsed m.image (m.gangs.length * 4 ^ m.size)
        let held := t.host.held.filter (fun h => decide (h.flight ≠ some f.id))
        let u := (t.withHost { t.host with held := held }).mapFlight f.id (fun x => { x with stage := .running })
        let x := u.share slot
        let e := (t.host.held.find? (fun h => decide (h.flight = some f.id))).map (fun h => h.entry.result1)
        ((u.setShare { x with
            load := some (f.id, r0, e.getD 0)
            loaded := x.loaded.filter (fun l => decide (l.1 ≠ s.myIndex)) ++ [(s.myIndex, m.image)] }).tellMembers slot 1
          (.shareLoaded slot m.image)).shareLoadCheck slot
      else t.withdrawLoad slot
    | _, _ => t.withdrawLoad slot

/-- What matching descriptors have in common: the opcode, the model slot and the fields after it, apart from the ring's own flags and tag (R288). -/
def sharedKey (d : Desc) : List Byte := bytesAt d 0 1 ++ bytesAt d 4 60

/-- Entries without the first one of each member. -/
def dropFirsts (members : List Nat) (l : List (Nat × List Byte)) : List (Nat × List Byte) :=
  members.foldl (fun acc i => acc.eraseP (fun x => decide (x.1 = i))) l

/-- A shared run starts once every member has fetched its descriptor: the first each has announced, alike in its fields (R288). -/
def State.shareStart (s : State) (slot : Nat) : State :=
  let x := s.share slot
  let first := fun (i : Nat) => (x.fetched.find? (fun d => decide (d.1 = i))).map (fun d => sharedKey d.2)
  match x.run, first s.myIndex with
  | some r, some k =>
    if (s.members slot).all (fun i => decide (first i = some k)) then
      (s.setShare { x with run := none, fetched := dropFirsts (s.members slot) x.fetched }).submit r
    else s
  | _, _ => s

/-- A run enters the scheduler, on a shared slot together with those of the other members (R288). The earlier run of the slot has ended (slotTurn), so the slot's sums and offers begin anew before the others learn of the fetch. -/
def State.submitShared (s : State) (f : Flight) (r : Run) : State :=
  let slot := dModel f.bytes
  if s.sharedSlot slot then
    let x := s.share slot
    ((s.setShare { x with
        run := some r, fetched := x.fetched ++ [(s.myIndex, f.bytes)], sums := [], offers := [], part := none, wave := 0, awaits := false, waved := [] }).tellMembers slot 1
      (.shareFetched slot f.bytes)).shareStart slot
  else s.submit r

/-- Does a member own block `i` of a slot (R287)? -/
def State.ownsBlock (s : State) (slot member i : Nat) : Bool :=
  let l := s.members slot
  decide (l.getD (i % max l.length 1) 0 = member)

/-- The blocks of a member. -/
def State.memberBlocks (s : State) (slot member : Nat) (m : Model) : List RotBlock :=
  m.blocks.zipIdx.filterMap (fun b => if s.ownsBlock slot member b.2 then some b.1 else none)

/-- Does one of the blocks hold the position? -/
def inBlocks (l : List RotBlock) (p : Nat) : Bool := l.any (fun b => decide (b.first ≤ p) && decide (p < b.first + b.count))

/-- Key of a partial: replica above, position below. -/
def sumKey (replica p : Nat) : Nat := replica * 2 ^ 28 + p

/-- Further field terms of a replica: the partials received for it (R288). -/
def Share.extra (x : Share) (replica : Nat) : List (Nat × Dy) :=
  (x.sums.filter (fun e => decide (e.1 / 2 ^ 28 = replica))).map (fun e => (e.1 % 2 ^ 28, Dy.ofInt e.2))

/-- A partial arrives and is added modulo 2^68 (R179, R288). -/
def Share.addSum (x : Share) (key : Nat) (v : Int) : Share :=
  { x with sums := Store.write (fun _ => (0 : Int)) x.sums key (wrap68 (Store.read (fun _ => (0 : Int)) x.sums key + v)) }

/-- The product of one flipped position in another's field: of the banks and of the dev_bytes area (07 R179). -/
def Model.productOf (m : Model) (ts : List Term) (p flipped : Nat) : Int :=
  ((ts.filter (fun t => decide (m.rowPos t = p) && decide (m.colPos t = flipped))).map (fun t => t.aligned m.eMin)).sum +
    Config.rotCoupling m.image p flipped

/-- The partials of a replica's flips for the other members' positions are sent to their owners (R288, 07 R179). -/
def State.sendPartials (s : State) (slot replica : Nat) (m : Model) (old new : List Nat) : State :=
  let a := (m.occupancy old).toArray
  let b := (m.occupancy new).toArray
  let ts := m.terms
  let flips := ((List.range m.positions).map (fun p => (p, ((b.getD p 0 : Nat) : Int) - ((a.getD p 0 : Nat) : Int)))).filter (fun x => decide (x.2 ≠ 0))
  s.each (s.others slot) (fun t i => t.each ((List.range m.positions).filter (inBlocks (s.memberBlocks slot i m))) (fun u p =>
    let v := (flips.map (fun x => x.2 * m.productOf ts p x.1)).sum
    if v = 0 then u else u.sendSystem 0 i slot (.partialSum slot (sumKey replica p) v)))

/-- Place of a new state among kept ones: before the first it precedes; none when it is not kept (R212). -/
def placeOf (k : Nat) (track : List Tracked) (x : Tracked) : Option Nat :=
  let i := (track.findIdx? (fun y => x.before y)).getD track.length
  if track.length < k then some i
  else match track.getLast? with
    | some w => if x.energy < w.energy then some i else none
    | none => none

/-- A decided offer changes a member's tracker (R288). -/
def decideTrack (k : Nat) (track : List Tracked) (x : Tracked) (visit place : Option Nat) : List Tracked :=
  match visit, place with
  | some j, _ => track.modify j (fun t => { t with visits := min (t.visits + 1) 0xFFFFFFFF })
  | none, some i => (track.take i ++ [x] ++ track.drop i).take k
  | none, none => track

/-- The shared run on a slot. -/
def State.sharedRun (s : State) (slot : Nat) : Option Run :=
  s.fab.runs.find? (fun r => decide (r.slot = slot) && (match r.kind with | .record _ _ => false | _ => true))

/-- A member learns the leader's decision: the replica's energy, its tracker, the next replica. -/
def State.shareDecided (s : State) (slot : Nat) (energy : Int) (visit place : Option Nat) : State :=
  let x := s.share slot
  match x.part, s.sharedRun slot with
  | some (i, packed, rung), some r =>
    let p := r.path
    let p' : Path := { p with
      reps := p.reps.modify i (fun y => { y with energy := energy })
      track := decideTrack r.k p.track ⟨energy, packed, 1, rung⟩ visit place
      next := p.next + 1 }
    (s.setShare { x with part := none }).mapRun r.id (fun q => { q with path := p' })
  | _, _ => s

/-- Does a cross-block product couple two blocks? -/
def Model.coupled (m : Model) (ts : List Term) (b c : RotBlock) : Bool :=
  (List.range b.count).any (fun i => (List.range c.count).any (fun j =>
    decide (m.productOf ts (b.first + i) (c.first + j) ≠ 0) || decide (m.productOf ts (c.first + j) (b.first + i) ≠ 0)))

/-- The waves: consecutive blocks with no couplings between them, by their numbers (R288). -/
def Model.waves (m : Model) : List (List Nat) :=
  let ts := m.terms
  let block := fun (b : Nat) => m.blocks.getD b ⟨0, 0, 0, 0, 0⟩
  (List.range m.blocks.length).foldl (fun (acc : List (List Nat)) b =>
    match acc.getLast? with
    | some w => if w.any (fun c => m.coupled ts (block c) (block b)) then acc ++ [[b]] else acc.dropLast ++ [w ++ [b]]
    | none => [[b]]) []

/-- May the next wave start: has every other member finished the one before, its updates received (R288)? -/
def Share.waveOpen (x : Share) (others : List Nat) : Bool := !x.awaits || others.all (fun i => x.waved.contains i)

/-- The share as its next wave starts. -/
def Share.openWave (x : Share) (others : List Nat) : Share :=
  { x with awaits := true, waved := if x.awaits then others.foldl (fun l i => l.erase i) x.waved else x.waved }

/-- The leader decides an offer once every member's part of it is here (R288). -/
def State.shareLead (s : State) (slot : Nat) : State :=
  let x := s.share slot
  match x.part, s.sharedRun slot with
  | some (_, packed, rung), some r =>
    if s.leads slot && s.allMembers slot (x.offers.map (·.1)) then
      let energy := wrap68 (x.base + (x.offers.map (fun o => o.2.1)).sum)
      let all := r.path.track.zipIdx.map (fun b => x.offers.all (fun o => o.2.2.getD b.2 false))
      let visit := all.findIdx? (fun b => b)
      let place := if visit.isSome then none else placeOf r.k r.path.track ⟨energy, packed, 1, rung⟩
      ((s.setShare { x with offers := [] }).tellMembers slot 1 (.shareDecide slot energy visit place)).shareDecided slot energy visit place
    else s
  | _, _ => s

/-- This member's part of an offer goes to the leader: the change of energy, and which kept states its part matches (R288). -/
def State.shareOffers (s : State) (r : Run) (packed rung : Nat) (energy : Int) : State :=
  let slot := r.slot
  let x := s.share slot
  let same := r.path.track.map (fun t => decide (t.packed = packed))
  let y := { x with wave := 0, part := some (r.path.next, packed, rung) }
  if s.leads slot then (s.setShare { y with offers := y.offers ++ [(s.myIndex, energy - x.base, same)] }).shareLead slot
  else (s.setShare y).sendSystem 1 ((s.members slot).headD 0) slot (.shareOffer slot (energy - x.base) same)

/-- One wave of a replica's sweep on a shared model: own blocks of the wave, their partials out; after the last wave, the offer (R288; DESIGN CHOICE, log 143: a REPLICA_SWEEP of a shared run is one wave, and does nothing while the wave before is not finished or an offer not decided). -/
def State.shareSweep (s : State) (r : Run) (m : Model) : State :=
  let slot := r.slot
  let x := s.share slot
  if x.part.isSome || !x.waveOpen (s.others slot) then s
  else
    let i := r.path.next
    let old := r.path.reps.getD i ⟨[], 0, 0⟩
    let waves := m.waves
    let own := ((waves.getD x.wave []).filter (fun b => s.ownsBlock slot s.myIndex b)).map (fun b => m.blocks.getD b ⟨0, 0, 0, 0, 0⟩)
    let y := r.sweepOnly { m with blocks := own } (x.extra i)
    let x' := { x.openWave (s.others slot) with wave := x.wave + 1, base := if x.wave = 0 then old.energy else x.base }
    let swept := (((s.setShare x').mapRun r.id (fun _ => y.2)).sendPartials slot i m old.levels y.1.levels).tellMembers slot 1 (.shareWave slot)
    if x.wave + 1 < waves.length then swept else swept.shareOffers r (m.pack y.1.levels) y.1.rung y.1.energy

/-- Bits of a packed state that a member's blocks hold. -/
def Model.blockBits (m : Model) (own : List RotBlock) : List Nat :=
  (m.vars.foldl (fun (acc : Nat × List Nat) v =>
    let n := if v.two then 1 else 4
    (acc.1 + n, if inBlocks own v.first then acc.2 ++ (List.range n).map (fun j => acc.1 + j) else acc.2)) (0, [])).2

/-- A shared run's result area: the leader's header and record fields, each member's part of the packed states (R288). -/
def State.writeShared (s : State) (f : Flight) (r : Run) (m : Model) (header : List Byte) : State :=
  let base := dAddr1 f.bytes
  let dev := dDev1 f.bytes
  let bytes := ((m.blockBits (s.memberBlocks r.slot s.myIndex m)).map (· / 8)).eraseDups
  let s1 := if s.leads r.slot then
      (s.writeOut r.part dev base header).each r.path.track.zipIdx (fun t x =>
        t.writeOut r.part dev (base + 64 + m.stride * x.2) ((m.trackedBytes x.1).take 16))
    else s
  s1.each r.path.track.zipIdx (fun t x => t.each bytes (fun u j =>
    u.writeOut r.part dev (base + 64 + m.stride * x.2 + 16 + j) (leBytes 1 (x.1.packed / 2 ^ (8 * j)))))

/-- Shared work of a slot ends: a load BAD_DESC with the slot left empty and the load withdrawn, a run ABORTED (R287, R304). -/
def State.shareFails (s : State) (slot : Nat) : State :=
  let x := s.share slot
  match x.load with
  | some (id, _, _) => ((s.withdrawLoad slot).clearModel slot).finish id 0x20 0 0
  | none =>
    let s0 := s.setShare { x with run := none, fetched := [], offers := [], part := none, wave := 0, awaits := false, waved := [] }
    let s1 := s0.when_ x.run.isSome (·.tellMembers slot 1 (.shareDropped slot false))
    let s2 := match x.run with | some r => s1.finish r.id 0x13 0 0 | none => s1
    s2.each (s.fab.runs.filter (fun r => decide (r.slot = slot))) (fun t r => t.failRun r.id 0x13)

end Sys2Proof.Machine
end

