-- ==== Sys2Proof/Machine/SyllabusOps.lean ====
section
/-!
DEFINITION. Machine/SyllabusOps.lean: rule images and Syllabus passes (spec/09_capture_syllabus.md R239 to R246).
-/
namespace Sys2Proof.Machine

open Sys2Proof

/-- What an unlisted byte of a rule image reads as. -/
def ruleBlank (_ : Nat) : Byte := 0

/-- The image of a rule bank. -/
def State.rules (s : State) (b : Nat) : Store Byte := if b = 0 then s.cap.bank0 else s.cap.bank1

/-- Replace the image of a bank. -/
def State.setRules (s : State) (b : Nat) (x : Store Byte) : State :=
  s.setCap (fun c => if b = 0 then { c with bank0 := x } else { c with bank1 := x })

/-- The active bank, and the shadow. -/
def State.ruleBank (s : State) : Nat := s.get Reg.SYL_STATUS.active_bank
def State.ruleShadow (s : State) : Nat := 1 - s.ruleBank

/-! Images (R241, R244, Tables 09-5 to 09-7). -/

/-- `n` bytes of an image as a little-endian number. -/
def ruleNat (m : Store Byte) (i n : Nat) : Nat := leNat (Store.readList ruleBlank m i n)

/-- Stages of an image; kind, entry count and offset of a stage, and the field of an extract. -/
def ruleStages (m : Store Byte) : Nat := ruleNat m 6 1
def stageKind (m : Store Byte) (k : Nat) : Nat := ruleNat m (64 + 32 * k) 1
def stageCount (m : Store Byte) (k : Nat) : Nat := ruleNat m (64 + 32 * k + 2) 2
def stageOffset (m : Store Byte) (k : Nat) : Nat := ruleNat m (64 + 32 * k + 4) 4
def stageField (m : Store Byte) (k j : Nat) : Nat := ruleNat m (64 + 32 * k + 8 + j) 1

/-- Bytes of an entry, and where its action starts: exact is key and action, ternary key, mask and action. -/
def entrySize (kind : Nat) : Nat := if kind = 0 then 48 else 64
def entryAt (m : Store Byte) (k i : Nat) : Nat := stageOffset m k + entrySize (stageKind m k) * i
def actionAt (m : Store Byte) (k i : Nat) : Nat := entryAt m k i + entrySize (stageKind m k) - 32

/-- An action of Table 09-5. -/
structure Action where
  value : Nat
  mask : Nat
  flags : Nat
  priority : Nat
  model : Nat
  vectors : Nat
  tag : Nat
  resitStage : Nat
  deriving DecidableEq, Repr

/-- Read an action. -/
def readAction (m : Store Byte) (a : Nat) : Action :=
  ⟨ruleNat m a 8, ruleNat m (a + 8) 8, ruleNat m (a + 16) 1, ruleNat m (a + 17) 1, ruleNat m (a + 18) 2, ruleNat m (a + 20) 2,
   ruleNat m (a + 22) 2, ruleNat m (a + 24) 1⟩

/-- Flag bits: route, prio, drop, mirror, tag, resit, stop. -/
def Action.has (x : Action) (n : Nat) : Bool := x.flags.testBit n

/-- Is an action valid: reserved bits 0, and every field in range whichever flags are set (R241, Table 09-5)? -/
def actionOk (m : Store Byte) (a : Nat) : Bool :=
  let x := readAction m a
  decide (x.flags < 128) && decide (x.priority < 8) && decide (x.resitStage < 8) && decide (ruleNat m (a + 25) 7 = 0) &&
  decide (x.model < 256) && decide (1 ≤ x.vectors) && decide (x.vectors ≤ 4096) && decide (x.resitStage < ruleStages m)

/-- Field IDs of Table 09-4. -/
def fieldKnown (f : Nat) : Bool := decide (f ≤ 0x18) || (decide (0x20 ≤ f) && decide (f ≤ 0x23)) || (decide (0x28 ≤ f) && decide (f ≤ 0x40))

/-- Exact entries of an image: four always find a place, a bucket holding four (R245). -/
def exactEntries (m : Store Byte) : Nat :=
  ((List.range (ruleStages m)).map (fun k => if stageKind m k = 0 then stageCount m k else 0)).sum

/-- Some two of a stage's exact entries have one key. -/
def sameKeys (m : Store Byte) (k : Nat) : Bool :=
  let keys := (List.range (stageCount m k)).map (fun i => ruleNat m (entryAt m k i) 16)
  decide (keys.eraseDups.length ≠ keys.length)

/-- The first failure of a build, in the order of Table 09-8; 0 for none (R245). Reserved header bytes and a bad length count as format, reserved descriptor bytes as stage kind (DESIGN CHOICE). -/
def imageError (m : Store Byte) (seed : Nat) : Nat :=
  let len := ruleNat m 8 4
  let n := ruleStages m
  let ks := List.range n
  let top := 64 + 32 * n
  if ruleNat m 0 4 ≠ 0x31534C59 then 1
  else if ruleNat m 4 2 ≠ 1 || ruleNat m 7 1 ≠ 0 || ruleNat m 16 48 ≠ 0 || len < 64 || len % 64 ≠ 0 || 6291776 < len then 2
  else if crc32 (Store.readList ruleBlank m 0 12 ++ [0, 0, 0, 0] ++ Store.readList ruleBlank m 16 (len - 16)) ≠ ruleNat m 12 4 then 3
  else if n = 0 || 8 < n || (List.range 8).any (fun k => if k < n then decide (1 < stageKind m k) || decide (ruleNat m (64 + 32 * k + 1) 1 ≠ 0) ||
      decide (ruleNat m (64 + 32 * k + 16) 16 ≠ 0) else decide (64 + 32 * k + 32 ≤ len) && ks.all (fun j => 64 + 32 * k + 32 ≤ stageOffset m j) &&
      decide (ruleNat m (64 + 32 * k) 32 ≠ 0)) then 4
  else if ks.any (fun k => decide (stageOffset m k % 64 ≠ 0) || decide (stageOffset m k < top) ||
      decide (len < stageOffset m k + entrySize (stageKind m k) * stageCount m k)) then 5
  else if ks.any (fun k => decide ((if stageKind m k = 0 then 16384 else 512) < stageCount m k)) then 6
  else if ks.any (fun k => (List.range 8).any (fun j => !fieldKnown (stageField m k j))) then 7
  else if ks.any (fun k => (List.range (stageCount m k)).any (fun i => !actionOk m (actionAt m k i))) then 8
  else if decide (4 < exactEntries m) && Config.placeFails (ruleNat m 12 4) seed then 9
  else if ks.any (fun k => stageKind m k = 0 && sameKeys m k) then 0xA
  else 0

/-- The shadow bank is built: valid, or its first error shown (R245). -/
def State.buildShadow (s : State) : State :=
  let e := imageError (s.rules s.ruleShadow) (s.get Reg.SYL_HASH_SEED.hash_seed)
  ((s.setCap (fun c => { c with building := false, shadowGood := decide (e = 0) })).put Reg.SYL_STATUS.image_error e).putFlag Reg.SYL_STATUS.shadow_valid (decide (e = 0))

/-- The shadow image has been written: it is no longer built, and a build under way is abandoned. -/
def State.shadowTouched (s : State) : State :=
  (s.setCap (fun c => { c with building := false })).put Reg.SYL_STATUS.shadow_valid 0

/-- A write of SYL_SHADOW_DATA (R253, Table 09-13). -/
def State.shadowData (s : State) (v : Nat) : State :=
  if s.flag Reg.SYL_STATUS.swap_pending then s.put Reg.SYL_STATUS.write_refused 1
  else
    let a := s.get Reg.SYL_SHADOW_ADDR.shadow_addr
    ((s.setRules s.ruleShadow (Store.writeList ruleBlank (s.rules s.ruleShadow) a (leBytes 4 v))).shadowTouched).put
      Reg.SYL_SHADOW_ADDR.shadow_addr (a + 4)

/-- A write of SYL_SHADOW_CTRL: the clear comes before the build (R245, R253). -/
def State.shadowCtrl (s : State) (clear build : Bool) : State :=
  if !clear && !build then s
  else if s.flag Reg.SYL_STATUS.swap_pending then s.put Reg.SYL_STATUS.write_refused 1
  else
    let s1 := s.when_ clear (fun t => (t.setRules t.ruleShadow []).shadowTouched)
    s1.when_ build (fun t => ((t.setCap (fun c => { c with building := true })).put Reg.SYL_STATUS.shadow_valid 0).put
      Reg.SYL_STATUS.image_error 0)

/-- The banks flip; the old one is the shadow with its rules intact and shadow_valid at 1 (R246). active_valid says whether the bank now active holds a built image (Table 09-13). -/
def State.flipRules (s : State) (flight : Nat) : State :=
  let was := s.flag Reg.SYL_STATUS.active_valid
  let s1 := ((s.put Reg.SYL_STATUS.active_bank s.ruleShadow).putFlag Reg.SYL_STATUS.active_valid s.cap.shadowGood).put Reg.SYL_STATUS.shadow_valid 1
  (s1.setCap (fun c => { c with shadowGood := was, flipped := some (flight, s.ruleShadow, s.time) })).put Reg.SYL_STATUS.swap_pending 1

/-! Passes (R239, R240, R242). -/

/-- A 16-bit field of a record (Table 09-4); what did not arrive reads 0. A Capture-link record is classified at its header, so its truncated bit is 0 (R255). -/
def Rec.field (r : Rec) (bank f : Nat) : Nat :=
  let half := fun (v j : Nat) => v / 2 ^ (16 * j) % 2 ^ 16
  let bit := fun (b : Bool) (n : Nat) => if b then 2 ^ n else 0
  if f = 0x01 then r.stream + bit r.vita 3 + bit (r.vita && r.truncated) 4 + bit r.fragment 5 + r.pass * 2 ^ 8 + bank * 2 ^ 10
  else if f = 0x02 then r.signature
  else if f = 0x03 then r.channel + r.flags * 256
  else if f = 0x04 ∨ f = 0x05 then half r.len (f - 0x04)
  else if f = 0x06 ∨ f = 0x07 then half r.seq (f - 0x06)
  else if 0x08 ≤ f ∧ f ≤ 0x0B then half r.stamp (f - 0x08)
  else if 0x0C ≤ f ∧ f ≤ 0x0F then half r.user0 (f - 0x0C)
  else if 0x10 ≤ f ∧ f ≤ 0x13 then half r.user1 (f - 0x10)
  else if 0x14 ≤ f ∧ f ≤ 0x17 then half r.metadata (f - 0x14)
  else if f = 0x18 then r.presence
  else ((r.fields.find? (fun x => decide (x.1 = f))).map (·.2)).getD 0

/-- The 128-bit key of a stage (R239). -/
def Rec.key (r : Rec) (m : Store Byte) (bank k : Nat) : Nat :=
  ((List.range 8).map (fun j => r.field bank (stageField m k j) * 2 ^ (16 * j))).sum

/-- The entry that hits, if any (R240). -/
def hitOf (m : Store Byte) (k key : Nat) : Option Nat :=
  (List.range (stageCount m k)).find? (fun i =>
    let a := entryAt m k i
    if stageKind m k = 0 then decide (ruleNat m a 16 = key)
    else decide ((key ^^^ ruleNat m a 16) &&& ruleNat m (a + 16) 16 = 0))

/-- The record after a hit's action; the stage a resit asks for is kept apart (R242). -/
def Rec.hit (r : Rec) (x : Action) : Rec :=
  { r with
    metadata := (r.metadata &&& (2 ^ 64 - 1 - x.mask)) ||| (x.value &&& x.mask)
    route := if x.has 0 then some (x.model, x.vectors) else r.route
    prio := if x.has 1 then some x.priority else r.prio
    drop := r.drop || x.has 2
    mirror := r.mirror || x.has 3
    tag := if x.has 4 then x.tag else r.tag }

/-- A pass as it goes: the record, the resit stage asked for, whether it has stopped. -/
structure PassRun where
  rec_ : Rec
  resit : Option Nat
  stopped : Bool
  deriving DecidableEq, Repr

/-- One stage of a pass. -/
def PassRun.stage (m : Store Byte) (bank : Nat) (p : PassRun) (k : Nat) : PassRun :=
  if p.stopped || p.rec_.bypass.testBit k then p
  else match hitOf m k (p.rec_.key m bank k) with
    | none => p
    | some i =>
      let x := readAction m (actionAt m k i)
      ⟨p.rec_.hit x, if x.has 5 then some x.resitStage else p.resit, x.has 6⟩

/-- A whole pass, from the record's entry stage (R242). -/
def runPass (m : Store Byte) (bank : Nat) (r : Rec) : PassRun :=
  ((List.range (ruleStages m)).filter (fun k => decide (r.stage ≤ k))).foldl (PassRun.stage m bank) ⟨r, none, false⟩

end Sys2Proof.Machine
end

