-- ==== Sys2Proof/Machine/CaptureOps.lean ====
section
/-!
DEFINITION. Machine/CaptureOps.lean: records from framing to verdict: buffers, Ethernet frames, routing, standing descriptors, feature stage and reduction (spec/09_capture_syllabus.md R229 to R257; 06 R146; 08 R215; 10 R266).
-/
namespace Sys2Proof.Machine

open Sys2Proof

/-! Framing (R229, R236, R237, R252, R256). -/

/-- The partition that owns a stream. -/
def State.streamOwner (s : State) (stream : Nat) : Nat :=
  ((List.range 9).find? (fun p => (s.part p).streams.testBit stream)).getD 0

/-- Does a standing CLASSIFY_STREAM take the stream's records? On a Deputy, the Prefect's mirrored one (R256, 11 R289). -/
def State.consumes (s : State) (stream : Nat) : Bool :=
  let on := decide (s.service = svcFull) || decide (s.service = svcEntering) || decide (s.service = svcWaking) ||
    (decide (s.service = svcHomeroom) && decide (stream < 2))
  on && s.unitReady (84 + stream) &&
  (if s.isDeputy then s.akg.mirror.flights.any (fun f => f.standing && decide (natAt f.bytes 24 1 % 8 = stream))
   else (s.standingOf stream).isSome)

/-- The Capture link's next blocks are a record's payload, kept or discarded (R231, R232). -/
def State.follow (s : State) (r : Rec) (id : Option Nat) : State :=
  if r.vita then s else s.setCap (fun c => { c with onLink := some ⟨id, r.stream, r.len, r.header, []⟩ })

/-- A framed record is counted, and lands unless its source, its consumer or its space refuses it. -/
def State.takeRec (s : State) (r : Rec) : State :=
  let s1 := (s.bump (Reg.CAP_STREAM_RECORDS.records_in r.stream)).put (Reg.CAP_STREAM_LAST_SEQ.last_seq r.stream) r.seq
  if s.flag (Reg.CAP_STREAM_CFG.source r.stream) != r.vita then (s1.bump (Reg.CAP_STREAM_ERR.wrong_source r.stream)).follow r none
  else if !s.consumes r.stream then (s1.bump (Reg.CAP_STREAM_DISCARD.discarded_no_consumer r.stream)).follow r none
  else if 524288 < s.reserved r.stream + recSpace r.len then (s1.bump (Reg.CAP_STREAM_DISCARD.discarded_full r.stream)).follow r none
  else
    let id := s.host.nextId
    (((s1.withHost { s1.host with nextId := id + 1 }).setCap (fun c =>
      { c with recs := c.recs ++ [{ r with id := id }] })).follow r (some id)).showReserved r.stream

/-- A record with nothing in it yet. -/
def Rec.empty : Rec where
  id := 0
  stream := 0
  vita := false
  seq := 0
  signature := 0
  channel := 0
  flags := 0
  stamp := 0
  len := 0
  inExp := 0
  user0 := 0
  user1 := 0
  fields := []
  presence := 0
  header := []
  fragment := false
  truncated := false
  data := []
  ended := false
  time := 0
  bank := none
  bypass := 0
  pass := 0
  stage := 0
  metadata := 0
  route := none
  prio := none
  vectors := 0
  tag := 0
  drop := false
  mirror := false
  classified := false
  ready := 0
  flight := none
  egress := false
  short := false
  surplus := false
  finished := false

/-- The record of a Capture link header (Table 09-2). -/
def linkRec (stream : Nat) (h : List Byte) : Rec :=
  { Rec.empty with
    stream := stream
    seq := natAt h 0 4
    signature := natAt h 4 2
    channel := natAt h 6 1
    flags := natAt h 7 1
    stamp := natAt h 8 8
    len := natAt h 16 4
    inExp := signed 8 (natAt h 20 1)
    user0 := natAt h 24 8
    user1 := natAt h 32 8
    presence := 1
    header := bytesAt h 0 64 }

/-- Are payload_len and in_exp in range (Table 09-2)? -/
def linkHeaderOk (h : List Byte) : Bool :=
  decide (64 ≤ h.length) && decide (natAt h 16 4 % 2 = 0) && decide (2 ≤ natAt h 16 4) && decide (natAt h 16 4 ≤ 131072) &&
  decide (-64 ≤ signed 8 (natAt h 20 1)) && decide (signed 8 (natAt h 20 1) ≤ 63)

/-- The header bytes R236 fills for a VITA record, laid out as Table 09-2. -/
def filledHeader (seq stamp len : Nat) (inExp : Int) (user0 : Nat) : List Byte :=
  leBytes 4 seq ++ leBytes 4 0 ++ leBytes 8 stamp ++ leBytes 4 len ++ leBytes 1 (unsigned 8 inExp) ++ leBytes 3 0 ++ leBytes 8 user0 ++ leBytes 32 0

/-! Ethernet frames (R233 to R236, R255). Header layouts are the published ones of Ethernet, IP, UDP and VITA 49.2 (PRESUMED). -/

/-- What the checks of R233 make of a frame. -/
inductive FrameEnd where
  /-- A check of R233 or R234 fails whose frames count in unsupported. -/
  | unsupported
  /-- The FCS, an IP check or a UDP check fails. -/
  | bad
  /-- A packet of Table 09-3 that is discarded and not counted. -/
  | ignored
  /-- A fragment: fields, presence, IP payload. -/
  | fragment (fields : List (Nat × Nat)) (presence : Nat) (data : List Byte)
  /-- A data packet: fields, presence, stream ID if it arrived, class ID, payload, truncated. -/
  | packet (fields : List (Nat × Nat)) (presence : Nat) (sid : Option Nat) (cls : Option (Nat × Nat × Nat)) (data : List Byte) (truncated : Bool)
  deriving DecidableEq, Repr

/-- Halfwords of a number under field IDs from `f` on. -/
def halves (f n v : Nat) : List (Nat × Nat) := (List.range n).map (fun j => (f + j, v / 2 ^ (16 * j) % 65536))

/-- Big-endian number of `n` bytes from `i`. -/
def beAt (b : List Byte) (i n : Nat) : Nat := beNat (bytesAt b i n)

/-- A VRT packet in a UDP payload (R234, R235, Table 09-3). -/
def readVrt (fields : List (Nat × Nat)) (presence : Nat) (u : List Byte) : FrameEnd :=
  let w := beAt u 0 4
  let kind := w / 2 ^ 28
  let size := 4 * (w % 65536)
  let c := w.testBit 27
  if u.length < 4 then .unsupported
  else if kind = 4 ∨ kind = 5 then .ignored
  else if kind ≠ 1 ∧ kind ≠ 3 then .unsupported
  else if size < u.length then .unsupported
  else
    let cut := decide (u.length < size)
    let ts := (if w / 2 ^ 22 % 4 = 0 then 0 else 4) + (if w / 2 ^ 20 % 4 = 0 then 0 else 8)
    let head := 8 + (if c then 8 else 0) + ts
    let stop := if w.testBit 26 then size - 4 else size
    let sid := if 8 ≤ u.length then some (beAt u 4 4) else none
    let cid := if c && decide (16 ≤ u.length) then some (beAt u 8 4 % 2 ^ 24, beAt u 12 2, beAt u 14 2) else none
    let body := (u.take stop).drop head
    let body := body.take (body.length / 2 * 2)
    let data := (List.range (body.length / 2)).flatMap (fun i => (bytesAt body (2 * i) 2).reverse)
    let f1 := fields ++ [(0x3A, w / 65536)] ++ (match sid with | some x => halves 0x3B 2 x | none => [])
    let f2 := f1 ++ (match cid with | some (o, a, b) => [(0x3D, o / 65536), (0x3E, o % 65536), (0x3F, a), (0x40, b)] | none => [])
    .packet f2 (presence + 2 ^ 6 + (if cid.isSome then 2 ^ 7 else 0)) sid cid data cut

/-- The UDP part of a frame (R233). -/
def State.readUdp (s : State) (p : Nat) (v6 : Bool) (src dst : Nat) (fields : List (Nat × Nat)) (presence : Nat) (b : List Byte) : FrameEnd :=
  let len := beAt b 4 2
  let port := s.get (Reg.CAP_ETH_CFG.udp_port p)
  let check := (!v6 && decide (beAt b 6 2 = 0)) ||
    (decide (beAt b 6 2 ≠ 0) && decide (onesSum (pseudoHeader v6 src dst len ++ b.take len) = 65535))
  if decide (b.length < 8) || decide (len < 8) || decide (b.length < len) || (decide (port ≠ 0) && decide (beAt b 2 2 ≠ port)) || !check then .bad
  else readVrt (fields ++ [(0x38, beAt b 0 2), (0x39, beAt b 2 2)]) (presence + 2 ^ 5) ((b.take len).drop 8)

/-- The checks of R233 in their order, on a whole frame from destination MAC to FCS. -/
def State.readFrame (s : State) (p : Nat) (b : List Byte) : FrameEnd :=
  let tagged := decide (beAt b 12 2 = 0x8100)
  let at_ := if tagged then 18 else 14
  let et := beAt b (at_ - 2) 2
  let ip := (b.take (b.length - 4)).drop at_
  let f0 := [(0x20, p), (0x22, et)] ++ (if tagged then [(0x21, beAt b 14 2)] else [])
  let pr := 2 + (if tagged then 4 else 0)
  if decide (natAt b 0 6 ≠ s.ownMac p) || decide (et ≠ 0x0800 ∧ et ≠ 0x86DD) || decide (9216 < b.length) then .unsupported
  else if decide (b.length < at_ + 4) || decide (crc32 (b.take (b.length - 4)) ≠ natAt b (b.length - 4) 4) then .bad
  else if et = 0x0800 then
    let h := 4 * (beAt ip 0 1 % 16)
    let total := beAt ip 2 2
    let own := s.get (Reg.CAP_ETH_IPV4.ipv4 p)
    let dst := beAt ip 16 4
    if decide (beAt ip 0 1 / 16 ≠ 4) || decide (h < 20) || decide (total < h) || decide (ip.length < total) ||
        decide (onesSum (bytesAt ip 0 h) ≠ 65535) || decide (own = 0) || decide (dst ≠ own) then .bad
    else
      let f := f0 ++ [(0x23, beAt ip 9 1 + beAt ip 1 1 / 4 * 256)] ++ halves 0x28 2 (beAt ip 12 4) ++ halves 0x30 2 dst
      let body := (ip.take total).drop h
      if beAt ip 6 2 % 2 ^ 14 ≠ 0 then .fragment f (pr + 8) body
      else if beAt ip 9 1 ≠ 17 then .bad
      else s.readUdp p false (beAt ip 12 4) dst f (pr + 8) body
  else
    let len := beAt ip 4 2
    let own := s.ownIpv6 p
    let dst := beAt ip 24 16
    let next := beAt ip 6 1
    if decide (beAt ip 0 1 / 16 ≠ 6) || decide (ip.length < 40 + len) || decide (own = 0) || decide (dst ≠ own) then .bad
    else
      let f := f0 ++ [(0x23, next + beAt ip 0 2 / 2 ^ 6 % 64 * 256)] ++ halves 0x28 8 (beAt ip 8 16) ++ halves 0x30 8 dst
      let body := (ip.take (40 + len)).drop 40
      if next = 44 then .fragment f (pr + 16) (body.drop 8)
      else if next ≠ 17 then .unsupported
      else s.readUdp p true (beAt ip 8 16) dst f (pr + 16) body

/-- The map entry of a data packet (R235, R257). -/
def State.vitaMap (s : State) (p : Nat) (sid : Option Nat) (cls : Option (Nat × Nat × Nat)) : Option Nat :=
  (List.range 32).find? (fun i =>
    s.flag (Reg.CAP_VITA_MAP.valid i) && decide (sid = some (s.get (Reg.CAP_VITA_MAP.stream_id i))) &&
    (s.flag (Reg.CAP_VITA_MAP.any_port i) || decide (s.get (Reg.CAP_VITA_MAP.port i) = p)) &&
    (!s.flag (Reg.CAP_VITA_MAP.class_match i) || decide (cls = some (s.get (Reg.CAP_VITA_MAP.oui i),
      s.get (Reg.CAP_VITA_MAP.info_class i), s.get (Reg.CAP_VITA_MAP.packet_class i)))))

/-- A VITA record or a kept fragment arrives whole (R236, R255). -/
def State.vitaRecord (s : State) (stream : Nat) (inExp : Int) (sid : Nat) (fields : List (Nat × Nat)) (presence : Nat) (data : List Byte)
    (fragment truncated : Bool) : State :=
  let seq := s.cap.vitaSeq.getD stream 0
  let r : Rec := { Rec.empty with
    stream := stream, vita := true, seq := seq, stamp := s.time, len := data.length, inExp := inExp, user0 := sid
    fields := fields, presence := presence, header := filledHeader seq s.time data.length inExp sid
    fragment := fragment, truncated := truncated, data := data, ended := true, time := s.time }
  let s1 := s.setCap (fun c => { c with vitaSeq := c.vitaSeq.set stream ((seq + 1) % 2 ^ 32) })
  (s1.when_ truncated (·.bump (Reg.CAP_STREAM_TRUNC.truncated stream))).takeRec r

/-- A received frame is judged (R233 to R236, R255). -/
def State.frame (s : State) (p : Nat) (b : List Byte) : State :=
  match s.readFrame p b with
  | .unsupported => s.bump (Reg.CAP_ETH_RX_DROP.unsupported p)
  | .bad => s.bump (Reg.CAP_ETH_RX_ERR.fcs_bad p)
  | .ignored => s
  | .fragment f pr data =>
    if s.flag (Reg.CAP_ETH_CFG.frag_keep p) then s.vitaRecord (s.get (Reg.CAP_ETH_CFG.frag_stream p)) 0 0 f pr data true false
    else s.bump (Reg.CAP_ETH_RX_DROP.fragments p)
  | .packet f pr sid cls data cut =>
    match s.vitaMap p sid cls with
    | none => s.bump (Reg.CAP_ETH_RX_ERR.unmapped p)
    | some i => s.vitaRecord (s.get (Reg.CAP_VITA_MAP.stream i)) (signed 7 (s.get (Reg.CAP_VITA_MAP.in_exp i))) (sid.getD 0) f pr data false cut

/-! Standing descriptors (06 R146). -/

/-- Change the standing descriptor of a flight. -/
def State.mapStanding (s : State) (flight : Nat) (g : Standing → Standing) : State :=
  s.setCap (fun c => { c with standing := c.standing.map (fun x => if x.flight = flight then g x else x) })

/-- The standing descriptor of a flight. -/
def State.standing (s : State) (flight : Nat) : Option Standing := s.cap.standing.find? (fun x => decide (x.flight = flight))

/-- Records a standing descriptor may take. -/
def recordsOf (d : Desc) : Nat := natAt d 28 4

/-- A standing descriptor ends with a status: its records are reported, and the stream's replicas are freed when none stands after it (R146, 08 R215). -/
def State.endStanding (s : State) (x : Standing) (status : Nat) : State :=
  let s1 := (s.setCap (fun c => { c with standing := c.standing.filter (fun y => decide (y.flight ≠ x.flight)) })).finish x.flight status x.done x.dropped
  (if (s1.standingOf x.stream).isSome then s1
   else (s1.setFab (fun f => { f with holds := f.holds.filter (fun h => decide (h.stream ≠ x.stream)) })).showReplicas)

/-- It ends OK once its count has run out, or once it is taken over and none of its records is left in the fabric (R146). -/
def State.checkStanding (s : State) (flight : Nat) : State :=
  match s.standing flight, s.flight flight with
  | some x, some f =>
    let n := recordsOf f.bytes
    let open_ := s.cap.recs.any (fun r => decide (r.flight = some flight) && s.fab.runs.any (fun q => decide (q.id = r.id)))
    if (decide (n ≠ 0xFFFFFFFF) && decide (n ≤ x.done)) || (x.leaving && !open_) then s.endStanding x 0 else s
  | _, _ => s

/-- A record is dropped or discarded after it landed: no verdict (R237). -/
def State.discardRec (s : State) (id : Nat) : State :=
  match s.recOf id with
  | none => s
  | some r =>
    let s1 := (s.endRun id).finishRec id
    match r.flight with
    | some f => (s1.mapStanding f (fun x => { x with taken := x.taken - 1 })).checkStanding f
    | none => s1

/-! Routing and starting (R243, R238, 10 R266). -/

/-- The verdict section's replicas and tracker size, or one ladder of the Timetable in force and 16 (08 R215). -/
def Model.verdictReps (m : Model) (t : TimeTable) : Nat := match m.verdict with | some v => v.replicas | none => t.rungs.length
def Model.verdictK (m : Model) : Nat := match m.verdict with | some v => v.k | none => 16

/-- A record's Syllabus decision stands from the end of its last pass: its route and priority, or the stream default's (R243 steps 3 and 4, R251). -/
def State.settleRec (s : State) (r : Rec) : Rec :=
  let vec := s.get (Reg.SYL_STREAM_DEFAULT.vectors r.stream)
  let dflt := if s.flag (Reg.SYL_STREAM_DEFAULT.route_en r.stream) then some (s.get (Reg.SYL_STREAM_DEFAULT.model r.stream), vec) else none
  { r with
    route := match r.route with | some x => some x | none => dflt
    prio := some (r.prio.getD (s.get (Reg.SYL_STREAM_DEFAULT.priority r.stream)))
    vectors := vec }

/-- The model and vectors a record goes to: the standing descriptor's model, or the record's route (R243 steps 3 and 6). -/
def Rec.goesTo (r : Rec) (given : Nat) : Option (Nat × Nat) :=
  if given = 0xFFFF then r.route
  else some (given, match r.route with | some x => x.2 | none => r.vectors)

/-- May the stream's records use the slot: it holds a model of the stream's partition (R243 step 5)? -/
def State.routeValid (s : State) (r : Rec) (slot : Nat) : Bool :=
  match s.model slot with
  | some m => decide (m.part = s.streamOwner r.stream)
  | none => false

/-- A classified record starts under the stream's standing descriptor: its work waits for gangs. -/
def State.startRec (s : State) (id : Nat) : State :=
  match s.recOf id with
  | none => s
  | some r =>
    match s.standingOf r.stream with
    | none => s
    | some x =>
      match s.flight x.flight with
      | none => s
      | some f =>
        let n := recordsOf f.bytes
        if !r.classified || r.finished || r.flight.isSome || s.isDeputy || (decide (n ≠ 0xFFFFFFFF) && decide (n ≤ x.taken)) then s
        else match r.goesTo (dModel f.bytes) with
          | none => (s.bump Reg.SYL_MIRROR_COUNT.no_route).finishRec id
          | some (slot, vectors) =>
            match s.model slot with
            | none => (s.bump Reg.SYL_DROP_COUNT.route_invalid).finishRec id
            | some m =>
              if decide (m.part ≠ f.part) then (s.bump Reg.SYL_DROP_COUNT.route_invalid).finishRec id
              else if (exactMode (dMode f.bytes) m && !m.exactOk) || (f.slotTable m).checked.isNone then (s.finishRec id).endStanding x 0x20
              else
                let table := f.slotTable m
                let epochs := if natAt f.bytes 32 4 = 0 then m.epochs else natAt f.bytes 32 4
                let extra := decide (vectors * (128 * m.side) < r.len) && !r.surplus
                let path : Path := { Path.empty with base := table, table := table }
                let run : Run := {
                  id := id, ready := r.ready, kind := .record r.stream id, part := f.part, prio := r.prio.getD 0, slot := slot, size := m.size
                  count := m.gangs.length, gangs := none, live := false
                  gang := if s.layout.has m.size (dGang f.bytes) then dGang f.bytes else 0xFF, started := false, stopped := none
                  exact := exactMode (dMode f.bytes) m, seed := 0, vectors := vectors, done := 0, loaded := 0, cancel := false
                  sat := false, inExp := r.inExp, group := 0, groups := [], total := epochs * table.epochSweeps, k := m.verdictK, bias := []
                  path := path, saved := path, boundary := false, replays := 0, repeats := 0, held := false, failed := 0 }
                let s1 := (s.mapRec id (fun y => { y with flight := some x.flight, egress := (natAt f.bytes 24 1).testBit 3, surplus := y.surplus || extra })).mapStanding
                  x.flight (fun y => { y with taken := y.taken + 1 })
                (s1.when_ extra (·.bump (Reg.CAP_STREAM_TRUNC.surplus r.stream))).submit run

/-- Every record of a stream that waits starts, in arrival order. -/
def State.startRecs (s : State) (stream : Nat) : State :=
  s.each (s.cap.recs.filter (fun r => decide (r.stream = stream))) (fun t r => t.startRec r.id)

/-- Work of a stream's records is taken back; the records stay and start again later. -/
def State.takeBack (s : State) (flight : Nat) (all : Bool) : State :=
  s.each (s.cap.recs.filter (fun r => decide (r.flight = some flight) && !r.finished &&
      s.fab.runs.any (fun q => decide (q.id = r.id) && (all || !q.live)))) (fun t r =>
    ((t.endRun r.id).mapRec r.id (fun y => { y with flight := none })).mapStanding flight (fun y => { y with taken := y.taken - 1 }))

/-- A copy of a record goes to the trace unit (R243 step 1, 15 R409, R410). -/
def State.mirrorTrace (s : State) (r : Rec) : State :=
  let part := s.streamOwner r.stream
  let owner := s.get Reg.DBG_TRACE_CTRL.owner
  let words := (List.range 8).map (fun k => natAt r.header (8 * k) 8)
  s.when_
    (s.tracing && s.flag (Reg.DBG_TRACE_RANGE.mirror 0) && (decide (owner = 0) || decide (owner = part)))
    (fun t => (t.bump Reg.SYL_MIRROR_COUNT.mirrored).traceOffer ⟨6, false, part, 0, 0, 6, s.time % 2 ^ 32, r.stream + r.seq * 2 ^ 32, words⟩)

/-- The last pass of a record has ended (R243). -/
def State.classifyEnd (s : State) (id : Nat) : State :=
  match s.recOf id with
  | none => s
  | some r =>
    let n := s.host.nextId
    let s1 := ((s.withHost { s.host with nextId := n + 1 }).mapRec id (fun x => { s.settleRec x with classified := true, ready := n })).when_
      r.mirror (·.mirrorTrace r)
    let given := match s.standingOf r.stream with
      | some x => match s.flight x.flight with | some f => dModel f.bytes | none => 0xFFFF
      | none => 0xFFFF
    if r.drop then (s1.bump Reg.SYL_DROP_COUNT.dropped).finishRec id
    else match (s.settleRec r).goesTo given with
      | none => (s1.bump Reg.SYL_MIRROR_COUNT.no_route).finishRec id
      | some (slot, _) =>
        if s.routeValid r slot then s1.startRec id else (s1.bump Reg.SYL_DROP_COUNT.route_invalid).finishRec id

/-- One Syllabus pass of a record, or its stream default where the banks are not used (R242, R246, R249, R250, R254). -/
def State.sylPass (s : State) (id : Nat) : State :=
  match s.recOf id with
  | none => s
  | some r =>
    if r.classified || r.finished || s.isDeputy then s
    else
      let use := decide (s.get Reg.SYL_PROFILE.profile = 1) && s.flag Reg.SYL_STATUS.active_valid
      let b := match r.bank with | some x => x | none => if use then s.ruleBank else 2
      let bypass := if r.bank.isSome then r.bypass else s.get Reg.SYL_STAGE_BYPASS.stage_bypass
      if b = 2 then (s.mapRec id (fun x => { x with bank := some 2 })).classifyEnd id
      else
        let p := runPass (s.rules b) b { r with bank := some b, bypass := bypass }
        let s1 := s.bump Reg.SYL_PASS_COUNT.passes
        match p.resit with
        | some k =>
          if r.pass < 2 then (s1.mapRec id (fun _ => { p.rec_ with pass := r.pass + 1, stage := k })).bump Reg.SYL_RESIT_COUNT.resits
          else ((s1.mapRec id (fun _ => p.rec_)).bump Reg.SYL_RESIT_COUNT.resit_refused).classifyEnd id
        | none => (s1.mapRec id (fun _ => p.rec_)).classifyEnd id

/-! Profiles (R249, R250, Table 09-11). -/

/-- CAP_PROFILE leaves Expert and loads the sources and the load timeout. -/
def State.capProfileWrite (s : State) (p : Nat) : State :=
  if 3 ≤ p then s
  else (((s.leaveExpert blk.cap).put Reg.CAP_PROFILE.profile p).put Reg.CAP_LOAD_TIMEOUT.load_timeout 20).each (List.range 8)
    (fun t n => t.put (Reg.CAP_STREAM_CFG.source n) (if p = 0 then 0 else if p = 1 then 1 else if n < 4 then 0 else 1))

/-- SYL_PROFILE leaves Expert: seed 0 and no bypass. -/
def State.sylProfileWrite (s : State) (p : Nat) : State :=
  if 2 ≤ p then s
  else (((s.leaveExpert blk.syl).put Reg.SYL_PROFILE.profile p).put Reg.SYL_HASH_SEED.hash_seed 0).put Reg.SYL_STAGE_BYPASS.stage_bypass 0

/-! Landing and ending (R232, R251). -/

/-- Payload bytes land on the record on the link, as far as its payload goes. -/
def State.land (s : State) (b : List Byte) : State :=
  match s.cap.onLink with
  | none => s
  | some l =>
    let s1 := s.setCap (fun c => { c with onLink := some { l with data := (l.data ++ b).take l.len } })
    match l.id with
    | some id => s1.mapRec id (fun r => if r.ended then r else { r with data := (r.data ++ b).take r.len })
    | none => s1

/-- A kept record ends where it stands: at its last whole payload block when it is cut (R232). -/
def State.endRec (s : State) (id : Nat) (cut : Bool) : State :=
  match s.recOf id with
  | none => s
  | some r =>
    let short := r.data.length < r.len
    s.mapRec id (fun x => { x with
      ended := true, time := s.time, truncated := x.truncated || cut
      data := if short then x.data.take (x.data.length / 8 * 8) else x.data })

/-- The record on the link ends, counted where it is cut; a discarded or dropped one counts as any other (R230, R232, 01 R21; DEDUCED, log 141). -/
def State.endLink (s : State) (cut : Bool) : State :=
  match s.cap.onLink with
  | none => s
  | some l =>
    let s1 := (s.setCap (fun c => { c with onLink := none })).when_ cut (·.bump (Reg.CAP_STREAM_TRUNC.truncated l.stream))
    match l.id with
    | some id => s1.endRec id cut
    | none => s1

/-- An EOR block's CRC-32 is checked over header and payload (R231, R232). -/
def State.endGood (s : State) (crc : Nat) : State :=
  match s.cap.onLink with
  | none => s
  | some l =>
    if crc32 (l.header ++ l.data) = crc then s.endLink false
    else
      let s1 := (s.bump Reg.CAP_LINK_ERR.crc_bad).setCap (fun c => { c with onLink := none })
      match l.id with
      | some id => s1.discardRec id
      | none => s1

/-! The feature stage (R238, R251, 08 R215). -/

/-- Bytes of a burst of a record on a model. -/
def Model.burst (m : Model) : Nat := 128 * m.side

/-- A burst is asked for and has landed in full, or is completed with zeros because the record has ended. -/
def State.burstLoad (s : State) (id : Nat) : State :=
  match s.recOf id, s.run id with
  | some r, some q =>
    match s.model q.slot with
    | none => s
    | some m =>
      let full := decide (m.burst * (q.loaded + 1) ≤ r.data.length)
      if !q.started || decide (q.vectors ≤ q.loaded) || q.stopped.isSome || decide (q.failed ≠ 0) || (!full && !r.ended) then s
      else
        let s1 := s.mapRun id (fun x => { x with loaded := x.loaded + 1 })
        if full then s1
        else (s1.mapRec id (fun x => { x with short := true })).when_ (!r.short) (·.bump (Reg.CAP_STREAM_LOAD.short r.stream))
  | _, _ => s

/-- A load's burst stays incomplete for load_timeout: the standing descriptor ends UNDERRUN and the record starts again later (R251). -/
def State.underrun (s : State) (id : Nat) : State :=
  match s.recOf id, s.run id with
  | some r, some q =>
    match s.model q.slot, r.flight with
    | some m, some fl =>
      if !q.started || decide (q.vectors ≤ q.loaded) || r.ended || decide (m.burst * (q.loaded + 1) ≤ r.data.length) then s
      else match s.standing fl with
        | none => s
        | some x => ((s.bump (Reg.CAP_STREAM_LOAD.underrun r.stream)).takeBack fl true).endStanding x 0x10
    | _, _ => s
  | _, _ => s

/-- Terms of one gang, with rows and columns of that gang alone. -/
def gangTerms (ts : List Term) (g : Nat) : List Term := ts.filter (fun t => decide (t.gang = g))

/-- Does a row's position take a record's bias: a data position, or any where the model has no training map (DESIGN CHOICE)? -/
def Model.takesBias (m : Model) (p : Nat) : Bool := decide (p ≠ 0xFFFFFFFF) && (!m.trainable || m.dataPos.contains p)

/-- The feature outputs of one input vector as bias by position, in units of 2^w, and whether one of them cancels (08 R215; 07 R176, R181, R184). -/
def Model.featureBias (m : Model) (x : List Int) (inExp : Int) (exact : Bool) (G : Nat → Nat) : List (Nat × Dy) × Bool :=
  let a := x.toArray
  let ts := m.terms
  let rows := (List.range (m.gangs.length * m.side)).filter (fun i => m.takesBias (m.rows.getD i 0xFFFFFFFF))
  let one := fun (i : Nat) =>
    let mine := (gangTerms ts (i / m.side)).filter (fun t => decide (t.row = i % m.side))
    if exact then
      ((Dy.mk (wrap68 ((mine.map (fun t => t.aligned m.eMin * a.getD (t.k * m.side + t.col) 0)).sum)) inExp), false)
    else
      let r := shapeRow m.size (G (i / m.side)) mine (fun t => (t.value).mul ⟨a.getD (t.k * m.side + t.col) 0, inExp⟩)
      (r.run.mul ⟨1, -m.window⟩, r.cancels)
  let out := rows.map (fun i => (m.rows.getD i 0, one i))
  ((out.filter (fun o => decide (o.2.1.m ≠ 0))).map (fun o => (o.1, o.2.1)), out.any (fun o => o.2.2))

/-- One vector of a record's feature stage runs. -/
def State.featurePass (s : State) (id : Nat) : State :=
  match s.recOf id, s.run id with
  | some r, some q =>
    match s.model q.slot with
    | none => s
    | some m =>
      let x := inputOf (bytesAt (r.data.drop (m.burst * q.done)) 0 m.burst)
      let b := m.featureBias x q.inExp q.exact q.groupAt
      let s1 := ((s.mapRun id (fun y => { y with done := y.done + 1, bias := y.bias ++ b.1, cancel := y.cancel || b.2 })).setAccs q m
        (fun _ i => x.getD i 0)).passStart id
      if q.done + 1 = q.vectors then s1.tileMode q 2 true else s1
  | _, _ => s

/-! The fixed budget and the verdict (08 R215, 10 R263, R266). -/

/-- The replicas a stream holds for a slot. -/
def State.holdOf (s : State) (stream slot : Nat) : Option StreamHold :=
  s.fab.holds.find? (fun h => decide (h.stream = stream) && decide (h.slot = slot))

/-- Set the replicas of a stream and slot. -/
def State.setHold (s : State) (h : StreamHold) : State :=
  s.setFab (fun f => { f with holds := f.holds.filter (fun x => decide (x.stream ≠ h.stream) || decide (x.slot ≠ h.slot)) ++ [h] })

/-- Do the stream's earlier records still sample, so that this one's start is not yet known? -/
def State.sampledBefore (s : State) (stream id : Nat) : Bool :=
  s.fab.runs.all (fun q => match q.kind with
    | .record st rc => decide (st ≠ stream) || decide (id ≤ rc) || decide (q.failed ≠ 0) || decide (q.total ≤ q.path.sweeps)
    | _ => true)

/-- A record's sampling begins from the states the stream holds, drawn afresh at first (08 R202, R208, R215). -/
def State.beginRecord (s : State) (id : Nat) : State :=
  match s.run id with
  | none => s
  | some q =>
    match q.kind, s.model q.slot with
    | .record stream _, some m =>
      let rungs := q.path.base.rungs.length
      let n := m.verdictReps q.path.base
      let held := (s.holdOf stream q.slot).filter (fun h => decide (h.count = n))
      let others := s.replicas - ((s.holdOf stream q.slot).map (·.count)).getD 0
      if decide (q.path.reps ≠ []) || decide (q.done < q.vectors) || !s.sampledBefore stream id || decide (256 < others + n) then s
      else
        let fresh := s.drawSeed
        let start := match held with
          | some h => (h, s)
          | none => (⟨stream, q.slot, n, fresh.1, [], [], []⟩, fresh.2)
        let h := start.1
        let kept := h.reps
        let reps := if kept.isEmpty then m.startReps q.bias h.seed n rungs []
          else (kept.zipIdx.map (fun x => ⟨x.1.levels, m.energy q.bias x.1.levels, x.2 % rungs⟩), h.gens)
        let path : Path := { q.path with reps := reps.1, gens := reps.2, ladders := h.ladders }
        ((start.2.setHold h).showReplicas).mapRun id (fun y => { y with seed := h.seed, path := path, saved := path })
    | _, _ => s

/-- A record's budget ends: the stream keeps its states and the gangs are free (08 R215). -/
def State.budgetEnd (s : State) (id : Nat) : State :=
  match s.run id with
  | none => s
  | some q =>
    match q.kind with
    | .record stream _ =>
      let s1 := match s.holdOf stream q.slot with
        | some h => s.setHold { h with reps := q.path.reps, gens := q.path.gens, ladders := q.path.ladders }
        | none => s
      s1.yieldGangs id
    | _ => s

/-- anomaly_scale times a number, in binary32; a scale that is no number gives none (08 R215). -/
def anomalyOf (d : Dy) (scale : Nat) : Nat :=
  match f32val scale with
  | some v => f32bits (d.mul v)
  | none =>
    if scale % 2 ^ 23 ≠ 0 ∨ d.m = 0 then 0x7FC00000
    else if (decide (d.m < 0)) != scale.testBit 31 then 0xFF800000 else f32inf

/-- Class, anomaly score and lowest energy of a record's tracker (08 R215). -/
def Model.reduce (m : Model) (q : Run) : Nat × Nat × Nat :=
  match q.path.track.head? with
  | none => (0xFF, 0, 0)
  | some t =>
    let bits := m.vars.foldl (fun (acc : List (Nat × Nat)) v =>
      acc ++ [(((acc.getLast?).map (fun x => x.1 + x.2)).getD 0, if v.two then 1 else 4)]) []
    match m.verdict with
    | none => (0xFF, 0, f32bits ⟨t.energy, m.window⟩)
    | some v =>
      let place := bits.getD v.cls (0, 0)
      (if v.cls = 0xFFFFFFFF then 0xFF else t.packed / 2 ^ place.1 % 2 ^ place.2,
       anomalyOf ⟨t.energy - v.ref, m.window⟩ v.scale, f32bits ⟨t.energy, m.window⟩)

/-- Does the states area of record `i` lie outside the partition's LPDDR5X, or in the save area (06 R151)? -/
def State.statesDenied (s : State) (d : Desc) (m : Model) (q : Run) (i : Nat) (part : Nat) : Bool :=
  decide (dAddr0 d ≠ 0) && dDev0 d &&
    !s.memOk part (dAddr0 d + natAt d 36 4 * i) (min (natAt d 25 1) q.path.track.length * m.stride)

/-- The states a verdict writes to the states area, as bytes and their number; none where the access is denied (08 R215, 06 R151). -/
def State.verdictStates (s : State) (d : Desc) (m : Model) (q : Run) (i : Nat) (part : Nat) : Nat × State :=
  let n := if dAddr0 d = 0 || s.statesDenied d m q i part then 0 else min (natAt d 25 1) q.path.track.length
  let addr := dAddr0 d + natAt d 36 4 * i
  let bytes := (q.path.track.take n).flatMap m.trackedBytes
  (n, if n = 0 then s else s.writeOut part (dDev0 d) addr bytes)

/-- RECORD_VERDICT's effect: states, table refresh, and the entry, held or dropped (R158, R215, R263, R266, Table 06-10). -/
def State.verdict (s : State) (id : Nat) : State :=
  match s.recOf id, s.run id with
  | some r, some q =>
    match r.flight with
    | none => s
    | some fl =>
      match s.flight fl, s.standing fl with
      | some f, some x =>
        let bad := decide (q.failed ≠ 0)
        if !bad && (decide (q.path.reps = []) || decide (q.path.sweeps < q.total) || !r.ended) then s
        else
          let m := s.model q.slot
          let red := match m with | some m => if bad then (0xFF, 0, 0) else m.reduce q | none => (0xFF, 0, 0)
          let st := match m with | some m => if bad then (0, s) else s.verdictStates f.bytes m q x.done f.part | none => (0, s)
          let sat := !bad && q.exact && (q.path.track.take st.1).any (fun t => !inWindow t.energy)
          let denied := match m with | some m => !bad && s.statesDenied f.bytes m q x.done f.part | none => false
          let info : Info := ⟨r.short, q.replays, q.cancel⟩
          let s1 := if bad then st.2 else st.2.refresh r.stream r.signature red.1 red.2.1
          let e : Entry := {
            tag := dTag f.bytes, status := if bad then q.failed else if denied then 0x22 else info.status sat, kind := .verdict, infoShort := info.short
            infoReplayed := decide (q.replays ≠ 0), infoCancel := info.cancel, sq := f.sq, part := f.part, replay := min q.replays 15
            result0 := r.seq + red.1 * 2 ^ 32 + (r.stream + q.prio * 16) * 2 ^ 40 + st.1 * 2 ^ 48
            result1 := red.2.1 + red.2.2 * 2 ^ 32, time := r.time }
          let cq := s.get (Reg.HIF_SQ_CFG.cq f.sq)
          let drops := s1.verdictDrops cq r.stream
          let s2 := s1.endRun id
          let s3 := if drops then (s2.dropVerdict cq f.part).finishRec id
            else s2.hold ⟨cq, e, !dNoIrq f.bytes, decide (q.prio = 7), some r.stream, none, some id, false⟩
          (s3.mapStanding fl (fun y => { y with done := y.done + 1, dropped := y.dropped + (if drops then 1 else 0) })).checkStanding fl
      | _, _ => s
  | _, _ => s

end Sys2Proof.Machine
end

