-- ==== Sys2Proof/Machine/RunOps.lean ====
section
/-!
DEFINITION. Machine/RunOps.lean: descriptors as runs on gangs, their passes, sweeps, boundaries and results (spec/07_cell_fabric_arithmetic.md R173 to R192; 08_sampling_tempering.md R203 to R216; 11 R288, R292).
-/
namespace Sys2Proof.Machine

open Sys2Proof

/-- The run of a descriptor on its model. -/
def Run.ofFlight (f : Flight) (m : Model) (kind : RunKind) (prio gang : Nat) : Run where
  id := f.id
  ready := f.id
  kind := kind
  part := f.part
  prio := prio
  slot := dModel f.bytes
  size := m.size
  count := m.gangs.length
  gangs := none
  live := false
  gang := gang
  started := false
  stopped := none
  exact := exactMode (dMode f.bytes) m
  seed := 0
  vectors := 0
  done := 0
  loaded := 0
  cancel := false
  sat := false
  inExp := 0
  group := 0
  groups := []
  total := 0
  k := 0
  bias := []
  path := Path.empty
  saved := Path.empty
  boundary := false
  replays := 0
  repeats := 0
  held := false
  failed := 0

/-- A RUN_MAC reaches its model (R173, R174, R190, R431). -/
def State.macRun (s : State) (f : Flight) : State :=
  match s.model (dModel f.bytes) with
  | none => s.finish f.id 0x20 0 0
  | some m =>
    if !s.modelFits f.bytes then s.finish f.id 0x20 0 0
    else
      (s.runFlight f.id).submitShared f { Run.ofFlight f m .mac (s.get (Reg.HIF_SQ_CFG.priority f.sq)) (dGang f.bytes) with
        vectors := natAt f.bytes 24 4
        inExp := signed 16 (natAt f.bytes 28 2)
        group := natAt f.bytes 30 1 }

/-- A RUN_SAMPLE or RUN_ANNEAL starts with its Timetable and points (08 R198, R202, R203, R207, R208, R211, R222). -/
def State.sampleRun (s : State) (f : Flight) (m : Model) (kind : RunKind) (table : Option TimeTable) (points : Option (List (Dy × Nat × Bool))) : State :=
  let n := natAt f.bytes 28 2
  match table, points with
  | some t, some ps =>
    if n % t.rungs.length ≠ 0 then s.finish f.id 0x20 0 0
    else
      let seed := if (natAt f.bytes 40 1).testBit 0 then (natAt f.bytes 32 8, s) else s.drawSeed
      let reps := m.startReps [] seed.1 n t.rungs.length m.kept
      let exact := exactMode (dMode f.bytes) m
      let reps' := if exact then reps.1 else reps.1.map (fun r => { r with energy := Config.shapeEnergy r.energy r.levels })
      let first := match ps with | [] => t | x :: _ => t.scaled x.1 x.2.2 m.window
      let path : Path := { Path.empty with base := t, table := first, points := ps, reps := reps', gens := reps.2 }
      (seed.2.runFlight f.id).submitShared f { Run.ofFlight f m kind (s.get (Reg.HIF_SQ_CFG.priority f.sq)) (dGang f.bytes) with
        seed := seed.1
        total := natAt f.bytes 24 4
        k := natAt f.bytes 30 2
        path := path
        saved := path }
  | _, _ => s.finish f.id 0x20 0 0

/-- Output bytes of one MAC pass, and whether an output saturates or cancels (R174, R184, R189). -/
def Run.macOutputs (r : Run) (m : Model) (x : List Int) : List Byte × Bool × Bool :=
  if r.exact then
    let y := m.macExact x
    (y.flatMap (fun v => leBytes 8 (unsigned 64 (resolve64 v))), y.any (fun v => !inWindow v), false)
  else
    let y := m.macShape x r.inExp r.groupAt
    (y.flatMap (fun v => leBytes 4 (f32bits v.run)), false, y.any ShapeSum.cancels)

/-- A MAC pass of a RUN_MAC ends (R173, R174, R189, R192). -/
def State.macPass (s : State) (r : Run) (f : Flight) (m : Model) (data : Option (List Byte)) : State :=
  let n := 128 * m.side
  match s.readIn r.part (dDev0 f.bytes) (dAddr0 f.bytes + n * r.done) n data with
  | none => s.failRun r.id 0x13
  | some b =>
    let x := inputOf b
    let y := r.macOutputs m x
    let out := dAddr1 f.bytes + (if r.exact then 8 else 4) * m.side * r.done
    let s1 := ((s.traceIn r.part (dDev0 f.bytes) (dAddr0 f.bytes + n * r.done) b).writeOut r.part (dDev1 f.bytes) out y.1).setAccs r m (fun _ i => x.getD i 0)
    let s2 := s1.mapRun r.id (fun q => { q with done := q.done + 1, repeats := 0, sat := q.sat || y.2.1, cancel := q.cancel || y.2.2 })
    if r.done + 1 < r.vectors then s2.passStart r.id
    else
      let info : Info := ⟨false, r.replays, r.cancel || y.2.2⟩
      (s2.finishWith r.id (info.status (r.sat || y.2.1)) r.vectors 0 info).endRun r.id

/-- May a run's pass or sweep end now: it holds gangs, its step has started, no fault or snapshot holds it? -/
def Run.goes (r : Run) : Bool := r.gangs.isSome && r.started && r.stopped.isNone && !r.held && decide (r.failed = 0)

/-! Snapshots (11 R292). -/

/-- A run as its snapshot names it: a record by its record_seq, which both members know. -/
def Run.sent (r : Run) (s : State) : Run :=
  match r.kind with
  | .record stream id => match s.recOf id with
    | some x => { r with id := x.seq, kind := .record stream x.seq }
    | none => r
  | .mac | .sample | .anneal => r

/-- Descriptors in flight and the unwritten entries of those that have ended, SQ heads, CQ tails and phases, all apart from the pair rings; release points, and counts of standing descriptors (Table 11-6, R290). -/
def State.ringsMsg (s : State) : AkMsg :=
  let sq := s.get Reg.AKG_PAIR_CFG.pair_sq
  let flights := s.host.flights.filter (fun f => decide (f.sq ≠ sq))
  .rings flights (s.host.held.filter (fun h => flights.any (fun f => decide (h.flight = some f.id))))
    (((List.range 64).filter (fun n => decide (n ≠ sq))).map (fun n => (n, s.get (Reg.HIF_SQ_STATE.head n))))
    (((List.range 64).filter (fun n => decide (n ≠ s.get Reg.AKG_PAIR_CFG.pair_cq))).map (fun n =>
      (n, s.get (Reg.HIF_CQ_STATE.tail n), s.get (Reg.HIF_CQ_STATE.phase n))))
    s.cap.released
    (s.cap.standing.map (fun x => [x.flight, x.stream, x.taken, x.done, x.dropped]))

/-- A Prefect's snapshot at an epoch boundary holds the run until it is acknowledged; while port 0 is down it is only kept (R292). -/
def State.mirrorSnapshot (s : State) (id : Nat) : State :=
  match s.run id with
  | none => s
  | some r =>
    if !s.isPrefect then s
    else
      let d := Config.deltaBytes r.id r.path.sweeps
      let s1 := (s.bump Reg.AKG_MIRROR_COUNT.snapshots).put Reg.AKG_MIRROR_STATUS.max_delta
        (max (s.get Reg.AKG_MIRROR_STATUS.max_delta) (min ((d + 15) / 16) 0xFFFF))
      if decide (s.akState 0 = akUp) && s.akg.follows then
        ((s1.when_ (decide (3840 < d)) (·.bump Reg.AKG_MIRROR_COUNT.mirror_wait)).mapRun id (fun q => { q with held := true })).sendPair 2
          (.snapshot (r.sent s)) |>.sendPair 2 s.ringsMsg
      else (s1.when_ s.akg.follows (·.setAkg (fun a => { a with unsent := a.unsent ++ [r.sent s] }))).put Reg.AKG_PAIR_STATUS.in_step 0

/-! Results (08 R213, R214, R225). -/

/-- A RUN_SAMPLE or RUN_ANNEAL ends: the result area, kept states and the completion (R213, R214, R223, R225). -/
def State.finishSample (s : State) (id : Nat) : State :=
  match s.run id, s.flight id with
  | some r, some f =>
    match s.model r.slot with
    | none => s.failRun id 0x13
    | some m =>
      let p := r.path
      let low := lowestOf p.track
      let sat := r.exact && p.track.any (fun t => !inWindow t.energy)
      let header := resultHeader p.track.length m.stride r.seed p.sweeps low p.attempts p.accepted
      let keep := (natAt f.bytes 40 1).testBit 1
      let m' := { m with table := p.table, last := some ⟨header, p.track, sat⟩, kept := if keep then p.reps else [] }
      let s0 := s.setModel r.slot m'
      let s1 := if s.sharedSlot r.slot then s0.writeShared f r m header
        else s0.writeOut r.part (dDev1 f.bytes) (dAddr1 f.bytes) (header ++ p.track.flatMap m.trackedBytes)
      let info : Info := ⟨false, r.replays, false⟩
      (s1.finishWith id (info.status sat) (p.track.length + p.sweeps % 2 ^ 32 * 2 ^ 32) (unsigned 64 (resolve64 low)) info).endRun id
  | _, _ => s

/-- Records of a result area that fit, in the order asked (08 R214). -/
def readOrder (byVisits : Bool) (l : List Tracked) : List Tracked :=
  if byVisits then l.mergeSort (fun a b => decide (b.visits ≤ a.visits)) else l

/-- READ_STATES' work (08 R214, R223, R225, R226). -/
def State.readStates (s : State) (f : Flight) : State :=
  if !s.modelFits f.bytes then s.finish f.id 0x20 0 0 else
  let len := natAt f.bytes 28 4
  let k := natAt f.bytes 24 2
  match (s.model (dModel f.bytes)).bind (fun m => m.last.map (fun r => (m, r))) with
  | none => (s.when_ (decide (64 ≤ len)) (·.writeOut f.part (dDev1 f.bytes) (dAddr1 f.bytes) (leBytes 64 0))).finish f.id 0 0 0
  | some (m, r) =>
    let n := min (min k r.states.length) ((len - 64) / m.stride)
    let l := (readOrder ((natAt f.bytes 26 1).testBit 0) r.states).take n
    let sat := r.sat && (l.any (fun t => !inWindow t.energy) || !inWindow (lowestOf r.states))
    let bytes := leBytes 4 n ++ r.header.drop 4 ++ l.flatMap m.trackedBytes
    (s.when_ (decide (64 ≤ len)) (·.writeOut f.part (dDev1 f.bytes) (dAddr1 f.bytes) bytes)).finish f.id (if sat && decide (64 ≤ len) then 0x30 else 0) n 0

/-! Sweeps and boundaries (08 R199, R209 to R212; 10 R266). -/

/-- After a replica's sweep: the whole sweep ends once every replica has swept. -/
def State.sweepDone (s : State) (id : Nat) : State :=
  match s.run id with
  | none => s
  | some r => if decide (r.path.reps.length ≤ r.path.next) && decide (r.path.reps ≠ []) then s.wholeSweep id else s

/-- A replica's sweep ends (R212); a shared run's offer is decided by its leader (11 R288). -/
def State.replicaSweep (s : State) (id : Nat) : State :=
  match s.run id with
  | none => s
  | some r =>
    match s.model r.slot with
    | none => s
    | some m =>
      if !r.goes || r.boundary || decide (r.path.reps = []) then s
      else
        let shared := s.sharedSlot r.slot && (match r.kind with | .record _ _ => false | _ => true)
        let s0 := s.when_ m.rotation (·.dramRenew (s.dramAddr m.part m.devBase) m.devBytes)
        let s1 := if shared then s0.shareSweep r m else s0.mapRun id (fun _ => r.sweepOne m)
        let occ := (m.occupancy ((((s1.run id).getD r).path.reps.getD r.path.next ⟨[], 0, 0⟩).levels)).toArray
        ((s1.setAccs r m (fun g i => m.element occ (m.columns.getD (g * 64 * m.side + i) 0xFFFFFFFF))).passStart id).sweepDone id

/-- An epoch ends: the state is kept, and the run ends, is mirrored, or gives up its gangs to higher work (R210, 10 R266, 11 R292). -/
def State.epochEnd (s : State) (id : Nat) : State :=
  match s.run id with
  | none => s
  | some r =>
    let isRec := match r.kind with | .record _ _ => true | _ => false
    let timed := !isRec && decide (r.path.table.epochTime ≠ 0) && decide (0 < r.path.inEpoch) && decide (r.path.next = 0)
    if !r.goes || (!r.boundary && !timed) then s
    else
      let p := { r.path with inEpoch := 0 }
      let s1 := s.mapRun id (fun q => { q with path := p, saved := p, boundary := false, repeats := 0 })
      if r.total ≤ p.sweeps then (if isRec then s1.budgetEnd id else s1.finishSample id)
      else
        let s2 := s1.mirrorSnapshot id
        if s2.wanted r then s2.yieldGangs id else s2

/-- The run moves to its next annealing point (R211). -/
def State.pointEnd (s : State) (id : Nat) : State :=
  match s.run id with
  | none => s
  | some r =>
    match r.path.points, s.model r.slot with
    | x :: y :: t, some m =>
      if decide (r.path.pointSweeps < x.2.1) || decide (r.path.next ≠ 0) || !r.goes then s
      else s.mapRun id (fun q => { q with path := { q.path with
        points := y :: t, pointSweeps := 0, table := q.path.base.scaled y.1 y.2.2 m.window } })
    | _, _ => s

/-! Loads and training reach their slot. -/

/-- Records that wait are routed again, after a slot has changed. -/
def State.reroute (s : State) : State :=
  s.each s.cap.standing (fun t x => (t.takeBack x.flight false).when_ (!x.leaving) (·.startRecs x.stream))

/-- May a training step begin: its model suits, its gangs are idle and in service, and its chains are free (08 R208, R216)? -/
def State.trainReady (s : State) (f : Flight) (m : Model) : Bool :=
  ((s.gangSets f.part m.size m.gangs.length (dGang f.bytes)).any (fun w => w.all (fun g => s.gangReady m.size g && !s.gangHeld m.size g))) &&
  decide (s.replicas + natAt f.bytes 36 2 ≤ 256)

/-! Accumulator read-out (R186). -/

/-- Debug mode of Debug and Trace. -/
def State.debugMode (s : State) : Bool := s.flag Reg.DBG_CTRL.debug_mode

/-- The selected cell's accumulator is captured. -/
def State.captureAcc (s : State) : State :=
  let key := s.get Reg.FAB_ACC_SEL.tile * 4096 + s.get Reg.FAB_ACC_SEL.row * 64 + s.get Reg.FAB_ACC_SEL.col
  let v := Store.read (fun _ => (0 : Int)) s.fab.accs key
  let u := unsigned 68 v
  let s1 := (s.setFab (fun f => { f with captured := some v, capturing := false })).put Reg.FAB_ACC_SEL.valid 1
  ((s1.put Reg.FAB_ACC_LO.acc_lo u).put Reg.FAB_ACC_HI.acc_hi (u / 2 ^ 32)).put Reg.FAB_ACC_WRAP.wrap (u / 2 ^ 64)

/-- A write of FAB_ACC_SEL. -/
def State.accSelWrite (s : State) (tile row col : Nat) (latch : Bool) : State :=
  let s1 := (((s.put Reg.FAB_ACC_SEL.tile tile).put Reg.FAB_ACC_SEL.row row).put Reg.FAB_ACC_SEL.col col).put Reg.FAB_ACC_SEL.valid 0
  if !latch || !s.debugMode then s1.setFab (fun f => { f with capturing := false })
  else
    let mode := s.get (Reg.FAB_TILE_STATUS.mode (tile % 64))
    let s2 := s1.setFab (fun f => { f with capturing := true })
    if mode = 0 ∨ mode = 3 then s2.captureAcc else s2

/-- A write of spare_quad reaches FAB_PROFILE and the Deputy (07 R188, 11 Table 11-6). -/
def State.spareWord (s : State) (q : Nat) : State :=
  s.cfgWrite Reg.FAB_PROFILE.profile.off (withField (s.word Reg.FAB_PROFILE.profile.off) 4 4 q).toNat (fun t => t.spareWrite q)

/-! Profile (08 R220, R221). -/

/-- SMP_PROFILE leaves Expert and loads Table 08-8. -/
def State.smpProfileWrite (s : State) (p : Nat) : State :=
  if 3 ≤ p then s
  else
    let s1 := ((s.leaveExpert blk.smp).put Reg.SMP_PROFILE.profile p).put Reg.SMP_DEFAULTS.rungs (if p = 0 then 8 else if p = 1 then 16 else 1)
    let s2 := (s1.put Reg.SMP_DEFAULTS.exch_interval (if p = 0 then 4 else if p = 1 then 2 else 0)).put Reg.SMP_DEFAULTS.epoch_sweeps 64
    (s2.put Reg.SMP_DEFAULTS.rule 0).put Reg.SMP_DEFAULTS.epoch_time 1000

end Sys2Proof.Machine
end

