-- ==== Sys2Proof/Machine/UnitOps.lean ====
section
/-!
DEFINITION. Machine/UnitOps.lean: shared operations of the thermal watch, the unit ledger and tile faults (spec/12_thermal_unit_health.md).
-/
namespace Sys2Proof.Machine

open Sys2Proof

/-- The thermal cause with THM_STATUS (12 R339). -/
def State.raiseThermal (s : State) : State := s.raise cause.thermal noUnit (s.word Reg.THM_STATUS.depth.off).toNat

/-- An event of GLD1 makes a Report Card flush due in PSH2, when the link is up (13 Table 13-6). -/
def State.tellRecorder (s : State) : State := s.when_ (s.pshUp && !s.gpGld.lost) (·.trigger 1 true)

/-! Work on a unit. -/

/-- Does a run reach LPDDR5X: its model is rotated, or its descriptor's data lie there? -/
def State.runInDram (s : State) (r : Run) : Bool :=
  (match s.model r.slot with | some m => m.rotation | none => false) ||
  (match s.flight r.id with | some f => dDev0 f.bytes || dDev1 f.bytes | none => false)

/-- Runs that hold gangs with a position of the unit. -/
def State.unitRuns (s : State) (u : Nat) : List Run :=
  s.fab.runs.filter (fun r =>
    if u < 84 then r.tiles.any (fun t => (unitTiles u).contains (s.carrier t) || (unitTiles u).contains t)
    else decide (96 ≤ u) && decide (u < 100) && r.gangs.isSome && s.runInDram r)

/-- Is work in flight on the unit (12 R325, R328)? -/
def State.unitInFlight (s : State) (u : Nat) : Bool :=
  if u < 84 then s.unitBusy u || decide (s.unitRuns u ≠ [])
  else if u < 92 then s.cap.recs.any (fun r => decide (r.stream = u - 84) && !r.finished)
  else if u < 96 then !((s.port (u - 92)).unacked.isEmpty && (s.port (u - 92)).waiting.isEmpty)
  else if u < 100 then decide (s.unitRuns u ≠ [])
  else decide (s.pass.publishes ≠ []) || s.flag Reg.HPS_STATUS.copying

/-- A record's work on the fabric ends with a status: its verdict reports it. -/
def State.failWork (s : State) (r : Run) (status : Nat) : State :=
  match r.kind with
  | .record _ _ => (s.failRun r.id status).verdict r.id
  | _ => s.failRun r.id status

/-- A standing CLASSIFY_STREAM ends with a status; its records go back to wait (06 R146). -/
def State.failStanding (s : State) (x : Standing) (status : Nat) : State :=
  match (s.takeBack x.flight true).standing x.flight with
  | some y => (s.takeBack x.flight true).endStanding y status
  | none => s

/-- Work in flight on a unit without power ends FENCED_MGMT (12 R332). -/
def State.endUnitWork (s : State) (u : Nat) : State :=
  let s1 := s.each (s.unitRuns u) (fun t r => t.failWork r 0x11)
  if 84 ≤ u ∧ u < 92 then s1.each (s1.cap.standing.filter (fun x => decide (x.stream = u - 84))) (fun t x => t.failStanding x 0x11)
  else if u = 100 && decide (s1.pass.publishes ≠ []) then
    let s2 := ((s1.each s1.pass.publishes (fun t p => t.finish p.flight 0x11 0 0)).setPass (fun p => { p with publishes := [] })).showPublish
    s2.when_ (!s2.passHolds) State.shadowDrain
  else s1

/-- A DRAINING unit is OUT once its last work has ended (12 R325). -/
def State.drained (s : State) (u : Nat) : State :=
  if decide (s.get (Reg.FAB_LEDGER.data_state u) = dataDraining) && !s.unitInFlight u then (s.setData u dataOut).showCapacity else s

/-- GLD1 applies a mirrored mgmt_state: under any state but IN_SERVICE the unit takes no new work (12 R325). -/
def State.applyMgmt (s : State) (u v : Nat) : State :=
  let s1 := (s.put (Reg.FAB_LEDGER.mgmt_state u) (v % 8)).put (Reg.FAB_LEDGER.lock u) (v / 8 % 2)
  let d := s1.get (Reg.FAB_LEDGER.data_state u)
  if v % 8 = mgmtInService || (decide (d ≠ dataReady) && decide (d ≠ dataDraining)) then s1.showLedger u
  else ((s1.setData u dataDraining).drained u).showCapacity

/-- GLD1 applies a power-good value: work left on a fenced unit that loses power ends (12 R332). -/
def State.applyPgood (s : State) (u : Nat) (good : Bool) : State :=
  let s1 := s.putFlag (Reg.FAB_LEDGER.pgood u) good
  if !good && decide (s1.get (Reg.FAB_LEDGER.data_state u) = dataFenced) then s1.endUnitWork u else s1

/-- PSH2 changes a unit's mgmt_state and lock; IN_SERVICE restores power that PSH2 had removed (12 R326). -/
def State.orderMgmt (s : State) (u v : Nat) (lock : Bool) : State :=
  let back := decide (v = mgmtInService) && !(s.mgmtOf u).pgood && !s.railOut u
  (s.setMgmt u v lock).when_ back (·.setPgood u true)

/-- LEDGER_DISAGREEMENT: the unit is fenced (12 R332). -/
def State.fenceUnit (s : State) (u : Nat) : State :=
  let s1 := ((s.setData u dataFenced).bump Reg.FAB_LEDGER_STATUS.disagreements).put (Reg.FAB_LEDGER.fenced_event u) 1
  let s2 := s1.when_ (!s.flag (Reg.FAB_LEDGER.pgood u)) (·.endUnitWork u)
  ((((s2.showCapacity).gldCount 22).tellRecorder).raiseAll cause.ledger u
    (s2.word (Reg.FAB_LEDGER.data_state u).off).toNat (s.unitVfs u))

/-- What removal of power does to the unit itself (12 Table 12-4). -/
def State.unpower (s : State) (u : Nat) : State :=
  if u < 84 then s.each (unitTiles u) (fun t k => t.put (Reg.FAB_TILE_STATUS.mode k) 0)
  else if u < 92 then s
  else if u < 96 then (if s.akState (u - 92) = akUp then s.linkDown (u - 92) akDetect else s)
  else if u < 100 then (s.put (Reg.MEM_CH_STATUS.deep_sleep (u - 96)) 1).dramLose (u - 96)
  else s.setPass (fun p => { p with verdict := 0, tagv := false })

/-- A unit is READY: under IN_SERVICE, and a channel has been trained again (12 R325). -/
def State.makeReady (s : State) (u : Nat) : State :=
  let s1 := if 96 ≤ u ∧ u < 100 then
      (((s.put (Reg.MEM_CH_STATUS.trained (u - 96)) 1).put (Reg.MEM_CH_STATUS.deep_sleep (u - 96)) 0).put
        (Reg.MEM_CH_STATUS.self_refresh (u - 96)) 0).bump (Reg.MEM_CH_RETRAINS.retrains (u - 96))
    else s
  ((s1.setData u dataReady).showCapacity).schedule

/-- Units that need the fabric's or the memory's power, which a thermal shutdown removes (12 R317). -/
def State.unitDark (s : State) (u : Nat) : Bool := !s.fab.powered && (decide (u < 84) || (decide (96 ≤ u) && decide (u < 100)))

/-! UNIT_RECONCILE (12 R328). -/

/-- A UNIT_RECONCILE that may act: its unit and action, once no work is in flight on the unit. -/
def State.reconcile (s : State) (id action : Nat) : Option (Flight × Nat) :=
  match s.startable id opReconcile with
  | none => none
  | some f =>
    let u := natAt f.bytes 24 2
    if decide (natAt f.bytes 26 1 % 4 = action) && decide (u ≤ 100) && !s.unitInFlight u then some (f, u) else none

/-- The descriptor's completion: both states after. -/
def State.reconciled (s : State) (id u : Nat) : State :=
  s.finish id 0 (s.get (Reg.FAB_LEDGER.mgmt_state u) + s.get (Reg.FAB_LEDGER.data_state u) * 256) 0

/-- ADOPT's effect: FENCED clears; READY under IN_SERVICE, otherwise OUT; FAILED is kept. -/
def State.adopt (s : State) (u : Nat) : State :=
  if s.get (Reg.FAB_LEDGER.data_state u) = dataFailed then s
  else if s.get (Reg.FAB_LEDGER.mgmt_state u) = mgmtInService ∧ s.unitDark u = false then
    ((s.setData u dataReady).showCapacity).schedule
  else (s.setData u dataOut).showCapacity

/-- The fence bits of a tile: its fault map (12 R329, R193). -/
def State.markFenced (s : State) (t : Nat) (on : Bool) : State :=
  let f := if t < 32 then Reg.FAB_TILE_FENCED_LO.fenced_lo else Reg.FAB_TILE_FENCED_HI.fenced_hi
  let v := s.get f
  let b := 2 ^ (t % 32)
  (s.putFlag (Reg.FAB_TILE_STATUS.fenced t) on).put f (if on then v ||| b else v - (v &&& b))

/-- RETEST's result. -/
def State.retested (s : State) (u : Nat) (pass : Bool) : State :=
  if pass then
    let s1 := if u < 64 then s.markFenced u false else s
    if s1.get (Reg.FAB_LEDGER.mgmt_state u) = mgmtInService ∧ s1.unitDark u = false then (s1.makeReady u).returnSpares
    else (s1.setData u dataOut).showCapacity
  else ((if u < 64 then s.markFenced u true else s).setData u dataFailed).showCapacity

/-! Tile faults (12 R329 to R331, R333). -/

/-- The position whose work a tile does. -/
def State.positionOf (s : State) (t : Nat) : Nat :=
  if s.flag (Reg.FAB_TILE_STATUS.standing_in t) then s.get (Reg.FAB_TILE_STATUS.stands_for t) else t

/-- The gang of four or sixteen that holds a position: the run's, or the layout's. -/
def State.gangAround (s : State) (t : Nat) : Option (Nat × Nat) :=
  match s.fab.runs.find? (fun r => r.tiles.contains t) with
  | some r => ((r.gangs.getD []).find? (fun g => (gangTiles r.size g).contains t)).map (fun g => (r.size, g))
  | none => ([2, 1].flatMap (fun z => (s.layout.gangs z).map (fun g => (z, g)))).find? (fun x => (gangTiles x.1 x.2).contains t)

/-- Who can cover a fenced position (12 Table 12-8): a spare, a partner, or no one. -/
def State.cover (s : State) (t : Nat) : Option (Bool × Nat) :=
  let spare := (List.range 64).find? (fun u => s.isSpare u && s.unitReady u && !s.flag (Reg.FAB_TILE_STATUS.standing_in u))
  match spare with
  | some u => some (true, u)
  | none => match s.gangAround t with
    | none => none
    | some (z, g) =>
      let second := (gangTiles z g).any (fun k => decide (k ≠ t) && s.flag (Reg.FAB_TILE_STATUS.fenced k))
      if z = 0 || second || !s.unitReady (t ^^^ 1) then none else some (false, t ^^^ 1)

/-- Who takes over a fenced position; no one in Homeroom, or without the copy in LPDDR5X. -/
def State.takeOver (s : State) (t : Nat) : Option (Bool × Nat) :=
  if s.flag Reg.GLB_SERVICE.homeroom || !([96, 97, 98, 99].all s.unitReady) then none else s.cover t

/-- The cover takes the position. -/
def State.setCover (s : State) (t : Nat) (c : Bool × Nat) : State :=
  if c.1 then
    let m := s.get (Reg.FAB_TILE_STATUS.model t)
    let v := s.get (Reg.FAB_TILE_STATUS.model_valid t)
    (((s.put (Reg.FAB_TILE_STATUS.standing_in c.2) 1).put (Reg.FAB_TILE_STATUS.stands_for c.2) t).put
      (Reg.FAB_TILE_STATUS.model c.2) m).put (Reg.FAB_TILE_STATUS.model_valid c.2) v
  else (s.setFab (fun f => { f with partners := f.partners ++ [(t, c.2)] })).bump Reg.FAB_REPLAY_COUNT.remaps

/-- The tile is fenced: counted, mapped and reported (12 R329). -/
def State.fenceTile (s : State) (t : Nat) : State :=
  let p := s.positionOf t
  let s1 := (((s.markFenced t true).setData t dataFailed).put Reg.FAB_REPLAY_COUNT.last_tile t).put (Reg.FAB_TILE_STATUS.busy t) 0
  let s2 := ((s1.put (Reg.FAB_TILE_STATUS.standing_in t) 0).put (Reg.FAB_TILE_STATUS.stands_for t) 0).setFab (fun f =>
    { f with partners := f.partners.filter (fun x => decide (x.2 ≠ t)) })
  ((s2.showCapacity.gldCount 20).tellRecorder).raiseAll cause.tileFault t
    (s2.word (Reg.FAB_TILE_STATUS.fenced t).off).toNat (s.unitVfs p)

/-- Work whose tile no one takes over ends TILE_FAULT, and the gang's unit fails (12 Table 12-8). -/
def State.loseWork (s : State) (t : Nat) : State :=
  if s.fab.runs.all (fun r => !r.tiles.contains t) then s else
  let s1 := match s.gangAround t with
    | some (z, g) => if z = 0 then s else s.setData (gangUnit z g) dataFailed
    | none => s
  (s1.each (s1.fab.runs.filter (fun r => r.tiles.contains t)) (fun u r => u.failWork r 0x12)).showCapacity

/-- A tile is fenced and the work on its gang stops; a fourth fault of an epoch, or a position no one covers, ends it (12 R329, R330, R333). -/
def State.fenceWork (s : State) (t : Nat) : State :=
  let lost := (List.range 64).filter (fun p => decide (s.carrier p = t) && !s.isSpare p)
  (s.fenceTile t).each lost (fun u p =>
    if u.fab.runs.any (fun r => r.tiles.contains p && decide (3 ≤ r.repeats)) then u.loseWork p
    else match u.takeOver p with
      | none => u.loseWork p
      | some _ => u.setFab (fun f => { f with runs := f.runs.map (fun r =>
          if r.tiles.contains p then { r with stopped := some p } else r) }))

/-- TILE_FAULT's effect: the fault is counted and the tile fenced with the work on its gang (12 R329). -/
def State.tileFault (s : State) (t : Nat) (residue : Bool) : State :=
  (s.bump (if residue then Reg.FAB_FAULT_COUNT.residue_faults else Reg.FAB_FAULT_COUNT.parity_faults)).fenceWork t

/-- The run repeats its lost epoch from the boundary it kept (12 R331, 08 R224). -/
def State.repeatEpoch (s : State) (r : Run) : State :=
  ((s.mapRun r.id (fun q => { q with
      stopped := none, path := q.saved, boundary := false, replays := q.replays + 1, repeats := q.repeats + 1 })).bump
    Reg.FAB_REPLAY_COUNT.replays).gldCount 21

/-- SPARE_STAND_IN's effect: a spare or the partner takes the position with the banks of the copy, and the stopped work repeats its epoch (12 R330, R331). -/
def State.standInFor (s : State) (t : Nat) : State :=
  if !s.flag (Reg.FAB_TILE_STATUS.fenced t) || decide (s.carrier t ≠ t) then s
  else match s.takeOver t with
    | none => s.loseWork t
    | some c =>
      let s2 := (s.setCover t c).showCapacity
      (s2.each (s2.fab.runs.filter (fun r => decide (r.stopped = some t))) (fun x r => (x.tileMode r (x.runMode r) true).repeatEpoch r)).schedule

/-! The thermal watch (12 R308 to R322). -/

/-- Neighbours of a quad sensor in the 4 × 4 grid (R310). -/
def quadNeighbours (q : Nat) : List Nat :=
  (if q % 4 = 0 then [] else [q - 1]) ++ (if q % 4 = 3 then [] else [q + 1]) ++ (if q < 4 then [] else [q - 4]) ++ (if 12 ≤ q then [] else [q + 4])

/-- Live neighbours' readings. -/
def State.nearReadings (s : State) (q : Nat) : List Int := ((quadNeighbours q).filter s.live).map s.reading

/-- The code of sensor `n` in a sample of sensors 0 to 15, 17 and 18. -/
def codeOf (codes : List (Option Int)) (n : Nat) : Option Int := (codes.getD (if n < 16 then n else n - 1) none)

/-- A reading is taken, and its peak kept (Table 12-9). -/
def State.takeReading (s : State) (n : Nat) (v : Int) : State :=
  (s.put (Reg.THM_SENSOR.reading n) (unsigned 16 v)).when_ (decide (signed 16 (s.get (Reg.THM_PEAK.peak n)) < v))
    (·.put (Reg.THM_PEAK.peak n) (unsigned 16 v))

/-- One sensor's sample: its runs of unchanged and of bad codes; a conversion error keeps the reading (R310). -/
def State.sampleSensor (s : State) (codes : List (Option Int)) (n : Nat) : State :=
  let c := codeOf codes n
  let same := decide (c = some (s.reading n))
  let bad := match c with | some v => decide (v < -320) || decide (1200 < v) | none => true
  let s1 := match c with | some v => s.takeReading n v | none => s
  (s1.withThermal { s1.thermal with
      stuckRun := s1.thermal.stuckRun.set n (if same then s.thermal.stuckRun.getD n 0 + 1 else 0)
      rangeRun := s1.thermal.rangeRun.set n (if bad then s.thermal.rangeRun.getD n 0 + 1 else 0) })

/-- The neighbour test of a quad sensor, judged once all have their new readings (R310). -/
def State.sampleNear (s : State) (q : Nat) : State :=
  let l := s.nearReadings q
  let n : Int := l.length
  let d := s.reading q * n - l.sum
  let off := decide (2 ≤ l.length) && (decide (120 * n < d) || decide (120 * n < -d))
  (s.withThermal { s.thermal with nbrRun := s.thermal.nbrRun.set q (if off then s.thermal.nbrRun.getD q 0 + 1 else 0) })

/-- The hotspot estimate: the largest quad reading plus gain times activity, `activity` giving each quad's fraction (R309). -/
def State.hotspot (s : State) (activity : List (Nat × Nat)) : State :=
  let gain : Int := 2 * s.get Reg.THM_CTRL.hotspot_gain
  let terms := (List.range 16).filterMap (fun q =>
    let a := activity.getD q (0, 1)
    let den : Nat := max a.2 1
    let near := s.nearReadings q
    if s.live q then some (roundOpen 16 (s.reading q * den + gain * a.1) den)
    else if near.isEmpty then none
    else some (roundOpen 16 (near.sum * den + gain * a.1 * near.length) (den * near.length)))
  match terms with
  | [] => s
  | t :: rest => s.takeReading 16 (rest.foldl max t)

/-- The rise of a sensor over the last 1 ms, from the sample ten before (12 "Warning and throttle"). -/
def State.rise (s : State) (n : Nat) : Option Int := ((s.thermal.history.getD n [])[9]?).map (fun old => s.reading n - old)

/-- Live sensors 0 to 18 with a rise, in eighths of a degree per ms, satisfying a test. -/
def State.anyRise (s : State) (p : Int → Bool) : Bool :=
  (List.range 19).any (fun n => s.live n && (match s.rise n with | some r => p r | none => false))

/-- Warning: it sets on the second sample at or above warn_level and clears on the second below the hysteresis (R313). -/
def State.judgeWarning (s : State) (hot : Int) : State :=
  let lvl : Int := 8 * s.get Reg.THM_LEVELS.warn_level
  let hys : Int := 8 * s.get Reg.THM_LEVELS.hysteresis
  let up := decide (lvl ≤ hot)
  let down := decide (hot < lvl - hys)
  let s1 := s.withThermal { s.thermal with warnSeen := up, coolSeen := down }
  if up && s.thermal.warnSeen && !s.flag Reg.THM_STATUS.warning then
    (((s1.put Reg.THM_STATUS.warning 1).put Reg.THM_STATUS.warn_event 1).gldCount 16).raiseThermal
  else if down && s.thermal.coolSeen then s1.put Reg.THM_STATUS.warning 0
  else s1

/-- A release that waits is given up, notice and all (R338). -/
def State.dropRelease (s : State) : State :=
  (s.withThermal { s.thermal with releaseWaits := false }).withSvc { s.svc with notices := s.svc.notices.filter (fun g => decide (g.use ≠ .throttleRelease)) }

/-- The throttle's causes and release conditions; a cause deepens the throttle at once from depth 0 and cancels a release that waits (R314, R315, R338). -/
def State.judgeThrottle (s : State) (hot : Int) : State :=
  let lvl : Int := 8 * s.get Reg.THM_LEVELS.throttle_level
  let hys : Int := 8 * s.get Reg.THM_LEVELS.hysteresis
  let r : Int := s.get Reg.THM_CTRL.rate_limit
  let abs := decide (lvl ≤ hot)
  let rate := s.anyRise (fun x => decide (4 * r < 5 * x))
  let rel := decide (hot < lvl - hys) && !s.anyRise (fun x => decide (4 * r < 10 * x))
  let s1 := (s.withThermal { s.thermal with
      absSeen := abs, rateSeen := rate, relSeen := rel
      absHolds := abs && s.thermal.absSeen
      rateHolds := rate && s.thermal.rateSeen
      relHolds := rel && s.thermal.relSeen }).putFlag Reg.THM_STATUS.rate_cause (rate && s.thermal.rateSeen)
  if s1.thermal.absHolds || s1.thermal.rateHolds then
    let s2 := if s1.thermal.mode = s1.get Reg.THM_CTRL.mode then s1.dropRelease else s1
    if s2.get Reg.THM_STATUS.depth = 0 && decide (0 < s2.get Reg.THM_CTRL.max_depth) then s2.setDepth 1 else s2
  else s1

/-- Refresh band of a temperature in eighths of a degree, from the present one (R319). -/
def refreshBand (b : Nat) (t : Int) : Nat :=
  let up : Nat := if 760 ≤ t then 2 else if 680 ≤ t then 1 else 0
  let down : Nat := if 736 ≤ t then 2 else if 656 ≤ t then 1 else 0
  max up (min b down)

/-- The refresh bands of both packages, from sensor and MR4 report; both sensors flagged force ×4 (R311, R319). -/
def State.judgeBands (s : State) (mr4 : List (Option Int)) : State :=
  s.each [0, 1] (fun t k =>
    let f := if k = 0 then Reg.THM_BANDS.mem_band0 else Reg.THM_BANDS.mem_band1
    let seen := (if t.live (17 + k) then [t.reading (17 + k)] else []) ++ (mr4.getD k none).toList
    let b := if !t.live 17 && !t.live 18 then 2
      else match seen with
        | [] => t.get f
        | x :: rest => refreshBand (t.get f) (rest.foldl max x)
    ((t.put f b).put (Reg.MEM_CH_STATUS.refresh_band (2 * k)) b).put (Reg.MEM_CH_STATUS.refresh_band (2 * k + 1)) b)

/-- Every model slot is emptied. -/
def State.dropModels (s : State) : State :=
  (s.each (s.fab.models.map (·.1)) State.clearModel).setFab (fun f => { f with holds := [] }) |>.showReplicas

/-- All work on tiles ends with a status: runs, records on the fabric, standing descriptors (12 R317, 05 R120). -/
def State.endFabricWork (s : State) (status : Nat) : State :=
  let s1 := s.each (s.fab.runs.filter (fun r => match r.kind with | .record _ _ => r.live | _ => true)) (fun t r => t.failWork r status)
  s1.each s1.cap.standing (fun t x => t.failStanding x status)

/-- THERMAL_SHUTDOWN: fabric and LPDDR5X go down in hardware (12 R317). -/
def State.thermalShutdown (s : State) : State :=
  let s1 := ((s.withFab { s.fab with powered := false }).endFabricWork 0x11).dropModels
  let s2 := s1.each ((List.range 84) ++ [96, 97, 98, 99]) (fun t u =>
    let d := t.get (Reg.FAB_LEDGER.data_state u)
    if d = dataFailed || d = dataFenced then t else t.setData u dataOut)
  let s3 := s2.each (List.range 64) (fun t k => (t.put (Reg.FAB_TILE_STATUS.mode k) 0).put (Reg.FAB_TILE_STATUS.busy k) 0)
  let s4 := s3.each (List.range 4) (fun t c => ((t.put (Reg.MEM_CH_STATUS.deep_sleep c) 1).put (Reg.MEM_CH_STATUS.trained c) 0).dramLose c)
  let s5 := ((((s4.put Reg.THM_STATUS.shutdown 1).put Reg.THM_STATUS.restart_wait 1).put Reg.THM_STATUS.shutdown_event 1).bump
    Reg.THM_THROTTLE_COUNT.shutdowns).showCapacity
  let s6 := if s5.service = svcRecovery then s5 else (s5.setService svcHomeroom).put Reg.GLB_SERVICE.stage 4
  ((((s6.withSvc { s6.svc with handover := false }).raiseThermal).gldCount 18).tellRecorder)

/-- Sensors whose readings decide shutdown and restart (R317, R318). -/
def shutSensors : List Nat := List.range 16 ++ [17, 18]

/-- The hardware shutdown's decision: 110 °C on two consecutive samples, or fewer than four quad sensors live (R317, R336). -/
def State.judgeShutdown (s : State) : State :=
  let hot := fun n => s.live n && decide (880 ≤ s.reading n)
  let twice := shutSensors.any (fun n => hot n && s.thermal.hotSeen.getD n false)
  let few := decide (((List.range 16).filter s.live).length < 4)
  let s1 := s.withThermal { s.thermal with hotSeen := (List.range 19).map hot }
  let s2 := s1.when_ few (·.put Reg.THM_STATUS.fabric_held 1)
  if (twice || few) && s.fab.powered then s2.thermalShutdown else s2

/-- May GLD1's sensors be sampled: out of reset, clocks running (R308, 05 "Recess")? -/
def State.samples (s : State) : Bool := !s.svc.rstLow && decide (s.service ≠ svcRecess) && decide (s.service ≠ svcQuiesced)

/-- THERMAL_SAMPLE's effect (R308 to R319). -/
def State.thermalSample (s : State) (codes : List (Option Int)) (activity : List (Nat × Nat)) (mr4 : List (Option Int)) : State :=
  let s1 := (s.each shutSensors (fun t n => t.sampleSensor codes n)).each (List.range 16) State.sampleNear
  let s2 := s1.hotspot activity
  let s3 := match s2.hottestOf (List.range 19) with
    | none => s2
    | some (t, n) => ((s2.put Reg.THM_FLAGS.hottest n).judgeWarning t).judgeThrottle t
  let s4 := (s3.judgeBands mr4).judgeShutdown
  (s4.withThermal { s4.thermal with history := (List.range 19).map (fun n => (s4.reading n :: s4.thermal.history.getD n []).take 10) })

/-- A GLD1 sensor is flagged: left out of every decision until GLD1 cold reset (R310, R311). -/
def State.flagSensor (s : State) (n kind : Nat) : State :=
  let s1 := (s.put (Reg.THM_SENSOR.flag n) kind).put Reg.THM_STATUS.sensor_event 1
  let s2 := if n < 16 then s1.put Reg.THM_FLAGS.flagged (s1.get Reg.THM_FLAGS.flagged ||| 2 ^ n)
    else s1.put Reg.THM_FLAGS.mem_flagged (s1.get Reg.THM_FLAGS.mem_flagged ||| 2 ^ (n - 17))
  let s3 := (s2.raiseThermal).gldCount 19
  let s4 := s3.when_ (decide (4 < ((List.range 16).filter (fun k => !s3.live k)).length)) (fun t =>
    let u := t.put Reg.THM_STATUS.degraded 1
    if u.get Reg.THM_STATUS.depth = 0 then u.setDepth 1 else u)
  if s4.samples then (s4.judgeBands [none, none]).judgeShutdown else s4

/-- A change of throttle mode: at once when load does not rise, else it waits for the release rule (R322). -/
def State.modeChange (s : State) : State :=
  let new := s.get Reg.THM_CTRL.mode
  let s1 := s.dropRelease
  if s.thermal.mode = new then s
  else if rate16 new s.depthFloor ≤ rate16 s.thermal.mode (s.get Reg.THM_STATUS.depth) then
    (s1.withThermal { s1.thermal with mode := new }).setDepth s.depthFloor
  else s1

/-- THM_LEVELS: a level outside 60 to 105 °C keeps its value, and a pair with throttle_level below warn_level keeps both (R322). -/
def State.levelsWrite (s : State) (v : Word) : State :=
  let off := Reg.THM_LEVELS.warn_level.off
  let old := s.word off
  let w := (writtenWord old off (s.expert blk.thm) v).1
  s.setWord off (if fieldOf w 8 8 < fieldOf w 0 8 then withField (withField w 0 8 (fieldOf old 0 8)) 8 8 (fieldOf old 8 8) else w)

/-- THM_CTRL: max_depth is limited by the mode of the same write (R322). -/
def State.thmCtrlWrite (s : State) (v : Word) : State :=
  let off := Reg.THM_CTRL.mode.off
  let old := s.word off
  let w := (writtenWord old off (s.expert blk.thm) v).1
  let limit := fun x : Word => if fieldOf x 20 1 = 0 then 3 else 14
  let w1 := if fieldOf w 16 4 ≤ limit w then w else withField w 16 4 (fieldOf old 16 4)
  let w2 := if fieldOf w1 16 4 ≤ limit w1 then w1 else withField w1 20 1 (fieldOf old 20 1)
  (s.setWord off w2).modeChange

/-- THM_LEVELS and THM_CTRL of a profile (Table 12-3). -/
def thmTable (p : Nat) : Word × Word :=
  if p = 0 then (0x0003645F, 0x18030A14) else if p = 1 then (0x0003645F, 0x181E0114) else (0x00035F5A, 0x18030A0F)

/-- A write of THM_PROFILE.profile leaves Expert and loads Table 12-3 (R321, R322). -/
def State.thmProfileWrite (s : State) (p : Nat) : State :=
  if 3 ≤ p then s
  else
    let s1 := (s.leaveExpert blk.thm).put Reg.THM_PROFILE.profile p
    ((s1.setWord Reg.THM_LEVELS.warn_level.off (thmTable p).1).setWord Reg.THM_CTRL.mode.off (thmTable p).2).modeChange

end Sys2Proof.Machine
end

