-- ==== Sys2Proof/Machine/SvcOps.lean ====
section
/-!
DEFINITION. Machine/SvcOps.lean: shared operations of the GP link, of bring-up, of the warm, VF and fabric resets, and of Recess (spec/01_module_overview.md R12, R13; 05_bringup_homeroom_recess.md; 14 R381 to R383).
-/
namespace Sys2Proof.Machine

open Sys2Proof

/-! The GP link (01 R12, R13). -/

/-- A frame leaves its sender: it takes the next number, and is kept for a resend. -/
def GpSide.send (g : GpSide) (seq : Nat) (m : GpMsg) : GpSide :=
  if seq = g.nextSeq then
    let l := g.sent ++ [(seq, m)]
    { g with nextSeq := (seq + 1) % 256, queue := g.queue.erase m, sent := l.drop (l.length - 255) }
  else g

/-- A frame reaches its receiver: taken when it is whole and the next one expected, refused otherwise. -/
def GpSide.receive (g : GpSide) (seq : Nat) (crcOk : Bool) : GpSide × Bool :=
  if crcOk && decide (seq = g.expect) then ({ g with expect := (seq + 1) % 256, validRun := g.validRun + 1 }, true)
  else ({ g with refusals := g.refusals ++ [g.expect], validRun := 0 }, false)

/-- The frames from number `n` on are sent again, ahead of those not yet sent; how many. -/
def GpSide.resend (g : GpSide) (n : Nat) : GpSide × Nat :=
  match g.sent.findIdx? (fun x => decide (x.1 = n)) with
  | none => (g, 0)
  | some i => ({ g with nextSeq := n, sent := g.sent.take i, queue := (g.sent.drop i).map (·.2) ++ g.queue }, g.sent.length - i)

/-- A side declares the link lost: numbering starts again. -/
def GpSide.lose (g : GpSide) : GpSide :=
  { g with nextSeq := 0, expect := 0, sent := [], refusals := [], validRun := 0, lost := true, up := false }

/-- GLD1 applies a valid frame; while it counts the link as lost it holds every mgmt_state, and the mirror as it stood (R13, 03 R80). -/
def State.gldTakes (s : State) (m : GpMsg) : State :=
  match m with
  | .mgmt u v => if decide (u ≤ 100) && !s.gpGld.lost then s.applyMgmt u v else s
  | .pgood u good => if u ≤ 100 then s.applyPgood u good else s
  | .mirror off w => if s.gpGld.lost then s else s.withMirror (Store.write resetWord s.mirror off w)
  | .answer id ok => s.takeAnswer id ok
  | .image bytes => s.withSvc { s.svc with imageGot := s.svc.imageGot + bytes.length }
  | .idle | .notice _ _ _ _ | .write _ _ | .rcClear _ _ _ _ | .calRequest | .unitRequest _ | .dataState _ _ => s

/-- PSH2 applies a valid frame; while it counts the link as lost its allowances stay as last agreed (R13). -/
def State.pshTakes (s : State) (m : GpMsg) : State :=
  match m with
  | .notice id amplitude start duration => if s.gpPsh.lost then s else s.judgeNotice ⟨id, amplitude, start, duration⟩
  | .write off w => s.pshWrite .bar0 off w
  | .rcClear off lo width amount => s.put ⟨off, lo, width⟩ (s.get ⟨off, lo, width⟩ - amount)
  | .calRequest => s.calStart
  | .unitRequest u =>
    if decide (u ≤ 100) && !(s.mgmtOf u).lock && !s.railOut u then s.orderMgmt u mgmtInService false else s
  | .idle | .mgmt _ _ | .pgood _ _ | .mirror _ _ | .answer _ _ | .image _ | .dataState _ _ => s

/-- Both sides of the link as a frame leaves one and reaches the other. -/
def State.gpExchange (s : State) (toGld : Bool) (seq : Nat) (crcOk : Bool) (m : GpMsg) : State × Bool :=
  if toGld then
    let r := s.gpGld.receive seq crcOk
    (((s.withGpPsh (s.gpPsh.send seq m)).withGpGld (r.1)), r.2)
  else
    let r := s.gpPsh.receive seq crcOk
    (((s.withGpGld (s.gpGld.send seq m)).withGpPsh (r.1)), r.2)

/-- A message other than an idle frame waits while the core that takes it is halted (15 R407). -/
def State.gpTakes (s : State) (toGld : Bool) (m : GpMsg) : Bool := decide (m = .idle) || !s.halted (if toGld then 3 else 4)

/-- A GP link frame is received. -/
def State.gpFrame (s : State) (toGld : Bool) (seq : Nat) (crcOk : Bool) (m : GpMsg) : State :=
  if !s.gpRuns || !s.gpTakes toGld m then s
  else
    let x := s.gpExchange toGld seq crcOk m
    if x.2 then (if toGld then x.1.gldTakes m else x.1.pshTakes m) else x.1

/-- A refusal frame reaches the side that sent the frame. -/
def State.gpRefusal (s : State) (toGld : Bool) (expected : Nat) : State :=
  if !s.gpRuns then s
  else if toGld then
    let r := s.gpGld.resend expected
    ((s.withGpGld (r.1)).withGpPsh { s.gpPsh with refusals := s.gpPsh.refusals.erase expected }).add
      Reg.GLB_GPLINK_STATUS.crc_retries r.2
  else
    let r := s.gpPsh.resend expected
    ((s.withGpPsh (r.1)).withGpGld { s.gpGld with refusals := s.gpGld.refusals.erase expected }).add
      Reg.GLB_GPLINK_STATUS.crc_retries r.2

/-- The GP-link cause. -/
def State.raiseGpLink (s : State) : State := s.raise cause.gpLink noUnit (s.word Reg.GLB_GPLINK_STATUS.link_lost.off).toNat

/-- The link is declared lost by both sides together, though each side of 01 R13 judges for itself: GP_LINK_LOST names no side (DESIGN CHOICE, log 15). -/
def State.gpLose (s : State) : State :=
  let s1 := (((s.withGpPsh (s.gpPsh.lose)).withGpGld (s.gpGld.lose)).put Reg.GLB_GPLINK_STATUS.link_lost 1).put
    Reg.GLB_GPLINK_STATUS.link_up 0
  (s1.raiseGpLink.gldCount 25).when_ s.pshUp (·.trigger 1 true)

/-! The interface check (14 R382, R383, R397). -/

/-- The firmware cause (06 Table 06-12). -/
def State.raiseFw (s : State) : State := s.raise cause.firmware noUnit (s.word Reg.SEC_FW_STATUS.gld1_slot.off).toNat

/-- The digests of PSH2's image and of its other slot are fixed. -/
def State.measurePsh (s : State) : State :=
  s.setImage 1 { s.sec.psh with digest := Config.sha384 s.sec.psh.manifest, otherDigest := s.slotDigest 1 (1 - s.sec.psh.slot) }

/-- The pair is accepted; an untested one is reported. -/
def State.pairAccepted (s : State) : State :=
  let tested := mfTested s.sec.gld.manifest s.sec.psh.manifest
  let s1 := (s.withSec { s.sec with romSafe := false }).measurePsh.fwResult 1
  let s2 := (s1.put Reg.SEC_FW_STATUS.if_mismatch 0).putFlag Reg.SEC_FW_STATUS.unverified_pair (!tested)
  s2.when_ (!tested) (·.raiseFw)

/-- A refused pair with an image on trial: the trial is abandoned, and the die concerned starts again from its previous slot. -/
def State.pairRolledBack (s : State) : State :=
  let t := (s.abandon 0).abandon 1
  let u := t.when_ s.sec.psh.trial (·.pshRestart)
  (if s.sec.gld.trial then u.coldTail else u).showFw

/-- In Recovery no Ethernet or Akgal link is up (02 Table 02-4a). -/
def State.linksDown (s : State) : State :=
  (s.each [0, 1] (fun t p => t.put (Reg.CAP_ETH_MAC_HI.link_up p) 0)).each (List.range 4) (fun t p =>
    if t.akState p = akUp then t.linkDown p akDetect else t)

/-- A refused pair without a trial: PSH2 loads slot-safe, and a module in service enters Recovery, its Ethernet and Akgal links down. -/
def State.pairRefused (s : State) : State :=
  let s1 := s.when_ (s.sec.psh.digest.isEmpty) (·.measurePsh)
  let s2 := ((s1.withSec { s1.sec with romSafe := true }).put Reg.PWR_PROFILE.profile 2).loadBreaker 2
  let s3 := (s2.put Reg.SEC_FW_STATUS.if_mismatch 1).raiseFw
  if s.service = svcBoot then s3 else s3.linksDown.setService svcRecovery

/-- INTERFACE_CHECK: both dies judge the running images (Table 14-6). -/
def State.interfaceCheck (s : State) : State :=
  let r := fwPair s.sec.strict s.sec.gld.manifest s.sec.psh.manifest
  let s1 := s.fwResult r
  if r = 1 then s1.pairAccepted
  else if s.sec.gld.trial || s.sec.psh.trial then s1.pairRolledBack
  else s1.pairRefused

/-- The link counts as restored: PSH2 resends every mgmt_state, GLD1 its increments (R13, 13 R346, 14 R388). -/
def State.gpRestore (s : State) : State :=
  let s1 := ((s.withGpPsh { s.gpPsh with lost := false, up := true }).withGpGld { s.gpGld with lost := false, up := true }).put Reg.GLB_GPLINK_STATUS.link_up 1
  let s2 := s1.each (List.range 101) (fun t u =>
    let e := t.mgmtOf u
    t.toGld (.mgmt u (e.mgmt + (if e.lock then 8 else 0))))
  let s3 := s2.sendIncrements
  if s.sec.checkDue then (s3.withSec { s3.sec with checkDue := false }).interfaceCheck else s3

/-! Watched clocks (01 R20, R21). -/

/-- The bit of a watched clock in GLB_CLK_STATUS. -/
def WatchedClock.bit : Sys2Proof.WatchedClock → Nat
  | .refclk => 0 | .capture => 1 | .hpClk => 2 | .eth0 => 3 | .eth1 => 4 | .akgal p => 5 + p

/-- Its lost bit and its ok bit. -/
def clkLost (c : WatchedClock) : Fld := ⟨Reg.GLB_CLK_STATUS.refclk_lost.off, WatchedClock.bit c, 1⟩
def clkOk (c : WatchedClock) : Fld := ⟨Reg.GLB_CLK_STATUS.refclk_lost.off, 16 + WatchedClock.bit c, 1⟩

/-- Do the detectors run: GLD1 out of reset and not in Recess? -/
def State.watches (s : State) : Bool := !s.svc.rstLow && decide (s.service ≠ svcRecess)

/-- The crossings a clock feeds are held in reset, or start empty. -/
def State.holdCrossings (s : State) (c : WatchedClock) (held : Bool) : State :=
  s.withCrossHeld (s.crossHeld.set (WatchedClock.bit c) held)

/-- The Hall Pass counts kept while X12 was held reach their registers (R21). -/
def State.releaseCounts (s : State) : State :=
  ((s.add Reg.HPS_TRIGGER_COUNT.triggers s.pass.heldTriggers).add Reg.HPS_DEFAULT_COUNT.default_answers s.pass.heldDefaults).setPass (fun p => { p with heldTriggers := 0, heldDefaults := 0 })

/-- What the loss of a clock means to the block it feeds: a record cut short is truncated, an Akgal link goes down (09 R232, 11 R282). REFCLK carries no BAR access until it is back (State.pcieUp), HP_CLK holds the last answer (10 R272), and no record or frame comes in over a crossing that is held. -/
def State.clockGone (s : State) (c : WatchedClock) : State :=
  match c with
  | .capture => s.endLink true
  | .akgal p => if s.akState p = akUp then s.linkDown p akRetrain else s
  | .refclk | .hpClk | .eth0 | .eth1 => s

/-! Units come into service (05 Table 05-2, 12 R325). -/

/-- Units under IN_SERVICE with power that neither failed nor are fenced become READY. -/
def State.openUnits (s : State) (l : List Nat) : State :=
  (s.each l (fun t u =>
    let d := t.get (Reg.FAB_LEDGER.data_state u)
    let whole := decide (u < 64) || decide (84 ≤ u) || (unitTiles u).all t.tileReady
    if decide (t.get (Reg.FAB_LEDGER.mgmt_state u) = mgmtInService) && t.flag (Reg.FAB_LEDGER.pgood u) && !t.unitDark u && whole &&
      decide (d ≠ dataFailed) && decide (d ≠ dataFenced) then t.setData u dataReady else t)).showCapacity

/-- Streams 0 to 7 and the Hall Pass port. -/
def serviceUnits : List Nat := [84, 85, 86, 87, 88, 89, 90, 91, 100]

/-- Tiles that fail a bring-up test are fenced as tile faults, with Homeroom's work on their gangs, and counted (05 Table 05-4, 12 R329). -/
def State.failTiles (s : State) (l : List Nat) : State :=
  s.each l (fun t k => if t.flag (Reg.FAB_TILE_STATUS.fenced k) then t else (t.fenceWork k).bump Reg.GLB_BRINGUP_STATUS.tiles_failed)

/-- Spares and partners cover the failed positions (05 Table 05-4, 12 Table 12-8). -/
def State.coverTiles (s : State) (l : List Nat) : State :=
  s.each (l.filter (fun k => !s.isSpare k)) (fun t k =>
    if t.carrier k ≠ k then t else match t.cover k with | some c => (t.setCover k c).showCapacity | none => t)

/-! Bring-up stages (05 R112 to R118). -/

/-- GLB_SERVICE.stage. -/
def State.stage (s : State) : Nat := s.get Reg.GLB_SERVICE.stage

/-- A stage starts: Image is sent from its first byte, Calibrate asks PSH2, Akgal lets every enabled port train (05 Table 05-2, 11 R278). -/
def State.startStage (s : State) (n : Nat) : State :=
  let s1 := s.put Reg.GLB_SERVICE.stage n
  if n = 1 then s1.withSvc { s1.svc with imageSent := 0, imageGot := 0 }
  else if n = 3 then s1.interfaceCheck
  else if n = 6 then s1.toPsh .calRequest
  else if n = 8 then s1.each (List.range 4) (fun t p =>
    if t.flag (Reg.AKG_PORT_CTRL.enable p) && t.akState p == akDisabled then t.put (Reg.AKG_PORT_STATUS.state p) akDetect else t)
  else s1

/-- The GLD1 image runs: its manifest and measurements are fixed (14 R376, R381). -/
def State.gldStarts (s : State) : State :=
  let m := s.slotManifest 0 s.sec.gld.slot
  (s.setImage 0 { s.sec.gld with
    manifest := m, digest := Config.sha384 m, otherDigest := s.slotDigest 0 (1 - s.sec.gld.slot) }).showFw

/-- Verify ends: the image runs, or the other slot is sent, or the module enters Recovery (05 Table 05-4, 14 R381). -/
def State.verifyEnd (s : State) : State :=
  let r := s.checkSlot 0 s.sec.gld.slot
  if r = 0 then s.gldStarts.startStage 3
  else if s.sec.otherTried then (s.fwResult r).setService svcRecovery
  else
    let s1 := s.withSec { s.sec with otherTried := true }
    let s2 := if s1.sec.gld.trial then s1.abandon 0 else s1.setImage 0 { s1.sec.gld with slot := 1 - s1.sec.gld.slot }
    s2.showFw.startStage 1

/-- HOMEROOM_OPEN: Homeroom opens on the passing tiles 0 to 15 (05 R113). -/
def State.openHomeroom (s : State) (failed : List Nat) : State :=
  let s1 := (s.failTiles (failed.filter (fun t => decide (t < 16)))).openUnits (List.range 16 ++ [64, 65, 66, 67] ++ serviceUnits)
  s1.setService svcHomeroom

/-- The entry test ends: Homeroom opens, or Recovery follows a refused pair (05 R113, 14 R383). -/
def State.entryEnd (s : State) (failed : List Nat) : State :=
  if s.flag Reg.SEC_FW_STATUS.if_mismatch then s.setService svcRecovery
  else
    let s1 := s.openHomeroom failed
    if s.svc.warm then s1.startStage 5 else s1.startStage 4

/-- Memory ends with the channels that failed training (05 Table 05-4). -/
def State.memoryEnd (s : State) (failed : List Nat) : State :=
  let bad := (List.range 4).filter failed.contains
  let s1 := s.each bad (fun t c => (((t.put Reg.GLB_BRINGUP_STATUS.mem_fail (t.get Reg.GLB_BRINGUP_STATUS.mem_fail ||| 2 ^ c)).put
    (Reg.MEM_CH_STATUS.trained c) 0).setData (96 + c) dataFailed))
  let good := (List.range 4).filter (fun c => !failed.contains c)
  let s2 := s1.each good (fun t c => (t.put (Reg.MEM_CH_STATUS.trained c) 1).put (Reg.MEM_CH_STATUS.deep_sleep c) 0)
  let s3 := s2.openUnits (good.map (96 + ·))
  if good.isEmpty then s3.put Reg.GLB_SERVICE.stuck_homeroom 1 else s3.startStage 5

/-- The test of tiles 16 to 63, and in a full bring-up the gang test, end (05 R115, R116, R120). -/
def State.fabricEnd (s : State) (failed : List Nat) : State :=
  let l := failed.filter (fun t => decide (t < 64) && (!s.svc.warm || decide (16 ≤ t)))
  let s1 := ((s.failTiles l).openUnits ((List.range 64).filter (fun t => decide (16 ≤ t)))).coverTiles l
  let s2 := s1.openUnits ((List.range 20).map (64 + ·))
  if s.svc.warm then
    if (List.range 4).any (fun c => s.flag (Reg.MEM_CH_STATUS.trained c)) then s2.startStage 7
    else s2.put Reg.GLB_SERVICE.stuck_homeroom 1
  else s2.startStage 6

/-- Calibrate ends, or a refused calibration is asked for again once (05 Table 05-4). -/
def State.calibrateEnd (s : State) (refused : Bool) : State :=
  if !refused then s.startStage 7
  else if s.svc.calRefusals = 0 then (s.withSvc { s.svc with calRefusals := 1 }).startStage 6
  else (s.put Reg.GLB_BRINGUP_STATUS.cal_fail 1).startStage 7

/-- Full service starts (05 R113, R118, R130). -/
def State.fullService (s : State) : State :=
  let ms := min ((s.now - s.svc.powerGoodAt) / 1000000) 4095
  let s1 := (s.withSvc { s.svc with handover := false, warm := false, fromMemory := false, calRefusals := 0 }).withHost { s.host with flights := s.host.flights.map (fun (f : Flight) => { f with heldBack := false }) }
  let s2 := (s1.put Reg.GLB_SERVICE.stage 15).when_ (!s.svc.warm || decide (s.get Reg.GLB_SERVICE.bringup_time = 0)) (·.put Reg.GLB_SERVICE.bringup_time ms)
  ((s2.setService svcFull).openUnits serviceUnits).reroute.schedule

/-- The stage that runs ends; `failed` lists the tiles or channels that failed, or is not empty where a calibration was refused. -/
def State.stageEnd (s : State) (failed : List Nat) : State :=
  if s.stage = 1 then s.startStage 2
  else if s.stage = 2 then s.verifyEnd
  else if s.stage = 3 then
    (if s.sec.restarting || s.sec.checkDue || (s.svc.warm && s.host.perstLow) then s else s.entryEnd failed)
  else if s.stage = 4 then
    if !s.fab.powered || s.flag Reg.GLB_SERVICE.stuck_homeroom then s
    else if s.svc.fromMemory && s.flag Reg.THM_STATUS.shutdown then (s.openHomeroom failed).put Reg.THM_STATUS.shutdown 0
    else s.memoryEnd failed
  else if s.stage = 5 then (if s.flag Reg.GLB_SERVICE.stuck_homeroom then s else s.fabricEnd failed)
  else if s.stage = 6 then s.calibrateEnd (!failed.isEmpty)
  else if s.stage = 7 then s.startStage (if s.svc.warm || s.svc.fromMemory then 9 else 8)
  else if s.stage = 8 then
    (s.put Reg.GLB_BRINGUP_STATUS.akgal_untrained ((List.range 4).map (fun p => if s.akState p = akUp then 0 else 2 ^ p)).sum).startStage 9
  else if s.stage = 9 then (if s.svc.handover then s.fullService else s)
  else s

/-- Has Homeroom's work on tiles 0 to 15 ended: no run holds gangs, and no accepted descriptor uses them (05 R118)? -/
def State.homeroomDone (s : State) : Bool :=
  s.fab.runs.all (fun r => r.gangs.isNone) &&
  s.host.flights.all (fun f => !(usesGang (dOp f.bytes) || dOp f.bytes == opLoadCoeff))

/-! Resets (05 R119, R120, R127). -/

/-- The trace sink's owner has lost its ring: enable clears, staged records and the write pointer are written, and tracing stops (15 R419). -/
def State.traceOrphan (s : State) : State :=
  let s1 := s.put Reg.DBG_TRACE_CTRL.enable 0
  (s1.each s.dbg.queue (fun t _ => t.traceDrain)).traceWp

/-- HIF_PART_COMMIT, with the trace sink of an owner that has lost everything (R152, 15 R419). -/
def State.commitWhole (s : State) : State :=
  let u := s.partCommit
  let owner := u.get Reg.DBG_TRACE_CTRL.owner
  if decide (owner ≠ 0) && decide (0 < (s.part owner).owned) && decide ((u.part owner).owned = 0) then u.traceOrphan else u

/-- Is the host ring the trace sink? -/
def State.traceToHost (s : State) : Bool :=
  s.flag Reg.DBG_TRACE_CTRL.enable && (s.flag Reg.DBG_TRACE_CTRL.sink || decide (s.get Reg.DBG_TRACE_CTRL.owner ≠ 0))

/-- Bits of a register word that a warm reset keeps (05 Table 05-6, R130; 01 R23; 07 R193; 11 R307; 12 R335, R339, R340; 14 R399; 15 R421; 16 R423). -/
def warmMask (shut : Bool) (off : Nat) (w : Word) : Word :=
  if off < 0x100 then 0xFFFFFFFF
  else if off = 0x100 then 0x0FFF0000
  else if off = 0x104 then 0xFFFFFFFF
  else if off = Reg.GLB_EXPERT_STATUS.expert.off then BitVec.ofNat 32 (2 ^ blk.pwr + 2 ^ blk.rcd + 2 ^ blk.sec)
  else if off = 0x20008 ∨ off = 0x20020 ∨ off = 0x20024 then 0xFFFFFFFF
  else if 0x20100 ≤ off ∧ off < 0x20200 then 0x00003F38
  else if 0x21000 ≤ off ∧ off < 0x21000 + 4 * 101 then
    (if decide (off < 0x21000 + 4 * 84) && fieldOf w 8 3 == dataFailed then 0x0000071F else 0x0000001F)
  else if off = 0x70008 ∨ (0x70400 ≤ off ∧ off < 0x70800) then 0xFFFFFFFF
  else if 0x70100 ≤ off ∧ off < 0x70180 ∧ off % 32 = 0 then 0xFFFFFFFF
  else if 0x80000 ≤ off ∧ off < 0x90000 then 0xFFFFFFFF
  else if off = 0x90010 then (if shut then 0x000003C0 else 0x00000300)
  else if off = 0x90014 then 0x000FFFFF
  else if off = 0x90018 then 0x00000010
  else if off = 0x9001C then 0xFFFF0000
  else if 0x90100 ≤ off ∧ off < 0x90158 then
    (if decide (0x9014C ≤ off) || decide (fieldOf w 16 3 ≠ 0) then 0xFFFFFFFF else 0x00070000)
  else if 0xA0000 ≤ off ∧ off < 0xD0000 then 0xFFFFFFFF
  else if off = 0xD0008 ∨ off = 0xD000C then 0xFFFFFFFF
  else 0

/-- The register words after a warm reset. -/
def warmRegs (shut : Bool) (regs : Store Word) : Store Word :=
  regs.foldl (fun c p =>
    let m := warmMask shut p.1 p.2
    Store.write resetWord c p.1 ((p.2 &&& m) ||| (resetWord p.1 &&& ~~~m))) []

/-- The Akgal state after a warm reset: links stay, replay buffers are emptied (11 R282). -/
def Akgal.warm (a : Akgal) : Akgal :=
  { Akgal.reset with ports := a.ports.map (fun (p : AkPort) => { p with unacked := [], waiting := [], nakOut := false, timeouts := 0 }) }

/-- Fields a warm reset leaves as reset leaves them (05 Table 05-6). -/
def State.warmFields (s : State) (linkUp : Bool) : State :=
  (((((((((((s.withRegs (warmRegs (s.flag Reg.THM_STATUS.restart_wait) s.regs)).withLatch []).withHiStage []).withHost { HostIf.reset with
      posted := s.host.posted
      perstLow := s.host.perstLow
      linkUp := linkUp
      halves := s.host.halves.filter (fun h => decide (sharedBlk h.block = blk.pwr)) }).withSvc { s.svc with
      warm := true, handover := false, commitAt := 0, enterHeld := false, wakeWaits := false, warmWaits := none, flrWaits := []
      wakeRefused := false, fromMemory := false
      notices := s.svc.notices.filter (fun g => decide (g.use = StepUse.restoreShed)) }).withThermal { Thermal.reset with winOut := s.thermal.winOut, winIn := s.thermal.winIn, dieWarn := s.thermal.dieWarn }).withSec { s.sec with vault := [], reply := none }).withDbg { s.dbg with
      cores := (s.dbg.cores.take 4).map Core.resume ++ s.dbg.cores.drop 4
      queue := [], dropped := 0, bufUsed := 0, sinceWp := 0 }).withFab { Fabric.reset with powered := s.fab.powered, partners := s.fab.partners }).withPass { HallPass.reset with verdict := s.pass.verdict, tagv := s.pass.tagv }).withCap (Capture.reset)).withAkg (s.akg.warm)

/-- A warm reset's effect on the module: trace and pair are left in order, then everything of Table 05-6 resets and the short bring-up starts; a shutdown that waits stays in Homeroom, and Recovery, which has no image or pair to start, stays Recovery (05 R119, R120, 12 R335; DEDUCED, log 49). -/
def State.warmGld (s : State) (linkUp : Bool) : State :=
  let s1 := s.when_ s.traceToHost (·.traceOrphan)
  let s2 := s1.when_ (decide (s.role ≠ 0)) (·.sendPair 3 .unpair)
  let s3 := (s2.warmFields linkUp).showCores
  let s4 := s3.each (List.range 4) (fun t p => if t.akState p = akDisabled then t else t.showFill p)
  let s5 := s4.each (List.range 101) (fun t u => t.showLedger u)
  let s6 := s5.openUnits (((List.range 4).filter (fun c => s5.flag (Reg.MEM_CH_STATUS.trained c))).map (96 + ·) ++
    ((List.range 4).filter (fun p => s5.akState p = akUp)).map (92 + ·))
  let s7 := s6.when_ (s6.flag Reg.THM_STATUS.degraded) (·.put Reg.THM_STATUS.depth 1)
  if s.service = svcRecovery then (s7.setService svcRecovery).put Reg.GLB_SERVICE.stage s.stage
  else if s.flag Reg.THM_STATUS.restart_wait then (s7.openUnits serviceUnits).setService svcHomeroom |>.put Reg.GLB_SERVICE.stage 4
  else s7.put Reg.GLB_SERVICE.stage 3

/-- The PCIe endpoint alone is reset (05 R127). -/
def State.endpointReset (s : State) (linkUp : Bool) : State :=
  s.withHost { s.host with
    msix := HostIf.reset.msix, fn := HostIf.reset.fn, aspmL1 := false, numVfs := 0, linkUp := linkUp, linkL1 := false }

/-- A warm reset arrives (05 R127): PERST_N during bring-up, and any cause in Boot, where no image has been verified yet, reset the endpoint alone; in Recess the module wakes first; Quiesced does nothing more. -/
def State.warmReset (s : State) (linkUp perst : Bool) : State :=
  if s.svc.rstLow || s.service == svcQuiesced then s
  else if s.service = svcFull then s.warmGld linkUp
  else if s.service = svcEntering ∨ s.service = svcRecess ∨ s.service = svcWaking then
    let t := (if linkUp then s else s.endpointReset false).wakeEvent
    if t.service = svcFull then t.warmGld linkUp
    else t.withSvc { t.svc with warmWaits := some linkUp }
  else if decide (s.service = svcBoot) || (perst && decide (s.service = svcHomeroom)) then s.endpointReset linkUp
  else s.warmGld linkUp

/-- GLB_RESET.cold: PSH2 pulses GP_RST_N; a joint activation makes its live restart first (05 R119, 14 R387). -/
def State.askCold (s : State) : State :=
  if s.gpGld.lost || !s.pshUp then s
  else if s.sec.gld.pending && s.sec.joint && !s.sec.gld.trial then
    let s1 := s.activate 1
    (s1.withSec { s1.sec with coldWaits := true }).pshRestart.showFw
  else s.coldReset

/-- What one partition's flight holds is dropped without a completion (05 R120, 06 R160). -/
def State.dropFlights (s : State) (p : Nat) : State :=
  let ids := (s.host.flights.filter (fun f => decide (f.part = p))).map (·.id)
  let gone := fun id => ids.contains id
  let pubs := s.pass.publishes.any (fun x => gone x.flight)
  let s1 := s.each (s.fab.runs.filter (fun r => gone r.id)) (fun t r => t.endRun r.id)
  let s2 := s1.each (s1.cap.standing.filter (fun x => gone x.flight)) (fun t x => t.takeBack x.flight true)
  let s3 := ((((s2.withHost { s2.host with
      flights := (s2.host.flights.filter (fun (f : Flight) => !gone f.id)).map (fun (f : Flight) =>
        if (match f.chainOn with | some i => gone i | none => false) then { f with chainOn := none } else f)
      held := s2.host.held.filter (fun h => decide (h.entry.part ≠ p)) }).withCap { s2.cap with standing := s2.cap.standing.filter (fun x => !gone x.flight) }).withPass { s2.pass with publishes := s2.pass.publishes.filter (fun x => !gone x.flight) }).withAkg { s2.akg with waits := s2.akg.waits.filter (fun w => !gone w.flight) })
  (s3.put Reg.HIF_STATUS.inflight s3.host.flights.length).showPublish.when_ (pubs && !s3.passHolds) (·.shadowDrain)

/-- The registers and pointers of one ring reset (06 R163). -/
def State.clearRing (s : State) (base n : Nat) : State :=
  (s.withRegs (Store.clear s.regs (base + 0x20 * n) 0x20)).withHiStage (Store.clear s.hiStage (base + 0x20 * n) 0x20)

/-- A function-level reset of VF `p`; its rings' Expert fields take the profile's values (R156) (05 Table 05-6, 06 R160, R163, 15 R419). -/
def State.vfReset (s : State) (p : Nat) : State :=
  let s1 := (s.when_ (s.traceToHost && decide (s.get Reg.DBG_TRACE_CTRL.owner = p)) (·.traceOrphan)).dropFlights p
  let c := s.part p
  let sqs := (List.range 64).filter c.sqs.testBit
  let cqs := (List.range 64).filter c.cqs.testBit
  let tab := hifTable (s.get Reg.HIF_PROFILE.profile)
  let s2 := (s1.each sqs (fun t n => (t.clearRing 0x11000 n).put (Reg.HIF_SQ_CFG.weight n) 1)).each cqs (fun t n =>
    (((t.clearRing 0x12000 n).put (Reg.HIF_CQ_CFG.urgent_bypass n) 1).put (Reg.HIF_CQ_COALESCE.coalesce_count n) tab.1).put
      (Reg.HIF_CQ_COALESCE.coalesce_time n) tab.2.1)
  let h := s2.host
  let inSq := fun (n : Nat) => sqs.contains n
  let inCq := fun (n : Nat) => cqs.contains n
  (s2.withHost { h with
    sqLastDone := h.sqLastDone.mapIdx (fun n x => if inSq n then none else x)
    sqStopped := h.sqStopped.mapIdx (fun n x => x && !inSq n)
    cqStopped := h.cqStopped.mapIdx (fun n x => x && !inCq n)
    unsignalled := h.unsignalled.mapIdx (fun n x => if inCq n then 0 else x)
    held := h.held.filter (fun e => !inCq e.cq)
    msix := h.msix.mapIdx (fun n x => if n / 8 = p then ⟨0, 0, true, false⟩ else x)
    fn := h.fn.set p FnCfg.reset
    vfCause := h.vfCause.set (p - 1) 0
    vfEnable := h.vfEnable.set (p - 1) 0xFFFF }).reroute

/-- Descriptors of the fabric that are in flight and have not begun, with their completion. -/
def State.waitingFabric (s : State) : List Flight :=
  s.host.flights.filter (fun f => decide (f.stage = .waiting) && (usesGang (dOp f.bytes) || dOp f.bytes == opLoadCoeff))

/-- GLB_RESET.fabric: work in flight ends ABORTED, begun or not, and tile states, banks and accumulators clear (05 Table 05-6, R120, 07 R193). -/
def State.fabReset (s : State) : State :=
  let s0 := s.endFabricWork 0x13
  let s1 := ((s0.each s0.waitingFabric (fun t f => t.finish f.id 0x13 0 0)).dropModels).setFab (fun f => { f with accs := [], captured := none, capturing := false })
  let s2 := (List.range 64).foldl (fun (t : State) k => (t.put (Reg.FAB_TILE_STATUS.mode k) 0).put (Reg.FAB_TILE_STATUS.busy k) 0) s1
  (((s2.put Reg.FAB_ACC_SEL.valid 0).put Reg.FAB_ACC_LO.acc_lo 0).put Reg.FAB_ACC_HI.acc_hi 0).put Reg.FAB_ACC_WRAP.wrap 0

/-! Recess (05 R121 to R129). -/

/-- Debug mode of Debug and Trace holds Recess off (15 R405). -/
def State.recessCode (s : State) : Nat :=
  if s.service ≠ svcFull then 1
  else if decide (s.host.flights ≠ []) || (List.range 64).any (fun n => s.sqOn n && decide (s.sqWaiting n ≠ 0)) then 2
  else if decide (s.role ≠ 0) || s.akg.pairing.isSome then 3
  else if !s.host.aspmL1 then 4 else 0

/-- The capture receivers go off: nothing more is received. -/
def State.receiversOff (s : State) : State :=
  (((s.endLink true).put Reg.CAP_LINK_STATUS.lane_lock 0).put Reg.CAP_LINK_STATUS.aligned 0).put Reg.CAP_LINK_STATUS.link_up 0

/-- The Ethernet and Akgal transmitters idle: every such link is down (02 Tables 02-4, 02-4a). -/
def State.linksIdle (s : State) : State :=
  (s.each [0, 1] (fun t p => t.put (Reg.CAP_ETH_MAC_HI.link_up p) 0)).each (List.range 4) (fun t p =>
    if t.akState p = akUp then t.put (Reg.AKG_PORT_STATUS.state p) akDetect else t)

/-- Every trained LPDDR5X channel goes into self-refresh. -/
def State.selfRefresh (s : State) : State :=
  s.each (List.range 4) (fun t c => if t.flag (Reg.MEM_CH_STATUS.trained c) then t.put (Reg.MEM_CH_STATUS.self_refresh c) 1 else t)

/-- Every tile's clock stops: FAB_TILE_STATUS shows it gated. -/
def State.gateTiles (s : State) : State := s.each (List.range 64) (fun t k => t.put (Reg.FAB_TILE_STATUS.mode k) 0)

/-- Entry starts: fetch stops, the capture receivers go off, the state is saved to the reserved area of LPDDR5X (R122 steps 1 to 3). -/
def State.enterRecess (s : State) : State :=
  let s1 := (s.withSvc { s.svc with
    commitAt := s.now + Config.commitDelay s.fresh % 2000000, wakeWaits := false, savedCopy := some s.fresh }).withFresh (s.fresh + 1)
  s1.receiversOff.setService svcEntering

/-- The commit point of an entry: the fabric is power-gated, and the ETH and AK pins take their Recess states (R122 step 4, 02 R33). -/
def State.recessCommit (s : State) : State := if s.fab.powered then (s.withFab { s.fab with powered := false }).gateTiles.linksIdle else s

/-- A Recess request: it starts entry, or is refused (R121, R129); debug mode holds it (15 R405). -/
def State.requestRecess (s : State) : State :=
  if s.debugMode then s.withSvc { s.svc with enterHeld := true }
  else
    let c := s.recessCode
    if c = 0 then s.enterRecess
    else ((s.put Reg.GLB_RECESS_STATUS.last_refusal c).put Reg.GLB_RECESS_STATUS.refused 1).raiseService

/-- Entry completes: fabric gated, LPDDR5X in self-refresh, the link in L1, Akgal and Ethernet links lost, clocks no longer watched (R122, R123, 01 R20). -/
def State.recessEntered (s : State) : State :=
  let s1 := s.recessCommit.linksIdle.selfRefresh
  let s2 := s1.withHost { s1.host with linkL1 := true }
  let s4 := (s2.put ⟨Reg.GLB_CLK_STATUS.refclk_ok.off, 16, 9⟩ 0).setService svcRecess
  if s.svc.wakeWaits then (s4.withSvc { s4.svc with wakeWaits := false }).wakeEvent else s4

/-- The wake completes: full service again with the fabric restored and its tiles clock-gated, late if its notice was refused; the resets that waited are carried out, each VF's and the module's (R124, R125, R127, R128, Table 05-8). -/
def State.wakeDone (s : State) : State :=
  let s1 := (s.when_ s.svc.wakeRefused (·.put Reg.GLB_RECESS_STATUS.late_wake 1)).each (List.range 4) (fun t c =>
    t.put (Reg.MEM_CH_STATUS.self_refresh c) 0)
  let s2 := (s1.withFab { s1.fab with powered := true }).withSvc { s1.svc with
      wakeRefused := false, warmWaits := none, flrWaits := [], savedCopy := none, shedHalf := s1.svc.shedHalf || s1.flag Reg.PWR_STATE.shed_active
      notices := s1.svc.notices.filter (fun g => decide (g.use ≠ StepUse.wake)) }
  let s3 := (s2.setService svcFull).schedule
  match s.svc.warmWaits with
  | some linkUp => s3.warmReset linkUp false
  | none => s3.each s.svc.flrWaits State.vfReset

/-- The Recess profile (05 "Basic control"). -/
def State.recessProfileWrite (s : State) (p : Nat) : State :=
  if 2 ≤ p then s
  else (((s.leaveExpert blk.glb).put Reg.GLB_RECESS_CTRL.profile p).put Reg.GLB_RECESS_CTRL.wake_n_en 1).put Reg.GLB_RECESS_CTRL.idle_time 10

end Sys2Proof.Machine
end

