-- ==== Sys2Proof/Machine/DebugOps.lean ====
section
/-!
DEFINITION. Machine/DebugOps.lean: shared operations on the cores as a debugger sees them, and on the trace set-up (spec/15_debug_trace.md).
-/
namespace Sys2Proof.Machine

open Sys2Proof

/-! Cores (R405 to R408, R417, R418). -/

/-- A core. -/
def State.core (s : State) (c : Nat) : Core := s.dbg.cores.getD c Core.reset

/-- May the debugger halt the core: debug mode on, the die powered, PSH2 not refused after a power-fail (R405, R418)? -/
def State.mayHalt (s : State) (c : Nat) : Bool :=
  s.debugMode && (if c = 4 then s.svc.pshPower && !s.dbg.noHaltPsh else !s.svc.rstLow) && !s.halted c

/-- What firmware leaves as the core stops is open: the registers, and a GLD1 core's data memory. -/
def State.coreRan (s : State) (c : Nat) : State :=
  let t := s.mapCore c (fun k => { k with
    dpc := (Config.nextInstruction s.fresh).toNat
    gpr := (List.range 32).map (fun x => if x = 0 then 0 else (Config.coreReg s.fresh x).toNat) })
  let u := t.withFresh (s.fresh + 1)
  if c < 4 then u.withDbg { u.dbg with
    coreMem := Store.clear u.dbg.coreMem (0x40000 + 0x2000 * c) 0x2000
    coreEra := u.dbg.coreEra.set c (s.fresh + 1) }
  else u

/-- The core halts at an instruction boundary with a cause; core 2 leaves its tiles in Hold (07 Table 07-1). -/
def State.haltCore (s : State) (c cause : Nat) : State :=
  ((s.coreRan c).mapCore c (fun k => { k with haltReq := false, halted := true, deferred := false, lock := none, cause := cause })).when_
    (decide (c = 2)) State.showModes

/-- Can the core be inside the sequence (Table 15-5)? -/
def lockFits (c : Nat) : LockSeq → Bool
  | .ringPointer => decide (c = 0)
  | .descriptor => decide (1 ≤ c) && decide (c ≤ 3)
  | .unlockPair => decide (c = 4)
  | .spiErase => decide (c = 4)

/-- A halt with its cause: at once, or deferred inside a locked sequence (R406, R417). -/
def State.haltOrDefer (s : State) (c cause : Nat) (lock : Option LockSeq) : State :=
  match lock with
  | some q =>
    if lockFits c q then
      s.mapCore c (fun k => { k with haltReq := decide (cause = 1), halted := false, deferred := true, lock := some q, why := cause })
    else s.haltCore c cause
  | none => s.haltCore c cause

/-- DCTRL.halt_req, a W1S bit; a request that cannot be granted is refused (00 R1, 15 R406, R418). -/
def State.haltRequest (s : State) (c : Nat) (lock : Option LockSeq) : State :=
  if !s.mayHalt c then s
  else if (s.core c).deferred then s.mapCore c (fun k => { k with haltReq := true })
  else s.haltOrDefer c 1 lock

/-- DCTRL.resume: the halted core goes on at DPC; GLD1's work goes on. -/
def State.coreResume (s : State) (c : Nat) : State :=
  if s.debugMode && s.halted c then (s.mapCore c Core.resume).when_ (decide (c = 2)) State.showModes else s

/-- DCTRL.step: one instruction, or one whole locked sequence (R406, R417). -/
def State.coreStep (s : State) (c : Nat) (lock : Option LockSeq) : State :=
  if s.debugMode && s.halted c then s.haltOrDefer c 3 lock else s

/-- A locked sequence ends: a deferred halt takes effect (R417). -/
def State.lockEnd (s : State) (c : Nat) : State :=
  if (s.core c).deferred then s.haltCore c (s.core c).why else s

/-- Is the flight a descriptor whose commit core `c` carries (Table 15-5)? -/
def State.committing (s : State) (c id : Nat) : Bool :=
  match s.flight id with
  | none => false
  | some f =>
    let op := dOp f.bytes
    decide (f.stage ≠ .ended) && decide (opCore op = c) &&
    (op == opBankSwap || op == opPublish || op == opReconcile || op == opMirror || (op == opFwStage && decide (natAt f.bytes 25 1 = 2)))

/-- A descriptor commit is broken: the descriptor completes LOCK_BROKEN and what it would have done is not done (Table 15-5). -/
def State.breakCommit (s : State) (c id : Nat) : State :=
  if s.committing c id then
    let s1 := s.setAkg (fun a => { a with
      pairing := a.pairing.filter (fun p => decide (p.flight ≠ id)), swap := a.swap.filter (fun p => decide (p.1 ≠ id)) })
    let s2 := s1.finish id 0x14 0 0
    if s2.passHolds || s2.flag Reg.HPS_STATUS.copying then s2 else s2.shadowDrain
  else s

/-- What a broken sequence leaves (Table 15-5): pointers and erases are made again after resume. -/
def State.breakLock (s : State) (c id : Nat) (q : LockSeq) : State :=
  match q with
  | .descriptor => s.breakCommit c id
  | .unlockPair => s.withHost { s.host with halves := s.host.halves.filter (fun h => decide (sharedBlk h.block ≠ blk.pwr)) }
  | .ringPointer | .spiErase => s

/-- A deferred halt reaches 4,096 cycles: the lock is broken and the debug cause raised (R417). -/
def State.haltForced (s : State) (c id : Nat) : State :=
  match (s.core c).lock with
  | none => s
  | some q =>
    if (s.core c).deferred then
      let s1 := ((s.breakLock c id q).haltCore c 4).mapCore c (fun k => { k with lockBroken := true })
      let s2 := (s1.put Reg.DBG_STATUS.lock_broken 1).bump Reg.DBG_STATUS.locks_broken
      s2.raise cause.debug noUnit (s2.word Reg.DBG_STATUS.lock_broken.off).toNat
    else s

/-- Debug mode is left: breakpoints clear, halted cores resume, and a Recess request held meanwhile is made (R405). -/
def State.debugLeave (s : State) : State :=
  let s1 := ((s.withDbg { s.dbg with cores := s.dbg.cores.map Core.run }).showCores).showModes.put Reg.DBG_CTRL.debug_mode 0
  if s.svc.enterHeld then (s1.withSvc { s1.svc with enterHeld := false }).requestRecess else s1

/-- A write of DBG_CTRL through the GLD1 TAP (R405). -/
def State.dbgCtrl (s : State) (v : Nat) : State :=
  let s1 := s.put Reg.DBG_CTRL.consume (v / 2)
  if v.testBit 0 then s1.put Reg.DBG_CTRL.debug_mode 1 else if s.debugMode then s1.debugLeave else s1

/-! Core debug space and core memory (Table 15-4). -/

/-- A word of core debug space, none where the table has none. Registers and DPC of a running core read open values. -/
def State.coreRead (s : State) (c off : Nat) : Option Word :=
  let k := s.core c
  let bit := fun (b : Bool) (n : Nat) => if b then 2 ^ n else 0
  let w := fun (n : Nat) => some (BitVec.ofNat 32 n)
  if off = 0 then w (bit k.haltReq 0)
  else if off = 4 then w (bit k.halted 0 + bit k.deferred 1 + bit k.lock.isSome 2 + bit k.lockBroken 3 + k.cause * 16)
  else if off = 8 then (if k.halted then w k.dpc else some (Config.nextInstruction s.fresh))
  else if off = 0x10 ∨ off = 0x14 then
    let b := k.bps.getD ((off - 0x10) / 4) (false, 0)
    w (bit b.1 0 + b.2 * 2)
  else if 0x80 ≤ off ∧ off % 4 = 0 then
    let x := (off - 0x80) / 4
    (if k.halted ∨ x = 0 then w (k.gpr.getD x 0) else some (Config.coreReg s.fresh x))
  else none

/-- A write of a word of core debug space, none where the table has none. -/
def State.coreWrite (s : State) (c off : Nat) (v : Word) : Option State :=
  let n := v.toNat
  let k := s.core c
  if off = 0 then
    some (((s.when_ (n.testBit 0) (·.haltRequest c none)).when_ (n.testBit 1) (·.coreResume c)).when_ (n.testBit 2) (·.coreStep c none))
  else if off = 4 then some (s.when_ (n.testBit 3) (·.mapCore c (fun j => { j with lockBroken := false })))
  else if off = 8 then some (s.when_ k.halted (·.mapCore c (fun j => { j with dpc := n })))
  else if off = 0x10 ∨ off = 0x14 then
    some (s.mapCore c (fun j => { j with bps := j.bps.set ((off - 0x10) / 4) (n.testBit 0, n / 2) }))
  else if 0x80 ≤ off ∧ off % 4 = 0 then
    some (s.when_ (k.halted && decide (off ≠ 0x80)) (·.mapCore c (fun j => { j with gpr := j.gpr.set ((off - 0x80) / 4) n })))
  else none

/-- The core whose memory holds a word address of space 0b10, and whether it is instruction memory. -/
def coreMemOf (wa : Nat) : Option (Nat × Bool) :=
  if wa < 0x20000 then some (wa / 0x8000, true)
  else if 0x40000 ≤ wa ∧ wa < 0x48000 then some ((wa - 0x40000) / 0x2000, false)
  else none

/-- What an unlisted word of core memory reads as. -/
def coreBlank (eras : List Nat) (wa : Nat) : Word :=
  match coreMemOf wa with
  | some (c, false) => Config.coreWord (eras.getD c 0) wa
  | _ => Config.coreWord (eras.getD 4 0) wa

/-- A word of core memory; the data memory of a running core reads open values. -/
def State.coreMemRead (s : State) (wa : Nat) : Option Word :=
  match coreMemOf wa with
  | none => none
  | some (c, instr) =>
    if instr || s.halted c then some (Store.read (coreBlank s.dbg.coreEra) s.dbg.coreMem wa) else some (Config.coreWord (s.fresh + 1) wa)

/-- A write of core memory: instruction memory only while the core is halted; what a running core's data memory then holds is open (R406). -/
def State.coreMemWrite (s : State) (wa : Nat) (v : Word) : Option State :=
  match coreMemOf wa with
  | none => none
  | some (c, _) =>
    if s.halted c then
      some (s.withDbg { s.dbg with coreMem := Store.write (coreBlank s.dbg.coreEra) s.dbg.coreMem wa v })
    else some s

/-! Trace set-up (R412 to R415). -/

/-- The on-chip buffer is emptied (Table 15-9). -/
def State.traceClear (s : State) : State :=
  ((s.withDbg { s.dbg with bufUsed := 0 }).put Reg.DBG_TRACE_WP.wp 0).put Reg.DBG_TRACE_STATUS.wrapped 0

/-- The word of the on-chip buffer at buf_addr (R416, R420). -/
def State.traceWord (s : State) : Word :=
  BitVec.ofNat 32 (leNat (Store.readList (fun _ => (0 : Byte)) s.dbg.buf (4 * s.get Reg.DBG_TRACE_BUF_ADDR.buf_addr) 4))

/-- A read of DBG_TRACE_BUF_DATA that is no peek: the word is returned and buf_addr advances (R416). -/
def State.traceRead (s : State) : State :=
  (s.withLastRead (s.traceWord)).put Reg.DBG_TRACE_BUF_ADDR.buf_addr (s.get Reg.DBG_TRACE_BUF_ADDR.buf_addr + 1)

/-- Range 0 of a DBG profile: bounds, directions, space, source mask (Table 15-8). -/
def State.traceWhole (s : State) (space sources : Nat) : State :=
  let f := Reg.DBG_TRACE_RANGE.base_lo 0
  let s1 := ((s.setWord f.off 0).setWord (f.off + 4) 0).setWord (f.off + 8) 0xFFFFFFFF
  (s1.setWord (f.off + 12) 0xFFFFFFFF).setWord (f.off + 16) (BitVec.ofNat 32 (7 + space * 8 + sources * 32 + 0xF00))

/-- A write of DBG_PROFILE.profile (R414, R415). -/
def State.dbgProfileWrite (s : State) (p : Nat) : State :=
  if 3 ≤ p then s
  else
    let s1 := (s.leaveExpert blk.dbg).put Reg.DBG_PROFILE.profile p
    let s2 := ((s1.put Reg.DBG_TRACE_CTRL.enable (min p 1)).put Reg.DBG_TRACE_CTRL.sink 0).put Reg.DBG_TRACE_CTRL.wrap (if p = 2 then 0 else 1)
    let s3 := (((s2.put Reg.DBG_TRACE_CTRL.owner 0).put Reg.DBG_TRACE_CTRL.pri_core 3).put Reg.DBG_TRACE_CTRL.pri_desc 2).put
      Reg.DBG_TRACE_CTRL.pri_dma 1
    let s4 := (s3.put Reg.DBG_TRACE_CTRL.pri_mirror 0).each (List.range 8) (fun t r => t.put (Reg.DBG_TRACE_RANGE.valid r) 0)
    if p = 1 then s4.traceWhole 3 1 else if p = 2 then s4.traceWhole 0 2 else s4

/-- A write of a DBG word of the trace unit: owner, sink and ranges hold while enable is 1 (R415). -/
def State.dbgWrite (s : State) (off : Nat) (v : Word) : State :=
  let old := s.word off
  let w := (writtenWord old off (s.expert blk.dbg) v).1
  let on := s.flag Reg.DBG_TRACE_CTRL.enable
  if off = 0xD0100 then
    let w1 := if on then withField (withField w 1 1 (fieldOf old 1 1)) 4 4 (fieldOf old 4 4) else w
    (s.setWord off w1).when_ (v.toNat.testBit 3) (·.traceClear)
  else if 0xD0200 ≤ off ∧ on = true then s
  else s.setWord off w

end Sys2Proof.Machine
end

