-- ==== Sys2Proof/Machine/PortOps.lean ====
section
/-!
DEFINITION. Machine/PortOps.lean: shared operations of Akgal training, identity records and replay buffers (spec/11_akgal_pairs.md R278 to R286, R304, R305).
-/
namespace Sys2Proof.Machine

open Sys2Proof

/-! Profile and identity (R279, R284, R285, R293). -/

/-- The identity record a port sends (Table 11-2). -/
def State.identity (s : State) (p : Nat) : IdRecord where
  serial := (s.word 0x18).toNat + (s.word 0x1C).toNat * 2 ^ 32
  slotId := s.get Reg.GLB_SLOT.slot_id
  port := p
  systemId := s.get Reg.AKG_SYS_CFG.system_id
  index := s.myIndex
  sizeM1 := s.get Reg.AKG_SYS_CFG.size_m1
  topology := s.get Reg.AKG_SYS_CFG.topology
  profile := s.get Reg.AKG_PROFILE.profile
  mirrorEpoch := s.get Reg.SEC_EPOCHS.mf_epoch

/-- Does Table 11-5 give the topology this size? -/
def topologyFits (t n : Nat) : Bool := decide (t < 3) && decide (2 ≤ n) && (decide (t ≠ 1) || (decide (4 ≤ n) && decide (n % 2 = 0)))

/-- The index and port at the far end of a system port, none where Table 11-5 wires nothing. -/
def State.farEnd (s : State) (p : Nat) : Option (Nat × Nat) :=
  let n := s.systemSize
  let i := s.myIndex
  let t := s.get Reg.AKG_SYS_CFG.topology
  if !topologyFits t n then none
  else if p = 1 then some ((i + 1) % n, 2)
  else if p = 2 then some ((i + n - 1) % n, 1)
  else if p = 3 then (if t = 1 then some ((i + n / 2) % n, 3) else none)
  else if t = 2 then some ((i + 1) % n, 0) else none

/-- The far end of port 0 of topology 0b10 seen from the other side of that link. -/
def State.nearEnd (s : State) : Nat × Nat :=
  let n := s.get Reg.AKG_SYS_CFG.size_m1 + 1
  ((s.myIndex + n - 1) % n, 0)

/-- Does a peer's record let the port come Up: the neighbouring slot's port 0 under a pair profile, else the far end of the system's wiring (R279, R285)? -/
def State.peerFits (s : State) (p : Nat) (r : IdRecord) : Bool :=
  if decide (p = 0) && s.pairProfile then
    decide (r.slotId = s.get Reg.GLB_SLOT.slot_id ^^^ 1) && decide (r.port = 0)
  else
    decide (r.systemId = s.get Reg.AKG_SYS_CFG.system_id) && decide (r.sizeM1 = s.get Reg.AKG_SYS_CFG.size_m1) &&
    decide (r.topology = s.get Reg.AKG_SYS_CFG.topology) &&
    (match s.farEnd p with
      | some e => decide ((r.index, r.port) = e) || (decide (p = 0) && decide ((r.index, r.port) = s.nearEnd))
      | none => false)

/-! Replay buffers (R281, R282, R304). -/

/-- Slots whose shared work has a route through the port. -/
def State.sharedThrough (s : State) (p : Nat) : List Nat :=
  (s.akg.shares.map (·.slot)).filter (fun k => (s.others k).any (fun i => decide (s.routePort i 0 = p) || decide (s.routePort i 1 = p)))

/-- A port's replay buffer and waiting frames are emptied, which ends the shared work on it and loses mirrored items on port 0 (R282, R304, R305). -/
def State.emptyPort (s : State) (p : Nat) : State :=
  let s1 := (s.mapPort p (fun q => { q with unacked := [], waiting := [], nakOut := false, timeouts := 0 })).showFill p
  let s2 := s1.each (s.sharedThrough p) (fun t k => t.shareFails k)
  if p = 0 && s.role ≠ 0 then ((s2.setAkg (fun a => { a with follows := false, unsent := [] })).put Reg.AKG_PAIR_STATUS.in_step 0).settleWaits
  else s2

/-- The ports a new system configuration trains again (R285). -/
def State.systemPorts (s : State) : List Nat :=
  (if decide (s.get Reg.AKG_SYS_CFG.topology = 2) && !s.pairProfile then [0] else []) ++ [1, 2, 3]

/-! Training (R278, R279, R282). -/

/-- Full training of an enabled port starts; a link that was up goes down. -/
def State.trainPort (s : State) (p : Nat) : State :=
  if !s.flag (Reg.AKG_PORT_CTRL.enable p) then s
  else if s.akState p = akUp then s.linkDown p akDetect
  else (s.put (Reg.AKG_PORT_STATUS.state p) akDetect).put (Reg.AKG_PORT_STATUS.miswired p) 0

/-- A port is disabled, and its replay buffer emptied (R282). -/
def State.disablePort (s : State) (p : Nat) : State :=
  let s1 := (s.when_ (decide (s.akState p = akUp)) (·.linkDown p akDisabled)).emptyPort p
  ((s1.put (Reg.AKG_PORT_CTRL.enable p) 0).put (Reg.AKG_PORT_STATUS.state p) akDisabled).put (Reg.AKG_PORT_STATUS.miswired p) 0

/-- A disabled port is enabled: it starts full training (R278). -/
def State.enablePort (s : State) (p : Nat) : State :=
  if s.flag (Reg.AKG_PORT_CTRL.enable p) then s else (s.put (Reg.AKG_PORT_CTRL.enable p) 1).trainPort p

/-- A write of AKG_PORT_CTRL (Table 11-10): enable, then retrain. -/
def State.portCtrl (s : State) (p v : Nat) : State :=
  let s1 := if v.testBit 1 then s.enablePort p else if s.flag (Reg.AKG_PORT_CTRL.enable p) then s.disablePort p else s
  s1.when_ (v.testBit 0) (·.trainPort p)

/-- The port sends its identity record with the last number it received in order (R279, R282). -/
def State.sendIdent (s : State) (p : Nat) : State :=
  s.mapPort p (fun q => { q with out := q.out ++ [.ident (s.identity p) q.lastIn] })

/-- The width code a port trains at, from the lanes (bit l is lane l) that equalised: x4, else x2 on lanes 0 and 1, else x2 on lanes 2 and 3, else x1 on lane 0; 0 for none of these (R277). -/
def trainedWidth (lanes : Nat) : Nat :=
  if lanes % 16 = 15 then 4 else if lanes % 4 = 3 then 2 else if lanes / 4 % 4 = 3 then 2 else if lanes % 2 = 1 then 1 else 0

/-- A training phase ends: the next one starts, or the port finds no peer; a fast retrain that fails goes on with full training (Table 11-1). -/
def State.phaseEnd (s : State) (p : Nat) (ok : Bool) (lanes : Nat) : State :=
  let st := s.akState p
  let go := fun (n : Nat) => s.put (Reg.AKG_PORT_STATUS.state p) n
  if st = akDetect then go (if ok then akEqualise else akNoPeer)
  else if st = akEqualise then (if ok && decide (trainedWidth lanes ≠ 0) then (go akAlign).put (Reg.AKG_PORT_STATUS.width p) (trainedWidth lanes) else go akNoPeer)
  else if st = akAlign then (if ok then (go akExchange).sendIdent p else go akNoPeer)
  else if st = akExchange then (if ok || s.flag (Reg.AKG_PORT_STATUS.miswired p) then s else go akNoPeer)
  else if st = akRetrain then (if ok then s.sendIdent p else go akDetect)
  else s

/-- The peer's record is accepted: the port is Up, and what the peer has not received is sent again (R279, R282). -/
def State.portUp (s : State) (p : Nat) (r : IdRecord) (last : Nat) : State :=
  let was := decide (s.akState p = akRetrain)
  let s1 := s.mapPort p (fun q =>
    let a := q.acked last
    if a.unacked.isEmpty then { a with peer := some r, next := (last + 1) % 4096, nakOut := false }
    else { a.replay with peer := some r, nakOut := false })
  let s2 := ((s1.put (Reg.AKG_PORT_STATUS.state p) akUp).put (Reg.AKG_PORT_STATUS.miswired p) 0).put (Reg.AKG_PORT_STATUS.peer_index p) r.index
  let s3 := (s2.put (Reg.AKG_PORT_STATUS.peer_slot_id p) r.slotId).put (Reg.AKG_PORT_STATUS.peer_port p) r.port
  let s4 := s3.when_ (decide (p = 0) && s.pairProfile) (·.put Reg.AKG_PAIR_STATUS.peer_slot_id r.slotId)
  ((s4.openUnits [92 + p]).when_ was (·.raiseAkgal p)).drainPort p

/-- A write of AKG_SYS_CFG is taken in full service with no shared model loaded; the system's ports empty and train again (R285). -/
def State.sysCfgWrite (s : State) (v : Word) : State :=
  if decide (s.service ≠ svcFull) || s.fab.models.any (fun m => s.sharedSlot m.1) then s
  else
    let s1 := s.setWord Reg.AKG_SYS_CFG.system_id.off (writtenWord (s.word Reg.AKG_SYS_CFG.system_id.off) Reg.AKG_SYS_CFG.system_id.off (s.expert blk.akg) v).1
    s1.each s1.systemPorts (fun t p => (t.emptyPort p).trainPort p)

/-- A write of AKG_PROFILE.profile, discarded on a pair member (R298, R299). -/
def State.akgProfileWrite (s : State) (p : Nat) : State :=
  if decide (3 ≤ p) || decide (s.role ≠ 0) then s
  else ((s.leaveExpert blk.akg).put Reg.AKG_PROFILE.profile p).setWord Reg.AKG_TIMERS.claim_timeout.off 0x0A080A05

end Sys2Proof.Machine
end

