-- ==== Sys2Proof/Machine/SecOps.lean ====
section
/-!
DEFINITION. Machine/SecOps.lean: shared operations of firmware staging, trials, attestation and the SEC registers (spec/14_identity_firmware.md).
-/
namespace Sys2Proof.Machine

open Sys2Proof

/-- Does GLD1 reach PSH2's image: the link not lost, PSH2's core running (01 R13, 14 R388)? -/
def State.reachesPsh (s : State) : Bool := !s.gpGld.lost && s.pshUp

/-! Staging (R384 to R386). -/

/-- The journal has an entry left for one more erase: a switch of journal sectors that is due or runs is completed first (13 R354). -/
def State.journalRoom (s : State) : State :=
  let go := fun (t : State) =>
    if 255 ≤ t.card.journalEntry then (if t.card.erase.isSome then t else t.pumpErase).eraseDone else t
  go (go s)

/-- One staging sector is erased under its journal entry, which closes when the erase completes (13 R353, purpose 0x0003). -/
def State.eraseStaging (s : State) (addr : Nat) : State :=
  let s0 := s.journalRoom
  let run := s0.card.erase
  let j := journalAddr s0.card.journalSector s0.card.journalEntry
  let s1 := ((s0.issueErase addr .staging).norErase addr 0x1000).norProgram (j + 12) (leBytes 4 0)
  (s1.withCard { s1.card with erase := run })

/-- The sectors a chunk touches are erased and programmed, the last one padded with 0xFF (R384). -/
def State.programChunk (s : State) (addr : Nat) (chunk : List Byte) : State :=
  s.each (List.range ((chunk.length + 4095) / 4096)) (fun t k =>
    let a := addr + 4096 * k
    (t.eraseStaging a).norProgram a ((chunk.drop (4096 * k)).take 4096))

/-- The digest of an image's other slot is taken anew (R376). -/
def State.measureOther (s : State) (i : Nat) : State :=
  s.setImage i { s.image i with otherDigest := s.slotDigest i (1 - (s.image i).slot) }

/-- Is a trial in force for either image? -/
def State.onTrial (s : State) : Bool := s.sec.gld.trial || s.sec.psh.trial

/-- A firmware descriptor completes ABORTED with a result code (Table 14-7). -/
def State.fwAborts (s : State) (id r : Nat) : State := (s.fwResult r).finish id 0x13 0 0

/-- The image a FW_STAGE descriptor names. -/
def fwImageOf (f : Flight) : Nat := natAt f.bytes 24 1 % 2

/-- Op 0: the chunk goes into the other slot, which is no longer valid (R384, R395). -/
def State.stageChunk (s : State) (f : Flight) (chunk : List Byte) : State :=
  let i := fwImageOf f
  let m := s.image i
  let s1 := (s.setImage i { m with staged := false }).programChunk (slotBase i (1 - m.slot) + natAt f.bytes 28 4) chunk
  ((s1.measureOther i).showFw).finish f.id 0 (natAt f.bytes 32 4) 0

/-- Op 1: the other slot is checked under R379 (R385). -/
def State.stageVerify (s : State) (f : Flight) : State :=
  let i := fwImageOf f
  let m := s.image i
  let r := s.checkSlot i (1 - m.slot)
  let s1 := s.measureOther i
  if r = 0 then
    let s2 := ((s1.setImage i { s1.image i with staged := true }).fwResult 1).showFw
    s2.raiseFw.finish f.id 0 (4096 + mfBodySize (s.slotManifest i (1 - m.slot))) 0
  else s1.fwAborts f.id r

/-- The verdict on a GLD1 and a PSH2 manifest given as the image's and its peer's. -/
def State.judgePair (s : State) (i : Nat) (mine peer : List Byte) : Nat :=
  if i = 0 then fwPair s.sec.strict mine peer else fwPair s.sec.strict peer mine

/-- An activation of image `i` becomes pending, alone or jointly; the boot-control record is written (R386). -/
def State.makePending (s : State) (f : Flight) (i : Nat) (joint : Bool) : State :=
  let s1 := s.setImage i { s.image i with pending := true }
  let s2 := s1.when_ joint (fun t => t.setImage (1 - i) { t.image (1 - i) with pending := true })
  let s3 := (s2.withSec { s2.sec with joint := s2.sec.joint || joint })
  ((s3.bootWrite.fwResult 1).showFw).finish f.id 0 (4096 + mfBodySize (s.slotManifest i (1 - (s.image i).slot))) 0

/-- Op 2: the staged image is judged against the peer that will run beside it (R386). -/
def State.stageActivate (s : State) (f : Flight) : State :=
  let i := fwImageOf f
  let m := s.image i
  let p := s.image (1 - i)
  let mine := s.slotManifest i (1 - m.slot)
  let other := s.slotManifest (1 - i) (1 - p.slot)
  if !m.staged then s.fwAborts f.id 6
  else if s.onTrial then s.fwAborts f.id 7
  else if m.pending then s.fwAborts f.id 10
  else
    let r := s.judgePair i mine (if p.pending then other else p.manifest)
    if r = 1 then s.makePending f i false
    else if decide (s.checkSlot (1 - i) (1 - p.slot) = 0) && !p.pending && decide (s.judgePair i mine other = 1) then s.makePending f i true
    else s.fwAborts f.id r

/-! Trials (R389, R392, R395, R398). -/

/-- The floor of an image rises to the svn of its running image; beyond the fuses left it cannot (R389, Table 14-7). -/
def State.raiseFloor (s : State) (i : Nat) : State :=
  let m := s.image i
  if (if i = 0 then 64 else 32) < mfSvn m.manifest then s.fwResult 11
  else s.setImage i { m with floor := max m.floor (mfSvn m.manifest) }

/-- Every trial ends confirmed, and the floors rise when asked (R389). -/
def State.confirmTrials (s : State) (raise : Bool) : State :=
  let s1 := s.withSec { s.sec with
    gld := { s.sec.gld with trial := false }, psh := { s.sec.psh with trial := false }, jointTrial := false }
  let s2 := s1.when_ s.onTrial (·.bootWrite)
  (s2.when_ raise (fun t => (t.raiseFloor 0).raiseFloor 1)).showFw

/-- Every pending activation is withdrawn, unless it is being carried out (R395). -/
def State.cancelPending (s : State) : State :=
  if s.sec.coldWaits || !(s.sec.gld.pending || s.sec.psh.pending) then s
  else (s.withSec { s.sec with
    gld := { s.sec.gld with pending := false }, psh := { s.sec.psh with pending := false }, joint := false }).bootWrite.showFw

/-- STRICT_PAIRS is blown (R398). -/
def State.strictSet (s : State) : State := (s.withSec { s.sec with strict := true }).showFw

/-- A write of SEC_FW_CTRL; one that sets raise_floor or strict_set without the key is discarded (R399). GLD1 reaches the boot-control record and PSH2's floor through PSH2 alone (01 Table 01-2); STRICT_PAIRS is a fuse of its own (R398). -/
def State.secCtrl (s : State) (v : Nat) : State :=
  let key := v / 2 ^ 16 % 2 ^ 16
  if ((v.testBit 1 || v.testBit 3) && decide (key ≠ 0x5EC1)) then s
  else ((s.when_ (v.testBit 0 && s.reachesPsh) (·.confirmTrials (v.testBit 1))).when_ (v.testBit 2 && s.reachesPsh) (·.cancelPending)).when_ (v.testBit 3) (·.strictSet)

/-- A write of SEC_PROFILE.profile leaves Expert and restores 60 s (R392, R393). -/
def State.secProfileWrite (s : State) (p : Nat) : State :=
  if 2 ≤ p then s else ((s.leaveExpert blk.sec).put Reg.SEC_PROFILE.profile p).put Reg.SEC_CFG.confirm_delay 6

/-- Writing 1 to rolled_back clears it in the boot-control record, which PSH2 writes (Table 14-8, 01 Table 01-2). -/
def State.rolledBackClear (s : State) (v : Word) : State :=
  if v.toNat.testBit 7 && s.sec.rolledBack && s.reachesPsh then (s.withSec { s.sec with rolledBack := false }).bootWrite.showFw else s

/-! Attestation (R373 to R376). -/

/-- A request to the SPDM responder: it wakes the module from Recess, and is answered from the opening of Homeroom, in full service and in Recovery (R376). -/
def State.spdm (s : State) (f : State → State) : State :=
  if !s.hostUp then s
  else
    let t := s.wakeEvent
    if t.service = svcHomeroom ∨ t.service = svcFull ∨ t.service = svcRecovery then f t else t

/-- The responder's answer. -/
def State.spdmReply (s : State) (r : SpdmReply) : State := s.withSec { s.sec with reply := some r }

/-- A request waits for the key vault (R373). -/
def State.askVault (s : State) (j : VaultJob) : State := s.withSec { s.sec with vault := s.sec.vault ++ [j] }

/-- The certificate chain's region of the NOR (R374). -/
def State.certChain (s : State) : List Byte := s.norRead 0x400000 0x10000

/-- A digest, or 48 zero bytes where there is none. -/
def shownDigest (d : List Byte) : List Byte := if d.isEmpty then List.replicate 48 0 else d

/-- The measurement blocks of Table 14-3 (R376). -/
def State.measurementBlocks (s : State) : List (Nat × List Byte) :=
  [(1, shownDigest s.sec.gld.digest), (2, shownDigest s.sec.psh.digest),
   (3, shownDigest s.sec.gld.otherDigest), (4, shownDigest s.sec.psh.otherDigest),
   (5, leBytes 2 (s.word Reg.SEC_FW_STATUS.gld1_slot.off).toNat ++ leBytes 1 s.sec.gld.floor ++ leBytes 1 s.sec.psh.floor ++
     leBytes 1 (s.get Reg.DBG_CTRL.debug_mode) ++ List.replicate 11 0)]

/-- The blocks a GET_MEASUREMENTS asks for: none (0), one, or all (0xFF). -/
def State.measurementsFor (s : State) (index : Nat) : List (Nat × List Byte) :=
  if index = 0xFF then s.measurementBlocks else s.measurementBlocks.filter (fun b => decide (b.1 = index))

end Sys2Proof.Machine
end

