-- ==== Sys2Proof/Machine/PairOps.lean ====
section
/-!
DEFINITION. Machine/PairOps.lean: shared operations of a pair: forming, mirroring, swaps, claims and splits (spec/11_akgal_pairs.md R289 to R306, 14 R390).
-/
namespace Sys2Proof.Machine

open Sys2Proof

/-! What the members tell each other. -/

/-- A partition's fields as numbers, and back. -/
def PartCfg.nums (c : PartCfg) : List Nat :=
  let b := fun (x : Bool) => if x then 1 else 0
  [c.quads, c.sqs, c.cqs, c.memBase, c.memSize, c.streams, b c.syllabus, b c.hallPass, b c.akgal, c.eventCq, b c.eventEn, c.inflightMax, c.inflightMin]

/-- The fields that numbers give. -/
def PartCfg.ofNums (l : List Nat) : PartCfg :=
  let n := fun i => l.getD i 0
  ⟨n 0, n 1, n 2, n 3, n 4, n 5, decide (n 6 = 1), decide (n 7 = 1), decide (n 8 = 1), n 9, decide (n 10 = 1), n 11, n 12⟩

/-- LPDDR5X bytes of the dev_bytes areas of loaded models, where they are known. -/
def State.devCells (s : State) : List (Nat × Byte) :=
  s.dram.filter (fun c => s.fab.models.any (fun m =>
    let a := s.dramAddr m.2.part m.2.devBase
    decide (a ≤ c.1) && decide (c.1 < a + m.2.devBytes)))

/-- A full copy of every item of Table 11-6 is sent, and its end (R293). -/
def State.startCopy (s : State) : State :=
  let words := (s.regs.filter (fun p => s.isMirrored p.1)).map (fun p => (p.1, p.2 &&& rwBits p.1))
  let s1 := (s.setAkg (fun a => { a with follows := true, copying := true, unsent := [] })).put Reg.AKG_PAIR_STATUS.in_step 0
  let s2 := (s1.sendPair 2 (.config words (s.host.parts.map PartCfg.nums))).when_ (s.flag Reg.SYL_STATUS.active_valid)
    (·.sendPair 2 (.rules (s.rules s.ruleBank)))
  let s3 := (s2.each s2.fab.models (fun t m => t.sendPair 2 (.model m.1 m.2))).sendPair 2 (.memory s.devCells)
  let s4 := (s3.when_ (s.flag Reg.HPS_STATUS.active_valid) (·.sendPair 2 (.table (s.bank s.activeBank)))).sendPair 2 s.ringsMsg
  let s5 := s4.each (s.fab.runs.filter (fun r => r.live)) (fun t r => t.sendPair 2 (.snapshot ({ r with path := r.saved }.sent s)))
  s5.sendPair 2 .copyDone

/-! Roles (R294, R289). -/

/-- The member leaves the pair and stands alone. -/
def State.unpaired (s : State) : State :=
  (((s.setAkg (fun a => { a with
      mirror := Mirror.reset, unsent := [], refreshes := [], follows := false, copying := false, split := false
      swapPeer := false, swapHeld := false, swapReady := [], swapSent := false })).put Reg.AKG_PAIR_STATUS.in_step 0).put
    Reg.AKG_PAIR_STATUS.authenticated 0).setRole 0
  |>.settleWaits |>.claimDone

/-- What waits on the peer goes on without it: runs held for a snapshot, completions, a swap, which reports the role that follows (R303). -/
def State.letGo (s : State) (r : Nat) : State :=
  let s1 := s.each (s.fab.runs.filter (fun q => q.held)) (fun t q => t.mapRun q.id (fun x => { x with held := false }))
  let s2 := match s.akg.swap with
    | some (f, _) => (s1.setAkg (fun a => { a with swap := none })).finish f 0x13 r 0
    | none => s1
  (s2.setAkg (fun a => { a with swapPeer := false, swapHeld := false, swapReady := [], swapSent := false })).settleWaits

/-- Work on gangs is gone: a Deputy runs nothing, and its Hall Pass answers with the default (R289). -/
def State.dropRuns (s : State) : State :=
  let sq := s.get Reg.AKG_PAIR_CFG.pair_sq
  let s1 := s.each s.fab.runs (fun t r => t.endRun r.id)
  let keep := s.host.flights.filter (fun f => decide (f.sq = sq))
  let s2 := (((s1.withHost { s1.host with flights := keep, held := s1.host.held.filter (fun h => match h.flight with
      | some id => keep.any (fun f => decide (f.id = id))
      | none => decide (h.entry.kind = EntryKind.event)) }).withCap { s1.cap with standing := [], recs := s1.cap.recs.map (fun (r : Rec) => { r with
        flight := none, classified := false, bank := none, pass := 0, stage := 0, metadata := 0, route := none, prio := none, tag := 0, drop := false, mirror := false }) }).withPass { s1.pass with publishes := [], done := none })
  (s2.put Reg.HPS_STATUS.active_valid 0).showFlights sq |>.showPublish

/-- The member becomes Deputy, in step or out of step. -/
def State.becomeDeputy (s : State) (r : Nat) : State :=
  let s1 := s.dropRuns.setAkg (fun a => { a with mirror := Mirror.reset, unsent := [], refreshes := [], follows := false, copying := false, split := false })
  (s1.put Reg.AKG_PAIR_STATUS.in_step (if r = 2 then 1 else 0)).setRole r

/-- Both members leave the pair; a Deputy clears its records and mirrored state (Table 11-7). -/
def State.leavePair (s : State) : State :=
  let s1 := s.letGo 0
  if s.isDeputy then
    let s2 := (s1.each s1.fab.models (fun t m => t.clearModel m.1)).setCap (fun c => { c with recs := [], onLink := s1.cap.onLink.map (fun l => { l with id := none }) })
    let s3 := ((s2.setRules 0 []).setRules 1 []).setBank s2.shadowBank []
    ((List.range 8).foldl (fun (t : State) n => t.showReserved n) s3).unpaired
  else s1.unpaired

/-! Taking the lead (R295, R296). -/

/-- The number a mirrored flight gets on this member. -/
def renumber (l : List Flight) (base id : Nat) : Option Nat :=
  (l.findIdx? (fun f => decide (f.id = id))).map (fun k => base + k)

/-- A snapshot's run as this member carries it on: waiting for gangs, its flight or record named as here; none when its record is gone. -/
def State.adoptRun (s : State) (l : List Flight) (base : Nat) (claimed : Bool) (r : Run) : Option Run :=
  let again := { r with gangs := none, held := false, boundary := false, started := false, stopped := none
                        replays := if claimed then r.replays + 1 else r.replays, saved := r.path }
  match r.kind with
  | .record stream seq => (s.cap.recs.find? (fun x => decide (x.stream = stream) && decide (x.seq = seq))).map (fun x =>
      { again with id := x.id, kind := .record stream x.id })
  | .mac | .sample | .anneal => (renumber l base r.id).map (fun id => { again with id := id })

/-- The Deputy's mirrored state becomes its own: flights, entries of ended ones, heads, standing descriptors, runs; tails and phases where they are exact. -/
def State.takeMirror (s : State) (claimed : Bool) : State :=
  let m := s.akg.mirror
  let base := s.host.nextId
  let num := fun id => renumber m.flights base id
  let flights := m.flights.mapIdx (fun k (f : Flight) => { f with
    id := base + k, chainOn := f.chainOn.bind num, stage := if decide (f.stage = .ended) then .ended else if f.standing then .running else .waiting })
  let entries := m.entries.filterMap (fun h => (h.flight.bind num).map (fun id => { h with flight := some id }))
  let runs := m.runs.filterMap (s.adoptRun m.flights base claimed)
  let standing := m.standing.filterMap (fun x => (num (x.getD 0 0)).map (fun id =>
    (⟨id, x.getD 1 0, x.getD 2 0, x.getD 3 0, x.getD 4 0, false⟩ : Standing)))
  let s1 := ((s.withHost { s.host with flights := s.host.flights ++ flights, held := s.host.held ++ entries, nextId := base + flights.length }).withFab { s.fab with runs := runs }).withCap { s.cap with
      standing := standing
      recs := s.cap.recs.map (fun (r : Rec) => if runs.any (fun q => decide (q.id = r.id) && (match q.kind with | .record _ _ => true | _ => false)) then
        { r with classified := true, flight := (standing.find? (fun x => decide (x.stream = r.stream))).map (·.flight) } else r) }
  let s2 := s1.each (m.heads.filter (fun x => decide (x.1 ≠ s.get Reg.AKG_PAIR_CFG.pair_sq))) (fun t x => t.put (Reg.HIF_SQ_STATE.head x.1) x.2)
  let s3 := if claimed then s2 else s2.each (m.tails.filter (fun x => decide (x.1 ≠ s.get Reg.AKG_PAIR_CFG.pair_cq))) (fun t x =>
    (t.put (Reg.HIF_CQ_STATE.tail x.1) x.2.1).put (Reg.HIF_CQ_STATE.phase x.1) x.2.2)
  (s3.setAkg (fun a => { a with mirror := Mirror.reset })).put Reg.HIF_STATUS.inflight s3.host.flights.length

/-- The shadow Hall Pass table is published by the new Prefect; while HP_CLK is absent the copy waits (R265, R295, R296; 10 R272). -/
def State.publishShadow (s : State) : State :=
  let s1 := ((s.put Reg.HPS_STATUS.active_bank s.shadowBank).put Reg.HPS_STATUS.active_valid 1).bump Reg.HPS_PUBLISH_COUNT.publishes
  if s.flag Reg.GLB_CLK_STATUS.hp_clk_ok then s1.put Reg.HPS_STATUS.copying 1
  else (s1.setPass (fun x => { x with copyWaits := true })).put Reg.HPS_STATUS.unclocked_flip 1

/-- Runs that were not in a snapshot start over from their descriptors (R296). -/
def State.takeLead (s : State) (claimed : Bool) : State := ((s.takeMirror claimed).publishShadow).setRole 1 |>.schedule

/-- A claim by this member, for a CLAIM descriptor or by itself: it is Prefect at once, and waits for resume; the descriptor completes as the peer answers, at once while port 0 is down (R296, R297, R302, R303). -/
def State.claim (s : State) (by_ : Option Nat) : State :=
  let s1 := (s.letGo 1).takeLead true
  let s2 := (((s1.put Reg.AKG_RESUME_CTRL.resume_pending 1).bump Reg.AKG_MIRROR_STATUS.failovers).put Reg.AKG_PAIR_STATUS.in_step 0).setAkg
    (fun a => { a with split := true, claimBy := by_ })
  if s.akState 0 = akUp then s2.sendPair 3 (.claim false) else s2.claimDone

/-- Does this member stay Prefect where two stand: its SLOT_ID has bit 0 at 0 (R302)? -/
def State.keepsLead (s : State) : Bool := !(s.get Reg.GLB_SLOT.slot_id).testBit 0

/-- The member that yields: Deputy out of step, reported (R302). -/
def State.yieldLead (s : State) : State :=
  let s1 := (((s.letGo 3).becomeDeputy 3).claimDone).put Reg.AKG_PAIR_STATUS.split_resolved 1
  let s2 := ((s1.put Reg.AKG_PAIR_STATUS.last_result 7).put Reg.AKG_RESUME_CTRL.resume_pending 0).gldCount 28
  let held := s2.host.held.map (fun h => match h.flight with
    | some id => if (s2.flight id).any (fun f => decide (dOp f.bytes = opMirror) && decide (natAt f.bytes 24 1 = 5)) then
        { h with entry := { h.entry with result0 := 3 } } else h
    | none => h)
  ((s2.withHost { s2.host with held := held }).raisePair).sendPair 3 (.want 3)

/-- A CLAIM from the peer: a split where this member's own claim is unanswered or the peer says that it stands as Prefect already (R296, R302, R303). -/
def State.peerClaim (s : State) (cut : Bool) : State :=
  if s.role = 0 then s
  else if s.isPrefect && (cut || s.akg.split) then
    if s.keepsLead then
      ((s.when_ (!s.akg.split) (·.sendPair 3 (.claim true))).setAkg (fun a => { a with split := false })).claimDone
    else (s.when_ (!s.akg.split) (·.sendPair 3 (.claim true))).yieldLead
  else ((s.letGo 3).becomeDeputy 3).sendPair 3 (.want 3)

/-! Swaps (R295, R301). -/

/-- May a draining Prefect write nothing more: no completion waits for the Deputy or for its CQ, the pair CQ apart (R295 step 4)? -/
def State.lastWritten (s : State) : Bool :=
  decide (s.akg.waits = []) && s.host.held.all (fun h => decide (h.cq = s.get Reg.AKG_PAIR_CFG.pair_cq))

/-- A draining Prefect whose live runs all stand at an acknowledged boundary and whose entries are written sends its exact state, once (R295 step 2). -/
def State.trySwap (s : State) : State :=
  let onGangs := s.fab.runs.filter (fun r => r.gangs.isSome)
  if s.swapDrains && !s.akg.swapSent && s.lastWritten && onGangs.all (fun r => s.akg.swapReady.contains r.id) then
    ((s.setAkg (fun a => { a with swapSent := true })).sendPair 2 s.ringsMsg).sendPair 3
      (.swapState (((List.range 64).filter (fun n => decide (n ≠ s.get Reg.AKG_PAIR_CFG.pair_sq))).map (fun n => (n, s.get (Reg.HIF_SQ_STATE.tail n)))))
  else s

/-- A swap's bookkeeping ends; this member's MIRROR_CTRL completes with its new role, and a peer's swap that was held runs: the new Prefect drains for it, a new Deputy asks the peer to (R295, R301). -/
def State.swapEnds (s : State) : State :=
  let s1 := match s.akg.swap with
    | some (f, _) => s.finish f 0 s.role 0
    | none => s
  let s2 := s1.setAkg (fun a => { a with swap := none, swapPeer := a.swapHeld, swapHeld := false, swapAt := s.now, swapReady := [], swapSent := false })
  (s2.when_ (s.akg.swapHeld && s.isDeputy) (·.sendPair 3 .swap)).trySwap

/-- The peer has applied everything: the old Prefect steps down (R295 step 4). -/
def State.swapDown (s : State) : State :=
  let f := s.akg.swap
  let s1 := (s.becomeDeputy 2).sendPair 3 .swapAck
  (s1.setAkg (fun a => { a with swap := f })).swapEnds

/-- The old Prefect has stepped down: this member leads, and takes the doorbells forwarded meanwhile in order (R295 step 5). -/
def State.swapUp (s : State) : State :=
  let s1 := ((s.takeLead false).setAkg (fun a => { a with follows := true })).swapEnds
  let bells := s.akg.inbox.filterMap (fun m => match m with | .doorbell cq n v => some (cq, n, v) | _ => none)
  (s1.setAkg (fun a => { a with inbox := a.inbox.filter (fun m => match m with | .doorbell _ _ _ => false | _ => true) })).each bells
    (fun t b => if b.1 then t.cqHead b.2.1 b.2.2 else t.sqTail b.2.1 b.2.2)

/-- A SWAP request from the peer: merged with this member's own, held behind a running one, or run (R301). -/
def State.peerSwap (s : State) : State :=
  match s.akg.swap with
  | some (_, at_) =>
    if !s.akg.swapSent || decide (s.now ≤ at_ + 2000) then s.setAkg (fun a => { a with swapPeer := true })
    else s.setAkg (fun a => { a with swapHeld := true })
  | none =>
    if s.akg.swapPeer then s.setAkg (fun a => { a with swapHeld := true })
    else (s.setAkg (fun a => { a with swapPeer := true, swapAt := s.now })).trySwap

/-! Forming a pair (R293, 14 R390). -/

/-- This member's pairing has failed: its descriptor completes ABORTED with role 0. -/
def State.pairFails (s : State) (code : Nat) : State :=
  match s.akg.pairing with
  | none => s
  | some p => ((s.setAkg (fun a => { a with pairing := none })).put Reg.AKG_PAIR_STATUS.last_result code).finish p.flight 0x13 0 0

/-- A failure that the peer is told of with its code: the check fails on both members (R293). -/
def State.pairFailsBoth (s : State) (code : Nat) : State := (s.pairFails code).when_ s.akg.pairing.isSome (·.sendPair 3 (.pairFailed code))

/-- Pairing has failed on the peer: it fails here with the same code, and a copy under way ends (R293). -/
def State.peerFails (s : State) (code : Nat) : State :=
  match s.akg.pairing with
  | none => s.setAkg (fun a => { a with inbox := a.inbox.filter (fun m => match m with | .want _ => false | _ => true) })
  | some p => (s.when_ p.copying State.leavePair).pairFails code

/-- Change the pairing under way. -/
def State.mapPairing (s : State) (g : Pairing → Pairing) : State := s.setAkg (fun a => { a with pairing := a.pairing.map g })

/-- The peer's record on port 0. -/
def State.peerRecord (s : State) : IdRecord := ((s.port 0).peer).getD ⟨0, 0, 0, 0, 0, 0, 0, 0, 0⟩

/-- The digest a member signs: the peer's nonce, its own, its serial, the peer's and its SLOT_ID byte (14 R390 step 4). -/
def authData (theirNonce myNonce : List Byte) (mySerial theirSerial mySlot : Nat) : List Byte :=
  Config.sha384 (theirNonce ++ myNonce ++ leBytes 8 mySerial ++ leBytes 8 theirSerial ++ leBytes 1 mySlot)

/-- What this member signs, and what it expects the peer to have signed. -/
def State.mineToSign (s : State) (p : Pairing) (theirs : List Byte) : List Byte :=
  authData theirs p.nonce (s.identity 0).serial s.peerRecord.serial (s.get Reg.GLB_SLOT.slot_id)
def State.theirsSigned (s : State) (p : Pairing) (theirs : List Byte) : List Byte :=
  authData p.nonce theirs s.peerRecord.serial (s.identity 0).serial s.peerRecord.slotId

/-- Both have asked for different roles: the certificate chains are exchanged (14 R390 step 1). -/
def State.tryAuth (s : State) : State :=
  match s.akg.pairing with
  | none => s
  | some p => match p.peerWant with
    | none => s
    | some w => if w = 0 then s.pairFails 4 else if w + p.role = 3 then s.sendPair 3 (.chain s.certChain) else s.pairFailsBoth 4

/-- Both members have signed and verified: the mirror-format epochs are compared, and the Prefect starts the full copy (R293 conditions 5, 6). -/
def State.authDone (s : State) : State :=
  match s.akg.pairing with
  | none => s
  | some p =>
    if p.signed && p.peerSigned && !p.copying then
      if s.peerRecord.mirrorEpoch ≠ (s.identity 0).mirrorEpoch then s.pairFailsBoth 6
      else
        let s1 := (s.put Reg.AKG_PAIR_STATUS.authenticated 1).mapPairing (fun q => { q with copying := true })
        if p.role = 1 then (s1.setRole 1).startCopy else (s1.becomeDeputy 3)
    else s

/-- A pair-authentication frame, in the order of 14 R390. -/
def State.authFrame (s : State) (m : AkMsg) : State :=
  match s.akg.pairing with
  | none => s
  | some p =>
    match m with
    | .chain c =>
      if decide (p.peerChain.isSome) || !Config.chainGood c s.peerRecord.serial then s.pairFailsBoth 5
      else
        let n := (List.range 6).flatMap (fun i => leBytes 8 (Config.entropySeed (s.fresh + i)).toNat)
        ((s.withFresh (s.fresh + 6)).mapPairing (fun q => { q with peerChain := some c, nonce := n })).sendPair 3 (.nonce n)
    | .nonce n =>
      if decide (p.nonce = []) || decide (p.peerNonce.isSome) || decide (n.length ≠ 48) then s.pairFailsBoth 5
      else (s.mapPairing (fun q => { q with peerNonce := some n })).askVault (.pairAuth (s.mineToSign p n))
    | .signature g =>
      match p.peerChain, p.peerNonce with
      | some c, some n =>
        if Config.ecdsaVerify (Config.leafKey c) (s.theirsSigned p n) g then (s.mapPairing (fun q => { q with peerSigned := true })).authDone
        else s.pairFailsBoth 5
      | _, _ => s.pairFailsBoth 5
    | _ => s

/-- The vault has signed for the pair: the signature is sent. -/
def State.pairSigned (s : State) (g : List Byte) : State :=
  if s.akg.pairing.isSome then ((s.mapPairing (fun q => { q with signed := true })).sendPair 3 (.signature g)).authDone else s

/-- A MIRROR_CTRL completes with this member's role. -/
def State.pairReply (s : State) (id status : Nat) : State := s.finish id status s.role 0

/-- PAIR_PREFECT or PAIR_DEPUTY: the first three conditions are checked, and the peer is told the role asked for (R293). -/
def State.askPair (s : State) (f : Flight) (role : Nat) : State :=
  let ms := natAt f.bytes 28 4
  let fails := fun c => (s.put Reg.AKG_PAIR_STATUS.last_result c).finish f.id 0x13 0 0
  if decide (s.role ≠ 0) || s.akg.pairing.isSome then s.pairReply f.id 0x13
  else if s.service ≠ svcFull then fails 2
  else if !s.pairProfile || decide (s.akState 0 ≠ akUp) || decide (s.peerRecord.slotId ≠ s.get Reg.GLB_SLOT.slot_id ^^^ 1) then fails 3
  else
    let want := (s.akg.inbox.filterMap (fun m => match m with | .want r => some r | _ => none)).getLast?
    let p : Pairing := ⟨f.id, role, s.now + (if ms = 0 then 1000 else ms) * 1000000, want, [], none, none, false, false, false⟩
    let s1 := (s.runFlight f.id).setAkg (fun a => { a with pairing := some p, inbox := a.inbox.filter (fun m => match m with | .want _ => false | _ => true) })
    (s1.sendPair 3 (.want role)).tryAuth

/-- The peer's request for a role, its withdrawal, or notice that a Deputy holds no usable state (R293, R294, R305). -/
def State.peerWants (s : State) (r : Nat) : State :=
  if r = 3 then (if s.isPrefect then ((s.setAkg (fun a => { a with split := false })).claimDone).startCopy else if s.isDeputy then (s.put Reg.AKG_PAIR_STATUS.in_step 0).setRole 3 else s)
  else if s.akg.pairing.isSome then
    (if r = 0 then s.pairFails 4 else (s.mapPairing (fun q => { q with peerWant := some r })).tryAuth)
  else if s.role ≠ 0 then s
  else s.setAkg (fun a => { a with inbox := (a.inbox.filter (fun m => match m with | .want _ => false | _ => true)) ++ (if r = 0 then [] else [.want r]) })

/-- The full copy is held: the pair stands in step (R293, R294). -/
def State.copyEnds (s : State) (role : Nat) : State :=
  let s1 := ((s.setAkg (fun a => { a with copying := false })).put Reg.AKG_PAIR_STATUS.in_step 1).setRole role
  match s.akg.pairing with
  | none => s1
  | some p => ((s1.setAkg (fun a => { a with pairing := none })).put Reg.AKG_PAIR_STATUS.last_result 1).finish p.flight 0 role 0

/-! Port 0 comes Up (R302, R305, R306). -/

/-- The pair goes on when port 0 is Up again: a member that claimed while it was down says so; a Prefect sends what it held, or starts a full copy. -/
def State.pairUp (s : State) : State :=
  if s.role = 0 then s
  else if s.peerRecord.mirrorEpoch ≠ (s.identity 0).mirrorEpoch then (s.put Reg.AKG_PAIR_STATUS.last_result 6).leavePair
  else if s.isPrefect then
    if s.akg.split then s.sendPair 3 (.claim true)
    else if s.akg.follows then
      let s1 := (s.each s.akg.unsent (fun t r => t.sendPair 2 (.snapshot r))).when_ (!s.akg.unsent.isEmpty) (fun t => t.sendPair 2 t.ringsMsg)
      (s1.setAkg (fun a => { a with unsent := [] })).put Reg.AKG_PAIR_STATUS.in_step (if s.akg.copying then 0 else 1)
    else (s.sendPair 3 (.want 3)).startCopy
  else s.put Reg.AKG_PAIR_STATUS.in_step (if s.role = 2 then 1 else 0)

/-- A port's identity record is judged: it comes Up, or reads miswired (R279). -/
def State.takeIdent (s : State) (p : Nat) (r : IdRecord) (last : Nat) : State :=
  if s.akState p = akExchange ∨ s.akState p = akRetrain then
    if s.peerFits p r then (s.portUp p r (last % 4096)).when_ (decide (p = 0)) (·.pairUp)
    else (s.put (Reg.AKG_PORT_STATUS.state p) akExchange).put (Reg.AKG_PORT_STATUS.miswired p) 1
  else s

end Sys2Proof.Machine
end

