-- ==== Sys2Proof/Machine/BusOps.lean ====
section
/-!
DEFINITION. Machine/BusOps.lean: writes and reads of the BAR0 and VF BAR0 registers inside GLD1, block by block (spec/00_scope.md R1 to R6, 06 R132 to R134, R155, R156, and the register tables of each chapter).
-/
namespace Sys2Proof.Machine

open Sys2Proof

/-! Writes (00 R1, R5, R6). -/

/-- A word written under the access codes of its fields alone. -/
def State.plainReg (s : State) (off : Nat) (v : Word) : State :=
  s.setWord off (writtenWord (s.word off) off (s.expert (off / 0x10000)) v).1

/-- A word that holds a profile beside Expert fields: a profile that changes, or any write outside Expert, loads the profile; otherwise the fields are written, beside an unlisted profile value too (06 R156, 00 R6). -/
def State.profileWord (s : State) (off width : Nat) (v : Word) (load : State → Nat → State) (fields : State → State) : State :=
  let p := fieldOf v 0 width
  if !s.expert (off / 0x10000) || (decide (p < 2) && decide (p ≠ fieldOf (s.word off) 0 width)) then load s p else fields s

/-- GLB_RESET: keyed, and only the strongest of the resets asked for (05 R130). -/
def State.resetWrite (s : State) (v : Word) : State :=
  if fieldOf v 16 16 ≠ 0xA5C3 then s
  else if v.toNat.testBit 2 then s.askCold
  else if v.toNat.testBit 1 then s.warmReset true false
  else if v.toNat.testBit 0 then s.fabReset
  else s

/-- A write of a GLB word (05 Table 05-9, 06 R154). -/
def State.glbWrite (s : State) (off : Nat) (v : Word) : State :=
  if off = 0x108 then s.resetWrite v
  else if off = 0x10C then
    (s.profileWord off 2 v (·.recessProfileWrite ·) (·.plainReg off v)).when_ (v.toNat.testBit 2) State.requestRecess
  else if off = 0x114 then s.unlockKey blk.glb .bar0 (fieldOf v 0 16)
  else s.plainReg off v

/-- A write of a ring register (06 Table 06-16). -/
def State.ringWrite (s : State) (off : Nat) (v : Word) : State :=
  let n := off % 0x1000 / 0x20
  let r := off % 0x20
  if r < 8 then s.baseWrite off v
  else if off < 0x12000 then
    (if r = 8 then s.sqCfgWrite n v else if r = 0x10 then s.when_ (v.toNat.testBit 1) (·.sqErrorClear n) else s)
  else if r = 8 then s.cqCfgWrite n v
  else if r = 0x18 then (s.plainReg off v).when_ (v.toNat.testBit 2) (·.cqErrorClear n)
  else s.plainReg off v

/-- Where the halves of a vector's address are staged and latched: the PF's offsets, and for a VF a key beyond every PF offset. -/
def msixKey (fn vec : Nat) : Nat := 0x1000000 * fn + 0x18000 + 16 * vec

/-- Dword `k` of an MSI-X table entry: the address is a 64-bit quantity (06 R153, 00 R5). -/
def State.msixWrite (s : State) (fn vec k : Nat) (v : Word) : State :=
  let g := fun (f : MsixVec → MsixVec) => s.withHost { s.host with msix := s.host.msix.modify (8 * fn + vec) f }
  let key := msixKey fn vec
  if k = 0 then
    let hi := (Store.read noHalf s.hiStage (key + 4)).map (·.toNat)
    (g (fun m => { m with addr := hi.getD (m.addr / 2 ^ 32) * 2 ^ 32 + v.toNat / 4 * 4 })).stageTaken key
  else if k = 1 then s.stageHi (key + 4) v
  else if k = 2 then g (fun m => { m with data := v.toNat })
  else s.maskVec fn vec (v.toNat.testBit 0)

/-- A write of an HIF word, or of the PF's MSI-X table (06 Tables 06-2, 06-15, 06-16). -/
def State.hifWrite (s : State) (off : Nat) (v : Word) : State :=
  if off = 0x10000 then s.hifProfileWrite (fieldOf v 0 2)
  else if off = 0x10008 then s.unlockKey blk.hif .bar0 (fieldOf v 0 16)
  else if off = 0x13240 then s.when_ (v.toNat.testBit 0) State.commitWhole
  else if 0x11000 ≤ off ∧ off < 0x11800 then s.ringWrite off v
  else if 0x12000 ≤ off ∧ off < 0x12800 then s.ringWrite off v
  else if 0x18000 ≤ off ∧ off < 0x18080 then s.msixWrite 0 ((off - 0x18000) / 16) (off % 16 / 4) v
  else match pair64 off with
    | some lo => if off ≠ lo then s.stageHi off v else ((s.stageTaken off).plainReg (off + 4) (s.stagedHi off)).plainReg off v
    | none => s.plainReg off v

/-- A write of an FAB word (07 Table 07-9). -/
def State.fabWrite (s : State) (off : Nat) (v : Word) : State :=
  if off = 0x20000 then
    s.profileWord off 2 v (·.fabProfileWrite ·) (fun t =>
      let spare := t.get Reg.FAB_PROFILE.spare_quad
      (((t.plainReg off v).put Reg.FAB_PROFILE.spare_quad spare).spareWrite (fieldOf v 4 4)).showCapacity)
  else if off = 0x20004 then s.unlockKey blk.fab .bar0 (fieldOf v 0 16)
  else if off = 0x20010 then s.gangCfgWrite v.toNat
  else if off = 0x20800 then s.accSelWrite (fieldOf v 0 6) (fieldOf v 6 6) (fieldOf v 12 6) (v.toNat.testBit 18)
  else s.plainReg off v

/-- A write of an SMP word (08 Table 08-9). -/
def State.smpWrite (s : State) (off : Nat) (v : Word) : State :=
  if off = 0x30000 then s.smpProfileWrite (fieldOf v 0 2)
  else if off = 0x30004 then s.unlockKey blk.smp .bar0 (fieldOf v 0 16)
  else s.plainReg off v

/-- A write of an SYL word (09 Table 09-13). -/
def State.sylWrite (s : State) (off : Nat) (v : Word) : State :=
  if off = 0x40000 then s.sylProfileWrite (fieldOf v 0 2)
  else if off = 0x40004 then s.unlockKey blk.syl .bar0 (fieldOf v 0 16)
  else if off = 0x40104 then s.shadowData v.toNat
  else if off = 0x40108 then s.shadowCtrl (v.toNat.testBit 0) (v.toNat.testBit 1)
  else s.plainReg off v

/-- A write of a CAP word (09 Table 09-12). -/
def State.capWrite (s : State) (off : Nat) (v : Word) : State :=
  if off = 0x50000 then s.capProfileWrite (fieldOf v 0 2)
  else if off = 0x50004 then s.unlockKey blk.cap .bar0 (fieldOf v 0 16)
  else s.plainReg off v

/-- A write of an HPS word (10 Table 10-6). -/
def State.hpsWrite (s : State) (off : Nat) (v : Word) : State :=
  if off = 0x60000 then s.hpsProfileWrite (fieldOf v 0 2)
  else if off = 0x60004 then s.unlockKey blk.hps .bar0 (fieldOf v 0 16)
  else if off = 0x60014 then s.when_ (v.toNat.testBit 0) State.hpsFill
  else if off = 0x6001C then s.hpsDataWrite v.toNat
  else s.plainReg off v

/-- AKG_RESUME_CTRL.resume: every CQ but the pair CQ goes on at its resume slot and phase, and held entries may be written (11 R297). -/
def State.resume (s : State) : State :=
  if s.flag Reg.AKG_RESUME_CTRL.resume_pending then
    (s.each ((List.range 64).filter (fun n => decide (n ≠ s.get Reg.AKG_PAIR_CFG.pair_cq))) (fun t n =>
      (t.put (Reg.HIF_CQ_STATE.tail n) (t.get (Reg.AKG_CQ_RESUME.tail n))).put (Reg.HIF_CQ_STATE.phase n) (t.get (Reg.AKG_CQ_RESUME.phase n)))).put
      Reg.AKG_RESUME_CTRL.resume_pending 0
  else s

/-- A write of an AKG word (11 Table 11-10). -/
def State.akgWrite (s : State) (off : Nat) (v : Word) : State :=
  if off = 0x70000 then s.akgProfileWrite (fieldOf v 0 2)
  else if off = 0x70004 then s.unlockKey blk.akg .bar0 (fieldOf v 0 16)
  else if off = 0x70008 then s.sysCfgWrite v
  else if off = 0x70020 then s.when_ (v.toNat.testBit 0) State.resume
  else if inRange off 0x7010C 0x20 4 then s.portCtrl ((off - 0x7010C) / 0x20) v.toNat
  else s.plainReg off v

/-- A write of a THM word (12 Table 12-9). -/
def State.thmWrite (s : State) (off : Nat) (v : Word) : State :=
  if off = 0x90000 then s.thmProfileWrite (fieldOf v 0 2)
  else if off = 0x90004 then s.unlockKey blk.thm .bar0 (fieldOf v 0 16)
  else if off = 0x90008 then s.levelsWrite v
  else if off = 0x9000C then s.thmCtrlWrite v
  else s.plainReg off v

/-- A write of an SEC word (14 Table 14-8). -/
def State.secWrite (s : State) (off : Nat) (v : Word) : State :=
  if off = 0xC0000 then s.secProfileWrite (fieldOf v 0 2)
  else if off = 0xC0004 then s.unlockKey blk.sec .bar0 (fieldOf v 0 16)
  else if off = 0xC0008 then s.secCtrl v.toNat
  else if off = 0xC0010 then s.rolledBackClear v
  else s.plainReg off v

/-- A write of a DBG word that belongs to a 64-bit quantity: high half staged, both committed by the low one (00 R5). -/
def State.dbgPairWrite (s : State) (off lo : Nat) (v : Word) : State :=
  if !s.expert blk.dbg then s
  else if off ≠ lo then s.stageHi off v
  else ((s.stageTaken off).dbgWrite (off + 4) (s.stagedHi off)).dbgWrite off v

/-- A write of a DBG word; DBG_CTRL is written through the GLD1 TAP only (15 R405, Table 15-9). -/
def State.dbgBlockWrite (s : State) (off : Nat) (v : Word) (tap : Bool) : State :=
  if off = 0xD0000 then s.dbgProfileWrite (fieldOf v 0 2)
  else if off = 0xD0004 then s.unlockKey blk.dbg .bar0 (fieldOf v 0 16)
  else if off = 0xD0008 then (if tap then s.dbgCtrl v.toNat else s)
  else match pair64 off with
    | some lo => s.dbgPairWrite off lo v
    | none => s.dbgWrite off v

/-- A write of a BAR0 word by the PF, or by the GLD1 TAP, which counts as one (06 Table 06-3, 15 R404). -/
def State.regWrite (s : State) (off : Nat) (v : Word) (tap : Bool) : State :=
  match off / 0x10000 with
  | 0 => s.glbWrite off v
  | 1 => s.hifWrite off v
  | 2 => s.fabWrite off v
  | 3 => s.smpWrite off v
  | 4 => s.sylWrite off v
  | 5 => s.capWrite off v
  | 6 => s.hpsWrite off v
  | 7 => s.akgWrite off v
  | 9 => s.thmWrite off v
  | 10 => s.overPsh (·.pshWrite .bar0 off v)
  | 11 => s.overPsh (·.pshWrite .bar0 off v)
  | 12 => s.secWrite off v
  | 13 => s.dbgBlockWrite off v tap
  | _ => s

/-- The same, mirrored by a Prefect before it completes (11 Table 11-6). -/
def State.pfWrite (s : State) (off : Nat) (v : Word) (tap : Bool) : State := s.cfgWrite off v.toNat (fun t => t.regWrite off v tap)

/-- A mirrored write on a Deputy: made as on the Prefect, in Expert or not. -/
def State.mirroredWrite (s : State) (off : Nat) (v : Word) (expert : Bool) : State :=
  let b := off / 0x10000
  let f := Reg.GLB_EXPERT_STATUS.expert
  let was := s.get f
  let s1 := if expert then s.put f (was ||| expertBits b) else s.put f (was &&& (0x3FFF - expertBits b))
  (s1.regWrite off v false).put f was

/-- PF BAR0 offset of a ring register in a VF's partition view, where the VF's partition owns the ring (06 R134). -/
def State.vfRing (s : State) (fn off : Nat) : Option Nat :=
  let n := off % 0x1000 / 0x20
  if 0x1000 ≤ off ∧ off < 0x1800 then (if s.sqOwner n = some fn then some (off + 0x10000) else none)
  else if 0x2000 ≤ off ∧ off < 0x2800 then (if s.cqOwner n = some fn then some (off + 0x10000) else none)
  else none

/-- A write of a VF BAR0 word (06 R134, Table 06-5). -/
def State.vfWrite (s : State) (fn off : Nat) (v : Word) : State :=
  if off = 0x200 then s.setCauses fn (fieldOf (BitVec.ofNat 32 (s.causes fn) &&& ~~~v) 0 16)
  else if off = 0x204 then s.withHost { s.host with vfEnable := s.host.vfEnable.set (fn - 1) (v &&& 0xFFFF) }
  else if 0x8000 ≤ off ∧ off < 0x8080 then s.msixWrite fn ((off - 0x8000) / 16) (off % 16 / 4) v
  else match s.vfRing fn off with
    | some o => s.pfWrite o v false
    | none => s

/-- A write of BAR0 of a function: of another size or alignment it is discarded (00 R4). -/
def State.barWrite (s : State) (fn off size : Nat) (v : Word) : State :=
  if size ≠ 4 ∨ off % 4 ≠ 0 then s else if fn = 0 then s.pfWrite off v false else s.vfWrite fn off v

/-- A BAR2 write: the doorbell of a page, at its offset 0 (06 R132, R133). -/
def doorbellPage (off size : Nat) : Option (Bool × Nat) :=
  if size ≠ 4 ∨ off % 0x1000 ≠ 0 ∨ 0x80000 ≤ off then none
  else if off < 0x40000 then some (false, off / 0x1000) else some (true, (off - 0x40000) / 0x1000)

/-! Reads (00 R1, R3 to R5). -/

/-- The entry that SMP_TABLE_SEL names, with its shift; 0 without a model or beyond its Timetable (08 R201, R209, R228). -/
def State.tableWord (s : State) : Word :=
  match s.model (s.get Reg.SMP_TABLE_SEL.model) with
  | none => 0
  | some m =>
    let r := s.get Reg.SMP_TABLE_SEL.rung
    let i := s.get Reg.SMP_TABLE_SEL.entry
    let exch := s.flag Reg.SMP_TABLE_SEL.kind
    let t := m.table
    if t.rungs.length ≤ (if exch then r + 1 else r) then 0
    else if exch then
      BitVec.ofNat 32 (exchEntry ((t.rung r).beta.sub (t.rung (r + 1)).beta) (t.rung r).exch m.window i + (t.rung r).exch * 2 ^ 24)
    else BitVec.ofNat 32 (actEntry t.metropolis (t.rung r).beta (t.rung r).shift m.window i + (t.rung r).shift * 2 ^ 24)

/-- A word of the recorder's read window, 0 while ready is 0 (13 R371). -/
def State.windowWord (s : State) (off : Nat) : Word :=
  if (Store.read resetWord s.mirror Reg.RCD_SELECT.ready.off).toNat.testBit Reg.RCD_SELECT.ready.lo then
    BitVec.ofNat 32 (natAt s.card.bufBar (off - 0xB1000) 4)
  else 0

/-- Dword `k` of an MSI-X entry, and the pending bits of a function. -/
def State.msixWord (s : State) (fn vec k : Nat) : Word :=
  let m := s.msixVec fn vec
  BitVec.ofNat 32 (if k = 0 then m.addr else if k = 1 then m.addr / 2 ^ 32 else if k = 2 then m.data else if m.masked then 1 else 0)
def State.pbaWord (s : State) (fn : Nat) : Word :=
  BitVec.ofNat 32 (((List.range 8).map (fun v => if (s.msixVec fn v).pending then 2 ^ v else 0)).sum)

/-- What a read of a BAR0 word returns, but for a latched high half. -/
def State.regRead (s : State) (off : Nat) : Word :=
  if off = 0x210 then BitVec.ofNat 32 s.time
  else if off = 0x214 then BitVec.ofNat 32 (s.time / 2 ^ 32)
  else if off = 0x18800 then s.pbaWord 0
  else if 0x18000 ≤ off ∧ off < 0x18080 then s.msixWord 0 ((off - 0x18000) / 16) (off % 16 / 4)
  else if 0x20804 ≤ off ∧ off ≤ 0x2080C then (if s.debugMode then s.word off else 0)
  else if off = 0x30104 then s.tableWord
  else if off = 0x40104 then BitVec.ofNat 32 (ruleNat (s.rules s.ruleShadow) (s.get Reg.SYL_SHADOW_ADDR.shadow_addr) 4)
  else if off = 0x6001C then BitVec.ofNat 32 (s.entry s.shadowBank (s.get Reg.HPS_SHADOW_ADDR.index))
  else if inRange off 0x80008 0x10 4 then Config.channelTraffic s.fresh ((off - 0x80008) / 0x10)
  else if 0xB1000 ≤ off ∧ off < 0xB2000 then s.windowWord off
  else if 0xA0000 ≤ off ∧ off < 0xC0000 then readableWord (Store.read resetWord s.mirror off) off
  else if off = 0xD0124 then s.traceWord
  else readableWord (s.word off) off

/-- An RC field read through the mirror: the mirror clears, and PSH2 removes what was returned (03 R80). While PSH2 is not reached nothing is cleared (01 R13). -/
def State.clearMirrored (s : State) (off : Nat) : State :=
  if s.gpGld.lost || !s.pshUp then s
  else
    let old := Store.read resetWord s.mirror off
    let s1 := s.withMirror (Store.write resetWord s.mirror off (rcCleared old off))
    s1.setWord off (((rowsOf off).filter (fun r => r.covers off)).foldl (fun w r => match r.acc with
      | .rc => withField w r.lo r.width (fieldOf w r.lo r.width - fieldOf old r.lo r.width)
      | _ => w) (s1.word off))

/-- What a read does beside returning a value: RC fields clear, DBG_TRACE_BUF_DATA advances (00 R1, 15 R416). -/
def State.readClears (s : State) (off : Nat) : State :=
  if 0xA0000 ≤ off ∧ off < 0xC0000 then s.clearMirrored off
  else if off = 0xD0124 then s.traceRead
  else if inRange off 0x80008 0x10 4 then s.withFresh (s.fresh + 1)
  else s.setWord off (rcCleared (s.word off) off)

/-- The value a read returns with its latch: a high half that its low half latched, else the live word; a low half latches its high half (00 R5). -/
def State.latchRead (s : State) (off : Nat) : Word × State :=
  match pair64 off with
  | none => (s.regRead off, s)
  | some lo =>
    if off = lo then (s.regRead off, (s.withLatch (Store.write noHalf s.latch (off + 4) (some (s.regRead (off + 4))))))
    else ((Store.read noHalf s.latch off).getD (s.regRead off), (s.withLatch (Store.write noHalf s.latch off none)))

/-- A read of a PF BAR0 word with its effects. -/
def State.pfRead (s : State) (off : Nat) : Word × State :=
  let r := s.latchRead off
  (r.1, r.2.readClears off)

/-- What a VF BAR0 read returns: identity and service mirrors without effects, its own causes, the rings it owns, its MSI-X table (06 R134). -/
def State.vfRead (s : State) (fn off : Nat) : Word × State :=
  if off < 0x2C ∨ (0x100 ≤ off ∧ off < 0x114) then (s.regRead off, s)
  else if off = 0x200 then (BitVec.ofNat 32 (s.causes fn), s)
  else if off = 0x204 then (BitVec.ofNat 32 (s.enables fn), s)
  else if off = 0x8800 then (s.pbaWord fn, s)
  else if 0x8000 ≤ off ∧ off < 0x8080 then
    let vec := (off - 0x8000) / 16
    let k := off % 16 / 4
    let hi := msixKey fn vec + 4
    if k = 0 then (s.msixWord fn vec 0, s.withLatch (Store.write noHalf s.latch hi (some (s.msixWord fn vec 1))))
    else if k = 1 then ((Store.read noHalf s.latch hi).getD (s.msixWord fn vec 1), s.withLatch (Store.write noHalf s.latch hi none))
    else (s.msixWord fn vec k, s)
  else match s.vfRing fn off with
    | some o => s.pfRead o
    | none => (0, s)

/-- A read of BAR0 of a function, or by a sequencer core as the PF reads: of another size or alignment it returns 0 (00 R3, R4). -/
def State.barRead (s : State) (fn off size : Nat) : State :=
  let r := if size ≠ 4 ∨ off % 4 ≠ 0 then (0, s) else if fn = 0 then s.pfRead off else s.vfRead fn off
  (r.2.withLastRead (r.1))

/-- Does an access of BAR0 leave Recess alone: GLB_SERVICE and GLB_RECESS_STATUS (05 R109, R124)? -/
def quietWord (off : Nat) : Bool := decide (off / 4 * 4 = 0x100) || decide (off / 4 * 4 = 0x110)

/-- A host access of BAR0, waking the module where it does. -/
def State.barAccess (s : State) (off : Nat) (f : State → State) : State :=
  if quietWord off then (if s.hostUp then f s else s) else s.viaHost f

/-- A host read of BAR0: the PCIe core answers GLB_SERVICE and GLB_RECESS_STATUS in every state with BAR0 enabled, Quiesced too (05 R109). -/
def State.barReadBy (s : State) (off : Nat) (f : State → State) : State :=
  if quietWord off && s.pcieUp && decide (s.service = svcQuiesced) then f s else s.barAccess off f

/-- What a configuration read returns (06 Table 06-1): identifiers and SR-IOV figures are fixed, controls as last written. -/
def State.cfgWord (s : State) (fn : Nat) (item : CfgItem) : Word :=
  let c := s.fnCfg fn
  let bit := fun (b : Bool) (n : Nat) => if b then 2 ^ n else 0
  match item with
  | .ids => BitVec.ofNat 32 ((if fn = 0 then 0x0064 else 0x0065) * 2 ^ 16 + 0x1F7A)
  | .classCode => 0x120000
  | .msixControl => BitVec.ofNat 32 (7 + bit c.funcMask 14 + bit c.msixEnable 15)
  | .command => BitVec.ofNat 32 (bit c.busMaster 2)
  | .powerState => BitVec.ofNat 32 (if c.d3hot then 3 else 0)
  | .maxPayload => BitVec.ofNat 32 c.maxPayload
  | .maxRead => BitVec.ofNat 32 c.maxRead
  | .aspm => BitVec.ofNat 32 (bit s.host.aspmL1 1)
  | .totalVfs => 8
  | .vfStride => 1
  | .firstVf => 1
  | .numVfs => BitVec.ofNat 32 s.host.numVfs

/-- A read by one of the readers: the host in BAR0, in BAR2, which reads 0 (06 R132), or in configuration space (06 Table 06-1), or a sequencer core that is running (00 R3). -/
def State.readBy (s : State) (r : Reader) (off size : Nat) : State :=
  match r with
  | .host fn => s.barReadBy off (fun t => t.barRead fn off size)
  | .doorbells _ => s.viaHost (fun t => t.withLastRead 0)
  | .config fn item => if s.hostUp then s.withLastRead (s.cfgWord fn item) else s
  | .core => if s.svc.rstLow then s else s.barRead 0 off size

end Sys2Proof.Machine
end

