-- ==== Sys2Proof/Machine/Bus.lean ====
section
/-!
DEFINITION. Machine/Bus.lean: the meanings of the register accesses (spec/00_scope.md, 06_host_rings.md R132 to R134).
-/
namespace Sys2Proof.Machine

open Sys2Proof

/-- REGISTER_WRITE: a write to a register, a doorbell or a configuration control of a function (00 R1, R4 to R6; 06 R132 to R134, R153). -/
def execRegisterWrite (fn : Nat) (target : BusTarget) (size value : Nat) (s : State) : Out :=
  need (decide (fn < 9)) (match target with
    | .bar0 off => s.barAccess off (fun t => t.barWrite fn off size (BitVec.ofNat 32 value))
    | .bar2 off => match doorbellPage off size with
      | some (cq, n) => s.viaHost (fun t => t.doorbell cq fn n (value % 2 ^ 16))
      | none => s
    | .config f => if s.hostUp then s.cfgSet fn f else s)

/-- RC_READ: a read by the host or a sequencer core; RC fields clear (00 R1, R3 to R5; 03 R80). -/
def execRcRead (reader : Reader) (off size : Nat) (s : State) : Out :=
  need (match reader with | .host fn | .doorbells fn | .config fn _ => decide (fn < 9) | .core => true) (s.readBy reader off size)

/-- LOW_HALF_READ: a read of the low half of a 64-bit quantity, which latches the high half (00 R5). -/
def execLowHalfRead (reader : Reader) (off : Nat) (s : State) : Out :=
  need (match reader with | .host fn | .doorbells fn | .config fn _ => decide (fn < 9) | .core => true) (s.readBy reader off 4)

end Sys2Proof.Machine
end

