-- ==== Sys2Proof/Machine/Capture.lean ====
section
/-!
DEFINITION. Machine/Capture.lean: the meanings of the capture, Syllabus and context-egress commands (spec/09_capture_syllabus.md; 06 R146; 08 R215; 11 R300).
-/
namespace Sys2Proof.Machine

open Sys2Proof

/-- Does the Capture link receive: GLD1 out of reset and not entering Recess, in it or quiesced (02 Tables 02-4, 02-4a, R33)? -/
def State.capReceives (s : State) : Bool :=
  !s.svc.rstLow && decide (s.service ≠ svcEntering) && decide (s.service ≠ svcRecess) && decide (s.service ≠ svcQuiesced)

/-- Are records and frames framed: the bring-up stages have passed (02 Table 02-4a)? -/
def State.capFrames (s : State) : Bool := s.capReceives && decide (s.service ≠ svcBoot)

/-- CAPTURE_LINK_UP: all lanes locked and aligned (R230). -/
def execCaptureLinkUp (skew : Nat) (s : State) : Out :=
  .next (if !s.capReceives then s
    else (((s.put Reg.CAP_LINK_STATUS.lane_lock 0xFF).put Reg.CAP_LINK_STATUS.aligned 1).put Reg.CAP_LINK_STATUS.link_up 1).put
      Reg.CAP_LINK_STATUS.lane_skew skew)

/-- CAPTURE_LINK_DOWN: the lanes still locked; a record in its header is lost, one past it is truncated (R230, R232). -/
def execCaptureLinkDown (locked : Nat) (inHeader : Bool) (s : State) : Out :=
  .next (if !s.flag Reg.CAP_LINK_STATUS.link_up then s
    else
      let s1 := ((s.put Reg.CAP_LINK_STATUS.lane_lock locked).put Reg.CAP_LINK_STATUS.aligned 0).put Reg.CAP_LINK_STATUS.link_up 0
      ((s1.bump Reg.CAP_LINK_ERR.align_loss).when_ inHeader (·.bump Reg.CAP_RECORD_ERR.header_lost)).endLink true)

/-- Is the crossing of the Capture link's words held (01 R21)? -/
def State.capHeld (s : State) : Bool := s.crossHeld.getD 1 false

/-- RECORD_HEADER: the header after an SOR is complete, or was cut short by a control block or by the loss of the capture clock; an SOR before the last record's end truncates that; a record that comes in Recess is discarded and counted (R229, R231, R232, R237, R252, R256). -/
def execRecordHeader (stream : Nat) (header : List Byte) (s : State) : Out :=
  need (decide (stream < 8)) (
    if s.service = svcRecess then (if linkHeaderOk header then (s.takeRec (linkRec stream header)).setCap (fun c => { c with onLink := none }) else s)
    else if !s.capFrames || !s.flag Reg.CAP_LINK_STATUS.link_up then s
    else if s.capHeld then s.when_ (decide (header.length < 64)) (·.bump Reg.CAP_RECORD_ERR.header_lost)
    else if linkHeaderOk header then (s.endLink true).takeRec (linkRec stream header)
    else (s.endLink true).bump Reg.CAP_RECORD_ERR.header_lost)

/-- END_OF_RECORD: the last payload blocks land, then the record ends by EOR, SOR or a bad block; outside a record, or in its header, a bad block and data blocks that belong to none are counted all the same (R231, R232). -/
def execEndOfRecord (rest : List Byte) (surplus : Nat) (fin : RecEnd) (s : State) : Out :=
  .next (if !s.capFrames || !s.flag Reg.CAP_LINK_STATUS.link_up || s.capHeld then s
    else
      let s1 := (s.land rest).add Reg.CAP_RECORD_ERR.bad_block (surplus + (match fin with | .bad => 1 | _ => 0))
      match s1.cap.onLink with
      | none => s1
      | some l =>
        let whole := decide (l.len ≤ l.data.length)
        match fin with
        | .eor crc => if whole then s1.endGood crc else s1.endLink true
        | .sor => s1.endLink true
        | .bad => if whole then s1 else s1.endLink true)

/-- ETH_FRAME: a whole frame arrives on a port whose crossing is not held; a record that comes in Recess is discarded and counted (R233 to R237, R255 to R257, 01 R21). -/
def execEthFrame (port : Nat) (bytes : List Byte) (s : State) : Out :=
  need (decide (port < 2)) (if ((s.capFrames && s.ethUp port) || decide (s.service = svcRecess)) && s.flag (Reg.CAP_ETH_MAC_HI.rx_enable port) &&
      !s.crossHeld.getD (3 + port) false then s.frame port bytes else s)

/-- SYLLABUS_PASS: one pass of a record; after its last, the record is finished with Syllabus (R242, R243, R246, R254). -/
def execSyllabusPass (rec_ : Nat) (s : State) : Out := .next (s.sylPass rec_)

/-- BURST_LOAD: payload lands on the record, and the burst asked for loads if it is whole or the record has ended (R251). -/
def execBurstLoad (rec_ : Nat) (more : List Byte) (s : State) : Out :=
  .next ((if s.cap.onLink.bind (·.id) = some rec_ then s.land more else s).burstLoad rec_)

/-- LOAD_TIMEOUT: load_timeout has passed with the burst incomplete (R251). -/
def execLoadTimeout (rec_ : Nat) (s : State) : Out := .next (s.underrun rec_)

/-- RECORD_VERDICT: a record's reduction ends (R146, R158, R215, R248, R263). -/
def execRecordVerdict (rec_ : Nat) (s : State) : Out := .next (s.verdict rec_)

/-- CLASSIFY_STREAM: once the loads of its model ahead of it have completed, it stands on its stream, takes over from the one that stands, or stops the stream (06 R146; 07 R167, R190, R191, R431). -/
def execClassifyStream (id : Nat) (s : State) : Out :=
  .next (match s.startable id opClassify with
    | none => s
    | some f =>
      if decide (dModel f.bytes ≠ 0xFFFF) && s.loadAhead (dModel f.bytes) id then s
      else if !s.modelFits f.bytes then s.finish id 0x20 0 0 else
      let stream := natAt f.bytes 24 1 % 8
      let s1 := match s.standingOf stream with
        | none => s
        | some x => (s.mapStanding x.flight (fun y => { y with leaving := true })).takeBack x.flight false
      let s2 := if recordsOf f.bytes = 0 then s1.finish id 0 0 0
        else ((s1.mapFlight id (fun g => { g with stage := .running, standing := true })).setCap (fun c =>
          { c with standing := c.standing ++ [⟨id, stream, 0, 0, 0, false⟩] }))
      let s3 := match s.standingOf stream with
        | none => s2
        | some x => s2.checkStanding x.flight
      s3.startRecs stream)

/-- ETH_LINK_UP: a port's link comes up and its queue leaves in order (11 R300). -/
def execEthLinkUp (port : Nat) (s : State) : Out :=
  need (decide (port < 2)) (if !s.linksRun || s.ethUp port then s
    else ((s.put (Reg.CAP_ETH_MAC_HI.link_up port) 1).setEgress port []).each (s.egressQueue port) (fun t p => t.sendPacket port p.bytes p.since))

/-- ETH_LINK_DOWN: a port's link is lost; the packet being sent goes back to the head of the queue with its age, and hold_time 0 discards all (11 R300). -/
def execEthLinkDown (port : Nat) (cut : Bool) (s : State) : Out :=
  need (decide (port < 2)) (if !s.ethUp port then s
    else
      let s1 := s.put (Reg.CAP_ETH_MAC_HI.link_up port) 0
      let last := if cut then s1.cap.sent.reverse.find? (fun x => decide (x.1 = port)) else none
      let s2 := match last with
        | none => s1
        | some x => ((s1.setCap (fun c => { c with sent := dropLastSent port c.sent })).put (Reg.CAP_ETH_EGRESS.egress_sent port)
            (s1.get (Reg.CAP_ETH_EGRESS.egress_sent port) - 1)).setEgress port [⟨x.2, s.cap.sentSince.getD port 0⟩]
      if s.get (Reg.CAP_ETH_HOLD.hold_time port) = 0 then
        (s2.add (Reg.CAP_ETH_EGRESS.egress_dropped port) (s2.egressQueue port).length).setEgress port []
      else s2)

/-- EGRESS_HOLD_EXPIRY: the oldest packet of a port that is down passes hold_time (11 R300). -/
def execEgressHoldExpiry (port : Nat) (s : State) : Out :=
  need (decide (port < 2)) (if s.ethUp port then s
    else match s.egressQueue port with
      | [] => s
      | _ :: t => (s.setEgress port t).bump (Reg.CAP_ETH_EGRESS.egress_dropped port))

/-- SYL_BANK_SWAP: one at a time in fetch order, it writes and builds the shadow bank and flips; a failed build ends it BAD_DESC (R246, R253). -/
def execSylBankSwap (id : Nat) (data : Option (List Byte)) (s : State) : Out :=
  .next (match s.startable id opBankSwap with
    | none => s
    | some f =>
      let before := s.host.flights.any (fun g => decide (g.id < id) && decide (dOp g.bytes = opBankSwap) && decide (g.stage ≠ .ended))
      let flip := fun (t : State) =>
        let u := if t.flag Reg.SYL_STATUS.shadow_valid then t else t.buildShadow
        if u.flag Reg.SYL_STATUS.shadow_valid then (u.runFlight id).flipRules id else u.finish id 0x20 0 0
      if before || s.cap.flipped.isSome then s
      else if dAddr0 f.bytes = 0 then flip s
      else match s.readIn f.part (dDev0 f.bytes) (dAddr0 f.bytes) (natAt f.bytes 24 4) data with
        | none => s.finish id 0x13 0 0
        | some b => flip (((s.traceIn f.part (dDev0 f.bytes) (dAddr0 f.bytes) b).setRules s.ruleShadow
            (Store.writeList ruleBlank [] 0 b)).shadowTouched))

/-- SYL_SWAP_DONE: no record is left in its passes on the old bank, and the descriptor completes OK, once a standing Deputy holds the rules (R246, 11 Table 11-6). -/
def execSylSwapDone (s : State) : Out :=
  .next (match s.cap.flipped with
    | none => s
    | some (id, bank, t) =>
      if s.cap.recs.any (fun r => !r.classified && !r.finished && decide (r.bank = some (1 - bank))) then s
      else ((s.setCap (fun c => { c with flipped := none })).put Reg.SYL_STATUS.swap_pending 0).finishMirrored id 0 bank t (.rules (s.rules bank)))

/-- SHADOW_DATA_WRITE: a write of SYL_SHADOW_DATA (R253, Table 09-13). -/
def execShadowDataWrite (value : Nat) (s : State) : Out := .next (s.viaHost (fun t => t.shadowData value))

/-- SHADOW_CLEAR: SYL_SHADOW_CTRL.shadow_clear (R253, Table 09-13). -/
def execShadowClear (s : State) : Out := .next (s.viaHost (fun t => t.shadowCtrl true false))

/-- SHADOW_BUILD: SYL_SHADOW_CTRL.shadow_build (R245). -/
def execShadowBuild (s : State) : Out := .next (s.viaHost (fun t => t.shadowCtrl false true))

/-- SHADOW_BUILD_END: the build that runs ends (R245). -/
def execShadowBuildEnd (s : State) : Out := .next (if s.cap.building then s.buildShadow else s)

/-- CAP_PROFILE: a write of CAP_PROFILE.profile (R249, R250). -/
def execCapProfile (value : Nat) (s : State) : Out :=
  .next (s.hostCfg Reg.CAP_PROFILE.profile.off value (fun t => t.capProfileWrite (value % 4)))

/-- SYL_PROFILE: a write of SYL_PROFILE.profile (R249, R250). -/
def execSylProfile (value : Nat) (s : State) : Out :=
  .next (s.hostCfg Reg.SYL_PROFILE.profile.off value (fun t => t.sylProfileWrite (value % 4)))

end Sys2Proof.Machine
end

