-- ==== Sys2Proof/Machine/Debug.lean ====
section
/-!
DEFINITION. Machine/Debug.lean: the meanings of the debug and trace commands (spec/15_debug_trace.md).
-/
namespace Sys2Proof.Machine

open Sys2Proof

/-! DACCESS (R402 to R404, R416). -/

/-- One of the two TAPs. -/
def State.tap (s : State) (psh : Bool) : Tap := if psh then s.dbg.tapPsh else s.dbg.tapGld

/-- Change a TAP. -/
def State.setTap (s : State) (psh : Bool) (t : Tap) : State :=
  s.withDbg (if psh then { s.dbg with tapPsh := t } else { s.dbg with tapGld := t })

/-- Is the TAP in the chain and out of Test-Logic-Reset? The GLD1 TAP is replaced by a bypass stage while GP_RST_N is low (R401, R402). -/
def State.tapLive (s : State) (psh : Bool) : Bool := s.svc.pshPower && !(s.tap psh).inReset && (psh || !s.svc.rstLow)

/-- Status of an access to register space on the GLD1 TAP before it acts: error where Table 06-3 has no block, sleeping in a block that Recess stops (R403, R404). -/
def State.tapStatus (s : State) (off : Nat) : Nat :=
  if 0xE0000 ≤ off then 2
  else if decide (s.service = svcRecess) && !([blk.glb, blk.hps, blk.dbg].contains (off / 0x10000)) then 3
  else 0

/-- Does a DACCESS read act as a host read (R416)? -/
def State.tapConsumes (s : State) : Bool := s.debugMode && s.flag Reg.DBG_CTRL.consume

/-- A word of PSH2's own side of PWR and RCD (R403). -/
def State.pshWord (s : State) (off : Nat) : Word :=
  if 0xB1000 ≤ off ∧ off < 0xB2000 then
    (if s.flag Reg.RCD_SELECT.ready then BitVec.ofNat 32 (natAt s.card.bufBar (off - 0xB1000) 4) else 0)
  else readableWord (s.word off) off

/-- The core and offset a core-debug-space offset names on a TAP (Table 15-4). -/
def debugCore (psh : Bool) (off : Nat) : Option (Nat × Nat) :=
  if psh then (if off < 0x100 then some (4, off) else none)
  else if off < 0x400 then some (off / 0x100, off % 0x100) else none

/-- A DACCESS read: its status, its data and what it does. -/
def State.tapRead (s : State) (psh : Bool) (space addr : Nat) : Nat × Word × State :=
  let off := 4 * addr
  let found := fun (w : Option Word) => match w with
    | some v => (0, v, s)
    | none => (2, (0 : Word), s)
  if space = 0 then
    if psh then
      (if !isPsh2Word off then (2, 0, s)
       else (0, s.pshWord off, if s.tapConsumes then s.setWord off (rcCleared (s.word off) off) else s))
    else if s.tapStatus off ≠ 0 then (s.tapStatus off, 0, s)
    else if s.tapConsumes then (0, s.pfRead off) else (0, s.regRead off, s)
  else if !s.debugMode then (2, 0, s)
  else if space = 1 then found ((debugCore psh off).bind (fun x => s.coreRead x.1 x.2))
  else if decide (space = 2) && !psh then found (s.coreMemRead addr)
  else (2, 0, s)

/-- A DACCESS write: its status and what it does (R404). -/
def State.tapWrite (s : State) (psh : Bool) (space addr : Nat) (v : Word) : Nat × State :=
  let off := 4 * addr
  let found := fun (t : Option State) => match t with
    | some u => (0, u)
    | none => (2, s)
  if space = 0 then
    if psh then (if !isPsh2Word off then (2, s) else (0, if s.pshUp then s.pshWrite .bar0 off v else s))
    else if s.tapStatus off ≠ 0 then (s.tapStatus off, s)
    else (0, s.pfWrite off v true)
  else if !s.debugMode then (2, s)
  else if space = 1 then found ((debugCore psh off).bind (fun x => s.coreWrite x.1 x.2 v))
  else if decide (space = 2) && !psh then found (s.coreMemWrite addr v)
  else (2, s)

/-- The access runs: status and data wait for the next Capture-DR. -/
def State.launched (s : State) (psh : Bool) (status : Nat) (data : Word) : State :=
  s.setTap psh { s.tap psh with busy := true, nextStatus := status, nextData := data }

/-- DACCESS_READ: a read is launched at Update-DR; while one runs it is discarded (R403, R404, R416). -/
def execDaccessRead (psh : Bool) (space addr : Nat) (s : State) : Out :=
  need (decide (space < 4) && decide (addr < 0x400000)) (if !s.tapLive psh || (s.tap psh).busy then s
    else
      let r := s.tapRead psh space addr
      r.2.2.launched psh r.1 (if r.1 = 0 then r.2.1 else (s.tap psh).data))

/-- DACCESS_WRITE: a write is launched at Update-DR; on register space it counts as a PF write over BAR0 (R403, R404). -/
def execDaccessWrite (psh : Bool) (space addr value : Nat) (s : State) : Out :=
  need (decide (space < 4) && decide (addr < 0x400000)) (if !s.tapLive psh || (s.tap psh).busy then s
    else
      let r := s.tapWrite psh space addr (BitVec.ofNat 32 value)
      r.2.launched psh r.1 (s.tap psh).data)

/-- DACCESS_DONE: the access completes within 1.0 µs, and its status and data are ready (R403). -/
def execDaccessDone (psh : Bool) (s : State) : Out :=
  .next (if (s.tap psh).busy then
    s.setTap psh { s.tap psh with busy := false, status := (s.tap psh).nextStatus, data := (s.tap psh).nextData } else s)

/-- TRST_N: low holds both TAPs in Test-Logic-Reset, and resets nothing else (R401, R405). -/
def execTrstN (low : Bool) (s : State) : Out :=
  .next ((s.setTap true { s.tap true with inReset := low }).setTap false { s.tap false with inReset := low })

/-! Debug mode and halts (R405, R406, R417, R418). -/

/-- DEBUG_MODE_ENTER: DBG_CTRL.debug_mode is set through the GLD1 TAP (R405). -/
def execDebugModeEnter (s : State) : Out :=
  .next (if s.tapLive false then s.dbgCtrl (1 + 2 * s.get Reg.DBG_CTRL.consume) else s)

/-- DEBUG_MODE_EXIT: it is cleared (R405). -/
def execDebugModeExit (s : State) : Out :=
  .next (if s.tapLive false then s.dbgCtrl (2 * s.get Reg.DBG_CTRL.consume) else s)

/-- HALT_REQ: DCTRL.halt_req of GLD1 core 0 to 3 or the PSH2 core, 4; inside a locked sequence the halt waits (R406, R417, R418). -/
def execHaltReq (core : Nat) (lock : Option LockSeq) (s : State) : Out := need (decide (core < 5)) (s.haltRequest core lock)

/-- BREAKPOINT: breakpoint `b` of a core matches the next instruction (R406). -/
def execBreakpoint (core b : Nat) (lock : Option LockSeq) (s : State) : Out :=
  need (decide (core < 5) && decide (b < 2))
    (let bp := (s.core core).bps.getD b (false, 0)
     if s.mayHalt core && bp.1 && !(s.core core).deferred then
       let t := s.haltOrDefer core 2 lock
       t.when_ (t.halted core) (·.mapCore core (fun k => { k with dpc := 2 * bp.2 }))
     else s)

/-- CORE_RESUME: DCTRL.resume (R406). -/
def execCoreResume (core : Nat) (s : State) : Out := need (decide (core < 5)) (s.coreResume core)

/-- STEP: DCTRL.step, one instruction or one whole locked sequence (R406, R417). -/
def execStep (core : Nat) (lock : Option LockSeq) (s : State) : Out := need (decide (core < 5)) (s.coreStep core lock)

/-- LOCK_END: the locked sequence ends and a deferred halt takes effect (R417). -/
def execLockEnd (core : Nat) (s : State) : Out := need (decide (core < 5)) (s.lockEnd core)

/-- HALT_FORCED: a deferred halt reaches its limit; `id` names the descriptor whose commit breaks (R408, R417). -/
def execHaltForced (core id : Nat) (s : State) : Out := need (decide (core < 5)) (s.haltForced core id)

/-! Trace (R412, R414, R416). -/

/-- TRACE_WP_WRITE: 4 KiB of records or 10 µs have passed, and the write pointer is written out (R412). -/
def execTraceWpWrite (s : State) : Out := .next (if s.traceToHost then s.traceWp else s)

/-- TRACE_BUF_READ: a host read of DBG_TRACE_BUF_DATA (R416, R420). -/
def execTraceBufRead (s : State) : Out := .next (s.viaHost State.traceRead)

/-- TRACE_CLEAR: DBG_TRACE_CTRL.clear (R412). -/
def execTraceClear (s : State) : Out := .next (s.viaHost State.traceClear)

/-- DBG_PROFILE: a write of DBG_PROFILE.profile (R414, R415). -/
def execDbgProfile (value : Nat) (s : State) : Out := .next (s.viaHost (fun t => t.dbgProfileWrite (value % 4)))

end Sys2Proof.Machine
end

