-- ==== Sys2Proof/Machine/Fabric.lean ====
section
/-!
DEFINITION. Machine/Fabric.lean: the meanings of the cell-fabric commands (spec/07_cell_fabric_arithmetic.md; 08 R195 to R197 for model images).
-/
namespace Sys2Proof.Machine

open Sys2Proof

/-- LOAD_MODEL: an image is read, checked, graded and written to its banks; on a shared slot its completion waits for the other members (08 R195 to R197, 07 R191, 11 R287). -/
def execLoadModel (id : Nat) (image : Option (List Byte)) (s : State) : Out :=
  .next (match s.startSlot id opLoadModel with
    | none => s
    | some f =>
      match s.readIn f.part (dDev0 f.bytes) (dAddr0 f.bytes) (natAt f.bytes 24 4) image with
      | none => s.finish id 0x13 0 0
      | some b =>
        let s1 := s.traceIn f.part (dDev0 f.bytes) (dAddr0 f.bytes) b
        (if s.sharedSlot (dModel f.bytes) then s1.shareLoad f b else s1.loadModel f b).reroute)

/-- LOAD_COEFF: float32 couplings are graded into the banks (R171, R172, R191, R431). -/
def execLoadCoeff (id : Nat) (data : Option (List Byte)) (s : State) : Out :=
  .next (match s.startSlot id opLoadCoeff with
    | none => s
    | some f =>
      match s.readIn f.part (dDev0 f.bytes) (dAddr0 f.bytes) (4 * natAt f.bytes 24 4) data with
      | none => s.finish id 0x13 0 0
      | some b => ((s.traceIn f.part (dDev0 f.bytes) (dAddr0 f.bytes) b).loadCoeff f b).reroute)

/-- RUN_MAC: the descriptor reaches its model and waits for gangs (R173, R190, R191, R431; 10 R266). -/
def execRunMac (id : Nat) (s : State) : Out :=
  .next (match s.startSlot id opRunMac with
    | none => s
    | some f => s.macRun f)

/-- MAC_PASS_END: a vector's pass ends, of a RUN_MAC or of a record's feature stage (R173, R174, R189; 08 R215). -/
def execMacPassEnd (id : Nat) (data : Option (List Byte)) (s : State) : Out :=
  .next (match s.run id with
    | none => s
    | some r =>
      if !r.goes || s.halted 2 then s
      else match r.kind, s.flight id, s.model r.slot with
        | .mac, some f, some m => s.macPass r f m data
        | .record _ _, _, _ => if r.done < r.loaded then s.featurePass id else s
        | _, _, _ => s)

/-- FAB_GANG_CFG: a write of the gang layout (R166). -/
def execFabGangCfg (value : Nat) (s : State) : Out :=
  .next (s.hostCfg Reg.FAB_GANG_CFG.quad4.off value (fun t => t.gangCfgWrite value))

/-- FAB_PROFILE: a write of FAB_PROFILE.profile (R187). -/
def execFabProfile (value : Nat) (s : State) : Out :=
  .next (s.hostCfg Reg.FAB_PROFILE.profile.off value (fun t => t.fabProfileWrite (value % 4)))

/-- SPARE_QUAD_WRITE: an Expert write of spare_quad (R188). -/
def execSpareQuadWrite (value : Nat) (s : State) : Out := .next (s.viaHost (fun t => t.spareWord (value % 16)))

/-- ACC_LATCH: a write of FAB_ACC_SEL with latch set (R186). -/
def execAccLatch (tile row col : Nat) (s : State) : Out := .next (s.viaHost (fun t => t.accSelWrite tile row col true))

/-- ACC_CAPTURE: the cell reaches a boundary and the capture asked for is made (R186). -/
def execAccCapture (s : State) : Out := .next (if s.fab.capturing && s.debugMode then s.captureAcc else s)

end Sys2Proof.Machine
end

