-- ==== Sys2Proof/Machine/Firmware.lean ====
section
/-!
DEFINITION. Machine/Firmware.lean: the meanings of the firmware, attestation and recovery commands (spec/14_identity_firmware.md).
-/
namespace Sys2Proof.Machine

open Sys2Proof

/-- The flight of a FW_STAGE op that may start while PSH2 answers. -/
def State.fwFlight (s : State) (id op : Nat) : Option Flight :=
  (s.startable id opFwStage).filter (fun f => decide (natAt f.bytes 25 1 = op) && s.reachesPsh)

/-- FW_STAGE_WRITE_CHUNK: the chunk is written sector by sector; it pauses while the flash-write window is closed or a Report Card erase runs, and ends NOT_IN_SERVICE when the window stays closed for 60 s (R384, R395, 12 R337, 13 R351). -/
def execFwStageWriteChunk (id : Nat) (data : Option (List Byte)) (timedOut : Bool) (s : State) : Out :=
  .next (match s.fwFlight id 0 with
    | none => s
    | some f =>
      let i := fwImageOf f
      let shut := s.flag Reg.RCD_STATUS.window_closed
      if (s.image i).pending then s.fwAborts id 10
      else if s.onTrial then s.fwAborts id 7
      else if shut && timedOut then ((s.setImage i { s.image i with staged := false }).showFw).finish id 0x21 0 0
      else if shut || s.card.erase.isSome then s
      else match s.readIn f.part (dDev0 f.bytes) (dAddr0 f.bytes) (natAt f.bytes 32 4) data with
        | none => s.finish id 0x13 0 0
        | some b => (s.traceIn f.part (dDev0 f.bytes) (dAddr0 f.bytes) b).stageChunk f b)

/-- FW_STAGE_VERIFY: the other slot is checked (R385). -/
def execFwStageVerify (id : Nat) (s : State) : Out :=
  .next (match s.fwFlight id 1 with
    | none => s
    | some f => s.stageVerify f)

/-- FW_STAGE_ACTIVATE: the staged image becomes pending, alone or jointly, or is refused (R386). -/
def execFwStageActivate (id : Nat) (s : State) : Out :=
  .next (match s.fwFlight id 2 with
    | none => s
    | some f => if s.flag Reg.RCD_STATUS.window_closed then s else s.stageActivate f)

/-- LIVE_RESTART: a pending activation of PSH2 alone takes effect: the Report Card is flushed and the core restarts on the activated slot (R387, R388). -/
def execLiveRestart (s : State) : Out :=
  .next (if s.pshUp && s.sec.psh.pending && !s.sec.joint && !s.sec.restarting then (s.activate 1).pshRestart.showFw else s)

/-- CONFIRM: SEC_FW_CTRL.confirm, with raise_floor and the key it needs (R389, R399). -/
def execConfirm (raiseFloor : Bool) (key : Nat) (s : State) : Out :=
  .next (s.viaHost (fun t => t.secCtrl (1 + (if raiseFloor then 2 else 0) + key % 2 ^ 16 * 2 ^ 16)))

/-- CANCEL: SEC_FW_CTRL.cancel (R395). -/
def execCancel (s : State) : Out := .next (s.viaHost (fun t => t.secCtrl 4))

/-- STRICT_SET: SEC_FW_CTRL.strict_set with its key (R398, R399). -/
def execStrictSet (key : Nat) (s : State) : Out := .next (s.viaHost (fun t => t.secCtrl (8 + key % 2 ^ 16 * 2 ^ 16)))

/-- AUTO_CONFIRM: full service has held for confirm_delay with no flagged sensor, tile fence or ledger disagreement; the record is written through PSH2 (R392, 01 Table 01-2). -/
def execAutoConfirm (s : State) : Out :=
  .next (if decide (s.get Reg.SEC_PROFILE.profile = 1) && s.onTrial && decide (s.service = svcFull) && s.reachesPsh then s.confirmTrials false else s)

/-- SEC_PROFILE: a write of SEC_PROFILE.profile (R392, R393). -/
def execSecProfile (value : Nat) (s : State) : Out := .next (s.viaHost (fun t => t.secProfileWrite (value % 4)))

/-- MFR_FW_STATUS: SEC_FW_STATUS[15:0], or last_result alone in ROM recovery (R400). -/
def execMfrFwStatus (s : State) : Out :=
  .next (if !s.romUp then s
    else if s.svc.romRecovery then s.answer (leBytes 2 (s.sec.lastResult % 16))
    else s.pmbRead (fun t => t.answer (leBytes 2 (t.word Reg.SEC_FW_STATUS.gld1_slot.off).toNat)))

/-- A write that only ROM recovery takes: elsewhere its data byte is not acknowledged (R400). -/
def State.recoveryWrite (s : State) (fin : PmbEnd) (act : State → State) : State :=
  if !s.romUp then s
  else if s.svc.romRecovery then
    (match fin with | .whole => act s.ack | .badPec => s.cml5 | .short => s.cml6)
  else s.pmbWrite fin State.nack

/-- MFR_FW_RECOVERY: 64 bytes go into PSH2 slot A through the erase journal: the sector is erased when its first bytes come (R394, R400). -/
def execMfrFwRecovery (fin : PmbEnd) (data : List Byte) (s : State) : Out :=
  .next (s.recoveryWrite fin (fun t =>
    let off := natAt data 0 4
    if decide (data.length ≠ 68) || decide (off % 64 ≠ 0) || decide (0x100000 ≤ off) then t.nack
    else (t.when_ (decide (off % 4096 = 0)) (·.eraseStaging (slotBase 1 0 + off))).norProgram (slotBase 1 0 + off) (data.drop 4)))

/-- MFR_FW_RECOVERY_CTRL: 0x01 checks slot A, and boots it if it is valid (R394). -/
def execMfrFwRecoveryCtrl (fin : PmbEnd) (value : Nat) (s : State) : Out :=
  .next (s.recoveryWrite fin (fun t =>
    if value ≠ 1 then t.nack
    else
      let r := t.checkSlot 1 0
      if r = 0 then
        let u := t.setImage 1 { t.sec.psh with slot := 0 }
        (u.withSvc { u.svc with romRecovery := false }).bootWrite.showFw
      else t.fwResult r))

/-- GET_VERSION: version 1.2 (R375). -/
def execGetVersion (s : State) : Out := .next (s.spdm (·.spdmReply .version))

/-- GET_CAPABILITIES: the capabilities of Table 14-2 (R375). -/
def execGetCapabilities (s : State) : Out := .next (s.spdm (·.spdmReply .capabilities))

/-- NEGOTIATE_ALGORITHMS: ECDSA P-384 and SHA-384 (R375). -/
def execNegotiateAlgorithms (s : State) : Out := .next (s.spdm (·.spdmReply .algorithms))

/-- GET_DIGESTS: the digest of the slot 0 chain (R375). -/
def execGetDigests (s : State) : Out := .next (s.spdm (fun t => t.spdmReply (.digests (Config.sha384 t.certChain))))

/-- GET_CERTIFICATE: a portion of the chain, and how much remains after it; a message holds 4,096 bytes (R374, Table 14-2). -/
def execGetCertificate (offset length : Nat) (s : State) : Out :=
  .next (s.spdm (fun t =>
    let n := min (min length 4088) (65536 - offset)
    t.spdmReply (.certificate (t.norRead (0x400000 + offset) n) (65536 - offset - n))))

/-- CHALLENGE: the vault is asked to sign the transcript (R373, R375). -/
def execChallenge (data : List Byte) (s : State) : Out := .next (s.spdm (·.askVault (.challenge data)))

/-- GET_MEASUREMENTS: the blocks asked for, signed over the transcript when asked (R376, R397). -/
def execGetMeasurements (signed : Bool) (index : Nat) (data : List Byte) (s : State) : Out :=
  .next (s.spdm (fun t =>
    if signed then t.askVault (.measurements (t.measurementsFor index) data)
    else t.spdmReply (.measurements (t.measurementsFor index) none)))

/-- SPDM_UNSUPPORTED_REQUEST: ERROR with code UnsupportedRequest, counted (R375, Table 14-8). -/
def execSpdmUnsupportedRequest (s : State) : Out :=
  .next (s.spdm (fun t => (t.spdmReply .errorUnsupported).bump Reg.SEC_SPDM_COUNT.spdm_errors))

end Sys2Proof.Machine
end

