-- ==== Sys2Proof/Machine/HallPass.lean ====
section
/-!
DEFINITION. Machine/HallPass.lean: the meanings of the Hall Pass commands (spec/10_hall_pass_deadlines.md).
-/
namespace Sys2Proof.Machine

open Sys2Proof

/-- HPS_TABLE_PUBLISH: one at a time in fetch order and not during a copy, it loads the image and launches the publish request; a PCIe error ends it ABORTED (R265 steps 1 to 3). -/
def execHpsTablePublish (id : Nat) (data : Option (List Byte)) (s : State) : Out :=
  .next (match s.startable id opPublish with
    | none => s
    | some f =>
      let before := s.host.flights.any (fun g => decide (g.id < id) && decide (dOp g.bytes = opPublish) && decide (g.stage ≠ .ended))
      if before || s.flag Reg.HPS_STATUS.copying || s.pass.copyWaits then s
      else
        let ask := fun (t : State) => ((t.runFlight id).setPass (fun p => { p with publishes := [⟨id, true⟩] })).showPublish
        if dAddr0 f.bytes = 0 then ask s
        else match s.readIn f.part (dDev0 f.bytes) (dAddr0 f.bytes) 32768 data with
          | some b => ask ((s.traceIn f.part (dDev0 f.bytes) (dAddr0 f.bytes) b).setBank s.shadowBank (imageBank b))
          | none => let t := s.finish id 0x13 0 0
                    if t.passHolds then t else t.shadowDrain)

/-- PUBLISH_FLIP: the banks flip on an HP_CLK edge, or without one while HP_CLK is absent (R265 step 4, R272). -/
def execPublishFlip (s : State) : Out :=
  .next (match s.pass.publishes with
    | [] => s
    | p :: _ =>
      let new := s.shadowBank
      let s1 := ((s.put Reg.HPS_STATUS.active_bank new).put Reg.HPS_STATUS.active_valid 1).bump Reg.HPS_PUBLISH_COUNT.publishes
      let s2 := (s1.setPass (fun x => { x with publishes := [], done := some (p.flight, new, s.time) })).showPublish
      if s.flag Reg.GLB_CLK_STATUS.hp_clk_ok then s2.put Reg.HPS_STATUS.copying 1
      else (s2.setPass (fun x => { x with copyWaits := true })).put Reg.HPS_STATUS.unclocked_flip 1)

/-- PUBLISH_DONE: the descriptor completes OK with the bank and the time of the flip, once a standing Deputy holds the table (R265 step 5, 11 Table 11-6). -/
def execPublishDone (s : State) : Out :=
  .next (match s.pass.done with
    | none => s
    | some (id, b, t) => (s.setPass (fun x => { x with done := none })).finishMirrored id 0 b t (.table (s.bank b)))

/-- PUBLISH_COPY_END: the copy ends and the queued writes are applied (R264, R265 step 6). -/
def execPublishCopyEnd (s : State) : Out := .next (if s.flag Reg.HPS_STATUS.copying then s.copyBank else s)

/-- A trigger counts, or waits for X12 to restart (01 R21). -/
def State.countTrigger (s : State) : State :=
  if s.crossHeld.getD 2 false then s.setPass (fun p => { p with heldTriggers := p.heldTriggers + 1 }) else s.bump Reg.HPS_TRIGGER_COUNT.triggers

/-- A default answer counts, or waits for X12 to restart (01 R21). -/
def State.countDefault (s : State) : State :=
  if s.crossHeld.getD 2 false then s.setPass (fun p => { p with heldDefaults := p.heldDefaults + 1 }) else s.bump Reg.HPS_DEFAULT_COUNT.default_answers

/-- HP_TRIGGER: one HP_CLK edge's sample and its answer (R260, Table 10-1). -/
def execHpTrigger (valid : Bool) (sig : Nat) (s : State) : Out :=
  .next (if !s.passDriven then s
    else if !valid then s.setPass (fun p => { p with verdict := 0, tagv := false })
    else
      let s1 := s.countTrigger
      if s.flag Reg.HPS_STATUS.active_valid && decide (s.service ≠ svcRecovery) &&
          (decide (s.service ≠ svcHomeroom) || s.flag Reg.THM_STATUS.shutdown) then
        s1.setPass (fun p => { p with verdict := s.entry s.activeBank sig, tagv := true })
      else s1.countDefault.setPass
        (fun p => { p with verdict := s.get Reg.HPS_CFG.default_verdict, tagv := false }))

/-- TRIM_BAND_CHANGE: the band follows the hottest live quad sensor, and the trim moves one tap toward it (R261). -/
def execTrimBandChange (s : State) : Out :=
  .next (match s.hottestOf (List.range 16) with
    | none => s
    | some (t, _) =>
      let b := bandStep (s.get Reg.HPS_STATUS.trim_band) t
      let taps := s.get Reg.HPS_STATUS.trim_taps
      let goal := bandTaps b
      (s.put Reg.HPS_STATUS.trim_band b).put Reg.HPS_STATUS.trim_taps
        (if taps < goal then taps + 1 else if goal < taps then taps - 1 else taps))

/-- HPS_SHADOW_DATA: a host write of the shadow entry at index (R264, Table 10-6). -/
def execHpsShadowData (value : Nat) (s : State) : Out := .next (s.viaHost (fun t => t.hpsDataWrite value))

/-- SHADOW_FILL: default_verdict into every shadow entry (Table 10-6). -/
def execShadowFill (s : State) : Out := .next (s.viaHost State.hpsFill)

/-- HP_CLK_RETURN: the answer logic restarts on the first edge; a waiting copy runs (R272). -/
def execHpClkReturn (s : State) : Out :=
  .next (if s.pass.copyWaits then (s.setPass (fun p => { p with copyWaits := false })).put Reg.HPS_STATUS.copying 1 else s)

/-- HPS_PROFILE: a write of HPS_PROFILE.profile (R270). -/
def execHpsProfile (value : Nat) (s : State) : Out := .next (s.hostCfg Reg.HPS_PROFILE.profile.off value (fun t => t.hpsProfileWrite (value % 4)))

end Sys2Proof.Machine
end

