-- ==== Sys2Proof/Machine/Link.lean ====
section
/-!
DEFINITION. Machine/Link.lean: the meanings of the GP link and clock-watch commands (spec/01_module_overview.md).
-/
namespace Sys2Proof.Machine

open Sys2Proof

/-- GP_LINK_FRAME: a frame reaches GLD1 (`toGld`) or PSH2; a whole and expected one is applied, any other is refused (R11, R12). -/
def execGpLinkFrame (toGld : Bool) (seq : Nat) (crcOk : Bool) (msg : GpMsg) (s : State) : Out :=
  .next (s.gpFrame toGld (seq % 256) crcOk msg)

/-- GP_LINK_REFUSAL: a refusal reaches GLD1 (`toGld`) or PSH2, which sends again from the number named (R12). -/
def execGpLinkRefusal (toGld : Bool) (expected : Nat) (s : State) : Out := .next (s.gpRefusal toGld (expected % 256))

/-- GP_LINK_IDLE: a side with nothing else to send queues an idle frame, for GLD1 (`toGld`) or for PSH2 (R12, R13). -/
def execGpLinkIdle (toGld : Bool) (s : State) : Out :=
  .next (if !s.gpRuns then s
    else if toGld then s.when_ s.gpPsh.queue.isEmpty (·.toGld .idle)
    else s.when_ s.gpGld.queue.isEmpty (·.toPsh .idle))

/-- GP_LINK_LOST: 100 µs without a valid frame (R13). -/
def execGpLinkLost (s : State) : Out := .next (if s.svc.rstLow || s.gpGld.lost then s else s.gpLose)

/-- GP_LINK_RESTORED: 16 consecutive valid frames have come; PSH2 resends every mgmt_state (R13; 13 R346; 14 R388). -/
def execGpLinkRestored (s : State) : Out :=
  .next (if s.gpRuns && !s.gpGld.up && decide (16 ≤ s.gpGld.validRun) then s.gpRestore else s)

/-- The clock exists: four Akgal ports. -/
def clockThere : WatchedClock → Bool
  | .akgal p => decide (p < 4)
  | .refclk | .capture | .hpClk | .eth0 | .eth1 => true

/-- CLOCK_LOST: a present clock gives no edge for 64 FCLK cycles (R20, R21). -/
def execClockLost (c : WatchedClock) (s : State) : Out :=
  need (clockThere c) (if !s.watches || !s.flag (clkOk c) then s
    else
      let s1 := ((s.put (clkLost c) 1).put (clkOk c) 0).holdCrossings c true
      (s1.raise cause.clockLost noUnit (s1.word (clkOk c).off).toNat).clockGone c)

/-- CLOCK_PRESENT: 1,024 edges without a gap; its crossings start empty (R20, R21). -/
def execClockPresent (c : WatchedClock) (s : State) : Out :=
  need (clockThere c) (if s.watches then ((s.put (clkOk c) 1).holdCrossings c false).when_ (decide (c = .hpClk)) State.releaseCounts else s)

end Sys2Proof.Machine
end

