-- ==== Sys2Proof/Machine/Metering.lean ====
section
/-!
DEFINITION. Machine/Metering.lean: the commands of the metering converters (spec/04_metering_converters.md).
-/
namespace Sys2Proof.Machine

open Sys2Proof

/-- READ_VIN: LINEAR11, exponent −5 (R93). -/
def execReadVin (s : State) : Out := .next (s.pmbRead (fun t => t.answer (leBytes 2 t.readNow.1)))

/-- READ_IIN: LINEAR11, exponent −6 (R93). -/
def execReadIin (s : State) : Out := .next (s.pmbRead (fun t => t.answer (leBytes 2 t.readNow.2.1)))

/-- READ_PIN: LINEAR11, exponent −2 (R93). -/
def execReadPin (s : State) : Out := .next (s.pmbRead (fun t => t.answer (leBytes 2 t.readNow.2.2)))

/-- One converter's conversion ends with a raw value. -/
def State.endConv (s : State) (c : Nat) (raw : Option Int) : State :=
  match raw, (s.conv c).run with
  | some r, some (.entry e) =>
    let s1 := s.entryResult c e r
    s1.setConv c { s1.conv c with run := none, todo := (s1.conv c).todo.filter (fun k => decide (k ≠ e)) }
  | some r, some .urgent => s.urgentResult c r
  | _, _ => s

/-- CONVERSION_END: results are stored; a pair's two results are taken together by the rules, the accumulators and the plausibility check, and GLD1's mirror is sent what has changed (R82, R83, R88 to R92, R97, R98, 01 R12). -/
def execConversionEnd (a b : Option Int) (dt : Nat) (s : State) : Out :=
  let s1 := (s.endConv 0 a).endConv 1 b
  let s2 := match a, b, s.meter.a.run, s.meter.b.run with
    | some ra, some rb, some (.entry e), some (.entry f) =>
      if e = f ∧ s.cfgForce.paired e then
        let va := (s.code 0 ra).1
        let vb := (s.code 1 rb).1
        if e = 15 then s1.plausCheck va vb
        else if s.cfgForce.powerPair = some e then s1.pairResult e va vb dt
        else s1
      else s1
    | _, _, _, _ => s1
  .next s2.kickBoth.mirrorOut

/-- PASS_START: both converters have finished a pass (R85, R86, R103). -/
def execPassStart (s : State) : Out :=
  .next (if s.passDone && s.convReady && !s.flag Reg.PWR_ADC_STATUS.lp_active then s.beginPass false else s)

/-- PAIR_TRIGGER: both converters rest at the same paired entry and start together (R87). -/
def execPairTrigger (s : State) : Out :=
  .next (match s.meter.a.todo, s.meter.b.todo with
    | e :: _, f :: _ =>
      if e = f ∧ s.cfgForce.paired e ∧ s.convReady ∧ s.meter.a.run = none ∧ s.meter.b.run = none then
        s.withMeter { s.meter with
          a := { s.meter.a with run := some (.entry e) }
          b := { s.meter.b with run := some (.entry e) } }
      else s
    | _, _ => s)

/-- The count of whole operating seconds while PSH2 is powered (13 R343). -/
def State.tenth (s : State) : State :=
  if s.card.tenths = 9 then
    let s1 := s.withCard { s.card with
      tenths := 0
      live := { s.card.live with life := s.card.live.life.modify 33 (· + 1) } }
    s1.put Reg.RCD_OP_SECONDS.op_seconds (s1.card.live.life.getD 33 0)
  else s.withCard { s.card with tenths := s.card.tenths + 1 }

/-- The Report Card's samples of current, power and voltage over `n` power-pair results (13 Table 13-1). -/
def State.meterSamples (s : State) (n : Nat) (v i vi : Int) : State :=
  let d := 2 ^ 23 * n
  let ma := roundOpen 2 (i * 25000) d
  let s1 := s.pshSample 0 (i * 25) d ma (s.card.peakMa.map (fun p => (p : Int)) |>.getD ma)
  let mw := roundOpen 3 (vi * 500000) (2 ^ 46 * n)
  let s2 := s1.pshSample 1 (vi * 500) (2 ^ 46 * n) mw mw
  let mv := roundOpen 4 (v * 20000) d
  let s3 := if s2.flag Reg.PWR_STATE.gate_on then s2.pshSample 2 (v * 20) d mv mv else s2
  (s3.withCard { s3.card with peakMa := none })

/-- METER_INTERVAL: a 100 ms interval ends (R93, 13 R343, R344). -/
def execMeterInterval (s : State) : Out :=
  .next (s.viaSupply (fun s0 =>
    let s := s0.tenth
    if !s.svc.pshRun then s
    else
      let m := s.meter
      let sums : Option (Nat × Int × Int × Int) :=
        if m.sumN ≠ 0 then some (m.sumN, m.sumV, m.sumI, m.sumVI)
        else m.lastPair.map (fun p => (1, p.1, p.2, p.1 * p.2))
      match sums with
      | none => s
      | some (n, v, i, vi) =>
        let w := readWords n v i vi
        let s1 := s.withMeter { m with
          readVin := w.1, readIin := w.2.1, readPin := w.2.2, anyInterval := true
          sumN := 0, sumV := 0, sumI := 0, sumVI := 0 }
        s1.meterSamples n v i vi))

/-- ACC_SNAP: PWR_ADC_CTRL.acc_snap, and acc_clear of the same write after it (R90). -/
def execAccSnap (alsoClear : Bool) (s : State) : Out := .next (s.viaPsh (fun t => t.accSnap.when_ alsoClear (·.accClear)))

/-- ACC_CLEAR: PWR_ADC_CTRL.acc_clear (R90). -/
def execAccClear (s : State) : Out := .next (s.viaPsh (·.accClear))

/-- MINMAX_CLEAR: PWR_ADC_CTRL.minmax_clear (R89). -/
def execMinmaxClear (s : State) : Out := .next (s.viaPsh (·.minmaxClear))

/-- CAL_START: PWR_ADC_CTRL.cal_start (R94, R105). -/
def execCalStart (s : State) : Out := .next (s.viaPsh (·.calStart))

/-- MFR_ADC_CAL: as cal_start (R94). -/
def execMfrAdcCal (fin : PmbEnd) (s : State) : Out := .next (s.pmbWrite fin (·.calStart))

/-- CALIBRATION_END: from the sums of the 19 results of each phase, offset and gain are written, or kept when one does not fit; the sequence restarts at pass 1 (R94). -/
def execCalibrationEnd (offA gainA offB gainB : Int) (s : State) : Out :=
  .next (if s.flag Reg.PWR_ADC_STATUS.cal_busy then
    let s0 := s.put Reg.PWR_ADC_STATUS.cal_busy 0
    let oa := calOffset offA
    let ob := calOffset offB
    let ga := calGain oa gainA
    let gb := calGain ob gainB
    if calFits oa ga && calFits ob gb then
      let s1 := ((s0.put (Reg.PWR_ADC_OFFSET.offset 0) (unsigned 24 oa)).put (Reg.PWR_ADC_OFFSET.offset 1) (unsigned 24 ob))
      let s2 := (s1.put (Reg.PWR_ADC_GAIN.gain 0) (ga.getD 0).toNat).put (Reg.PWR_ADC_GAIN.gain 1) (gb.getD 0).toNat
      ((s2.put Reg.PWR_ADC_STATUS.cal_valid_a 1).put Reg.PWR_ADC_STATUS.cal_valid_b 1).stopConvs
    else s0.calRefuse.stopConvs
  else s)

/-- CAL_VALUE_WRITE: an Expert write of an offset or gain over BAR0 (R94, Table 04-7). -/
def execCalValueWrite (conv : Nat) (isGain : Bool) (value : Nat) (s : State) : Out :=
  if conv < 2 then
    .next (s.viaPsh (fun t => t.pshWrite .bar0 (0xA0430 + 8 * conv + (if isGain then 4 else 0)) (BitVec.ofNat 32 value)))
  else .fault .noSuchUnit

/-- REF_BUF_ENABLE: an Expert write sets ref_buf_en (R95). -/
def execRefBufEnable (s : State) : Out := .next (s.viaPsh (fun t => t.when_ (t.expert blk.pwr) (·.refEnable)))

/-- REF_READY: 3 ms after ref_buf_en was set; a calibration that waits begins, and the sequence starts at pass 1 (R95, R106). -/
def execRefReady (s : State) : Out :=
  .next (if s.meter.refCount && s.flag Reg.PWR_ADC_CTRL.ref_buf_en && s.svc.pshPower then
    let s1 := (s.withMeter { s.meter with
      refCount := false, calWaits := false, restart := true
      a := { s.meter.a with todo := [] }, b := { s.meter.b with todo := [] } }).put Reg.PWR_ADC_STATUS.ref_ready 1
    (s1.when_ s.meter.calWaits State.calStart).kickBoth
  else s)

/-- REF_BUF_CLEAR: an Expert write clears ref_buf_en, with the gate off (R106). -/
def execRefBufClear (s : State) : Out := .next (s.viaPsh (fun t => t.when_ (t.expert blk.pwr) (·.refClear)))

/-- LP_PASS_INTERVAL: in low-power mode a pass starts, or is skipped while the previous one runs (R96). -/
def execLpPassInterval (s : State) : Out :=
  .next (if s.flag Reg.PWR_ADC_STATUS.lp_active && s.convReady && s.passDone then s.beginPass true else s)

/-- LP_GATE_OFF_WRITE: an Expert write of lp_gate_off (R96, R104). -/
def execLpGateOffWrite (on : Bool) (s : State) : Out :=
  .next (s.viaPsh (fun t => t.when_ (t.expert blk.pwr) (fun u => (u.putFlag Reg.PWR_ADC_CTRL.lp_gate_off on).lpChange)))

/-- PWR_ADC_PROFILE: a BAR0 write of PWR_ADC_PROFILE.profile (R99, R100). -/
def execPwrAdcProfile (value : Nat) (s : State) : Out := .next (s.viaPsh (·.adcProfileWrite (value % 4)))

/-- MFR_ADC_PROFILE: PWR_ADC_PROFILE[7:0] over PMBus (R99, R107). -/
def execMfrAdcProfile (x : PmbAcc) (s : State) : Out :=
  .next (s.pmbAcc x (fun t => t.answer (leBytes 1 (t.get Reg.PWR_ADC_PROFILE.profile)))
    (fun v t => (t.adcProfileWrite (v % 4)).offend .pmbus (v % 4 == 3)))

/-- PWR_ADC_URGENT: an urgent request over BAR0 (R101). -/
def execPwrAdcUrgent (conv value : Nat) (s : State) : Out :=
  if conv < 2 then .next (s.viaPsh (·.urgentWrite conv value)) else .fault .noSuchUnit

/-- MFR_METER_ADDR: a multiple of 4 in 0x0400 to 0x07FC (R107). -/
def execMfrMeterAddr (x : PmbAcc) (s : State) : Out :=
  .next (s.pmbAcc x (fun t => t.answer (leBytes 2 t.pmb.meterAddr))
    (fun v t => if 0x400 ≤ v ∧ v ≤ 0x7FC ∧ v % 4 = 0 then t.withPmb { t.pmb with meterAddr := v } else t.nack))

/-- MFR_METER_DATA: the selected metering register (R107, 16 R428). -/
def execMfrMeterData (x : PmbAcc) (s : State) : Out :=
  .next (s.pmbAcc x
    (fun t =>
      let r := t.pmbWordRead (0xA0000 + t.pmb.meterAddr)
      r.2.answer (leBytes 4 r.1.toNat))
    (fun v t => t.pwrWrite .pmbus (0xA0000 + t.pmb.meterAddr) (BitVec.ofNat 32 v)))

/-- A LINEAR11 temperature word of MFR_READ_TEMPS, or 0x7FFF (R93). -/
def State.tempWord (s : State) (input : Nat) : Nat :=
  match s.meter.latest.getD input none with
  | none => 0x7FFF
  | some c =>
    if !s.live (sensorOf input) then 0x7FFF
    else match tempOf input c with
      | none => 0x7FFF
      | some t => linear11 (-3) t 8

/-- MFR_READ_TEMPS: Q1 NTC, PSH2 die, board sensor (R93, R107). -/
def execMfrReadTemps (s : State) : Out :=
  .next (s.pmbRead (fun t => t.answer (leBytes 2 (t.tempWord 10) ++ leBytes 2 (t.tempWord 12) ++ leBytes 2 (t.tempWord 11))))

/-- MFR_READ_ENERGY: a snapshot, then energy, charge and elapsed time (R90, R107). -/
def execMfrReadEnergy (s : State) : Out :=
  .next (s.pmbRead (fun t =>
    let t1 := t.accSnap
    t1.answer ((List.range 6).flatMap (fun k => leBytes 4 (t1.word (0xA0460 + 4 * k)).toNat))))

end Sys2Proof.Machine
end

