-- ==== Sys2Proof/Machine/PeerOps.lean ====
section
/-!
DEFINITION. Machine/PeerOps.lean: what arrives on an Akgal link: acceptance, delivery, forwarding, and the peer's messages of a system and of a pair (spec/11_akgal_pairs.md R281, R286 to R295).
-/
namespace Sys2Proof.Machine

open Sys2Proof

/-! A Deputy applies what its Prefect mirrors (R289, R291). -/

/-- Records below a stream's release point are freed (R289). -/
def State.freeBelow (s : State) (stream point : Nat) : State :=
  (s.setCap (fun c => { c with recs := c.recs.map (fun (r : Rec) =>
    if r.stream = stream ∧ r.seq < point then { r with finished := true } else r) })).release stream

/-- A full copy begins: the Deputy's mirrored configuration is replaced, its own pair rings apart, and what it held goes (R290, R293). -/
def State.takeConfig (s : State) (words : List (Nat × Word)) (parts : List (List Nat)) : State :=
  let keep := fun (t : State) (off : Nat) (w : Word) => t.setWord off ((t.word off &&& ~~~(rwBits off)) ||| (w &&& rwBits off))
  let s1 := s.each (s.regs.filter (fun p => s.isMirrored p.1)) (fun t p => keep t p.1 (resetWord p.1))
  let s2 := s1.each (words.filter (fun p => s.isMirrored p.1)) (fun t p => keep t p.1 p.2)
  let s3 := (s2.withHost { s2.host with parts := parts.map PartCfg.ofNums })
  ((s3.each s3.fab.models (fun t m => t.clearModel m.1)).setAkg (fun a => { a with mirror := Mirror.reset })).showCapacity

/-- Known LPDDR5X bytes are copied. -/
def State.takeMemory (s : State) (cells : List (Nat × Byte)) : State :=
  s.withDram (cells.foldl (fun m c => Store.write (dramBlank s.dramEra) m c.1 c.2) s.dram)

/-- Ring state and release points of a mirror tick, a snapshot or a swap. -/
def State.takeRings (s : State) (flights : List Flight) (entries : List Held) (heads : List (Nat × Nat)) (tails : List (Nat × Nat × Nat)) (release : List Nat)
    (standing : List (List Nat)) : State :=
  (s.setAkg (fun a => ({ a with mirror := { a.mirror with
    flights := flights, entries := entries, heads := heads, tails := tails, release := release, standing := standing } }))).each release.zipIdx
    (fun t x => t.freeBelow x.2 x.1)

/-- A bank swap on a Deputy: the image it holds is the active one (R291). -/
def State.takeRules (s : State) (image : List (Nat × Byte)) : State :=
  ((s.setRules s.ruleShadow image).put Reg.SYL_STATUS.active_bank s.ruleShadow).put Reg.SYL_STATUS.active_valid 1

/-- A mirrored item on a Deputy. -/
def State.takeItem (s : State) (m : AkMsg) : State :=
  match m with
  | .register off w x => s.when_ (s.isMirrored off) (·.mirroredWrite off w x)
  | .rules image => s.takeRules image
  | .model slot x => s.setModel slot x
  | .table entries => s.setBank s.shadowBank (entries.foldl (fun b e => Store.write passBlank b (e.1 % 65536) (e.2 % 16)) [])
  | .refresh i v => s.setBank s.shadowBank (Store.write passBlank (s.bank s.shadowBank) (i % 65536) (v % 16))
  | .snapshot r => s.setAkg (fun a => { a with mirror := { a.mirror with arrived := a.mirror.arrived ++ [r] } })
  | .rings flights entries heads tails release standing => s.takeRings flights entries heads tails release standing
  | .config words parts => s.takeConfig words parts
  | .memory cells => s.takeMemory cells
  | _ => s

/-- The exact SQ tails of a swap, and the Deputy's answer (R295 steps 2, 3). -/
def State.takeSwapState (s : State) (tails : List (Nat × Nat)) : State :=
  (s.each (tails.filter (fun x => decide (x.1 ≠ s.get Reg.AKG_PAIR_CFG.pair_sq))) (fun t x => t.put (Reg.HIF_SQ_STATE.tail x.1) x.2)).sendPair 3 .swapAck

/-! Messages on port 0 of a pair. -/

/-- Does the message wait in the inbox for a step of its own? -/
def waitsStep : AkMsg → Bool
  | .chain _ | .nonce _ | .signature _ | .copyDone | .copyAck | .swap | .claim _ | .snapshotAck _ _ => true
  | _ => false

/-- A pair message that acts as it arrives. -/
def State.pairMsg (s : State) (m : AkMsg) : State :=
  match m with
  | .doorbell cq n v =>
    if s.isPrefect then (if cq then s.cqHead n v else s.sqTail n v)
    else s.when_ s.isDeputy (·.setAkg (fun a => { a with inbox := a.inbox ++ [m] }))
  | .want r => s.peerWants r
  | .pairFailed code => s.peerFails code
  | .unpair => s.when_ (decide (s.role ≠ 0)) State.leavePair
  | .swapState tails => s.when_ s.isDeputy (·.takeSwapState tails)
  | .swapAck => if s.isPrefect && s.akg.swapSent then s.swapDown else if s.isDeputy then s.swapUp else s
  | x => s.when_ s.isDeputy (·.takeItem x)

/-- Messages that act as they arrive are taken in order; core 3 carries this work (15 R407). -/
def State.takeInbox (s : State) : State :=
  s.onCore 3 (fun t => (t.setAkg (fun a => { a with inbox := [] })).each t.akg.inbox (fun u m =>
    if waitsStep m then u.setAkg (fun a => { a with inbox := a.inbox ++ [m] }) else u.pairMsg m))

/-- The first message of the inbox that `p` takes, and the inbox without it. -/
def State.fromInbox {α : Type} (s : State) (p : AkMsg → Option α) : Option (α × State) :=
  match s.akg.inbox.findSome? (fun m => (p m).map (fun x => (x, m))) with
  | none => none
  | some (x, m) => some (x, s.setAkg (fun a => { a with inbox := a.inbox.erase m }))

/-- A step of pair control: on core 3, with what has arrived. -/
def State.pairStep (s : State) (f : State → State) : State := s.onCore 3 (fun t => f t.takeInbox)

/-! Messages of a system (R287, R288). -/

/-- The run of a shared slot has its offer decided: the whole sweep may be done. -/
def State.shareSwept (s : State) (slot : Nat) : State :=
  match s.sharedRun slot with | some r => s.sweepDone r.id | none => s

/-- A frame addressed to this module. -/
def State.systemMsg (s : State) (src : Nat) (m : AkMsg) : State :=
  match m with
  | .partialSum slot i v => s.setShare ((s.share slot).addSum i v)
  | .shareLoaded slot crc =>
    let x := s.share slot
    (s.setShare { x with loaded := x.loaded.filter (fun l => decide (l.1 ≠ src)) ++ [(src, crc)] }).shareLoadCheck slot
  | .shareFetched slot d => let x := s.share slot; (s.setShare { x with fetched := x.fetched ++ [(src, d)] }).shareStart slot
  | .shareDropped slot load =>
    let x := s.share slot
    s.setShare { x with fetched := x.fetched.filter (fun l => decide (l.1 ≠ src)), loaded := if load then x.loaded.filter (fun l => decide (l.1 ≠ src)) else x.loaded }
  | .shareWave slot => let x := s.share slot; s.setShare { x with waved := x.waved ++ [src] }
  | .shareOffer slot e same => let x := s.share slot; ((s.setShare { x with offers := x.offers ++ [(src, e, same)] }).shareLead slot).shareSwept slot
  | .shareDecide slot e visit place => (s.shareDecided slot e visit place).shareSwept slot
  | _ => s

/-! Acceptance (R281, R286). -/

/-- An accepted frame is the pair's, is delivered, or goes on toward its destination, whatever its class (R284, R286). -/
def State.deliver (s : State) (p seq : Nat) (f : AkFrame) : State :=
  if decide (p = 0) && s.pairProfile then (s.setAkg (fun a => { a with inbox := a.inbox ++ [f.msg] })).takeInbox
  else if f.dst = s.myIndex then s.systemMsg f.src f.msg
  else s.sendOn (s.routePort f.dst seq) f

/-- An acknowledgement frees the replay buffer: frames that wait go out, and what waits on the peer may complete. -/
def State.takeAck (s : State) (p n : Nat) : State :=
  ((s.mapPort p (fun q => q.acked n)).drainPort p).when_ (decide (p = 0)) State.settleWaits

/-- A frame is refused: counted, and one NAK goes out until the expected frame comes. -/
def State.refuseFrame (s : State) (p : Nat) : State :=
  let s1 := s.bump (Reg.AKG_PORT_REPLAY.crc_errors p)
  s1.mapPort p (fun q => if q.nakOut then q else { q with nakOut := true, out := q.out ++ [.nak q.lastIn] })

/-- A DATA frame is received. -/
def State.takeData (s : State) (p seq ack : Nat) (crcOk : Bool) (f : AkFrame) : State :=
  if s.akState p ≠ akUp then s
  else if !crcOk || decide (seq % 4096 ≠ (s.port p).expect) then s.refuseFrame p
  else
    let s1 := s.mapPort p (fun q => { q with expect := (q.expect + 1) % 4096, nakOut := false, out := q.out ++ [.ack q.expect] })
    (s1.takeAck p (ack % 4096)).deliver p (seq % 4096) f

/-- The replay timer runs out; the fourth time without progress takes the link down (R281, R282). -/
def State.replayTimer (s : State) (p : Nat) : State :=
  let q := s.port p
  if decide (s.akState p ≠ akUp) || q.unacked.isEmpty then s
  else if 3 ≤ q.timeouts then s.linkDown p akRetrain
  else (s.mapPort p (fun x => { x with timeouts := x.timeouts + 1 })).replayPort p

/-! Snapshots (R292). -/

/-- The name a snapshot's acknowledgement gives its run. -/
def Run.name (r : Run) : Option Nat × Nat :=
  match r.kind with
  | .record stream seq => (some stream, seq)
  | .mac | .sample | .anneal => (none, r.id)

/-- A Deputy holds a snapshot whole: it takes the place of the run's earlier one (R292). -/
def State.applySnapshot (s : State) : State :=
  match s.akg.mirror.arrived with
  | [] => s
  | r :: t =>
    (s.setAkg (fun a => ({ a with mirror := { a.mirror with
      runs := a.mirror.runs.filter (fun q => decide (q.name ≠ r.name)) ++ [r], arrived := t } }))).sendPair 3 (.snapshotAck r.name.1 r.name.2)

/-- A snapshot is acknowledged: its gang goes on, or stands ready for the swap that drains it (R292, R295 step 1). -/
def State.snapshotTaken (s : State) (name : Option Nat × Nat) : State :=
  match s.fab.runs.find? (fun r => r.held && decide ((r.sent s).name = name)) with
  | none => s
  | some r =>
    if s.swapDrains then (s.setAkg (fun a => { a with swapReady := a.swapReady ++ [r.id] })).trySwap
    else s.mapRun r.id (fun q => { q with held := false })

end Sys2Proof.Machine
end

