-- ==== Sys2Proof/Machine/Pair.lean ====
section
/-!
DEFINITION. Machine/Pair.lean: the meanings of the Akgal port, system and pair commands (spec/11_akgal_pairs.md), and of the key vault's signature (14 R373).
-/
namespace Sys2Proof.Machine

open Sys2Proof

/-! Ports (R278 to R282). -/

/-- TRAINING_PHASE_END: a training phase ends, with the lanes that passed it (R277, R278, R279, R282). -/
def execTrainingPhaseEnd (port : Nat) (ok : Bool) (lanes : Nat) (s : State) : Out :=
  need (decide (port < 4) && decide (lanes < 16)) (if !s.linksRun then s else s.phaseEnd port ok lanes)

/-- IDENT: the peer's identity record and the last number it received arrive (R279, R282, R285). -/
def execIdent (port : Nat) (rec : IdRecord) (last : Nat) (s : State) : Out :=
  need (decide (port < 4)) (if !s.linksRun then s else s.takeIdent port rec last)

/-- NO_PEER_RETRY: a No-peer port retries full training (R278). -/
def execNoPeerRetry (port : Nat) (s : State) : Out :=
  need (decide (port < 4)) (if s.akState port = akNoPeer then s.trainPort port else s)

/-- PORT_RETRAIN: AKG_PORT_CTRL.retrain (R278). -/
def execPortRetrain (port : Nat) (s : State) : Out := need (decide (port < 4)) (s.viaHost (fun t => t.trainPort port))

/-- PORT_DISABLE: AKG_PORT_CTRL.enable is cleared (R282). -/
def execPortDisable (port : Nat) (s : State) : Out :=
  need (decide (port < 4)) (s.viaHost (fun t => t.when_ (t.flag (Reg.AKG_PORT_CTRL.enable port)) (·.disablePort port)))

/-- PORT_ENABLE: AKG_PORT_CTRL.enable is set (R278). -/
def execPortEnable (port : Nat) (s : State) : Out := need (decide (port < 4)) (s.viaHost (fun t => t.enablePort port))

/-- AKGAL_LINK_DOWN: block lock, the receive clock or the peer's training takes an Up link down; fast retraining starts (R282). -/
def execAkgalLinkDown (port : Nat) (s : State) : Out :=
  need (decide (port < 4)) (if s.akState port = akUp then s.linkDown port akRetrain else s)

/-- DATA: a sequenced frame arrives (R280, R281, R286). -/
def execData (port seq ack : Nat) (crcOk : Bool) (frame : AkFrame) (s : State) : Out :=
  need (decide (port < 4)) (s.takeData port seq ack crcOk frame)

/-- ACK: the peer acknowledges up to a number (R281). -/
def execAck (port ack : Nat) (s : State) : Out :=
  need (decide (port < 4)) (if s.akState port = akUp then s.takeAck port (ack % 4096) else s)

/-- NAK: the peer asks for a replay from the number after `ack` (R281). -/
def execNak (port ack : Nat) (s : State) : Out :=
  need (decide (port < 4)) (if s.akState port = akUp then (s.takeAck port (ack % 4096)).replayPort port else s)

/-- REPLAY_TIMEOUT: nothing was acknowledged for replay_timeout (R281, R282). -/
def execReplayTimeout (port : Nat) (s : State) : Out := need (decide (port < 4)) (s.replayTimer port)

/-! Systems (R285, R304). -/

/-- SYS_CFG_WRITE: a write of AKG_SYS_CFG (R285). -/
def execSysCfgWrite (value : Nat) (s : State) : Out := .next (s.viaHost (fun t => t.sysCfgWrite (BitVec.ofNat 32 value)))

/-- SHARE_TIMEOUT: a slot's shared load or route has waited share_timeout (R287, R304). -/
def execShareTimeout (slot : Nat) (s : State) : Out :=
  need (decide (slot < 256)) (if s.sharedSlot slot then s.shareFails slot else s)

/-- AKG_PROFILE: a write of AKG_PROFILE.profile (R298, R299). -/
def execAkgProfile (value : Nat) (s : State) : Out := .next (s.viaHost (fun t => t.akgProfileWrite (value % 4)))

/-! MIRROR_CTRL (Table 11-7). -/

/-- A MIRROR_CTRL descriptor with this op that may start. -/
def State.mirrorCtrl (s : State) (id op : Nat) : Option Flight := (s.startable id opMirror).filter (fun f => decide (natAt f.bytes 24 1 = op))

/-- STATUS: no change; result0 gives the role. -/
def execStatus (id : Nat) (s : State) : Out :=
  .next (match s.mirrorCtrl id 0 with
    | some f => s.pairReply f.id 0
    | none => s)

/-- PAIR_PREFECT: this member asks to pair as Prefect (R293). -/
def execPairPrefect (id : Nat) (s : State) : Out :=
  .next (match s.mirrorCtrl id 1 with
    | some f => s.askPair f 1
    | none => s)

/-- PAIR_DEPUTY: this member asks to pair as Deputy (R293). -/
def execPairDeputy (id : Nat) (s : State) : Out :=
  .next (match s.mirrorCtrl id 2 with
    | some f => s.askPair f 2
    | none => s)

/-- UNPAIR: both members leave the pair (Table 11-7). -/
def execUnpair (id : Nat) (s : State) : Out :=
  .next (match s.mirrorCtrl id 3 with
    | some f => ((s.when_ (decide (s.role ≠ 0)) (fun t => (t.sendPair 3 .unpair).leavePair)).runFlight f.id).finish f.id 0 0 0
    | none => s)

/-- SWAP: the roles are exchanged with no work repeated; one at a time, and only in step (R295). A SWAP within 2 us of the peer's request joins its swap; a later one waits for the running swap to end, then runs (R301). -/
def execSwap (id : Nat) (s : State) : Out :=
  .next (match s.mirrorCtrl id 4 with
    | none => s
    | some f =>
      if s.akg.swap.isSome || (s.akg.swapPeer && decide (s.akg.swapAt + 2000 < s.now)) then s
      else if s.akg.swapPeer then (s.runFlight f.id).setAkg (fun a => { a with swap := some (f.id, s.now) })
      else if decide (s.role = 0) || !s.flag Reg.AKG_PAIR_STATUS.in_step || decide (s.akState 0 ≠ akUp) then s.pairReply f.id 0x13
      else ((((s.runFlight f.id).setAkg (fun a => { a with swap := some (f.id, s.now) })).sendPair 3 .swap).trySwap))

/-- CLAIM: a Deputy becomes Prefect at once; on a Prefect nothing changes; with port 0 Up the descriptor completes as the peer answers (R296, R302, R303). -/
def execClaim (id : Nat) (s : State) : Out :=
  .next (match s.mirrorCtrl id 5 with
    | none => s
    | some f =>
      if s.role = 0 then s.pairReply f.id 0x13
      else if s.isPrefect then s.pairReply f.id 0
      else (s.runFlight f.id).claim (some f.id))

/-! What a pair's members do of themselves (R290 to R297, R301, R302). -/

/-- MIRROR_TICK: ring state, release points and refresh writes go to the Deputy (R291). -/
def execMirrorTick (s : State) : Out :=
  .next (s.pairStep (fun t =>
    if t.mirrors && decide (t.akState 0 = akUp) then
      (((t.sendPair 2 t.ringsMsg).each t.akg.refreshes (fun u r => u.sendPair 2 (.refresh r.1 r.2))).setAkg
        (fun a => { a with refreshes := [] })).trySwap
    else t))

/-- SNAPSHOT_APPLY: the Deputy holds a snapshot whole and checked, and applies it (R292). -/
def execSnapshotApply (s : State) : Out := .next (s.pairStep (fun t => if t.isDeputy then t.applySnapshot else t))

/-- SNAPSHOT_ACK: the Deputy's acknowledgement of a snapshot lets its gang go on (R292). -/
def execSnapshotAck (s : State) : Out :=
  .next (s.pairStep (fun t => match t.fromInbox (fun m => match m with | .snapshotAck st n => some (st, n) | _ => none) with
    | some (x, u) => u.snapshotTaken x
    | none => t))

/-- PAIRING_TIMEOUT: the peer did not ask for the other role in time; once it has asked, an authentication that does not end fails (R293, Table 11-8). -/
def execPairingTimeout (s : State) : Out :=
  .next (s.pairStep (fun t => match t.akg.pairing with
    | none => t
    | some p => if p.copying then t else t.pairFailsBoth (if p.peerWant.isSome then 5 else 4)))

/-- PAIR_AUTH_FRAME: the next pair-authentication frame is taken (14 R390). -/
def execPairAuthFrame (s : State) : Out :=
  .next (s.pairStep (fun t => match t.fromInbox (fun m => match m with
      | .chain _ | .nonce _ | .signature _ => some m
      | _ => none) with
    | some (m, u) => u.authFrame m
    | none => t))

/-- PAIR_COPY_DONE: the full copy is held; the Deputy answers, and both stand in step (R293, R294). -/
def execPairCopyDone (s : State) : Out :=
  .next (s.pairStep (fun t => match t.fromInbox (fun m => match m with
      | .copyDone => some false
      | .copyAck => some true
      | _ => none) with
    | some (false, u) => if u.isDeputy then (u.copyEnds 2).sendPair 3 .copyAck else u
    | some (true, u) => if u.isPrefect && u.akg.copying then u.copyEnds 1 else u
    | none => t))

/-- PEER_SWAP: a SWAP request from the peer arrives (R295, R301). -/
def execPeerSwap (s : State) : Out :=
  .next (s.pairStep (fun t => match t.fromInbox (fun m => match m with | .swap => some () | _ => none) with
    | some (_, u) => if u.role = 0 then u else u.peerSwap
    | none => t))

/-- PEER_CLAIM: a CLAIM from the peer arrives, or two Prefects meet (R296, R302, R303). -/
def execPeerClaim (s : State) : Out :=
  .next (s.pairStep (fun t => match t.fromInbox (fun m => match m with | .claim cut => some cut | _ => none) with
    | some (cut, u) => u.peerClaim cut
    | none => t))

/-- CLAIM_TIMEOUT: under the auto-claim profile, port 0 has been down for claim_timeout (R296, R298). -/
def execClaimTimeout (s : State) : Out :=
  .next (s.pairStep (fun t =>
    if decide (t.get Reg.AKG_PROFILE.profile = 2) && t.isDeputy && decide (t.akState 0 ≠ akUp) then t.claim none else t))

/-- RESUME: AKG_RESUME_CTRL.resume (R297). -/
def execResume (s : State) : Out := .next (s.viaHost State.resume)

/-- VAULT_SIGNATURE: the vault signs the request that waits longest (14 R373, R375, R376, R390). -/
def execVaultSignature (s : State) : Out :=
  .next (match s.sec.vault with
    | [] => s
    | j :: t =>
      if s.svc.rstLow then s
      else
        let s1 := (s.withFresh (s.fresh + 1)).withSec { s.sec with vault := t }
        let sign := fun (d : List Byte) => Config.vaultSign s.fresh d
        match j with
        | .challenge d => (s1.spdmReply (.challengeAuth (sign d))).bump Reg.SEC_SPDM_COUNT.challenges
        | .measurements b d =>
          (s1.spdmReply (.measurements b (some (sign (d ++ b.flatMap (fun x => x.2)))))).bump Reg.SEC_SPDM_COUNT.challenges
        | .pairAuth d => s1.pairSigned (sign d))

end Sys2Proof.Machine
end

