-- ==== Sys2Proof/Machine/Pmbus.lean ====
section
/-!
DEFINITION. Machine/Pmbus.lean: the meanings of the PMBus transactions outside the command index (spec/16_register_index.md R424, R425, R429).
-/
namespace Sys2Proof.Machine

open Sys2Proof

/-- Command codes of Table 16-4. -/
def pmbCodes : List Nat :=
  [0x01, 0x03, 0x79, 0x7C, 0x7E, 0x88, 0x89, 0x97] ++ (List.range 14).map (0xD0 + ·) ++ (List.range 8).map (0xE0 + ·) ++ [0xE8, 0xE9, 0xEA, 0xF0]

/-- Those that are read only or write only (Tables 16-4, 13-13). -/
def pmbOneWay : List Nat := [0x03, 0x79, 0x7C, 0x7E, 0x88, 0x89, 0x97, 0xD0, 0xD2, 0xD7, 0xD8, 0xD9, 0xDD, 0xE0, 0xE3, 0xE5, 0xE6, 0xE7, 0xE8, 0xE9, 0xEA]

/-- A transaction PSH2 acknowledges at its address but not further. -/
def State.refusedByte (s : State) : State := s.withPmb { s.pmb with acked := false }

/-- ALERT_RESPONSE: a read of the Alert Response Address is answered while PSH2 asserts PMB_ALERT_N, and releases it (R429). -/
def execAlertResponse (s : State) : Out :=
  .next (if s.pshUp && s.pmb.alert then
    (s.withPmb { s.pmb with alert := false }).answer (leBytes 1 (2 * s.pmb.address)) else s)

/-- QUICK_COMMAND: acknowledged, no effect (R424). -/
def execQuickCommand (s : State) : Out := .next (if s.romUp then s.ack else s)

/-- RECEIVE_BYTE: acknowledged, no effect, reads 0xFF (R424). -/
def execReceiveByte (s : State) : Out := .next (if s.romUp then s.answer [0xFF] else s)

/-- UNSUPPORTED_COMMAND: a code or a direction that PSH2 does not support sets STATUS_CML bit 7, an OPERATION value it does not accept bit 6 (R425, 03 Table 03-12); in ROM recovery it is not acknowledged (14 R394). -/
def execUnsupportedCommand (u : Unsupported) (s : State) : Out :=
  .next (if !s.pshUp then s.when_ s.romUp State.refusedByte
    else match u with
      | .code c => if pmbCodes.contains c then s else s.cml7
      | .direction c => if pmbOneWay.contains c then s.cml7 else s
      | .operation v => if v % 256 = 0x80 ∨ v % 256 = 0x40 ∨ v % 256 = 0 then s else s.nack)

end Sys2Proof.Machine
end

