-- ==== Sys2Proof/Machine/Recorder.lean ====
section
/-!
DEFINITION. Machine/Recorder.lean: the Report Card commands (spec/13_report_card.md).
-/
namespace Sys2Proof.Machine

open Sys2Proof

/-- The samples GLD1 takes over one 100 ms: hottest live GLD1 and LPDDR5X sensor, throttle depth, and the descriptors in flight at each 1 ms instant (13 Table 13-1, R346). -/
def State.gldSamples (s : State) (instants : Nat) : State :=
  let s1 := match s.hottestGld with
    | some t => s.gldSample 3 t 8 t
    | none => s
  let s2 := match s1.hottestMem with
    | some t => s1.gldSample 4 t 8 t
    | none => s1
  let d : Int := s2.get Reg.THM_STATUS.depth
  let s3 := s2.gldSample 11 d 1 d
  let n : Int := s3.get Reg.HIF_STATUS.inflight
  s3.each (List.range instants) (fun t _ => t.gldSample 10 n 1 n)

/-- RC_INCREMENT: every 100 ms GLD1 samples its quantities and sends its increments; while the link is lost it holds them, and in reset or Recess it takes no samples (13 R346). -/
def execRcIncrement (instants : Nat) (s : State) : Out :=
  if s.svc.rstLow || s.service == svcRecess then .next s
  else
    let s1 := s.gldSamples instants
    if s1.gpGld.lost || !s1.pshUp then .next s1 else .next s1.sendIncrements

/-- FLUSH_PERIOD: a periodic flush falls due (13 R350). -/
def execFlushPeriod (s : State) : Out := .next (if s.pshUp then s.trigger 0 false else s)

/-- FLUSH: the due flush runs, or fails its program or read-back (13 R351, R369). -/
def execFlush (programOk : Bool) (s : State) : Out := .next (if s.pshUp then s.runFlush programOk else s)

/-- ERASE_DONE: a sector erase completes and its journal entry is closed; reserve_ready may let a waiting soft-start begin (13 R353 to R355). -/
def execEraseDone (s : State) : Out :=
  .next (s.viaSupply (fun t => t.onCore 4 (fun u => u.eraseDone.tryStart)))

/-- WINDOW_RETRY: each second PSH2 tries its waiting erases and flush again; they go on only with the window open (13 R366). -/
def execWindowRetry (s : State) : Out :=
  .next (if s.pshUp && !s.flag Reg.RCD_STATUS.window_closed then s.pumpErase.runFlush true else s)

/-- FLUSH_NOW: RCD_CTRL.flush_now (13 R350). -/
def execFlushNow (s : State) : Out := .next (s.viaPsh (·.trigger 5 false))

/-- FREEZE: RCD_CTRL.freeze (13 R358). -/
def execFreeze (s : State) : Out := .next (s.viaPsh (·.freeze .bar0))

/-- THAW: RCD_CTRL.thaw (13 R358). -/
def execThaw (s : State) : Out := .next (s.viaPsh (·.thaw .bar0))

/-- FREEZE_EXPIRY: a freeze reaches 5 s (13 R358). -/
def execFreezeExpiry (s : State) : Out :=
  .next (if s.pshUp && s.frozen then s.endFreeze.put Reg.RCD_STATUS.freeze_expired 1 else s)

/-- NONCE_REQ: RCD_CTRL.nonce_req (13 R361). -/
def execNonceReq (s : State) : Out := .next (s.viaPsh (·.drawNonce))

/-- NONCE_EXPIRY: the nonce reaches 600 s (13 R361). -/
def execNonceExpiry (s : State) : Out :=
  .next (((s.withCard { s.card with nonceValid := false })).put Reg.RCD_CLEAR_NONCE.nonce 0)

/-- APPLY: RCD_CTRL.apply submits RCD_CLEAR_TOKEN (13 R361). -/
def execApply (s : State) : Out := .next (s.viaPsh (fun t => t.submitToken t.barToken))

/-- TOKEN_VERIFIED: the token's first failure is reported, or the clear is applied, at the thaw if frozen (13 R361, R367, R370). -/
def execTokenVerified (s : State) : Out :=
  match s.card.verifying with
  | none => .next s
  | some t =>
    let s1 := s.withCard { s.card with verifying := none }
    if s1.tokenResult t = 1 then
      if s1.frozen then .next (s1.withCard { s1.card with clearWaits := some t })
      else .next (s1.applyClear t)
    else .next (s1.put Reg.RCD_STATUS.clear_result (s1.tokenResult t))

/-- RC_SELECT: a write of RCD_SELECT copies the block into the BAR0 buffer (13 R357). -/
def execRcSelect (value : Nat) (s : State) : Out := .next (s.viaPsh (·.rcdSelect value))

/-- RCD_PROFILE: a write of RCD_PROFILE.profile (13 R362, 04 R100). -/
def execRcdProfile (value : Nat) (s : State) : Out := .next (s.viaPsh (·.rcdProfileWrite value))

/-- MFR_RC_CTRL: RCD_CTRL bits on the PMBus path, apply discarded (13 R372). -/
def execMfrRcCtrl (fin : PmbEnd) (value : Nat) (s : State) : Out :=
  .next (s.pmbWrite fin (·.rcdCtrl .pmbus (value % 16)))

/-- MFR_RC_STATUS: reads RCD_STATUS[15:0], or clears its W1C bits (13 R372). -/
def execMfrRcStatus (x : PmbAcc) (s : State) : Out :=
  .next (s.pmbAcc x (fun t => t.answer (leBytes 2 (t.word 0xB0010).toNat))
    (fun v t => t.setWord 0xB0010 (t.word 0xB0010 &&& ~~~(BitVec.ofNat 32 (v &&& 0xCA)))))

/-- MFR_RC_SELECT: a write copies the source into the PMBus buffer and zeroes the offset; a read returns the selection and ready (13 R357, R372). -/
def execMfrRcSelect (x : PmbAcc) (s : State) : Out :=
  .next (s.pmbAcc x
    (fun t => t.answer (leBytes 2 (t.card.selPmb + (if t.card.readyPmb then 0x8000 else 0))))
    (fun v t =>
      let sel := v % 0x1000
      ((t.withCard { t.card with selPmb := sel, readyPmb := true, bufPmb := t.readSource (sel % 4) (sel / 4) }).withPmb { t.pmb with rcOffset := 0 })))

/-- MFR_RC_READ: 32 bytes of the PMBus buffer from the offset, which advances by 32 (13 R372). -/
def execMfrRcRead (s : State) : Out :=
  .next (s.pmbRead (fun t =>
    let t1 := t.answer (bytesAt t.card.bufPmb t.pmb.rcOffset 32)
    (t1.withPmb { t1.pmb with rcOffset := t.pmb.rcOffset + 32 })))

/-- MFR_RC_OFFSET: a multiple of 32 up to 4,064, or not acknowledged (13 R372, 16 R425). -/
def execMfrRcOffset (x : PmbAcc) (s : State) : Out :=
  .next (s.pmbAcc x (fun t => t.answer (leBytes 2 t.pmb.rcOffset))
    (fun v t => if v % 32 = 0 ∧ v ≤ 4064 then t.withPmb { t.pmb with rcOffset := v } else t.nack))

/-- MFR_RC_NONCE: returns RCD_CLEAR_NONCE (13 R372). -/
def execMfrRcNonce (s : State) : Out :=
  .next (s.pmbRead (fun t => t.answer (leBytes 4 (t.get Reg.RCD_CLEAR_NONCE.nonce))))

/-- MFR_RC_CLEAR: submits a 160-byte token (13 R361); fewer bytes are a short write. -/
def execMfrRcClear (fin : PmbEnd) (token : List Byte) (s : State) : Out :=
  .next (s.pmbWrite (if fin = .whole ∧ token.length < 160 then .short else fin) (·.submitToken (token.take 160)))

/-- MFR_RC_OPKEY: the operator key is written once, while the OTP field is blank; later writes are refused data (13 R359, 16 R425). -/
def execMfrRcOpkey (fin : PmbEnd) (key : List Byte) (s : State) : Out :=
  .next (s.pmbWrite (if fin = .whole ∧ key.length < 97 then .short else fin) (fun t =>
    if t.card.opKey.isSome then t.cml6
    else (t.withCard { t.card with opKey := some (key.take 97) }).put Reg.RCD_STATUS.opkey_present 1))

end Sys2Proof.Machine
end

