-- ==== Sys2Proof/Machine/Rings.lean ====
section
/-!
DEFINITION. Machine/Rings.lean: the meanings of the host-ring commands (spec/06_host_rings.md).
-/
namespace Sys2Proof.Machine

open Sys2Proof

/-- SQ_DOORBELL: a tail doorbell (R133, R136, R157; it wakes the module from Recess, 05 R124). -/
def execSqDoorbell (fn n value : Nat) (s : State) : Out :=
  need (decide (n < 64) && decide (fn < 9)) (s.viaHost (fun t => t.doorbell false fn n (value % 2 ^ 16)))

/-- CQ_DOORBELL: a head doorbell (R133, R137, R158, R159). -/
def execCqDoorbell (fn n value : Nat) (s : State) : Out :=
  need (decide (n < 64) && decide (fn < 9)) (s.viaHost (fun t => t.doorbell true fn n (value % 2 ^ 16)))

/-- DESCRIPTOR_FETCH: arbitration fetches one descriptor; a read error stops its SQ; a turn that the limits take is counted (R143, R149, R157). -/
def execDescriptorFetch (data : Option (List Byte)) (s : State) : Out :=
  .next (if !s.mayFetch then s
    else
      let s1 := s.when_ s.turnLost (·.bump Reg.HIF_STATUS.backpressure)
      match s.arbiter with
      | none => s1
      | some n => match data with
        | none => s1.sqError n 3
        | some d => s1.fetchDesc n (bytesAt d 0 64))

/-- FENCE: completes once every descriptor fetched before it in its scope has completed, standing ones apart (R148). -/
def execFence (id : Nat) (s : State) : Out :=
  .next (match s.startable id opFence with
    | none => s
    | some f =>
      let all := decide (natAt f.bytes 24 1 % 4 = 1)
      let before := s.host.flights.filter (fun g => decide (g.id < id) && !g.standing &&
        (if all then decide (g.part = f.part) else decide (g.sq = f.sq)))
      if before = [] then s.finish id 0 0 0 else s)

/-- NOP: completes OK (R142). -/
def execNop (id : Nat) (s : State) : Out :=
  .next (match s.startable id opNop with
    | none => s
    | some _ => s.finish id 0 0 0)

/-- COMPLETION_WRITE: the entry that waits longest for the CQ is written (R137, R138, R144, R153, R158, R159). -/
def execCompletionWrite (cq : Nat) (parityOk : Bool) (s : State) : Out :=
  need (decide (cq < 64)) (if s.awaitsResume cq then s
    else s.onCore 0 (fun t => t.completionWrite cq parityOk))

/-- COALESCE_TIMER: coalesce_time has passed since the first unsignalled entry (R153). -/
def execCoalesceTimer (cq : Nat) (s : State) : Out :=
  need (decide (cq < 64)) (if s.flag (Reg.HIF_CQ_CFG.irq_en cq) && decide (0 < s.host.unsignalled.getD cq 0) then s.signalCq cq else s)

/-- MSIX_UNMASK: a vector is unmasked or a control lets messages go, and those held are sent (R153). -/
def execMsixUnmask (fn : Nat) (change : MsixChange) (s : State) : Out :=
  need (decide (fn < 9) && (match change with | .vector v => decide (v < 8) | .config _ => true))
    (match change with
      | .vector v => s.viaHost (fun t => t.maskVec fn v false)
      | .config f => if s.hostUp then s.cfgSet fn f else s)

/-- A function's write to a ring register: only of a ring its partition owns, others' are discarded (R134). -/
def State.ringReg (s : State) (owner : Option Nat) (fn : Nat) (f : State → State) : State :=
  s.viaHost (fun t => if decide (fn = 0) || ownRing owner fn then f t else t)

/-- SQ_CFG_WRITE: a write of HIF_SQ_CFG (R135, R139, R140). -/
def execSqCfgWrite (fn n value : Nat) (s : State) : Out :=
  need (decide (n < 64) && decide (fn < 9)) (s.ringReg (s.sqOwner n) fn (fun t =>
    t.cfgWrite (Reg.HIF_SQ_CFG.enable n).off value (fun u => u.sqCfgWrite n (BitVec.ofNat 32 value))))

/-- CQ_CFG_WRITE: a write of HIF_CQ_CFG (R135, R137, R139, R140). -/
def execCqCfgWrite (fn n value : Nat) (s : State) : Out :=
  need (decide (n < 64) && decide (fn < 9)) (s.ringReg (s.cqOwner n) fn (fun t =>
    t.cfgWrite (Reg.HIF_CQ_CFG.enable n).off value (fun u => u.cqCfgWrite n (BitVec.ofNat 32 value))))

/-- SQ_ERROR_CLEAR: software clears HIF_SQ_STATUS.error (R157). -/
def execSqErrorClear (fn n : Nat) (s : State) : Out :=
  need (decide (n < 64) && decide (fn < 9)) (s.ringReg (s.sqOwner n) fn (fun t => t.sqErrorClear n))

/-- CQ_ERROR_CLEAR: software clears HIF_CQ_STATUS.error and a stopped CQ runs again (R159). -/
def execCqErrorClear (fn n : Nat) (s : State) : Out :=
  need (decide (n < 64) && decide (fn < 9)) (s.ringReg (s.cqOwner n) fn (fun t => t.cqErrorClear n))

/-- PART_COMMIT: the staged partition fields apply together, or are refused (R152, 07 R166, 15 R419). -/
def execPartCommit (s : State) : Out :=
  .next (s.hostCfg Reg.HIF_PART_COMMIT.commit.off 1 State.commitWhole)

/-- EXPERT_UNLOCK: a write of a block's unlock key over BAR0 (R155). -/
def execExpertUnlock (block key : Nat) (s : State) : Out :=
  need (decide (block < 14) && decide (block ≠ blk.mem))
    (if sharedBlk block = blk.pwr then s.viaPsh (fun t => if t.sec.romSafe then t else t.unlockKey block .bar0 (key % 2 ^ 16))
     else s.viaHost (fun t => t.unlockKey block .bar0 (key % 2 ^ 16)))

/-- HIF_PROFILE: a write of HIF_PROFILE.profile (R156, Table 06-13). -/
def execHifProfile (value : Nat) (s : State) : Out := .next (s.hostCfg Reg.HIF_PROFILE.profile.off value (fun t => t.hifProfileWrite (value % 4)))

end Sys2Proof.Machine
end

