-- ==== Sys2Proof/Machine/Sampler.lean ====
section
/-!
DEFINITION. Machine/Sampler.lean: the meanings of the sampling, annealing and training commands (spec/08_sampling_tempering.md).
-/
namespace Sys2Proof.Machine

open Sys2Proof

/-- RUN_SAMPLE: the Timetable is read and checked, an access past the partition's LPDDR5X ending it PARTITION_DENIED (06 R151), and the run waits for gangs (R203, R207, R208, R213, R222, R223). -/
def execRunSample (id : Nat) (table : Option (List Byte)) (s : State) : Out :=
  .next (match s.startSlot id opRunSample with
    | none => s
    | some f =>
      match s.model (dModel f.bytes) with
      | none => s.finish id 0x20 0 0
      | some m =>
        if !s.modelFits f.bytes then s.finish id 0x20 0 0
        else if dAddr0 f.bytes = 0 then s.sampleRun f m .sample (f.slotTable m).checked (some [])
        else match s.readIn f.part (dDev0 f.bytes) (dAddr0 f.bytes) 576 table with
          | none => s.finish id 0x13 0 0
          | some b =>
            let len := 64 + 16 * min (natAt b 0 1) 32
            if dDev0 f.bytes && !s.memOk f.part (dAddr0 f.bytes) len then s.finish id 0x22 0 0 else
            let t := s.traceIn f.part (dDev0 f.bytes) (dAddr0 f.bytes) (b.take len)
            t.sampleRun f m .sample (parseTable b) (some []))

/-- RUN_ANNEAL: the schedule is read and checked, and the run waits for gangs (R203, R208, R211, R213, R222, R223). -/
def execRunAnneal (id : Nat) (schedule : Option (List Byte)) (s : State) : Out :=
  .next (match s.startSlot id opRunAnneal with
    | none => s
    | some f =>
      let n := natAt f.bytes 44 2
      match s.model (dModel f.bytes) with
      | none => s.finish id 0x20 0 0
      | some m =>
        if !s.modelFits f.bytes then s.finish id 0x20 0 0
        else match s.readIn f.part (dDev0 f.bytes) (dAddr0 f.bytes) (16 * n) schedule with
          | none => s.finish id 0x13 0 0
          | some b => (s.traceIn f.part (dDev0 f.bytes) (dAddr0 f.bytes) b).sampleRun f m .anneal (f.slotTable m).checked (parseSchedule b n))

/-- TRAIN_STEP: one step of contrastive divergence on the slot's model (R216 to R218, 07 R190, R191). -/
def execTrainStep (id : Nat) (batch : Option (List Byte)) (s : State) : Out :=
  .next (match s.startSlot id opTrain with
    | none => s
    | some f =>
      match s.model (dModel f.bytes) with
      | none => s.finish id 0x20 0 0
      | some m =>
        if !s.modelFits f.bytes then s.finish id 0x20 0 0
        else if !s.trainReady f m then s
        else match s.readIn f.part (dDev0 f.bytes) (dAddr0 f.bytes) (natAt f.bytes 24 4 * m.vectorBytes) batch with
          | none => s.finish id 0x13 0 0
          | some b =>
            let seed := if (natAt f.bytes 48 1).testBit 0 then (natAt f.bytes 40 8, s) else s.drawSeed
            (seed.2.traceIn f.part (dDev0 f.bytes) (dAddr0 f.bytes) b).trainStep f m seed.1 b)

/-- READ_STATES: the tracker of the slot's last completed run is copied out (R214, R223, R225). -/
def execReadStates (id : Nat) (s : State) : Out :=
  .next (match s.startSlot id opReadStates with
    | none => s
    | some f => s.readStates f)

/-- SWEEP_END: a replica's sweep ends; a record's sampling begins with its first (R199, R212, R215; 11 R288). -/
def execSweepEnd (id : Nat) (s : State) : Out := .next (s.onCore 2 (fun t => (t.beginRecord id).replicaSweep id))

/-- EPOCH_BOUNDARY: an epoch ends (R210, R213, R215, 10 R266, 11 R292). -/
def execEpochBoundary (id : Nat) (s : State) : Out := .next (s.onCore 2 (fun t => t.epochEnd id))

/-- ANNEAL_POINT_END: the run moves to the next point (R211). -/
def execAnnealPointEnd (id : Nat) (s : State) : Out := .next (s.onCore 2 (fun t => t.pointEnd id))

/-- ENTROPY_TEST_FAIL: a health test of the entropy source fails (R204). -/
def execEntropyTestFail (s : State) : Out :=
  .next (if s.svc.rstLow then s else (s.put Reg.SMP_ENTROPY.health_ok 0).put Reg.SMP_ENTROPY.health_fail 1)

/-- ENTROPY_TEST_PASS: the health tests pass (R204). -/
def execEntropyTestPass (s : State) : Out := .next (if s.svc.rstLow then s else s.put Reg.SMP_ENTROPY.health_ok 1)

/-- SMP_PROFILE: a write of SMP_PROFILE.profile (R220, R221). -/
def execSmpProfile (value : Nat) (s : State) : Out :=
  .next (s.hostCfg Reg.SMP_PROFILE.profile.off value (fun t => t.smpProfileWrite (value % 4)))

end Sys2Proof.Machine
end

