-- ==== Sys2Proof/Machine/Service.lean ====
section
/-!
DEFINITION. Machine/Service.lean: the meanings of the bring-up, reset and Recess commands (spec/05_bringup_homeroom_recess.md).
-/
namespace Sys2Proof.Machine

open Sys2Proof

/-- GP_RST_RELEASE: the regulators are up and PSH2 releases GP_RST_N; GLD1 samples SLOT_ID, joins the scan chain and enters Boot with the Image stage (R111, R112, 02 R48, 15 R402). -/
def execGpRstRelease (s : State) : Out :=
  .next (if s.svc.rstLow && s.pshUp && s.bk == bkOn && s.brk.regsUp == 4 then
    let s1 := s.withSvc { s.svc with rstLow := false }
    let s2 := ((s1.put Reg.GLB_SLOT.slot_id s1.slotStraps).put Reg.DBG_STATUS.gld1_in_chain 1).startStage 1
    s2.slotDiffer
  else s)

/-- STAGE_COMPLETE: the running bring-up stage ends with the tiles or channels that failed; a calibration refused gives a list that is not empty (R112 to R120, 12 R318). -/
def execStageComplete (failed : List Nat) (s : State) : Out :=
  .next (if s.svc.rstLow || !(decide (s.service = svcBoot) || decide (s.service = svcHomeroom)) then s else s.stageEnd failed)

/-- HANDOVER_START: Homeroom's work on tiles 0 to 15 has completed; descriptors fetched from now on wait for full service (R118). -/
def execHandoverStart (s : State) : Out :=
  .next (if decide (s.service = svcHomeroom) && decide (s.stage = 9) && s.homeroomDone then
    s.withSvc { s.svc with handover := true } else s)

/-- PCIE_LINK_TRAINED: the endpoint's link is trained (R114). -/
def execPcieLinkTrained (s : State) : Out :=
  .next (if s.svc.rstLow || s.host.perstLow then s else (s.withHost { s.host with linkUp := true }))

/-- PERST_N_ASSERT: the endpoint resets; outside bring-up the warm reset begins (R119, R127). -/
def execPerstNAssert (s : State) : Out :=
  .next (if s.host.perstLow then s
    else (s.withHost { s.host with perstLow := true, linkUp := false }).warmReset false true)

/-- PERST_N_DEASSERT: PERST_N goes high; a warm reset that waited for it starts its sequence with the entry test (R120). -/
def execPerstNDeassert (s : State) : Out := .next (s.withHost { s.host with perstLow := false })

/-- WARM_RESET: by a hot reset, the link going down, a PF function-level reset or GLB_RESET.warm (R119, R120, R127). -/
def execWarmReset (cause : WarmCause) (s : State) : Out :=
  .next (match cause with
    | .hotReset | .linkDown => if s.host.linkUp then s.warmReset false false else s
    | .flr | .glbReset => if s.hostUp then s.warmReset true false else s)

/-- VF_FLR: a function-level reset of VF 1 to 8; in Recess it wakes the module and follows the wake (R119, R124). -/
def execVfFlr (vf : Nat) (s : State) : Out :=
  need (decide (1 ≤ vf) && decide (vf ≤ 8)) (if !s.hostUp then s
    else
      let t := s.wakeEvent
      if t.service = svcEntering ∨ t.service = svcRecess ∨ t.service = svcWaking then
        t.withSvc { t.svc with flrWaits := if t.svc.flrWaits.contains vf then t.svc.flrWaits else t.svc.flrWaits ++ [vf] }
      else t.vfReset vf)

/-- FABRIC_RESET: GLB_RESET.fabric (R119, R120). -/
def execFabricReset (s : State) : Out := .next (s.viaHost State.fabReset)

/-- COLD_RESET: GLB_RESET.cold; GP_RST_N goes low and all of GLD1 resets (R119, R127, 14 R387). -/
def execColdReset (s : State) : Out := .next (s.viaHost State.askCold)

/-- RECESS_ENTER: GLB_RECESS_CTRL.enter (R121, R122, R129). -/
def execRecessEnter (s : State) : Out := .next (s.viaHost State.requestRecess)

/-- IDLE_AUTO: the conditions of R121 have held for idle_time with no record arriving (R121, R129). -/
def execIdleAuto (s : State) : Out :=
  .next (if decide (s.get Reg.GLB_RECESS_CTRL.profile = 1) && decide (s.recessCode = 0) && !s.debugMode && !s.svc.rstLow then s.enterRecess else s)

/-- RECESS_ENTRY_DONE: entry completes (R122, R123, R126). -/
def execRecessEntryDone (s : State) : Out := .next (if s.service = svcEntering then s.recessEntered else s)

/-- WAKE_N: WAKE_N has been low for 1 µs (R124, R126). -/
def execWakeN (s : State) : Out :=
  .next (if s.flag Reg.GLB_RECESS_CTRL.wake_n_en && !s.svc.rstLow then s.wakeEvent else s)

/-- RECESS_BAR0_WAKE: a BAR0 access; GLB_SERVICE and GLB_RECESS_STATUS do not wake (R109, R124). -/
def execRecessBar0Wake (fn off : Nat) (s : State) : Out :=
  need (decide (fn < 9)) (if off / 4 * 4 = 0x100 ∨ off / 4 * 4 = 0x110 then s else s.viaHost (fun t => t))

/-- WAKE_COMPLETE: the wake time ends (R124, R125). -/
def execWakeComplete (s : State) : Out := .next (if s.service = svcWaking then s.wakeDone else s)

/-- RECESS_PROFILE: a write of GLB_RECESS_CTRL.profile (05 "Basic control", 06 R156). -/
def execRecessProfile (value : Nat) (s : State) : Out :=
  .next (s.hostCfg Reg.GLB_RECESS_CTRL.profile.off (value % 4) (fun t => t.recessProfileWrite (value % 4)))

end Sys2Proof.Machine
end

