-- ==== Sys2Proof/Machine/Slot.lean ====
section
/-!
DEFINITION. Machine/Slot.lean: the ejector lever, the start conditions and PSH2's supply (spec/02_slot_connector.md, 05 R110, R119, 13 R342).
-/
namespace Sys2Proof.Machine

open Sys2Proof

/-- The slot cause with the slot status word (06 Table 06-12). -/
def State.raiseSlot (s : State) : State := s.raise cause.slot noUnit (s.word 0xA0F00).toNat

/-- A slot event bit sets; each change from 0 to 1 alerts and raises the slot cause (R49). -/
def State.slotEvent (s : State) (f : Fld) : State := if s.flag f then s else ((s.put f 1).alertOn).raiseSlot

/-- LEVER_OPEN: the lever leaves R28's conditions; an extraction request stands while the gate is on; lever-direct starts the grace time (R28, R47, R49). -/
def execLeverOpen (s : State) : Out :=
  .next (s.viaSupply (fun s =>
    if s.leverClosed then
      let s1 := (s.put Reg.PWR_SLOT_STATUS.lever_open 1).slotEvent Reg.PWR_SLOT_STATUS.lever_event
      let on := s.flag Reg.PWR_STATE.gate_on
      let s2 := s1.when_ on (·.slotEvent Reg.PWR_SLOT_STATUS.off_request)
      let s3 := s2.withBrk { s2.brk with
        extracting := on, qualDone := false
        grace := on && decide (s.get Reg.PWR_SLOT_CTRL.profile = 1) }
      if s3.bk == bkQualifying then s3.setBk bkStandby else s3
    else s))

/-- LEVER_CLOSE: a pending request is withdrawn; after Off-Settled the closure allows a restart (R29, R47). -/
def execLeverClose (s : State) : Out :=
  .next (s.viaSupply (fun s =>
    if s.leverClosed then s
    else
      let s1 := (s.put Reg.PWR_SLOT_STATUS.lever_open 0).slotEvent Reg.PWR_SLOT_STATUS.lever_event
      let s2 := s1.withBrk { s1.brk with extracting := false, grace := false }
      if s2.bk == bkOffSettled && s2.brk.holdOff then
        (s2.withBrk { s2.brk with holdOff := false }).qualify
      else if s2.bk == bkStandby && s2.pshUp then s2.qualify
      else s2))

/-- EXTRACT_GRACE_END: the lever-direct grace time ends with the lever open (R430). -/
def execExtractGraceEnd (s : State) : Out :=
  .next (s.viaSupply (fun s =>
    if s.brk.grace && !s.leverClosed then (s.withBrk { s.brk with grace := false }).orderlyOff else s))

/-- POWER_OFF: a BAR0 write of 1 to PWR_SLOT_CTRL.power_off (R430). -/
def execPowerOff (s : State) : Out := .next (s.viaPsh (·.orderlyOff))

/-- QUALIFY_COMPLETE: R28's conditions have held for 50 ms; PSH2 samples SLOT_ID and a soft-start may begin; through Backoff and the minimum off time the count only completes (R28, R48, R62, R73). -/
def execQualifyComplete (s : State) : Out :=
  .next (s.viaImage (fun s =>
    if s.leverClosed && !(s.bk == bkOffSettled && !s.brk.minOff) then
      let s1 := s.sampleSlot.slotDiffer
      let s2 := s1.withBrk { s1.brk with qualDone := true, supplyOk := true }
      if s2.bk == bkStandby then s2.qualify else s2.tryStart
    else s))

/-- QUALIFY_BREAK: a start condition breaks, with the lever closed one of the supplies; the count starts again and Qualifying returns to Standby (R28, R46). -/
def execQualifyBreak (s : State) : Out :=
  .next (s.viaSupply (fun s =>
    let s1 := s.withBrk { s.brk with qualDone := false, supplyOk := s.brk.supplyOk && !s.leverClosed }
    if s1.bk == bkQualifying then s1.setBk bkStandby else s1))

/-- Everything on the tray at reset; flash, OTP, fuses, pins, and what the model keeps of time and of waiting commands stay (05 Table 05-6). Both dies' slot addresses reset to the straps (Tables 01-9, 02-9). -/
def State.darkTray (s : State) (power : Bool) : State :=
  let t : State := { State.reset with
    lastRead := s.lastRead
    now := s.now
    coldAt := s.now
    fresh := s.fresh + 1
    dramEra := ⟨List.replicate 4 (s.fresh + 1), []⟩
    slotStraps := s.slotStraps
    host := { HostIf.reset with posted := s.host.posted, perstLow := s.host.perstLow }
    svc := { Service.reset with pshPower := power }
    pmb := { PmBus.reset with address := 0x40 + s.slotStraps % 32 }
    card := { Recorder.reset with opKey := s.card.opKey }
    sec := { Sec.reset with
      gld := { s.sec.gld with manifest := [], digest := [], otherDigest := [] }
      psh := { s.sec.psh with manifest := [], digest := [], otherDigest := [] }
      joint := s.sec.joint
      jointTrial := s.sec.jointTrial
      rolledBack := s.sec.rolledBack
      strict := s.sec.strict
      trialDelay := s.sec.trialDelay
      bootCopy := s.sec.bootCopy
      bootSeq := s.sec.bootSeq }
    nor := s.nor
    pending := s.pending }
  ((t.putFlag Reg.PWR_SLOT_STATUS.lever_open (s.flag Reg.PWR_SLOT_STATUS.lever_open)).put
    Reg.PWR_SLOT_STATUS.psh2_slot_id s.slotStraps).put Reg.GLB_SLOT.slot_id s.slotStraps

/-- The PSH2 boot ROM takes the slot of the boot-control record, the other one if that fails, or stays in ROM recovery (14 R381, R394). -/
def State.bootPsh (s : State) : State :=
  if s.checkSlot 1 s.sec.psh.slot = 0 then s
  else if s.checkSlot 1 (1 - s.sec.psh.slot) = 0 then s.setImage 1 { s.sec.psh with slot := 1 - s.sec.psh.slot }
  else ((s.withSvc { s.svc with romRecovery := true }).fwResult (s.checkSlot 1 s.sec.psh.slot)).sampleSlot

/-- An erase of a firmware sector that never ended leaves its slot not valid (14 R395). -/
def State.dropStaged (s : State) : State :=
  let hit := fun i : Nat => (s.openEntries 0 ++ s.openEntries 1).any (fun a =>
    decide (slotBase i (1 - (s.image i).slot) ≤ a) && decide (a < slotBase i (1 - (s.image i).slot) + 0x100000))
  (s.withSec { s.sec with
      gld := { s.sec.gld with staged := s.sec.gld.staged && !hit 0 }
      psh := { s.sec.psh with staged := s.sec.psh.staged && !hit 1 } })

/-- PSH2_POWER_ON: everything on the tray resets, trials end, the boot ROM checks the PSH2 image and the recorder is prepared (05 R119, 14 R381, R389, R396, 13 R355). -/
def execPsh2PowerOn (s : State) : Out :=
  let s1 := (((s.darkTray true).abandon 0).abandon 1).dropStaged.recorderStart
  .next s1.bootPsh.showFw

/-- PSH2_IMAGE_RUN: the image runs after a power-on or a live restart; the first samples SLOT_ID and lets R28's count start, the second starts the sequence again and finishes a joint activation (R48, 05 R110, 14 R387, R388). -/
def execPsh2ImageRun (s : State) : Out :=
  .next (if s.svc.pshPower && !s.svc.romRecovery && !s.svc.pshRun then
    let s1 := (s.withSvc { s.svc with pshRun := true }).pshStarts
    if s.sec.restarting then
      let s2 := (s1.withSec { s1.sec with restarting := false, coldWaits := false, checkDue := true }).restartSeq.showFw
      if s.sec.coldWaits then
        let s3 := (s2.activate 0)
        (s3.withSec { s3.sec with joint := false, jointTrial := true }).coldTail
      else s2
    else
      let s2 := s1.sampleSlot.slotDiffer.showFw
      if s2.bk == bkStandby then s2.qualify else s2
  else s)

/-- PSH2_SUPPLY_LOSS: PSH2's own supply falls away; the power cycle, the latch and the live summary end (13 R342, 03 R74). -/
def execPsh2SupplyLoss (s : State) : Out :=
  .next (if s.svc.pshPower then s.darkTray false else s)

/-- MFR_SLOT_STATUS: reads PWR_SLOT_STATUS[15:0], or clears its W1C bits (R49). -/
def execMfrSlotStatus (x : PmbAcc) (s : State) : Out :=
  .next (s.pmbAcc x (fun t => t.answer (leBytes 2 (t.word 0xA0F00).toNat))
    (fun v t => (t.setWord 0xA0F00 (t.word 0xA0F00 &&& ~~~(BitVec.ofNat 32 (v &&& 6)))).alertRefresh))

/-- PL_REGULATOR_UP: the next regulator in order reaches 90 % of its voltage (05 R111). -/
def execPlRegulatorUp (s : State) : Out :=
  .next (if s.bk == bkOn && decide (s.brk.regsUp < 4) then s.withBrk { s.brk with regsUp := s.brk.regsUp + 1 } else s)

end Sys2Proof.Machine
end

