-- ==== Sys2Proof/Machine/Unit.lean ====
section
/-!
DEFINITION. Machine/Unit.lean: the meanings of the thermal, ledger and tile-fault commands (spec/12_thermal_unit_health.md).
-/
namespace Sys2Proof.Machine

open Sys2Proof

/-- ADOPT: UNIT_RECONCILE action 0b00 (R328). -/
def execAdopt (id : Nat) (s : State) : Out :=
  .next (match s.reconcile id 0 with
    | none => s
    | some x => (s.adopt x.2).reconciled id x.2)

/-- RETEST: UNIT_RECONCILE action 0b01, with the test's outcome (R328, R333). -/
def execRetest (id : Nat) (pass : Bool) (s : State) : Out :=
  .next (match s.reconcile id 1 with
    | none => s
    | some x => (s.retested x.2 pass).reconciled id x.2)

/-- REQUEST: UNIT_RECONCILE action 0b10; PSH2 refuses while the lock is 1 or the rail is out, and does not answer while the link is lost (R328, R334). -/
def execRequest (id : Nat) (s : State) : Out :=
  .next (match s.reconcile id 2 with
    | none => s
    | some x =>
      let ok := s.pshUp && !s.gpGld.lost && !(s.mgmtOf x.2).lock && !s.railOut x.2
      let s1 := if ok then
          let t := s.orderMgmt x.2 mgmtInService false
          (t.applyMgmt x.2 mgmtInService).applyPgood x.2 (t.mgmtOf x.2).pgood
        else s
      (s1.adopt x.2).reconciled id x.2)

/-- THERMAL_SAMPLE: sensors 0 to 15, 17 and 18 in that order, each quad's busy cycles over all its cycles, and the packages' MR4 temperatures (R308, R309, R313, R314, R317, R319). -/
def execThermalSample (codes : List (Option Int)) (activity : List (Nat × Nat)) (mr4 : List (Option Int)) (s : State) : Out :=
  .next (if s.samples then s.thermalSample codes activity mr4 else s)

/-- THROTTLE_STEP: step_time has passed since the last change with a cause holding; the depth rises by one, up to max_depth (R314). -/
def execThrottleStep (s : State) : Out :=
  .next (let d := s.get Reg.THM_STATUS.depth
    if (s.thermal.absHolds || s.thermal.rateHolds) && decide (0 < d) && decide (d < s.get Reg.THM_CTRL.max_depth) then s.setDepth (d + 1) else s)

/-- THROTTLE_RELEASE: the release conditions have held for step_time; GLD1 sends the step notice, and the depth falls when its step starts (R315, R322, R338). -/
def execThrottleRelease (s : State) : Out :=
  .next (let down := decide (s.depthFloor < s.get Reg.THM_STATUS.depth) || decide (s.thermal.mode ≠ s.get Reg.THM_CTRL.mode)
    if s.thermal.relHolds && down && !s.thermal.releaseWaits && !s.flag Reg.PWR_STATE.shed_active then
      (s.withThermal { s.thermal with releaseWaits := true }).sendNotice .throttleRelease
    else s)

/-- THERMAL_RESTART: cooled below 85 °C, 2 s after the shutdown: bring-up runs again from Memory with every later stage, whatever it was when the shutdown came (R318, R335, R336; 05 R128). -/
def execThermalRestart (s : State) : Out :=
  .next (if s.flag Reg.THM_STATUS.restart_wait && !s.flag Reg.THM_STATUS.fabric_held &&
      shutSensors.all (fun n => !s.live n || decide (s.reading n < 680)) then
    let s1 := (s.withFab { s.fab with powered := true }).put Reg.THM_STATUS.restart_wait 0
    if s.service = svcHomeroom then
      ((s1.withSvc { s1.svc with fromMemory := true, warm := false }).put Reg.GLB_SERVICE.stuck_homeroom 0).put Reg.GLB_SERVICE.stage 4
    else s1.put Reg.THM_STATUS.shutdown 0
  else s)

/-- SENSOR_FLAGGED: a GLD1 sensor is found stuck (1), out of range (2) or away from its neighbours (3); the Thermal stage applies the range and neighbour tests at once (R310). -/
def execSensorFlagged (n kind : Nat) (s : State) : Out :=
  .next (let once := decide (s.get Reg.GLB_SERVICE.stage = 7)
    let shown := if kind = 1 then decide (10000 ≤ s.thermal.stuckRun.getD n 0)
      else if kind = 2 then decide ((if once then 1 else 2) ≤ s.thermal.rangeRun.getD n 0)
      else decide (kind = 3) && decide (n < 16) && decide ((if once then 1 else 10) ≤ s.thermal.nbrRun.getD n 0)
    if shutSensors.contains n && s.live n && shown && !s.svc.rstLow then s.flagSensor n kind else s)

/-- The flash-write window changes: PSH2's own view and GLD1's mirror (R320, 13 R366). -/
def State.setWindow (s : State) (isOpen : Bool) : State :=
  (s.putFlag Reg.THM_BANDS.flash_open isOpen).putFlag Reg.RCD_STATUS.window_closed (!isOpen)

/-- PSH2_SENSOR_FLAGGED: PSH2 finds its die sensor or the board sensor stuck (1) or out of range (2) (R312). -/
def execPsh2SensorFlagged (n kind : Nat) (s : State) : Out :=
  .next (if s.pshUp && (decide (n = 19) || decide (n = 20)) && s.live n && (decide (kind = 1) || decide (kind = 2)) then
    let s1 := ((s.put (Reg.THM_SENSOR.flag n) kind).put Reg.THM_FLAGS.psh2_flagged (s.get Reg.THM_FLAGS.psh2_flagged ||| 2 ^ (n - 19))).put
      (Reg.THM_SENSOR.reading n) 0x7FFF
    let s2 := (s1.withThermal { s1.thermal with dieWarn := s1.thermal.dieWarn && decide (n ≠ 19) })
    (((s2.put Reg.THM_STATUS.sensor_event 1).raiseThermal).pshCount 19).when_ s2.windowSensor.isNone (·.setWindow true)
  else s)

/-- FLASH_WINDOW_CLOSE: two results in a row outside the window (R320); a start that waited for the reserve may go on (13 R355). -/
def execFlashWindowClose (s : State) : Out :=
  .next (if s.pshUp && decide (2 ≤ s.thermal.winOut) && s.flag Reg.THM_BANDS.flash_open then (s.setWindow false).tryStart else s)

/-- FLASH_WINDOW_OPEN: two results in a row within the reopening range; deferred work goes on (R320, R337, 13 R366). -/
def execFlashWindowOpen (s : State) : Out :=
  .next (if s.pshUp && decide (2 ≤ s.thermal.winIn) && !s.flag Reg.THM_BANDS.flash_open then ((s.setWindow true).pumpErase).runFlush true else s)

/-- THM_PROFILE: a write of THM_PROFILE.profile (R321, R322). -/
def execThmProfile (value : Nat) (s : State) : Out :=
  .next (s.hostCfg Reg.THM_PROFILE.profile.off value (fun t => t.thmProfileWrite (value % 4)))

/-- MFR_UNIT_INDEX: a ledger index of 0 to 100, or no acknowledgement (R341). -/
def execMfrUnitIndex (x : PmbAcc) (s : State) : Out :=
  .next (s.pmbAcc x (fun t => t.answer (leBytes 2 t.pmb.unitIndex))
    (fun v t => if v ≤ 100 then t.withPmb { t.pmb with unitIndex := v } else t.nack))

/-- MFR_UNIT_STATE: reads the entry; a write sets mgmt_state, if it is listed, and the lock (R324, R326, R341). -/
def execMfrUnitState (x : PmbAcc) (s : State) : Out :=
  let bit := fun (b : Bool) (n : Nat) => if b then 2 ^ n else 0
  .next (s.pmbAcc x
    (fun t =>
      let u := t.pmb.unitIndex
      let e := t.mgmtOf u
      let d := t.get (Reg.FAB_LEDGER.data_state u)
      t.answer (leBytes 2 (e.mgmt + bit e.lock 3 + bit e.pgood 4 + d * 256 + bit (!pairAgrees e.mgmt d) 11)))
    (fun v t =>
      let u := t.pmb.unitIndex
      if v % 8 ≤ 4 then t.orderMgmt u (v % 8) ((v / 8) % 2 = 1)
      else (t.setMgmt u (t.mgmtOf u).mgmt ((v / 8) % 2 = 1)).cml6))

/-- MFR_THERMAL: THM_STATUS[15:0] and the hottest live quad and LPDDR5X sensors, LINEAR11 with exponent −3, 0x7FFF with none live (R341). -/
def execMfrThermal (s : State) : Out :=
  let temp := fun (x : Option (Int × Nat)) => match x with | some (t, _) => linear11 (-3) t 8 | none => 0x7FFF
  .next (s.pmbRead (fun t => t.answer (leBytes 2 (t.word Reg.THM_STATUS.depth.off).toNat ++
    leBytes 2 (temp (t.hottestOf (List.range 16))) ++ leBytes 2 (temp (t.hottestOf [17, 18])))))

/-- UNIT_READY: a unit under IN_SERVICE has passed its test or retraining and takes work (R325). -/
def execUnitReady (u : Nat) (s : State) : Out :=
  need (decide (u ≤ 100)) (
    let d := s.get (Reg.FAB_LEDGER.data_state u)
    if !s.svc.rstLow && decide (s.get (Reg.FAB_LEDGER.mgmt_state u) = mgmtInService) && s.flag (Reg.FAB_LEDGER.pgood u) && !s.unitDark u &&
      (decide (d = dataOut) || decide (d = dataDraining)) then s.makeReady u else s)

/-- UNIT_DRAINED: the last work on a DRAINING unit has ended (R325). -/
def execUnitDrained (u : Nat) (s : State) : Out := need (decide (u ≤ 100)) (s.drained u)

/-- LEDGER_DISAGREEMENT: the pair has been outside Table 12-6 for 10 µs (R332). -/
def execLedgerDisagreement (u : Nat) (s : State) : Out :=
  need (decide (u ≤ 100)) (
    let d := s.get (Reg.FAB_LEDGER.data_state u)
    if !s.svc.rstLow && !pairAgrees (s.get (Reg.FAB_LEDGER.mgmt_state u)) d && decide (d ≠ dataFenced) then s.fenceUnit u else s)

/-- UNIT_POWER_OFF: PSH2 removes an OFF unit's power once it is OUT or FAILED, or off_grace after its fence; not while it cannot see data_state (R326, R334). -/
def execUnitPowerOff (u : Nat) (s : State) : Out :=
  need (decide (u ≤ 100)) (
    let d := s.get (Reg.FAB_LEDGER.data_state u)
    if s.pshUp && !s.gpPsh.lost && decide ((s.mgmtOf u).mgmt = mgmtOff) && (s.mgmtOf u).pgood &&
      (decide (d = dataOut) || decide (d = dataFailed) || decide (d = dataFenced)) then (s.setPgood u false).unpower u else s)

/-- TILE_FAULT: a parity or residue mismatch (R329, R330, R333); during a thermal shutdown it has no effect. -/
def execTileFault (tile : Nat) (residue : Bool) (s : State) : Out :=
  need (decide (tile < 64)) (if s.svc.rstLow || !s.fab.powered || s.flag (Reg.FAB_TILE_STATUS.fenced tile) then s else s.tileFault tile residue)

/-- SPARE_STAND_IN: a fenced tile's position is taken over and the lost epoch repeated (R330, R331, R333). -/
def execSpareStandIn (tile : Nat) (s : State) : Out :=
  need (decide (tile < 64)) (if s.fab.powered then s.standInFor tile else s)

end Sys2Proof.Machine
end

