-- ==== Sys2Proof/Machine/Dispatch.lean ====
section
/-! DEFINITION. Machine/Dispatch.lean: one arm per command. -/

namespace Sys2Proof.Machine

open Sys2Proof

def exec (i : Instr) (s : State) : Host.Outcome State Fault Refusal :=
  match i with
  | .registerWrite fn target size value => Sys2Proof.Machine.execRegisterWrite fn target size value s
  | .rcRead reader off size => Sys2Proof.Machine.execRcRead reader off size s
  | .gpLinkFrame toGld seq crcOk msg => Sys2Proof.Machine.execGpLinkFrame toGld seq crcOk msg s
  | .gpLinkRefusal toGld expected => Sys2Proof.Machine.execGpLinkRefusal toGld expected s
  | .gpLinkIdle toGld => Sys2Proof.Machine.execGpLinkIdle toGld s
  | .gpLinkLost => Sys2Proof.Machine.execGpLinkLost s
  | .gpLinkRestored => Sys2Proof.Machine.execGpLinkRestored s
  | .clockLost c => Sys2Proof.Machine.execClockLost c s
  | .clockPresent c => Sys2Proof.Machine.execClockPresent c s
  | .leverOpen => Sys2Proof.Machine.execLeverOpen s
  | .leverClose => Sys2Proof.Machine.execLeverClose s
  | .extractGraceEnd => Sys2Proof.Machine.execExtractGraceEnd s
  | .powerOff => Sys2Proof.Machine.execPowerOff s
  | .qualifyComplete => Sys2Proof.Machine.execQualifyComplete s
  | .qualifyBreak => Sys2Proof.Machine.execQualifyBreak s
  | .psh2PowerOn => Sys2Proof.Machine.execPsh2PowerOn s
  | .psh2ImageRun => Sys2Proof.Machine.execPsh2ImageRun s
  | .mfrSlotStatus x => Sys2Proof.Machine.execMfrSlotStatus x s
  | .powerGood => Sys2Proof.Machine.execPowerGood s
  | .dischargeComplete => Sys2Proof.Machine.execDischargeComplete s
  | .soaInrush => Sys2Proof.Machine.execSoaInrush s
  | .soaLimit => Sys2Proof.Machine.execSoaLimit s
  | .fastTrip rules => Sys2Proof.Machine.execFastTrip rules s
  | .reverseCurrent => Sys2Proof.Machine.execReverseCurrent s
  | .ruleEvaluation t => Sys2Proof.Machine.execRuleEvaluation t s
  | .ruleFires rules => Sys2Proof.Machine.execRuleFires rules s
  | .confirmWindowEnd rules => Sys2Proof.Machine.execConfirmWindowEnd rules s
  | .limitActionRelease n => Sys2Proof.Machine.execLimitActionRelease n s
  | .backoffEnd => Sys2Proof.Machine.execBackoffEnd s
  | .retryClear => Sys2Proof.Machine.execRetryClear s
  | .clearLatch => Sys2Proof.Machine.execClearLatch s
  | .clearFaults fin => Sys2Proof.Machine.execClearFaults fin s
  | .shedRequest => Sys2Proof.Machine.execShedRequest s
  | .shedRelease => Sys2Proof.Machine.execShedRelease s
  | .stepNotice id amplitude start duration => Sys2Proof.Machine.execStepNotice id amplitude start duration s
  | .stepNoticeAnswer id accepted => Sys2Proof.Machine.execStepNoticeAnswer id accepted s
  | .stepStart id => Sys2Proof.Machine.execStepStart id s
  | .stepNoticeRetry id => Sys2Proof.Machine.execStepNoticeRetry id s
  | .noticeClose id => Sys2Proof.Machine.execNoticeClose id s
  | .pwrProfile value => Sys2Proof.Machine.execPwrProfile value s
  | .ruleCommit path alsoReload => Sys2Proof.Machine.execRuleCommit path alsoReload s
  | .ruleReload path => Sys2Proof.Machine.execRuleReload path s
  | .powerFail => Sys2Proof.Machine.execPowerFail s
  | .minOffEnd => Sys2Proof.Machine.execMinOffEnd s
  | .operationOn fin => Sys2Proof.Machine.execOperationOn fin s
  | .operationSoftOff fin => Sys2Proof.Machine.execOperationSoftOff fin s
  | .operationImmediateOff fin => Sys2Proof.Machine.execOperationImmediateOff fin s
  | .statusWord => Sys2Proof.Machine.execStatusWord s
  | .statusInput => Sys2Proof.Machine.execStatusInput s
  | .statusCml => Sys2Proof.Machine.execStatusCml s
  | .readVin => Sys2Proof.Machine.execReadVin s
  | .readIin => Sys2Proof.Machine.execReadIin s
  | .readPin => Sys2Proof.Machine.execReadPin s
  | .mfrPowerState => Sys2Proof.Machine.execMfrPowerState s
  | .mfrBreakerProfile x => Sys2Proof.Machine.execMfrBreakerProfile x s
  | .mfrExpertUnlock fin key => Sys2Proof.Machine.execMfrExpertUnlock fin key s
  | .mfrRegAddr x => Sys2Proof.Machine.execMfrRegAddr x s
  | .mfrRegData x => Sys2Proof.Machine.execMfrRegData x s
  | .psh2RegisterWrite off value => Sys2Proof.Machine.execPsh2RegisterWrite off value s
  | .conversionEnd a b dt => Sys2Proof.Machine.execConversionEnd a b dt s
  | .passStart => Sys2Proof.Machine.execPassStart s
  | .pairTrigger => Sys2Proof.Machine.execPairTrigger s
  | .meterInterval => Sys2Proof.Machine.execMeterInterval s
  | .accSnap alsoClear => Sys2Proof.Machine.execAccSnap alsoClear s
  | .accClear => Sys2Proof.Machine.execAccClear s
  | .minmaxClear => Sys2Proof.Machine.execMinmaxClear s
  | .calStart => Sys2Proof.Machine.execCalStart s
  | .mfrAdcCal fin => Sys2Proof.Machine.execMfrAdcCal fin s
  | .calibrationEnd offA gainA offB gainB => Sys2Proof.Machine.execCalibrationEnd offA gainA offB gainB s
  | .calValueWrite conv isGain value => Sys2Proof.Machine.execCalValueWrite conv isGain value s
  | .refBufEnable => Sys2Proof.Machine.execRefBufEnable s
  | .refReady => Sys2Proof.Machine.execRefReady s
  | .refBufClear => Sys2Proof.Machine.execRefBufClear s
  | .lpPassInterval => Sys2Proof.Machine.execLpPassInterval s
  | .lpGateOffWrite on => Sys2Proof.Machine.execLpGateOffWrite on s
  | .pwrAdcProfile value => Sys2Proof.Machine.execPwrAdcProfile value s
  | .mfrAdcProfile x => Sys2Proof.Machine.execMfrAdcProfile x s
  | .pwrAdcUrgent conv value => Sys2Proof.Machine.execPwrAdcUrgent conv value s
  | .mfrMeterAddr x => Sys2Proof.Machine.execMfrMeterAddr x s
  | .mfrMeterData x => Sys2Proof.Machine.execMfrMeterData x s
  | .mfrReadTemps => Sys2Proof.Machine.execMfrReadTemps s
  | .mfrReadEnergy => Sys2Proof.Machine.execMfrReadEnergy s
  | .plRegulatorUp => Sys2Proof.Machine.execPlRegulatorUp s
  | .gpRstRelease => Sys2Proof.Machine.execGpRstRelease s
  | .stageComplete failed => Sys2Proof.Machine.execStageComplete failed s
  | .handoverStart => Sys2Proof.Machine.execHandoverStart s
  | .pcieLinkTrained => Sys2Proof.Machine.execPcieLinkTrained s
  | .perstNAssert => Sys2Proof.Machine.execPerstNAssert s
  | .perstNDeassert => Sys2Proof.Machine.execPerstNDeassert s
  | .warmReset cause => Sys2Proof.Machine.execWarmReset cause s
  | .vfFlr vf => Sys2Proof.Machine.execVfFlr vf s
  | .fabricReset => Sys2Proof.Machine.execFabricReset s
  | .coldReset => Sys2Proof.Machine.execColdReset s
  | .recessEnter => Sys2Proof.Machine.execRecessEnter s
  | .idleAuto => Sys2Proof.Machine.execIdleAuto s
  | .recessEntryDone => Sys2Proof.Machine.execRecessEntryDone s
  | .wakeN => Sys2Proof.Machine.execWakeN s
  | .recessBar0Wake fn off => Sys2Proof.Machine.execRecessBar0Wake fn off s
  | .wakeComplete => Sys2Proof.Machine.execWakeComplete s
  | .recessProfile value => Sys2Proof.Machine.execRecessProfile value s
  | .sqDoorbell fn n value => Sys2Proof.Machine.execSqDoorbell fn n value s
  | .cqDoorbell fn n value => Sys2Proof.Machine.execCqDoorbell fn n value s
  | .descriptorFetch data => Sys2Proof.Machine.execDescriptorFetch data s
  | .loadModel id image => Sys2Proof.Machine.execLoadModel id image s
  | .loadCoeff id data => Sys2Proof.Machine.execLoadCoeff id data s
  | .runMac id => Sys2Proof.Machine.execRunMac id s
  | .runSample id table => Sys2Proof.Machine.execRunSample id table s
  | .runAnneal id schedule => Sys2Proof.Machine.execRunAnneal id schedule s
  | .classifyStream id => Sys2Proof.Machine.execClassifyStream id s
  | .trainStep id batch => Sys2Proof.Machine.execTrainStep id batch s
  | .readStates id => Sys2Proof.Machine.execReadStates id s
  | .sylBankSwap id data => Sys2Proof.Machine.execSylBankSwap id data s
  | .sylSwapDone => Sys2Proof.Machine.execSylSwapDone s
  | .hpsTablePublish id data => Sys2Proof.Machine.execHpsTablePublish id data s
  | .fence id => Sys2Proof.Machine.execFence id s
  | .nop id => Sys2Proof.Machine.execNop id s
  | .adopt id => Sys2Proof.Machine.execAdopt id s
  | .retest id pass => Sys2Proof.Machine.execRetest id pass s
  | .request id => Sys2Proof.Machine.execRequest id s
  | .status id => Sys2Proof.Machine.execStatus id s
  | .pairPrefect id => Sys2Proof.Machine.execPairPrefect id s
  | .pairDeputy id => Sys2Proof.Machine.execPairDeputy id s
  | .unpair id => Sys2Proof.Machine.execUnpair id s
  | .swap id => Sys2Proof.Machine.execSwap id s
  | .claim id => Sys2Proof.Machine.execClaim id s
  | .fwStageWriteChunk id data timedOut => Sys2Proof.Machine.execFwStageWriteChunk id data timedOut s
  | .fwStageVerify id => Sys2Proof.Machine.execFwStageVerify id s
  | .fwStageActivate id => Sys2Proof.Machine.execFwStageActivate id s
  | .completionWrite cq parityOk => Sys2Proof.Machine.execCompletionWrite cq parityOk s
  | .coalesceTimer cq => Sys2Proof.Machine.execCoalesceTimer cq s
  | .msixUnmask fn change => Sys2Proof.Machine.execMsixUnmask fn change s
  | .sqCfgWrite fn n value => Sys2Proof.Machine.execSqCfgWrite fn n value s
  | .cqCfgWrite fn n value => Sys2Proof.Machine.execCqCfgWrite fn n value s
  | .sqErrorClear fn n => Sys2Proof.Machine.execSqErrorClear fn n s
  | .cqErrorClear fn n => Sys2Proof.Machine.execCqErrorClear fn n s
  | .partCommit => Sys2Proof.Machine.execPartCommit s
  | .expertUnlock block key => Sys2Proof.Machine.execExpertUnlock block key s
  | .hifProfile value => Sys2Proof.Machine.execHifProfile value s
  | .fabGangCfg value => Sys2Proof.Machine.execFabGangCfg value s
  | .fabProfile value => Sys2Proof.Machine.execFabProfile value s
  | .spareQuadWrite value => Sys2Proof.Machine.execSpareQuadWrite value s
  | .accLatch tile row col => Sys2Proof.Machine.execAccLatch tile row col s
  | .accCapture => Sys2Proof.Machine.execAccCapture s
  | .sweepEnd id => Sys2Proof.Machine.execSweepEnd id s
  | .epochBoundary id => Sys2Proof.Machine.execEpochBoundary id s
  | .annealPointEnd id => Sys2Proof.Machine.execAnnealPointEnd id s
  | .entropyTestFail => Sys2Proof.Machine.execEntropyTestFail s
  | .smpProfile value => Sys2Proof.Machine.execSmpProfile value s
  | .captureLinkUp skew => Sys2Proof.Machine.execCaptureLinkUp skew s
  | .captureLinkDown locked inHeader => Sys2Proof.Machine.execCaptureLinkDown locked inHeader s
  | .recordHeader stream header => Sys2Proof.Machine.execRecordHeader stream header s
  | .endOfRecord rest surplus fin => Sys2Proof.Machine.execEndOfRecord rest surplus fin s
  | .ethFrame port bytes => Sys2Proof.Machine.execEthFrame port bytes s
  | .syllabusPass rec => Sys2Proof.Machine.execSyllabusPass rec s
  | .burstLoad rec more => Sys2Proof.Machine.execBurstLoad rec more s
  | .loadTimeout rec => Sys2Proof.Machine.execLoadTimeout rec s
  | .recordVerdict rec => Sys2Proof.Machine.execRecordVerdict rec s
  | .ethLinkDown port cut => Sys2Proof.Machine.execEthLinkDown port cut s
  | .ethLinkUp port => Sys2Proof.Machine.execEthLinkUp port s
  | .egressHoldExpiry port => Sys2Proof.Machine.execEgressHoldExpiry port s
  | .shadowDataWrite value => Sys2Proof.Machine.execShadowDataWrite value s
  | .shadowClear => Sys2Proof.Machine.execShadowClear s
  | .shadowBuild => Sys2Proof.Machine.execShadowBuild s
  | .shadowBuildEnd => Sys2Proof.Machine.execShadowBuildEnd s
  | .capProfile value => Sys2Proof.Machine.execCapProfile value s
  | .sylProfile value => Sys2Proof.Machine.execSylProfile value s
  | .hpTrigger valid sig => Sys2Proof.Machine.execHpTrigger valid sig s
  | .trimBandChange => Sys2Proof.Machine.execTrimBandChange s
  | .hpsShadowData value => Sys2Proof.Machine.execHpsShadowData value s
  | .shadowFill => Sys2Proof.Machine.execShadowFill s
  | .publishFlip => Sys2Proof.Machine.execPublishFlip s
  | .publishDone => Sys2Proof.Machine.execPublishDone s
  | .publishCopyEnd => Sys2Proof.Machine.execPublishCopyEnd s
  | .hpClkReturn => Sys2Proof.Machine.execHpClkReturn s
  | .hpsProfile value => Sys2Proof.Machine.execHpsProfile value s
  | .trainingPhaseEnd port ok width => Sys2Proof.Machine.execTrainingPhaseEnd port ok width s
  | .ident port rec last => Sys2Proof.Machine.execIdent port rec last s
  | .noPeerRetry port => Sys2Proof.Machine.execNoPeerRetry port s
  | .portRetrain port => Sys2Proof.Machine.execPortRetrain port s
  | .portDisable port => Sys2Proof.Machine.execPortDisable port s
  | .data port seq ack crcOk frame => Sys2Proof.Machine.execData port seq ack crcOk frame s
  | .ack port ack => Sys2Proof.Machine.execAck port ack s
  | .nak port ack => Sys2Proof.Machine.execNak port ack s
  | .replayTimeout port => Sys2Proof.Machine.execReplayTimeout port s
  | .akgalLinkDown port => Sys2Proof.Machine.execAkgalLinkDown port s
  | .sysCfgWrite value => Sys2Proof.Machine.execSysCfgWrite value s
  | .shareTimeout slot => Sys2Proof.Machine.execShareTimeout slot s
  | .snapshotAck => Sys2Proof.Machine.execSnapshotAck s
  | .snapshotApply => Sys2Proof.Machine.execSnapshotApply s
  | .mirrorTick => Sys2Proof.Machine.execMirrorTick s
  | .pairingTimeout => Sys2Proof.Machine.execPairingTimeout s
  | .pairAuthFrame => Sys2Proof.Machine.execPairAuthFrame s
  | .pairCopyDone => Sys2Proof.Machine.execPairCopyDone s
  | .peerSwap => Sys2Proof.Machine.execPeerSwap s
  | .peerClaim => Sys2Proof.Machine.execPeerClaim s
  | .claimTimeout => Sys2Proof.Machine.execClaimTimeout s
  | .resume => Sys2Proof.Machine.execResume s
  | .akgProfile value => Sys2Proof.Machine.execAkgProfile value s
  | .thermalSample codes activity mr4 => Sys2Proof.Machine.execThermalSample codes activity mr4 s
  | .throttleStep => Sys2Proof.Machine.execThrottleStep s
  | .throttleRelease => Sys2Proof.Machine.execThrottleRelease s
  | .thermalRestart => Sys2Proof.Machine.execThermalRestart s
  | .sensorFlagged n kind => Sys2Proof.Machine.execSensorFlagged n kind s
  | .psh2SensorFlagged n kind => Sys2Proof.Machine.execPsh2SensorFlagged n kind s
  | .flashWindowClose => Sys2Proof.Machine.execFlashWindowClose s
  | .flashWindowOpen => Sys2Proof.Machine.execFlashWindowOpen s
  | .thmProfile value => Sys2Proof.Machine.execThmProfile value s
  | .mfrUnitIndex x => Sys2Proof.Machine.execMfrUnitIndex x s
  | .mfrUnitState x => Sys2Proof.Machine.execMfrUnitState x s
  | .mfrThermal => Sys2Proof.Machine.execMfrThermal s
  | .unitReady unit => Sys2Proof.Machine.execUnitReady unit s
  | .unitDrained unit => Sys2Proof.Machine.execUnitDrained unit s
  | .ledgerDisagreement unit => Sys2Proof.Machine.execLedgerDisagreement unit s
  | .unitPowerOff unit => Sys2Proof.Machine.execUnitPowerOff unit s
  | .tileFault tile residue => Sys2Proof.Machine.execTileFault tile residue s
  | .spareStandIn tile => Sys2Proof.Machine.execSpareStandIn tile s
  | .rcIncrement instants => Sys2Proof.Machine.execRcIncrement instants s
  | .flushPeriod => Sys2Proof.Machine.execFlushPeriod s
  | .flush programOk => Sys2Proof.Machine.execFlush programOk s
  | .eraseDone => Sys2Proof.Machine.execEraseDone s
  | .windowRetry => Sys2Proof.Machine.execWindowRetry s
  | .flushNow => Sys2Proof.Machine.execFlushNow s
  | .freeze => Sys2Proof.Machine.execFreeze s
  | .thaw => Sys2Proof.Machine.execThaw s
  | .freezeExpiry => Sys2Proof.Machine.execFreezeExpiry s
  | .nonceReq => Sys2Proof.Machine.execNonceReq s
  | .nonceExpiry => Sys2Proof.Machine.execNonceExpiry s
  | .apply => Sys2Proof.Machine.execApply s
  | .tokenVerified => Sys2Proof.Machine.execTokenVerified s
  | .rcSelect value => Sys2Proof.Machine.execRcSelect value s
  | .rcdProfile value => Sys2Proof.Machine.execRcdProfile value s
  | .mfrRcCtrl fin value => Sys2Proof.Machine.execMfrRcCtrl fin value s
  | .mfrRcStatus x => Sys2Proof.Machine.execMfrRcStatus x s
  | .mfrRcSelect x => Sys2Proof.Machine.execMfrRcSelect x s
  | .mfrRcRead => Sys2Proof.Machine.execMfrRcRead s
  | .mfrRcOffset x => Sys2Proof.Machine.execMfrRcOffset x s
  | .mfrRcNonce => Sys2Proof.Machine.execMfrRcNonce s
  | .mfrRcClear fin token => Sys2Proof.Machine.execMfrRcClear fin token s
  | .mfrRcOpkey fin key => Sys2Proof.Machine.execMfrRcOpkey fin key s
  | .getVersion => Sys2Proof.Machine.execGetVersion s
  | .getCapabilities => Sys2Proof.Machine.execGetCapabilities s
  | .negotiateAlgorithms => Sys2Proof.Machine.execNegotiateAlgorithms s
  | .getDigests => Sys2Proof.Machine.execGetDigests s
  | .getCertificate offset length => Sys2Proof.Machine.execGetCertificate offset length s
  | .challenge data => Sys2Proof.Machine.execChallenge data s
  | .getMeasurements signed index data => Sys2Proof.Machine.execGetMeasurements signed index data s
  | .spdmUnsupportedRequest => Sys2Proof.Machine.execSpdmUnsupportedRequest s
  | .vaultSignature => Sys2Proof.Machine.execVaultSignature s
  | .liveRestart => Sys2Proof.Machine.execLiveRestart s
  | .confirm raiseFloor key => Sys2Proof.Machine.execConfirm raiseFloor key s
  | .cancel => Sys2Proof.Machine.execCancel s
  | .strictSet key => Sys2Proof.Machine.execStrictSet key s
  | .autoConfirm => Sys2Proof.Machine.execAutoConfirm s
  | .secProfile value => Sys2Proof.Machine.execSecProfile value s
  | .mfrFwStatus => Sys2Proof.Machine.execMfrFwStatus s
  | .mfrFwRecovery fin data => Sys2Proof.Machine.execMfrFwRecovery fin data s
  | .mfrFwRecoveryCtrl fin value => Sys2Proof.Machine.execMfrFwRecoveryCtrl fin value s
  | .daccessRead psh space addr => Sys2Proof.Machine.execDaccessRead psh space addr s
  | .daccessWrite psh space addr value => Sys2Proof.Machine.execDaccessWrite psh space addr value s
  | .daccessDone psh => Sys2Proof.Machine.execDaccessDone psh s
  | .trstN low => Sys2Proof.Machine.execTrstN low s
  | .debugModeEnter => Sys2Proof.Machine.execDebugModeEnter s
  | .debugModeExit => Sys2Proof.Machine.execDebugModeExit s
  | .haltReq core lock => Sys2Proof.Machine.execHaltReq core lock s
  | .breakpoint core b lock => Sys2Proof.Machine.execBreakpoint core b lock s
  | .coreResume core => Sys2Proof.Machine.execCoreResume core s
  | .step core lock => Sys2Proof.Machine.execStep core lock s
  | .lockEnd core => Sys2Proof.Machine.execLockEnd core s
  | .haltForced core id => Sys2Proof.Machine.execHaltForced core id s
  | .traceWpWrite => Sys2Proof.Machine.execTraceWpWrite s
  | .traceBufRead => Sys2Proof.Machine.execTraceBufRead s
  | .traceClear => Sys2Proof.Machine.execTraceClear s
  | .dbgProfile value => Sys2Proof.Machine.execDbgProfile value s
  | .alertResponse => Sys2Proof.Machine.execAlertResponse s
  | .quickCommand => Sys2Proof.Machine.execQuickCommand s
  | .receiveByte => Sys2Proof.Machine.execReceiveByte s
  | .unsupportedCommand u => Sys2Proof.Machine.execUnsupportedCommand u s
  | .psh2SupplyLoss => Sys2Proof.Machine.execPsh2SupplyLoss s
  | .portEnable port => Sys2Proof.Machine.execPortEnable port s
  | .lowHalfRead reader off => Sys2Proof.Machine.execLowHalfRead reader off s
  | .entropyTestPass => Sys2Proof.Machine.execEntropyTestPass s
  | .macPassEnd id data => Sys2Proof.Machine.execMacPassEnd id data s

end Sys2Proof.Machine
end

