-- ==== Sys2Proof/Machine/Tick.lean ====
section
/-!
DEFINITION. Machine/Tick.lean: what happens with time alone, one nanosecond a step: the trace queue drains, a Recess entry reaches its commit point, and PSH2 fills the GP link with the GLD1 image and the register mirror (spec/01_module_overview.md R11, R12; 03 R80; 05 R122; 15 R412; DESIGN CHOICE, log 4).
-/
namespace Sys2Proof.Machine

open Sys2Proof

/-- A Recess entry that has reached its commit point takes step 4 (05 R122). -/
def State.commitTick (s : State) : State :=
  if decide (s.service = svcEntering) && decide (s.svc.commitAt ≤ s.now) then s.recessCommit else s

/-- Bytes of the GLD1 image's manifest and body in the slot sent. -/
def State.imageLength (s : State) : Nat := 4096 + min (mfBodySize (s.slotManifest 0 s.sec.gld.slot)) (bodyLimit 0)

/-- Up to six bytes of what stage Image sends, from byte `i` on: the GLD1 manifest and body, then PSH2's own manifest (01 R11). -/
def State.imageBytes (s : State) (i : Nat) : List Byte :=
  let n := s.imageLength
  if i < n then s.norRead (slotBase 0 s.sec.gld.slot + i) (min 6 (n - i))
  else s.norRead (slotBase 1 s.sec.psh.slot + (i - n)) (min 6 (n + 4096 - i))

/-- During stage Image the next frame of the image is queued once the one before it has been sent (01 R11, 05 Table 05-2). -/
def State.imageTick (s : State) : State :=
  let b := s.imageBytes s.svc.imageSent
  if s.gpRuns && !s.gpPsh.lost && decide (s.stage = 1) && decide (s.gpPsh.queue = []) && decide (b ≠ []) then
    (s.toGld (.image b)).withSvc { s.svc with imageSent := s.svc.imageSent + b.length }
  else s

/-- Nothing is commanded: a nanosecond passes. -/
def State.idle (s : State) : State := (s.withNow (s.now + 1)).traceDrain.commitTick.imageTick.mirrorOut

end Sys2Proof.Machine
end

