-- ==== Sys2Proof/WellFormed.lean ====
section
/-!
DEFINITION. WellFormed.lean: which commands name only units the module has; `exec` gives every such command a next state and stops on every other one.
-/
namespace Sys2Proof

/-- The PF is function 0, the VFs 1 to 8 (spec/06_host_rings.md R131). -/
def okFn (fn : Nat) : Bool := decide (fn < 9)

/-- Submission and completion rings 0 to 63 (06 R135). -/
def okRing (n : Nat) : Bool := decide (n < 64)

/-- Akgal ports 0 to 3 (11 R277). -/
def okPort (p : Nat) : Bool := decide (p < 4)

/-- Ethernet ports 0 and 1 (09 R229). -/
def okEth (p : Nat) : Bool := decide (p < 2)

/-- Ledger units 0 to 100 (12 R324). -/
def okUnit (u : Nat) : Bool := decide (u ≤ 100)

/-- GLD1 cores 0 to 3 and the PSH2 core, 4 (15 R406). -/
def okCore (c : Nat) : Bool := decide (c < 5)

/-- A DACCESS space and word address (15 Table 15-3). -/
def okAccess (space addr : Nat) : Bool := decide (space < 4) && decide (addr < 0x400000)

/-- A reader is the host's function or a sequencer core. -/
def okReader : Reader → Bool
  | .host fn | .doorbells fn | .config fn _ => okFn fn
  | .core => true

/-- A watched clock: four Akgal ports (01 R20). -/
def okClock : WatchedClock → Bool
  | .akgal p => okPort p
  | .refclk | .capture | .hpClk | .eth0 | .eth1 => true

/-- A vector of a function is 0 to 7 (06 R153). -/
def okChange : MsixChange → Bool
  | .vector v => decide (v < 8)
  | .config _ => true

/-- The command names only units the module has. -/
def Instr.wf : Instr → Bool
  | .registerWrite fn _ _ _ => okFn fn
  | .rcRead reader _ _ => okReader reader
  | .gpLinkFrame _ _ _ _ => true
  | .gpLinkRefusal _ _ => true
  | .gpLinkIdle _ => true
  | .gpLinkLost => true
  | .gpLinkRestored => true
  | .clockLost c => okClock c
  | .clockPresent c => okClock c
  | .leverOpen => true
  | .leverClose => true
  | .extractGraceEnd => true
  | .powerOff => true
  | .qualifyComplete => true
  | .qualifyBreak => true
  | .psh2PowerOn => true
  | .psh2ImageRun => true
  | .mfrSlotStatus _ => true
  | .powerGood => true
  | .dischargeComplete => true
  | .soaInrush => true
  | .soaLimit => true
  | .fastTrip _ => true
  | .reverseCurrent => true
  | .ruleEvaluation _ => true
  | .ruleFires _ => true
  | .confirmWindowEnd _ => true
  | .limitActionRelease _ => true
  | .backoffEnd => true
  | .retryClear => true
  | .clearLatch => true
  | .clearFaults _ => true
  | .shedRequest => true
  | .shedRelease => true
  | .stepNotice _ _ _ _ => true
  | .stepNoticeAnswer _ _ => true
  | .stepStart _ => true
  | .stepNoticeRetry _ => true
  | .noticeClose _ => true
  | .pwrProfile _ => true
  | .ruleCommit _ _ => true
  | .ruleReload _ => true
  | .powerFail => true
  | .minOffEnd => true
  | .operationOn _ => true
  | .operationSoftOff _ => true
  | .operationImmediateOff _ => true
  | .statusWord => true
  | .statusInput => true
  | .statusCml => true
  | .readVin => true
  | .readIin => true
  | .readPin => true
  | .mfrPowerState => true
  | .mfrBreakerProfile _ => true
  | .mfrExpertUnlock _ _ => true
  | .mfrRegAddr _ => true
  | .mfrRegData _ => true
  | .psh2RegisterWrite _ _ => true
  | .conversionEnd _ _ _ => true
  | .passStart => true
  | .pairTrigger => true
  | .meterInterval => true
  | .accSnap _ => true
  | .accClear => true
  | .minmaxClear => true
  | .calStart => true
  | .mfrAdcCal _ => true
  | .calibrationEnd _ _ _ _ => true
  | .calValueWrite conv _ _ => decide (conv < 2)
  | .refBufEnable => true
  | .refReady => true
  | .refBufClear => true
  | .lpPassInterval => true
  | .lpGateOffWrite _ => true
  | .pwrAdcProfile _ => true
  | .mfrAdcProfile _ => true
  | .pwrAdcUrgent conv _ => decide (conv < 2)
  | .mfrMeterAddr _ => true
  | .mfrMeterData _ => true
  | .mfrReadTemps => true
  | .mfrReadEnergy => true
  | .plRegulatorUp => true
  | .gpRstRelease => true
  | .stageComplete _ => true
  | .handoverStart => true
  | .pcieLinkTrained => true
  | .perstNAssert => true
  | .perstNDeassert => true
  | .warmReset _ => true
  | .vfFlr vf => decide (1 ≤ vf) && decide (vf ≤ 8)
  | .fabricReset => true
  | .coldReset => true
  | .recessEnter => true
  | .idleAuto => true
  | .recessEntryDone => true
  | .wakeN => true
  | .recessBar0Wake fn _ => okFn fn
  | .wakeComplete => true
  | .recessProfile _ => true
  | .sqDoorbell fn n _ => okRing n && okFn fn
  | .cqDoorbell fn n _ => okRing n && okFn fn
  | .descriptorFetch _ => true
  | .loadModel _ _ => true
  | .loadCoeff _ _ => true
  | .runMac _ => true
  | .runSample _ _ => true
  | .runAnneal _ _ => true
  | .classifyStream _ => true
  | .trainStep _ _ => true
  | .readStates _ => true
  | .sylBankSwap _ _ => true
  | .sylSwapDone => true
  | .hpsTablePublish _ _ => true
  | .fence _ => true
  | .nop _ => true
  | .adopt _ => true
  | .retest _ _ => true
  | .request _ => true
  | .status _ => true
  | .pairPrefect _ => true
  | .pairDeputy _ => true
  | .unpair _ => true
  | .swap _ => true
  | .claim _ => true
  | .fwStageWriteChunk _ _ _ => true
  | .fwStageVerify _ => true
  | .fwStageActivate _ => true
  | .completionWrite cq _ => okRing cq
  | .coalesceTimer cq => okRing cq
  | .msixUnmask fn change => okFn fn && okChange change
  | .sqCfgWrite fn n _ => okRing n && okFn fn
  | .cqCfgWrite fn n _ => okRing n && okFn fn
  | .sqErrorClear fn n => okRing n && okFn fn
  | .cqErrorClear fn n => okRing n && okFn fn
  | .partCommit => true
  | .expertUnlock block _ => decide (block < 14) && decide (block ≠ 8)
  | .hifProfile _ => true
  | .fabGangCfg _ => true
  | .fabProfile _ => true
  | .spareQuadWrite _ => true
  | .accLatch _ _ _ => true
  | .accCapture => true
  | .sweepEnd _ => true
  | .epochBoundary _ => true
  | .annealPointEnd _ => true
  | .entropyTestFail => true
  | .smpProfile _ => true
  | .captureLinkUp _ => true
  | .captureLinkDown _ _ => true
  | .recordHeader stream _ => decide (stream < 8)
  | .endOfRecord _ _ _ => true
  | .ethFrame port _ => okEth port
  | .syllabusPass _ => true
  | .burstLoad _ _ => true
  | .loadTimeout _ => true
  | .recordVerdict _ => true
  | .ethLinkDown port _ => okEth port
  | .ethLinkUp port => okEth port
  | .egressHoldExpiry port => okEth port
  | .shadowDataWrite _ => true
  | .shadowClear => true
  | .shadowBuild => true
  | .shadowBuildEnd => true
  | .capProfile _ => true
  | .sylProfile _ => true
  | .hpTrigger _ _ => true
  | .trimBandChange => true
  | .hpsShadowData _ => true
  | .shadowFill => true
  | .publishFlip => true
  | .publishDone => true
  | .publishCopyEnd => true
  | .hpClkReturn => true
  | .hpsProfile _ => true
  | .trainingPhaseEnd port _ lanes => okPort port && decide (lanes < 16)
  | .ident port _ _ => okPort port
  | .noPeerRetry port => okPort port
  | .portRetrain port => okPort port
  | .portDisable port => okPort port
  | .data port _ _ _ _ => okPort port
  | .ack port _ => okPort port
  | .nak port _ => okPort port
  | .replayTimeout port => okPort port
  | .akgalLinkDown port => okPort port
  | .sysCfgWrite _ => true
  | .shareTimeout slot => decide (slot < 256)
  | .snapshotAck => true
  | .snapshotApply => true
  | .mirrorTick => true
  | .pairingTimeout => true
  | .pairAuthFrame => true
  | .pairCopyDone => true
  | .peerSwap => true
  | .peerClaim => true
  | .claimTimeout => true
  | .resume => true
  | .akgProfile _ => true
  | .thermalSample _ _ _ => true
  | .throttleStep => true
  | .throttleRelease => true
  | .thermalRestart => true
  | .sensorFlagged _ _ => true
  | .psh2SensorFlagged _ _ => true
  | .flashWindowClose => true
  | .flashWindowOpen => true
  | .thmProfile _ => true
  | .mfrUnitIndex _ => true
  | .mfrUnitState _ => true
  | .mfrThermal => true
  | .unitReady unit => okUnit unit
  | .unitDrained unit => okUnit unit
  | .ledgerDisagreement unit => okUnit unit
  | .unitPowerOff unit => okUnit unit
  | .tileFault tile _ => decide (tile < 64)
  | .spareStandIn tile => decide (tile < 64)
  | .rcIncrement _ => true
  | .flushPeriod => true
  | .flush _ => true
  | .eraseDone => true
  | .windowRetry => true
  | .flushNow => true
  | .freeze => true
  | .thaw => true
  | .freezeExpiry => true
  | .nonceReq => true
  | .nonceExpiry => true
  | .apply => true
  | .tokenVerified => true
  | .rcSelect _ => true
  | .rcdProfile _ => true
  | .mfrRcCtrl _ _ => true
  | .mfrRcStatus _ => true
  | .mfrRcSelect _ => true
  | .mfrRcRead => true
  | .mfrRcOffset _ => true
  | .mfrRcNonce => true
  | .mfrRcClear _ _ => true
  | .mfrRcOpkey _ _ => true
  | .getVersion => true
  | .getCapabilities => true
  | .negotiateAlgorithms => true
  | .getDigests => true
  | .getCertificate _ _ => true
  | .challenge _ => true
  | .getMeasurements _ _ _ => true
  | .spdmUnsupportedRequest => true
  | .vaultSignature => true
  | .liveRestart => true
  | .confirm _ _ => true
  | .cancel => true
  | .strictSet _ => true
  | .autoConfirm => true
  | .secProfile _ => true
  | .mfrFwStatus => true
  | .mfrFwRecovery _ _ => true
  | .mfrFwRecoveryCtrl _ _ => true
  | .daccessRead _ space addr => okAccess space addr
  | .daccessWrite _ space addr _ => okAccess space addr
  | .daccessDone _ => true
  | .trstN _ => true
  | .debugModeEnter => true
  | .debugModeExit => true
  | .haltReq core _ => okCore core
  | .breakpoint core b _ => okCore core && decide (b < 2)
  | .coreResume core => okCore core
  | .step core _ => okCore core
  | .lockEnd core => okCore core
  | .haltForced core _ => okCore core
  | .traceWpWrite => true
  | .traceBufRead => true
  | .traceClear => true
  | .dbgProfile _ => true
  | .alertResponse => true
  | .quickCommand => true
  | .receiveByte => true
  | .unsupportedCommand _ => true
  | .psh2SupplyLoss => true
  | .portEnable port => okPort port
  | .lowHalfRead reader _ => okReader reader
  | .entropyTestPass => true
  | .macPassEnd _ _ => true

end Sys2Proof
end

