-- ==== Sys2Proof/Safety.lean ====
section
/-!
DEFINITION. Safety.lean: the vocabulary of the statements: which parts of the state a command leaves as they were, when a register access or a PMBus transaction reaches its target, and the invariant that every step keeps.
-/
namespace Sys2Proof.Machine

open Sys2Proof

/-- The components of State beside the register words. -/
inductive Part where
  | mirror | latch | hiStage | lastRead | clock | fresh | slotStraps | host | gpPsh | gpGld | crossHeld | svc | brk | meter | pmb
  | card | mgmt | thermal | sec | dbg | fab | pass | cap | akg | dram | dramEra | nor | pending
  deriving DecidableEq, Repr

/-- A component is the same in two states. -/
def Part.same (p : Part) (s t : State) : Prop :=
  match p with
  | .mirror => t.mirror = s.mirror
  | .latch => t.latch = s.latch
  | .hiStage => t.hiStage = s.hiStage
  | .lastRead => t.lastRead = s.lastRead
  | .clock => t.now = s.now ∧ t.coldAt = s.coldAt
  | .fresh => t.fresh = s.fresh
  | .slotStraps => t.slotStraps = s.slotStraps
  | .host => t.host = s.host
  | .gpPsh => t.gpPsh = s.gpPsh
  | .gpGld => t.gpGld = s.gpGld
  | .crossHeld => t.crossHeld = s.crossHeld
  | .svc => t.svc = s.svc
  | .brk => t.brk = s.brk
  | .meter => t.meter = s.meter
  | .pmb => t.pmb = s.pmb
  | .card => t.card = s.card
  | .mgmt => t.mgmt = s.mgmt
  | .thermal => t.thermal = s.thermal
  | .sec => t.sec = s.sec
  | .dbg => t.dbg = s.dbg
  | .fab => t.fab = s.fab
  | .pass => t.pass = s.pass
  | .cap => t.cap = s.cap
  | .akg => t.akg = s.akg
  | .dram => t.dram = s.dram
  | .dramEra => t.dramEra = s.dramEra
  | .nor => t.nor = s.nor
  | .pending => t.pending = s.pending

/-- A place of the state that a command may change: one register field, a block of register words, every register word of GLD1 (all but PWR and RCD), or a component. -/
inductive Place where
  | fld (f : Fld)
  | words (lo bytes : Nat)
  | gld1
  | part (p : Part)
  deriving DecidableEq, Repr

/-- The place holds bit `i` of the register word at `off`. -/
def Place.holds (off i : Nat) : Place → Bool
  | .fld f => decide (f.off = off) && decide (f.lo ≤ i) && decide (i < f.lo + f.width)
  | .words lo bytes => decide (lo ≤ off) && decide (off < lo + bytes)
  | .gld1 => !isPsh2Word off
  | .part _ => false

/-- What raising an interrupt cause reaches: the cause word, and what the host interface has to send (06 R153, R154). -/
def irqPlaces : List Place := [.fld Reg.GLB_INT_CAUSE.cause, .part .host]

/-- What a GLD1 cold reset reaches (05 R119): GLD1's registers and components; PSH2's registers, the breaker, the metering, the PMBus target, the flash, the pins and the ledger's PSH2 half are not among them. -/
def gld1Places : List Place :=
  [.gld1, .part .mirror, .part .latch, .part .hiStage, .part .clock, .part .fresh, .part .host, .part .gpPsh, .part .gpGld, .part .crossHeld,
    .part .svc, .part .card, .part .thermal, .part .sec, .part .dbg, .part .fab, .part .pass, .part .cap, .part .akg, .part .dram, .part .dramEra]

/-- GLD1's registers and components without LPDDR5X. -/
def gldPlaces : List Place :=
  [.gld1, .part .mirror, .part .latch, .part .hiStage, .part .clock, .part .fresh, .part .host, .part .gpPsh, .part .gpGld, .part .crossHeld,
    .part .svc, .part .card, .part .thermal, .part .sec, .part .dbg, .part .fab, .part .pass, .part .cap, .part .akg]

/-- The frame of a command: from `s` to `t` every register bit and every component outside the places listed is unchanged. -/
def State.only (s t : State) (l : List Place) : Prop :=
  (∀ off i, i < 32 → (∀ p ∈ l, p.holds off i = false) → (t.word off).getLsbD i = (s.word off).getLsbD i) ∧
  ∀ p, Place.part p ∉ l → p.same s t

/-- LPDDR5X keeps every byte outside the `n` bytes from `addr` on of the partition's memory, with `dev` false every byte, and outside the dev_bytes area of `len` bytes from `base` on (06 Table 06-6, 08 R196). -/
def State.dramKeeps (s t : State) (part : Nat) (dev : Bool) (addr n base len : Nat) : Prop :=
  ∀ a, dev = false ∨ a < s.dramAddr part addr ∨ s.dramAddr part addr + n ≤ a →
    a < s.dramAddr part base ∨ s.dramAddr part base + len ≤ a →
    Store.read (dramBlank t.dramEra) t.dram a = Store.read (dramBlank s.dramEra) s.dram a

/-- A BAR0 access reaches its register at once: the host can reach the module, and no Recess state makes the access a wake event (05 R114, R124). -/
abbrev State.bar0Open (s : State) : Prop := s.hostUp = true ∧ s.service ≠ svcRecess ∧ s.service ≠ svcEntering

/-- A BAR0 write to a PWR or RCD register acts in PSH2 at once (03 R80, 01 R13). -/
abbrev State.pshOpen (s : State) : Prop := s.bar0Open ∧ s.gpGld.lost = false ∧ s.pshUp = true

/-- What an off with last_cause `code` does, by breaker state (02 R430, 03 R78); `minOff` tells whether it starts the minimum off time. -/
def State.offTo (s t : State) (code : Nat) (minOff : Bool) : Prop :=
  (s.bk = bkOn ∨ s.bk = bkSoftStart →
    t.get Reg.PWR_STATE.gate_on = 0 ∧ t.bk = bkOffSettled ∧ t.get Reg.PWR_STATE.last_cause = code ∧
    t.get Reg.PWR_STATE.shed_active = (if s.brk.shedBy = [] then 0 else s.get Reg.PWR_STATE.shed_active) ∧ t.get Reg.PWR_STATE.quiesce = 0 ∧
    (s.get Reg.PWR_STATE.gate_on = 1 → t.get Reg.RCD_STATUS.flush_pending = 1) ∧
    t.brk.holdOff = true ∧ t.brk.minOff = (s.brk.minOff || minOff) ∧ t.brk.extracting = false ∧ t.brk.grace = false) ∧
  (s.bk = bkStandby ∨ s.bk = bkQualifying ∨ s.bk = bkBackoff →
    t.bk = bkOffSettled ∧ t.get Reg.PWR_STATE.last_cause = code ∧ t.get Reg.PWR_STATE.retry_count = 0 ∧
    t.brk.holdOff = true ∧ t.brk.minOff = (s.brk.minOff || minOff) ∧ t.get Reg.RCD_STATUS.flush_pending = 1) ∧
  (s.bk = bkLatched → t.brk = { s.brk with rememberedOff := some code } ∧ t.bk = bkLatched ∧ t.get Reg.RCD_STATUS.flush_pending = 1) ∧
  (s.bk = bkPowerFail ∨ s.bk = bkOffSettled → t.bk = s.bk ∧ t.brk = s.brk)

/-- What a trip with last_cause `code` under a policy of `retries` retries does (03 R60, R62, R74). -/
def State.trippedTo (s t : State) (code retries : Nat) : Prop :=
  t.get Reg.PWR_STATE.gate_on = 0 ∧ t.get Reg.PWR_STATE.last_cause = code ∧
  (retries ≤ s.get Reg.PWR_STATE.retry_count →
    t.bk = bkLatched ∧ t.brk.faultLed = true ∧ t.get Reg.PWR_STATE.retry_count = s.get Reg.PWR_STATE.retry_count) ∧
  (s.get Reg.PWR_STATE.retry_count < retries →
    t.bk = bkBackoff ∧ t.brk.faultLed = s.brk.faultLed ∧ t.get Reg.PWR_STATE.retry_count = s.get Reg.PWR_STATE.retry_count + 1)

/-- What a power-fail with last_cause `code` does while the gate path is active (03 R71, R73, R58). -/
def State.failedTo (s t : State) (code : Nat) : Prop :=
  t.get Reg.PWR_STATE.gate_on = 0 ∧ t.get Reg.PWR_STATE.last_cause = code ∧ t.get Reg.PWR_TRIP_STATUS.power_fail = 1 ∧
  t.bk = bkOffSettled ∧ t.get Reg.PWR_STATE.shed_active = (if s.brk.shedBy = [] then 0 else 1) ∧ t.get Reg.PWR_STATE.quiesce = 0 ∧
  t.brk.minOff = true ∧ t.brk.holdOff = false ∧ t.brk.qualDone = false ∧ t.pmb = { s.pmb with stVinUv := true, siVinUv := true }

/-- How a cleared latch leaves Latched (03 R62, 02 R430): to the state of an off remembered meanwhile, else to the start conditions. -/
def State.unlatchedTo (s t : State) : Prop :=
  t.get Reg.PWR_STATE.retry_count = 0 ∧ t.brk.faultLed = false ∧ t.brk.rememberedOff = none ∧
  (s.brk.rememberedOff = none → t.bk = (if s.get Reg.PWR_SLOT_STATUS.lever_open = 0 ∧ s.brk.supplyOk = true then bkQualifying else bkStandby)) ∧
  (∀ code, s.brk.rememberedOff = some code →
    t.bk = bkOffSettled ∧ t.get Reg.PWR_STATE.last_cause = code % 256 ∧ t.brk.holdOff = true)

/-- R105 refuses a calibration: shed, soft-start, power-fail, or a power rule's condition that holds. -/
def State.calBarred (s : State) : Bool :=
  decide (s.get Reg.PWR_STATE.shed_active = 1) || decide (s.bk = bkSoftStart) || decide (s.bk = bkPowerFail) || s.powerHolds

/-- What a calibration request does while none runs or waits (04 R94, R95, R105): refused under R105's conditions, else both converters are taken, as soon as the reference is ready. -/
def State.calTo (s t : State) : Prop :=
  (s.calBarred = true →
    t.get Reg.PWR_ADC_STATUS.cal_refused = 1 ∧ t.get Reg.PWR_ADC_STATUS.cal_busy = 0 ∧ t.meter = s.meter) ∧
  (s.calBarred = false → s.get Reg.PWR_ADC_STATUS.ref_ready = 1 →
    t.get Reg.PWR_ADC_STATUS.cal_busy = 1 ∧ t.meter.a.run = some .cal ∧ t.meter.b.run = some .cal ∧ t.meter.restart = true) ∧
  (s.calBarred = false → s.get Reg.PWR_ADC_STATUS.ref_ready = 0 →
    t.get Reg.PWR_ADC_STATUS.cal_busy = 0 ∧ t.meter = { s.meter with calWaits := true })

/-- The bit a flag gives a status byte. -/
def flagBit (b : Bool) (k : Nat) : Nat := if b then 2 ^ k else 0

/-- The PMBus reads that answer bytes and do nothing else, with those bytes (03 Table 03-12, 04 R93, R107, 12 R341, 13 R372, 16 R425). -/
def State.pmbReads (s : State) : List (Instr × List Byte) := [
  (.statusInput, leBytes 1 (flagBit s.pmb.siVinOv 7 + flagBit s.pmb.siVinUv 4 + flagBit s.pmb.siIinOc 2 + flagBit s.pmb.siIinWarn 1)),
  (.statusCml, leBytes 1 (flagBit s.pmb.cml7 7 + flagBit s.pmb.cml6 6 + flagBit s.pmb.cml5 5)),
  (.operationOn none, leBytes 1 s.pmb.operation),
  (.readVin, leBytes 2 s.readNow.1),
  (.readIin, leBytes 2 s.readNow.2.1),
  (.readPin, leBytes 2 s.readNow.2.2),
  (.mfrPowerState, leBytes 2 (s.word 0xA0000).toNat),
  (.mfrSlotStatus .read, leBytes 2 (s.word 0xA0F00).toNat),
  (.mfrBreakerProfile .read, leBytes 1 (s.get Reg.PWR_PROFILE.profile)),
  (.mfrAdcProfile .read, leBytes 1 (s.get Reg.PWR_ADC_PROFILE.profile)),
  (.mfrRegAddr .read, leBytes 2 s.pmb.regAddr),
  (.mfrMeterAddr .read, leBytes 2 s.pmb.meterAddr),
  (.mfrReadTemps, leBytes 2 (s.tempWord 10) ++ leBytes 2 (s.tempWord 12) ++ leBytes 2 (s.tempWord 11)),
  (.mfrUnitIndex .read, leBytes 2 s.pmb.unitIndex),
  (.mfrUnitState .read, leBytes 2 ((s.mgmtOf s.pmb.unitIndex).mgmt + flagBit (s.mgmtOf s.pmb.unitIndex).lock 3 +
    flagBit (s.mgmtOf s.pmb.unitIndex).pgood 4 + s.get (Reg.FAB_LEDGER.data_state s.pmb.unitIndex) * 256 +
    flagBit (!pairAgrees (s.mgmtOf s.pmb.unitIndex).mgmt (s.get (Reg.FAB_LEDGER.data_state s.pmb.unitIndex))) 11)),
  (.mfrThermal, leBytes 2 (s.word 0x90010).toNat ++
    leBytes 2 (((s.hottestOf (List.range 16)).map (fun x => linear11 (-3) x.1 8)).getD 0x7FFF) ++
    leBytes 2 (((s.hottestOf [17, 18]).map (fun x => linear11 (-3) x.1 8)).getD 0x7FFF)),
  (.mfrRcStatus .read, leBytes 2 (s.word 0xB0010).toNat),
  (.mfrRcSelect .read, leBytes 2 (s.card.selPmb + flagBit s.card.readyPmb 15)),
  (.mfrRcOffset .read, leBytes 2 s.pmb.rcOffset),
  (.mfrRcNonce, leBytes 4 (s.get Reg.RCD_CLEAR_NONCE.nonce))]

/-- A transaction PSH2 does not accept: no such code, a direction the command lacks, an OPERATION value without a meaning (16 R425). -/
def refusedTransaction : Unsupported → Bool
  | .code c => !pmbCodes.contains c
  | .direction c => pmbOneWay.contains c
  | .operation v => decide (v % 256 ≠ 0x80) && decide (v % 256 ≠ 0x40) && decide (v % 256 ≠ 0)

/-- A trigger with cause bit `bit` makes a flush due (13 R350); one that waited after a failed retry is ready again (13 R369). -/
def State.dueTo (s t : State) (bit : Nat) : Prop :=
  t.get Reg.RCD_STATUS.flush_pending = 1 ∧ t.card.due = s.card.due ||| 2 ^ bit ∧
  t.card.failures = (if s.card.failures = 2 then 0 else s.card.failures) ∧ t.card.live = s.card.live ∧ t.card.blocks = s.card.blocks

/-- The block a flush programs: the snapshot of the live summary under the next sequence number, and its commit word (13 R347, R351). -/
def State.flushBlock (s : State) : List Byte :=
  s.snapshot s.card.live (s.snapBits s.card.due) (s.get Reg.RCD_LAST_SEQ.last_seq + 1) ++ leBytes 4 0

/-- What mirroring a configuration write to a Deputy reaches (11 Table 11-6). -/
def cfgPlaces : List Place := [.fld (Reg.AKG_PORT_RETRAIN.replay_fill 0), .part .akg, .part .fresh]

/-- The entry of descriptor `id` waits with this status and these results, and the descriptor's work has ended (06 R144, R147). -/
def State.ends (t : State) (id status r0 r1 : Nat) : Prop :=
  (∃ h ∈ t.host.held, h.flight = some id ∧ h.entry.status = status ∧ h.entry.result0 = r0 ∧ h.entry.result1 = r1) ∧
  ∀ f, t.flight id = some f → f.stage = .ended ∧ f.status = status

/-- The places a descriptor's ending reaches: the host interface, and HPS_STATUS.publish_pending. -/
def endPlaces : List Place := [.fld Reg.HPS_STATUS.publish_pending, .part .host]

/-- Table 16-7: the words of the slot-safe rules, CFG, LEVEL, DURATION and WINDOW of rules 0 to 7. -/
def slotSafeRules : List (Nat × Word) := [
  (0xA0100, 0x00003024), (0xA0104, 0x000004E2), (0xA0108, 0x00010001), (0xA010C, 0x00000014),
  (0xA0110, 0x00003024), (0xA0114, 0x000003E8), (0xA0118, 0x00010001), (0xA011C, 0x000003E8),
  (0xA0120, 0x00003021), (0xA0124, 0x0000047E), (0xA0128, 0x00000064), (0xA012C, 0),
  (0xA0130, 0x0000F023), (0xA0134, 0x000005AA), (0xA0138, 0x0000000A), (0xA013C, 0),
  (0xA0140, 0x00000012), (0xA0144, 0x0000041A), (0xA0148, 0x00000064), (0xA014C, 0),
  (0xA0150, 0x00000025), (0xA0154, 0x0000044C), (0xA0158, 0x000103E8), (0xA015C, 0),
  (0xA0160, 0x00000016), (0xA0164, 0), (0xA0168, 0x00000001), (0xA016C, 0),
  (0xA0170, 0), (0xA0174, 0), (0xA0178, 0), (0xA017C, 0)]

/-- Tables 16-5 and 16-6, the words that no firmware, fuse or pin loads: first offset, distance and number of the copies, and value. -/
def resetListed : List (Nat × Nat × Nat × Word) := [
  (0x8, 0x4, 1, 0x2484840), (0xC, 0x4, 1, 0x40400800), (0x10, 0x4, 1, 0x1002048), (0x14, 0x4, 1, 0x208400),
  (0x100, 0x4, 1, 0x1), (0x10C, 0x4, 1, 0xA08), (0x204, 0x4, 1, 0xFFFF),
  (0x10000, 0x4, 1, 0x1), (0x10010, 0x4, 1, 0x840), (0x11008, 0x20, 64, 0x100006), (0x11010, 0x20, 64, 0x1), (0x12008, 0x20, 64, 0x3006), (0x1200C, 0x20, 64, 0x80010), (0x12010, 0x20, 64, 0x10000), (0x13000, 0x4, 1, 0xFFFF), (0x13004, 0x4, 4, 0xFFFFFFFF), (0x13014, 0x4, 1, 0x8000), (0x13018, 0x4, 1, 0x7FF), (0x1301C, 0x4, 1, 0x800),
  (0x20000, 0x4, 1, 0xAAF0), (0x20010, 0x4, 1, 0xFFFF), (0x30008, 0x4, 1, 0x400004), (0x3000C, 0x4, 1, 0x3E80008),
  (0x40020, 0x4, 8, 0x100), (0x50008, 0x4, 1, 0x14), (0x5012C, 0x40, 2, 0xA), (0x50628, 0x40, 8, 0x10409), (0x5062C, 0x40, 8, 0x400000), (0x60008, 0x4, 1, 0xFF00), (0x6000C, 0x4, 1, 0x3F800000),
  (0x7000C, 0x4, 1, 0xA080A05), (0x7010C, 0x20, 4, 0x2), (0x70200, 0x4, 64, 0x10000), (0x90008, 0x4, 1, 0x3645F), (0x9000C, 0x4, 1, 0x18030A14), (0x90200, 0x4, 22, 0x8000), (0xC000C, 0x4, 1, 0x6), (0xD0100, 0x4, 1, 0x1B0004), (0xD0138, 0x4, 1, 0xC), (0xD0210, 0x20, 8, 0xF00),
  (0xA0F04, 0x4, 1, 0x1400), (0xA0010, 0x4, 1, 0x140804), (0xA0014, 0x4, 1, 0xC8000278), (0xA0018, 0x4, 1, 0xA0064), (0xA001C, 0x4, 1, 0xA143C0F), (0xA0020, 0x4, 1, 0xC802C8), (0xA0024, 0x4, 1, 0x3C03), (0xA01C0, 0x4, 1, 0xA), (0xA0434, 0x8, 2, 0x400000), (0xA0700, 0x8, 32, 0x7FFFFF), (0xA0704, 0x8, 32, 0x800000), (0xB0008, 0x4, 1, 0x3C0A)]

/-- The invariant of every step: the register words, GLD1's mirror of PSH2's, the latched and the waiting high halves, LPDDR5X and the serial flash are in canonical form, so that equal contents are equal data. -/
def State.Inv (s : State) : Prop :=
  Store.wf resetWord s.regs = true ∧ Store.wf resetWord s.mirror = true ∧ Store.wf noHalf s.latch = true ∧
  Store.wf noHalf s.hiStage = true ∧ Store.wf (dramBlank s.dramEra) s.dram = true ∧ Store.wf norBlank s.nor = true

/-- From `s` to `t` no waiting command is lost or added, and the canonical form is kept. -/
def State.Kept (s t : State) : Prop := t.pending = s.pending ∧ (s.Inv → t.Inv)

end Sys2Proof.Machine
end

