-- ==== Sys2Proof/Certificates/Slice0/Obligations.lean ====
section
/-!
DEFINITION. Certificates/Slice0/Obligations.lean: the statements about the model, from the numbered rules of spec/.
-/
open Sys2Proof Sys2Proof.Machine

/-- LEVER_OPEN and LEVER_CLOSE (02 R28, R47, R49; 03 R29): the lever's bits, the request an open lever makes while the gate is on, the lever-direct grace time, the return to Standby, and the withdrawal of the request at a closure. While the lever is open the 50 ms count cannot be complete, which is the second premise of the closure. QUALIFY_COMPLETE and QUALIFY_BREAK (02 R28, R48; 03 R62, R73): PSH2 samples the straps and its address follows; a state that waits on VOUT or on the minimum off time keeps the completed count; a broken condition starts it again, and with the lever closed the condition that broke is the supply's. Model's own readings and choices it may rest on, in notes/assumptions: DESIGN CHOICE 2; DEDUCED 8, 26. -/
def Obligations.LeverAndQualificationActTogether : Prop :=
  (∀ (s : State),
    s.svc.pshPower = true →
    s.get Reg.PWR_SLOT_STATUS.lever_open = 0 →
    ∃ t, exec (.leverOpen) s = .next t ∧
      t.get Reg.PWR_SLOT_STATUS.lever_open = 1 ∧
      t.get Reg.PWR_SLOT_STATUS.lever_event = 1 ∧
      t.get Reg.PWR_SLOT_STATUS.off_request = (if s.get Reg.PWR_STATE.gate_on = 1 then 1 else s.get Reg.PWR_SLOT_STATUS.off_request) ∧
      t.brk = { s.brk with
        qualDone := false
        extracting := decide (s.get Reg.PWR_STATE.gate_on = 1)
        grace := decide (s.get Reg.PWR_STATE.gate_on = 1 ∧ s.get Reg.PWR_SLOT_CTRL.profile = 1) } ∧
      t.bk = (if s.bk = bkQualifying then bkStandby else s.bk) ∧
      s.only t (([.fld Reg.PWR_SLOT_STATUS.lever_open, .fld Reg.PWR_SLOT_STATUS.lever_event, .fld Reg.PWR_SLOT_STATUS.off_request, .fld Reg.PWR_SLOT_STATUS.remove_led, .fld Reg.PWR_STATE.state, .part .brk, .part .pmb] : List Place) ++ irqPlaces)) ∧
  (∀ (s : State),
    s.svc.pshPower = true →
    s.get Reg.PWR_SLOT_STATUS.lever_open = 1 →
    s.brk.qualDone = false →
    ∃ t, exec (.leverClose) s = .next t ∧
      t.get Reg.PWR_SLOT_STATUS.lever_open = 0 ∧
      t.get Reg.PWR_SLOT_STATUS.lever_event = 1 ∧
      t.brk = { s.brk with
        extracting := false
        grace := false
        holdOff := decide (s.brk.holdOff = true ∧ s.bk ≠ bkOffSettled) } ∧
      t.bk = (if (s.bk = bkOffSettled ∧ s.brk.holdOff = true) ∨ (s.bk = bkStandby ∧ s.pshUp = true) then
        (if s.brk.supplyOk = true then bkQualifying else bkStandby) else s.bk) ∧
      s.only t (([.fld Reg.PWR_SLOT_STATUS.lever_open, .fld Reg.PWR_SLOT_STATUS.lever_event, .fld Reg.PWR_SLOT_STATUS.remove_led, .fld Reg.PWR_STATE.state, .part .brk, .part .pmb] : List Place) ++ irqPlaces)) ∧
  (∀ (s : State),
    s.pshUp = true →
    s.get Reg.PWR_SLOT_STATUS.lever_open = 0 →
    (s.bk ≠ bkOffSettled ∨ s.brk.minOff = true) →
    (s.brk.voutLow = false ∨ s.brk.minOff = true) →
    ∃ t, exec (.qualifyComplete) s = .next t ∧
      t.get Reg.PWR_SLOT_STATUS.psh2_slot_id = s.slotStraps % 32 ∧
      t.pmb.address = 0x40 + s.slotStraps % 32 ∧
      t.get Reg.PWR_SLOT_STATUS.slot_id_differ = (if s.slotStraps % 32 = s.get Reg.GLB_SLOT.slot_id then 0 else 1) ∧
      t.brk = { s.brk with qualDone := true, supplyOk := true } ∧
      t.bk = (if s.bk = bkStandby then bkQualifying else s.bk) ∧
      s.only t (([.fld Reg.PWR_SLOT_STATUS.psh2_slot_id, .fld Reg.PWR_SLOT_STATUS.slot_id_differ, .fld Reg.PWR_SLOT_STATUS.remove_led, .fld Reg.PWR_STATE.state, .part .brk, .part .pmb] : List Place) ++ irqPlaces)) ∧
  (∀ (s : State),
    s.svc.pshPower = true →
    ∃ t, exec (.qualifyBreak) s = .next t ∧
      t.brk = { s.brk with qualDone := false, supplyOk := s.brk.supplyOk && s.flag Reg.PWR_SLOT_STATUS.lever_open } ∧
      t.bk = (if s.bk = bkQualifying then bkStandby else s.bk) ∧
      s.only t [.fld Reg.PWR_STATE.state, .fld Reg.PWR_SLOT_STATUS.remove_led, .part .brk])

/-- The soft-start begins when the last of its conditions comes, whichever that is (03 R53, R62, R73; 13 R355): the gate turns on, the discharge path opens and GLD1 takes its cold reset, as a GLD1 image without a trial or a pending activation takes it. The ends of the breaker's waits while the 50 ms count is not complete (02 R28; 03 R29, R53, R54, R62, R73; 05 R111). Model's own readings and choices it may rest on, in notes/assumptions: DEDUCED 8, 26, 104. -/
def Obligations.WaitsEndInSoftStartOrTheirState : Prop :=
  (∀ (s : State),
    s.pshUp = true →
    s.get Reg.PWR_SLOT_STATUS.lever_open = 0 →
    s.bk = bkQualifying →
    s.brk.voutLow = true →
    s.brk.minOff = false →
    (s.get Reg.RCD_STATUS.reserve_ready = 1 ∨ s.get Reg.RCD_STATUS.window_closed = 1) →
    s.sec.gld.trial = false →
    s.sec.gld.pending = false →
    ∃ t, exec (.qualifyComplete) s = .next t ∧
      t.get Reg.PWR_STATE.gate_on = 1 ∧
      t.bk = bkSoftStart ∧
      t.brk = { s.brk with qualDone := true, supplyOk := true, discharge := false, minOff := false, regsUp := 0 } ∧
      t.svc.rstLow = true ∧
      s.only t (([.fld Reg.PWR_STATE.state, .fld Reg.PWR_STATE.gate_on, .fld Reg.PWR_SLOT_STATUS.psh2_slot_id, .fld Reg.PWR_SLOT_STATUS.slot_id_differ, .fld Reg.PWR_SLOT_STATUS.remove_led, .fld Reg.PWR_ADC_STATUS.lp_active, .part .brk, .part .meter, .part .pmb] : List Place) ++ gld1Places)) ∧
  (∀ (s : State),
    s.svc.pshPower = true →
    s.brk.discharge = true →
    s.get Reg.PWR_SLOT_STATUS.lever_open = 0 →
    s.bk = bkQualifying →
    s.brk.qualDone = true →
    s.brk.minOff = false →
    (s.get Reg.RCD_STATUS.reserve_ready = 1 ∨ s.get Reg.RCD_STATUS.window_closed = 1) →
    s.sec.gld.trial = false →
    s.sec.gld.pending = false →
    ∃ t, exec (.dischargeComplete) s = .next t ∧
      t.get Reg.PWR_STATE.gate_on = 1 ∧
      t.bk = bkSoftStart ∧
      t.brk = { s.brk with voutLow := true, discharge := false, minOff := false, regsUp := 0 } ∧
      t.svc.rstLow = true ∧
      s.only t (([.fld Reg.PWR_STATE.state, .fld Reg.PWR_STATE.gate_on, .fld Reg.PWR_SLOT_STATUS.remove_led, .fld Reg.PWR_ADC_STATUS.lp_active, .part .brk, .part .meter] : List Place) ++ gld1Places)) ∧
  (∀ (s : State),
    s.svc.pshPower = true →
    s.brk.minOff = true →
    s.get Reg.PWR_SLOT_STATUS.lever_open = 0 →
    s.bk = bkOffSettled →
    s.brk.holdOff = false →
    s.brk.qualDone = true →
    s.brk.supplyOk = true →
    s.brk.voutLow = true →
    (s.get Reg.RCD_STATUS.reserve_ready = 1 ∨ s.get Reg.RCD_STATUS.window_closed = 1) →
    s.sec.gld.trial = false →
    s.sec.gld.pending = false →
    ∃ t, exec (.minOffEnd) s = .next t ∧
      t.get Reg.PWR_STATE.gate_on = 1 ∧
      t.bk = bkSoftStart ∧
      t.brk = { s.brk with discharge := false, minOff := false, regsUp := 0 } ∧
      t.svc.rstLow = true ∧
      s.only t (([.fld Reg.PWR_STATE.state, .fld Reg.PWR_STATE.gate_on, .fld Reg.PWR_SLOT_STATUS.remove_led, .fld Reg.PWR_ADC_STATUS.lp_active, .part .brk, .part .meter] : List Place) ++ gld1Places)) ∧
  (∀ (s : State),
    s.brk.discharge = true →
    s.brk.qualDone = false →
    ∃ t, exec (.dischargeComplete) s = .next t ∧
      t.brk = { s.brk with voutLow := true } ∧
      s.only t [.part .brk]) ∧
  (∀ (s : State),
    s.bk = bkBackoff →
    s.brk.qualDone = false →
    ∃ t, exec (.backoffEnd) s = .next t ∧
      t.bk = (if s.get Reg.PWR_SLOT_STATUS.lever_open = 0 ∧ s.brk.supplyOk = true then bkQualifying else bkStandby) ∧
      s.only t [.fld Reg.PWR_STATE.state, .fld Reg.PWR_SLOT_STATUS.remove_led]) ∧
  (∀ (s : State),
    s.brk.minOff = true →
    s.brk.qualDone = false →
    ∃ t, exec (.minOffEnd) s = .next t ∧
      t.brk = { s.brk with minOff := false } ∧
      t.bk = (if s.bk = bkOffSettled ∧ s.brk.holdOff = false then
        (if s.get Reg.PWR_SLOT_STATUS.lever_open = 0 ∧ s.brk.supplyOk = true then bkQualifying else bkStandby) else s.bk) ∧
      s.only t [.fld Reg.PWR_STATE.state, .fld Reg.PWR_SLOT_STATUS.remove_led, .part .brk]) ∧
  (∀ (s : State),
    s.bk = bkOn →
    ∃ t, exec (.retryClear) s = .next t ∧
      t.get Reg.PWR_STATE.retry_count = 0 ∧
      s.only t [.fld Reg.PWR_STATE.retry_count]) ∧
  (∀ (s : State),
    s.bk = bkSoftStart →
    ∃ t, exec (.powerGood) s = .next t ∧
      t.bk = bkOn ∧
      t.svc = { s.svc with powerGoodAt := s.now } ∧
      t.get Reg.RCD_STATUS.flush_pending = 1 ∧
      t.card.due = s.card.due ||| 4 ∧
      s.only t [.fld Reg.PWR_STATE.state, .fld Reg.PWR_SLOT_STATUS.remove_led, .fld Reg.RCD_STATUS.flush_pending, .part .card, .part .svc]) ∧
  (∀ (s : State),
    s.bk = bkOn →
    s.brk.regsUp < 4 →
    ∃ t, exec (.plRegulatorUp) s = .next t ∧
      t.brk = { s.brk with regsUp := s.brk.regsUp + 1 } ∧
      s.only t [.part .brk])

/-- The orderly off (02 R430) and the immediate off (03 R78) by breaker state: with the gate path active they turn it off and settle; from Standby, Qualifying and Backoff they settle with the retry count at 0; while Latched the last of them is remembered; but for an off without the gate on in the first two, each makes the gate-off flush (13 Table 13-6). Model's own readings and choices it may rest on, in notes/assumptions: DEDUCED 8, 26, 27; DESIGN CHOICE 128. -/
def Obligations.OffCommandsFollowTheBreakerState : Prop :=
  (∀ (s : State),
    s.pshOpen →
    ∃ t, exec (.powerOff) s = .next t ∧
      s.offTo t 6 false ∧
      s.only t (([.fld Reg.PWR_ADC_STATUS.cal_busy, .fld Reg.PWR_ADC_STATUS.cal_refused, .fld Reg.PWR_ADC_STATUS.lp_active, .fld Reg.RCD_STATUS.flush_pending, .fld Reg.PWR_SLOT_STATUS.remove_led, .words 0xA0000 4, .part .brk, .part .meter] : List Place) ++ gld1Places)) ∧
  (∀ (s : State),
    s.svc.pshPower = true →
    s.brk.grace = true →
    s.get Reg.PWR_SLOT_STATUS.lever_open = 1 →
    ∃ t, exec (.extractGraceEnd) s = .next t ∧
      (s.withBrk { s.brk with grace := false }).offTo t 6 false ∧
      s.only t (([.fld Reg.PWR_ADC_STATUS.cal_busy, .fld Reg.PWR_ADC_STATUS.cal_refused, .fld Reg.PWR_ADC_STATUS.lp_active, .fld Reg.RCD_STATUS.flush_pending, .fld Reg.PWR_SLOT_STATUS.remove_led, .words 0xA0000 4, .part .brk, .part .meter] : List Place) ++ gld1Places)) ∧
  (∀ (s : State),
    s.pshUp = true →
    ∃ t, exec (.operationSoftOff .whole) s = .next t ∧
      s.offTo t 6 false ∧
      t.pmb = { s.pmb with acked := true, operation := 0x40 } ∧
      s.only t (([.fld Reg.PWR_ADC_STATUS.cal_busy, .fld Reg.PWR_ADC_STATUS.cal_refused, .fld Reg.PWR_ADC_STATUS.lp_active, .fld Reg.RCD_STATUS.flush_pending, .fld Reg.PWR_SLOT_STATUS.remove_led, .words 0xA0000 4, .part .brk, .part .meter, .part .pmb] : List Place) ++ gld1Places)) ∧
  (∀ (s : State),
    s.pshUp = true →
    ∃ t, exec (.operationImmediateOff .whole) s = .next t ∧
      s.offTo t 7 true ∧
      t.pmb = { s.pmb with acked := true, operation := 0 } ∧
      s.only t (([.fld Reg.PWR_ADC_STATUS.cal_busy, .fld Reg.PWR_ADC_STATUS.cal_refused, .fld Reg.PWR_ADC_STATUS.lp_active, .fld Reg.RCD_STATUS.flush_pending, .fld Reg.PWR_SLOT_STATUS.remove_led, .words 0xA0000 4, .part .brk, .part .meter, .part .pmb] : List Place) ++ gld1Places))

/-- PSH2's supply and image (02 R48; 05 R110, R119): at power-on and at the loss of the supply the breaker and all register words return to reset while the straps, the lever and the clock of the model stay, and both dies' slot addresses read the straps (Tables 01-9, 02-9); the image's first start samples SLOT_ID, and a closed lever in Standby starts to qualify. Model's own readings and choices it may rest on, in notes/assumptions: DESIGN CHOICE 1, 2, 122. -/
def Obligations.Psh2SupplyAndImageStart : Prop :=
  (∀ (s : State),
    ∃ t, exec (.psh2PowerOn) s = .next t ∧
      t.svc.pshPower = true ∧
      t.svc.pshRun = false ∧
      t.svc.rstLow = true ∧
      t.brk = Breaker.reset ∧
      t.bk = bkStandby ∧
      t.get Reg.PWR_STATE.gate_on = 0 ∧
      t.service = svcBoot ∧
      t.get Reg.PWR_SLOT_STATUS.lever_open = s.get Reg.PWR_SLOT_STATUS.lever_open ∧
      t.get Reg.GLB_SLOT.slot_id = s.slotStraps % 32 ∧
      t.get Reg.PWR_SLOT_STATUS.psh2_slot_id = s.slotStraps % 32 ∧
      t.slotStraps = s.slotStraps ∧
      t.pending = s.pending) ∧
  (∀ (s : State),
    s.svc.pshPower = true →
    ∃ t, exec (.psh2SupplyLoss) s = .next t ∧
      t.svc.pshPower = false ∧
      t.brk = Breaker.reset ∧
      t.card = { Recorder.reset with opKey := s.card.opKey } ∧
      (∀ off, off ≠ 0xA0F00 → off ≠ Reg.GLB_SLOT.slot_id.off → t.word off = resetWord off) ∧
      t.get Reg.GLB_SLOT.slot_id = s.slotStraps % 32 ∧
      t.get Reg.PWR_SLOT_STATUS.psh2_slot_id = s.slotStraps % 32 ∧
      t.get Reg.PWR_SLOT_STATUS.lever_open = s.get Reg.PWR_SLOT_STATUS.lever_open ∧
      t.nor = s.nor ∧
      t.slotStraps = s.slotStraps ∧
      t.pending = s.pending) ∧
  (∀ (s : State),
    s.svc.pshPower = true →
    s.svc.romRecovery = false →
    s.svc.pshRun = false →
    s.sec.restarting = false →
    s.brk.qualDone = false →
    ∃ t, exec (.psh2ImageRun) s = .next t ∧
      t.svc = { s.svc with pshRun := true } ∧
      t.get Reg.PWR_SLOT_STATUS.psh2_slot_id = s.slotStraps % 32 ∧
      t.pmb.address = 0x40 + s.slotStraps % 32 ∧
      t.bk = (if s.bk = bkStandby ∧ s.get Reg.PWR_SLOT_STATUS.lever_open = 0 ∧ s.brk.supplyOk = true then bkQualifying else s.bk) ∧
      s.only t (([.fld Reg.PWR_SLOT_STATUS.psh2_slot_id, .fld Reg.PWR_SLOT_STATUS.slot_id_differ, .fld Reg.PWR_SLOT_STATUS.remove_led, .fld Reg.PWR_STATE.state, .words 0xC0000 0x10000, .part .svc, .part .sec, .part .pmb] : List Place) ++ irqPlaces))

/-- A trip decision (03 R55 to R57, R60, R62, R74): the gate turns off, last_cause and PWR_TRIP_STATUS name the cause, and the retry count of the policy decides between Backoff and Latched. A fast trip whose evaluation has no rule due has the comparator's policy alone; every rule that fires in it is recorded, and an undervoltage trip rule among them goes on as a power-fail. The power-fail sequence (03 R58, R71, R73, R74; 15 R418): from On or SoftStart the gate turns off with the cause, and Off-Settled starts the minimum off time with no hold; while Latched the block is written and the state stays; from Qualifying and Backoff it settles (the model's choice, log 129); R28's count starts again; elsewhere only a halted PSH2 core resumes. Model's own readings and choices it may rest on, in notes/assumptions: DEDUCED 26, 27, 30, 116; DESIGN CHOICE 129. -/
def Obligations.TripsAndPowerFailsSettle : Prop :=
  (∀ (s : State),
    s.bk = bkSoftStart →
    ∃ t, exec (.soaInrush) s = .next t ∧
      s.trippedTo t 2 (s.get Reg.PWR_RETRY_CFG.hw_retries) ∧
      t.get Reg.PWR_TRIP_STATUS.soa_inrush = 1 ∧
      s.only t (([.fld Reg.PWR_TRIP_STATUS.soa_inrush, .fld Reg.PWR_ADC_STATUS.cal_busy, .fld Reg.PWR_ADC_STATUS.cal_refused, .fld Reg.PWR_ADC_STATUS.lp_active, .fld Reg.RCD_STATUS.flush_pending, .fld Reg.PWR_SLOT_STATUS.remove_led, .words 0xA0000 4, .part .brk, .part .meter, .part .pmb] : List Place) ++ gld1Places)) ∧
  (∀ (s : State),
    (s.bk = bkSoftStart ∨ s.bk = bkOn) →
    ∃ t, exec (.soaLimit) s = .next t ∧
      s.trippedTo t 3 (s.get Reg.PWR_RETRY_CFG.hw_retries) ∧
      t.get Reg.PWR_TRIP_STATUS.soa_limit = 1 ∧
      s.only t (([.fld Reg.PWR_TRIP_STATUS.soa_limit, .fld Reg.PWR_ADC_STATUS.cal_busy, .fld Reg.PWR_ADC_STATUS.cal_refused, .fld Reg.PWR_ADC_STATUS.lp_active, .fld Reg.RCD_STATUS.flush_pending, .fld Reg.PWR_SLOT_STATUS.remove_led, .words 0xA0000 4, .part .brk, .part .meter, .part .pmb] : List Place) ++ gld1Places)) ∧
  (∀ (s : State) (rules : List Nat),
    (s.bk = bkSoftStart ∨ s.bk = bkOn) →
    s.get Reg.PWR_STATE.gate_on = 1 →
    ∃ t, exec (.fastTrip rules) s = .next t ∧
      t.get Reg.PWR_STATE.gate_on = 0 ∧
      t.get Reg.PWR_TRIP_STATUS.fast_trip = 1 ∧
      (s.pshUp = true → ∀ n ∈ s.dueRules rules, (t.get Reg.PWR_TRIP_STATUS.rule_trip).testBit n = true) ∧
      (s.pshUp = true → (∃ n ∈ s.dueRules rules, 2 ≤ s.live? (Reg.PWR_RULE_CFG.action n) ∧ s.live? (Reg.PWR_RULE_CFG.kind n) = 2) ∨
        t.get Reg.PWR_STATE.last_cause = 1 ∧ (t.bk = bkBackoff ∨ t.bk = bkLatched)) ∧
      (s.pshUp = false ∨ s.dueRules rules = [] → s.trippedTo t 1 (s.get Reg.PWR_RETRY_CFG.hw_retries)) ∧
      s.only t (([.fld Reg.PWR_TRIP_STATUS.fast_trip, .fld Reg.PWR_TRIP_STATUS.rule_trip, .fld Reg.PWR_TRIP_STATUS.power_fail, .fld Reg.PWR_ADC_STATUS.cal_busy, .fld Reg.PWR_ADC_STATUS.cal_refused, .fld Reg.PWR_ADC_STATUS.lp_active, .fld Reg.PWR_SLOT_STATUS.remove_led, .words 0xA0000 4, .words 0xB0000 0x10000, .part .brk, .part .meter, .part .pmb, .part .nor] : List Place) ++ gld1Places)) ∧
  (∀ (s : State),
    s.svc.pshPower = true →
    ∃ t, exec (.powerFail) s = .next t ∧
      (s.bk = bkOn ∨ s.bk = bkSoftStart → s.failedTo t 5) ∧
      (s.bk = bkLatched → t.get Reg.PWR_TRIP_STATUS.power_fail = 1 ∧ t.bk = bkLatched ∧ t.brk = { s.brk with qualDone := false }) ∧
      (s.bk = bkQualifying ∨ s.bk = bkBackoff → t.bk = bkOffSettled ∧ t.get Reg.PWR_STATE.last_cause = 5 ∧ t.brk.minOff = true ∧ t.brk.qualDone = false) ∧
      (s.bk = bkStandby ∨ s.bk = bkOffSettled ∨ s.bk = bkPowerFail →
        s.only t [.fld Reg.DBG_STATUS.halted, .fld Reg.DBG_STATUS.deferred, .fld Reg.DBG_STATUS.psh2_halted, .fld Reg.DBG_STATUS.psh2_deferred, .part .dbg]) ∧
      t.halted 4 = false ∧
      s.only t (([.fld Reg.PWR_TRIP_STATUS.power_fail, .fld Reg.PWR_ADC_STATUS.cal_busy, .fld Reg.PWR_ADC_STATUS.cal_refused, .fld Reg.PWR_ADC_STATUS.lp_active, .fld Reg.PWR_SLOT_STATUS.remove_led, .words 0xA0000 4, .words 0xB0000 0x10000, .part .brk, .part .meter, .part .pmb, .part .nor] : List Place) ++ gld1Places)) ∧
  (∀ (s : State),
    s.get Reg.PWR_STATE.gate_on = 1 →
    (s.bk = bkOn ∨ s.bk = bkSoftStart) →
    ∃ t, exec (.reverseCurrent) s = .next t ∧
      s.failedTo t 4 ∧
      t.get Reg.PWR_TRIP_STATUS.reverse_current = 1 ∧
      s.only t (([.fld Reg.PWR_TRIP_STATUS.power_fail, .fld Reg.PWR_TRIP_STATUS.reverse_current, .fld Reg.PWR_ADC_STATUS.cal_busy, .fld Reg.PWR_ADC_STATUS.cal_refused, .fld Reg.PWR_ADC_STATUS.lp_active, .fld Reg.PWR_SLOT_STATUS.remove_led, .words 0xA0000 4, .words 0xB0000 0x10000, .part .brk, .part .meter, .part .pmb, .part .nor] : List Place) ++ gld1Places))

/-- One evaluation (03 R59, R61, R102, Table 03-9): the fast tick takes the fast monitors' sample, sets limiting and judges the rules of kinds 1, 2, 3 and 6; the power tick judges kind 4; the temperature tick judges kind 5. After each, a rule's timer holds exactly when its condition does, and the timers of rules of other kinds are untouched. VIN back at 10.8 V completes R28's supply conditions, and Standby with the lever closed goes to Qualifying (02 R28); a broken supply has no completed count, which is that clause's premise. Model's own readings and choices it may rest on, in notes/assumptions: DESIGN CHOICE 12; DEDUCED 25, 29, 30, 31. -/
def Obligations.RuleEvaluationHoldsTimers : Prop :=
  (∀ (s : State) (iin vin : Nat),
    s.svc.pshPower = true →
    s.brk.timers.length = 8 →
    (s.brk.supplyOk = true ∨ s.brk.qualDone = false) →
    ∃ t, exec (.ruleEvaluation (.fast iin vin)) s = .next t ∧
      t.brk.iin = iin ∧ t.brk.vin = vin ∧
      t.brk.supplyOk = (s.brk.supplyOk || decide (1080 ≤ vin)) ∧
      t.bk = (if s.brk.supplyOk = false ∧ 1080 ≤ vin ∧ s.bk = bkStandby ∧ s.get Reg.PWR_SLOT_STATUS.lever_open = 0 ∧ s.pshUp = true then bkQualifying else s.bk) ∧
      t.get Reg.PWR_STATE.limiting = (if s.get Reg.PWR_STATE.gate_on = 1 ∧ 10 * s.activeLimit ≤ iin then 1 else 0) ∧
      (∀ n, n < 8 → (t.timer n).holding = (if s.ruleIs n [1, 2, 3, 6] then t.fastHolds n else (s.timer n).holding)) ∧
      (∀ n, n < 8 → s.ruleIs n [1, 2, 3, 6] = false → t.timer n = s.timer n) ∧
      s.only t [.fld Reg.PWR_STATE.limiting, .fld Reg.PWR_STATE.state, .fld Reg.PWR_SLOT_STATUS.remove_led, .words 0xA0030 0x10, .part .brk, .part .card, .part .pmb, .part .meter]) ∧
  (∀ (s : State) (since period : Nat),
    s.svc.pshPower = true →
    s.brk.timers.length = 8 →
    s.get Reg.PWR_ADC_STATUS.cal_busy = 0 →
    ∃ t, exec (.ruleEvaluation (.power since period)) s = .next t ∧
      (∀ n, n < 8 → (t.timer n).holding = (if s.ruleIs n [4] then s.powerRuleHolds n since else (s.timer n).holding)) ∧
      (∀ n, n < 8 → s.ruleIs n [4] = false → t.timer n = s.timer n) ∧
      s.only t [.words 0xA0030 0x10, .part .brk, .part .card]) ∧
  (∀ (s : State),
    s.svc.pshPower = true →
    s.brk.timers.length = 8 →
    ∃ t, exec (.ruleEvaluation .temperature) s = .next t ∧
      (∀ n, n < 8 → (t.timer n).holding = (if s.ruleIs n [5] then s.tempHolds n else (s.timer n).holding)) ∧
      (∀ n, n < 8 → s.ruleIs n [5] = false → t.timer n = s.timer n) ∧
      s.only t [.words 0xA0030 0x10, .part .brk, .part .card])

/-- The action of one due rule n (03 R60, R61, R62, R64, Table 03-10): a limit rule limits; a shed rule asks for GP_SHED; a slow trip rule opens its confirmation window and sheds meanwhile, and the window's end trips if the condition never cleared and counts a near-miss otherwise; a fast trip rule trips at once, an undervoltage trip rule as a power-fail. A limit is released when its condition holds no more. Model's own readings and choices it may rest on, in notes/assumptions: DEDUCED 8, 30. -/
def Obligations.RulesActWhenTheyFire : Prop :=
  (∀ (s : State) (n : Nat),
    s.svc.pshPower = true →
    n < 8 →
    s.brk.timers.length = 8 →
    (s.timer n).due = true →
    s.live? (Reg.PWR_RULE_CFG.action n) = 0 →
    ∃ t, exec (.ruleFires [n]) s = .next t ∧
      n ∈ t.brk.limitBy ∧
      t.timer n = { s.timer n with due := false, fired := true } ∧
      (∀ m, m ≠ n → t.timer m = s.timer m) ∧
      s.only t [.part .brk]) ∧
  (∀ (s : State) (n : Nat),
    s.svc.pshPower = true →
    n < 8 →
    s.brk.timers.length = 8 →
    (s.timer n).due = true →
    s.live? (Reg.PWR_RULE_CFG.action n) = 1 →
    ∃ t, exec (.ruleFires [n]) s = .next t ∧
      n ∈ t.brk.shedBy ∧
      t.get Reg.PWR_STATE.shed_active = 1 ∧
      t.timer n = { s.timer n with due := false, fired := true } ∧
      s.only t (([.fld Reg.PWR_STATE.shed_active, .fld Reg.PWR_ADC_STATUS.cal_busy, .fld Reg.PWR_ADC_STATUS.cal_refused, .part .brk, .part .card, .part .meter] : List Place) ++ irqPlaces)) ∧
  (∀ (s : State) (n : Nat),
    s.svc.pshPower = true →
    n < 8 →
    s.brk.timers.length = 8 →
    (s.timer n).due = true →
    s.live? (Reg.PWR_RULE_CFG.action n) = 2 →
    s.live? (Reg.PWR_RULE_CFG.kind n) ≠ 2 →
    s.ruleSlow n = true →
    ∃ t, exec (.ruleFires [n]) s = .next t ∧
      n ∈ t.brk.shedBy ∧
      t.get Reg.PWR_STATE.shed_active = 1 ∧
      t.timer n = { s.timer n with due := false, fired := true, confirming := true, cleared := false } ∧
      t.get Reg.PWR_STATE.gate_on = s.get Reg.PWR_STATE.gate_on ∧
      s.only t (([.fld Reg.PWR_STATE.shed_active, .fld Reg.PWR_ADC_STATUS.cal_busy, .fld Reg.PWR_ADC_STATUS.cal_refused, .part .brk, .part .card, .part .meter] : List Place) ++ irqPlaces)) ∧
  (∀ (s : State) (n : Nat),
    s.svc.pshPower = true →
    n < 8 →
    s.brk.timers.length = 8 →
    (s.timer n).due = true →
    s.live? (Reg.PWR_RULE_CFG.action n) = 2 →
    s.live? (Reg.PWR_RULE_CFG.kind n) ≠ 2 →
    s.ruleSlow n = false →
    (s.bk = bkSoftStart ∨ s.bk = bkOn) →
    ∃ t, exec (.ruleFires [n]) s = .next t ∧
      s.trippedTo t (0x10 + n) (s.live? (Reg.PWR_RULE_CFG.retries n)) ∧
      (t.get Reg.PWR_TRIP_STATUS.rule_trip).testBit n = true ∧
      s.only t (([.fld Reg.PWR_TRIP_STATUS.rule_trip, .fld Reg.PWR_ADC_STATUS.cal_busy, .fld Reg.PWR_ADC_STATUS.cal_refused, .fld Reg.PWR_ADC_STATUS.lp_active, .fld Reg.RCD_STATUS.flush_pending, .fld Reg.PWR_SLOT_STATUS.remove_led, .words 0xA0000 4, .part .brk, .part .meter, .part .pmb] : List Place) ++ gld1Places)) ∧
  (∀ (s : State) (n : Nat),
    s.svc.pshPower = true →
    n < 8 →
    s.brk.timers.length = 8 →
    (s.timer n).due = true →
    s.live? (Reg.PWR_RULE_CFG.action n) = 2 →
    s.live? (Reg.PWR_RULE_CFG.kind n) = 2 →
    (s.bk = bkSoftStart ∨ s.bk = bkOn) →
    ∃ t, exec (.ruleFires [n]) s = .next t ∧
      s.failedTo t 5 ∧
      (t.timer n).fired = true ∧
      s.only t (([.fld Reg.PWR_TRIP_STATUS.power_fail, .fld Reg.PWR_ADC_STATUS.cal_busy, .fld Reg.PWR_ADC_STATUS.cal_refused, .fld Reg.PWR_ADC_STATUS.lp_active, .fld Reg.PWR_SLOT_STATUS.remove_led, .words 0xA0000 4, .words 0xB0000 0x10000, .part .brk, .part .meter, .part .pmb, .part .nor] : List Place) ++ gld1Places)) ∧
  (∀ (s : State) (n : Nat),
    s.svc.pshPower = true →
    n < 8 →
    s.brk.timers.length = 8 →
    (s.timer n).confirming = true →
    (s.timer n).cleared = true →
    ∃ t, exec (.confirmWindowEnd [n]) s = .next t ∧
      t.timer n = { s.timer n with confirming := false, cleared := false } ∧
      t.get Reg.PWR_STATE.gate_on = s.get Reg.PWR_STATE.gate_on ∧
      s.only t [.words 0xA0030 0x10, .part .brk, .part .card]) ∧
  (∀ (s : State) (n : Nat),
    s.svc.pshPower = true →
    n < 8 →
    s.brk.timers.length = 8 →
    (s.timer n).confirming = true →
    (s.timer n).cleared = false →
    (s.bk = bkSoftStart ∨ s.bk = bkOn) →
    ∃ t, exec (.confirmWindowEnd [n]) s = .next t ∧
      s.trippedTo t (0x10 + n) (s.live? (Reg.PWR_RULE_CFG.retries n)) ∧
      (t.get Reg.PWR_TRIP_STATUS.rule_trip).testBit n = true ∧
      s.only t (([.fld Reg.PWR_TRIP_STATUS.rule_trip, .fld Reg.PWR_ADC_STATUS.cal_busy, .fld Reg.PWR_ADC_STATUS.cal_refused, .fld Reg.PWR_ADC_STATUS.lp_active, .fld Reg.RCD_STATUS.flush_pending, .fld Reg.PWR_SLOT_STATUS.remove_led, .words 0xA0000 4, .part .brk, .part .meter, .part .pmb] : List Place) ++ gld1Places)) ∧
  (∀ (s : State) (n : Nat),
    (s.timer n).holding = false →
    ∃ t, exec (.limitActionRelease n) s = .next t ∧
      t.brk = { s.brk with limitBy := s.brk.limitBy.filter (fun m => decide (m ≠ n)) } ∧
      s.only t [.part .brk])

/-- Leaving Latched (03 R62, R78; 02 R430), clearing the PMBus status bits with it (Table 03-12; 16 R425, R429), and OPERATION on after an off (03 R29), which elsewhere only stands as the value read (Table 03-12); the 50 ms count is not complete, so no soft-start follows at once. Model's own readings and choices it may rest on, in notes/assumptions: DEDUCED 26, 40. -/
def Obligations.LatchClearsAndFaultsClear : Prop :=
  (∀ (s : State),
    s.pshOpen →
    s.bk = bkLatched →
    s.brk.qualDone = false →
    ∃ t, exec (.clearLatch) s = .next t ∧
      s.unlatchedTo t ∧
      s.only t [.fld Reg.PWR_SLOT_STATUS.remove_led, .words 0xA0000 4, .part .brk, .part .dbg]) ∧
  (∀ (s : State),
    s.pshUp = true →
    s.brk.qualDone = false →
    ∃ t, exec (.clearFaults .whole) s = .next t ∧
      t.pmb.cml7 = false ∧ t.pmb.cml6 = false ∧ t.pmb.cml5 = false ∧ t.pmb.stVinUv = false ∧ t.pmb.stIoutOc = false ∧ t.pmb.stMfr = false ∧ t.pmb.stPlaus = false ∧
      t.pmb.siVinOv = false ∧ t.pmb.siVinUv = false ∧ t.pmb.siIinOc = false ∧ t.pmb.siIinWarn = false ∧
      t.pmb.alert = (s.pmb.alert && (s.flag Reg.PWR_SLOT_STATUS.lever_event || s.flag Reg.PWR_SLOT_STATUS.off_request || s.flag Reg.PWR_SLOT_STATUS.slot_id_differ)) ∧
      (s.bk = bkLatched → s.unlatchedTo t) ∧
      (s.bk ≠ bkLatched → s.only t [.part .pmb]) ∧
      s.only t [.fld Reg.PWR_SLOT_STATUS.remove_led, .words 0xA0000 4, .part .brk, .part .dbg, .part .pmb]) ∧
  (∀ (s : State),
    s.pshUp = true →
    s.brk.qualDone = false →
    s.bk = bkOffSettled →
    s.brk.holdOff = true →
    ∃ t, exec (.operationOn (some .whole)) s = .next t ∧
      t.bk = (if s.get Reg.PWR_SLOT_STATUS.lever_open = 0 ∧ s.brk.supplyOk = true then bkQualifying else bkStandby) ∧
      t.brk = { s.brk with holdOff := false } ∧
      t.pmb = { s.pmb with acked := true, operation := 0x80 } ∧
      s.only t [.fld Reg.PWR_STATE.state, .fld Reg.PWR_SLOT_STATUS.remove_led, .part .brk, .part .pmb]) ∧
  (∀ (s : State),
    s.pshUp = true →
    (s.bk ≠ bkOffSettled ∨ s.brk.holdOff = false) →
    ∃ t, exec (.operationOn (some .whole)) s = .next t ∧
      t.pmb = { s.pmb with acked := true, operation := 0x80 } ∧
      s.only t [.part .pmb])

/-- GP_SHED at GLD1 (03 R64, R65, R75): a request halves the tile clock enables; the release, once no rule that asked holds or confirms, lowers the line and sends a new step notice before load is restored. Step notices (03 R65, R66, R67, R75, R76): PSH2 refuses a notice that would break a limit of R66 and accepts it otherwise, each with its counter and its answer, and while it counts the link as lost its allowances stay as last agreed (01 R13); GLD1 takes the answer, sends a refused notice again, and starts an accepted step only while the link stands; a closed notice widens the allowance no more. Model's own readings and choices it may rest on, in notes/assumptions: DEDUCED 31, 33; DESIGN CHOICE 32. -/
def Obligations.ShedsAndStepNoticesAreJudged : Prop :=
  (∀ (s : State),
    s.get Reg.PWR_STATE.shed_active = 1 →
    s.svc.rstLow = false →
    s.service ≠ svcRecess →
    ∃ t, exec (.shedRequest) s = .next t ∧
      t.svc = { s.svc with shedHalf := true } ∧
      t.get Reg.PWR_STATE.shed_active = 1 ∧
      s.only t (([.fld Reg.PWR_ADC_STATUS.cal_busy, .fld Reg.PWR_ADC_STATUS.cal_refused, .part .svc, .part .meter] : List Place) ++ irqPlaces)) ∧
  (∀ (s : State),
    s.get Reg.PWR_STATE.shed_active = 1 →
    (∀ n ∈ s.brk.shedBy, (s.timer n).holding = false ∧ (s.timer n).confirming = false) →
    ∃ t, exec (.shedRelease) s = .next t ∧
      t.get Reg.PWR_STATE.shed_active = 0 ∧
      t.brk = { s.brk with shedBy := [] } ∧
      (s.svc.shedHalf = true → s.svc.rstLow = false →
        t.svc.notices.length = s.svc.notices.length + 1 ∧ t.gpGld.queue.length = s.gpGld.queue.length + 1) ∧
      (s.svc.shedHalf = false ∨ s.svc.rstLow = true → t.svc = s.svc ∧ t.gpGld = s.gpGld) ∧
      s.only t [.fld Reg.PWR_STATE.shed_active, .part .brk, .part .svc, .part .gpGld, .part .fresh]) ∧
  (∀ (s : State) (id amplitude start duration : Nat),
    s.pshUp = true →
    s.gpPsh.lost = false →
    (s.get Reg.PWR_STEP_CFG.notice_max < (s.brk.notices.map (·.amplitude)).sum + amplitude ∨ 10 * s.get Reg.PWR_LIMIT_CFG.ilimit < s.brk.iin + 10 * ((s.brk.notices.map (·.amplitude)).sum + amplitude) + 50) →
    ∃ t, exec (.stepNotice id amplitude start duration) s = .next t ∧
      t.get Reg.PWR_STEP_STATUS.refused = min (s.get Reg.PWR_STEP_STATUS.refused + 1) 0xFFFF ∧
      t.gpPsh = { s.gpPsh with queue := s.gpPsh.queue ++ [.answer id false] } ∧
      t.gpGld = { s.gpGld with queue := s.gpGld.queue.erase (.notice id amplitude start duration) } ∧
      s.only t [.fld Reg.PWR_STEP_STATUS.refused, .part .card, .part .gpPsh, .part .gpGld]) ∧
  (∀ (s : State) (id amplitude start duration : Nat),
    s.pshUp = true →
    s.gpPsh.lost = false →
    (s.brk.notices.map (·.amplitude)).sum + amplitude ≤ s.get Reg.PWR_STEP_CFG.notice_max →
    s.brk.iin + 10 * ((s.brk.notices.map (·.amplitude)).sum + amplitude) + 50 ≤ 10 * s.get Reg.PWR_LIMIT_CFG.ilimit →
    ∃ t, exec (.stepNotice id amplitude start duration) s = .next t ∧
      t.get Reg.PWR_STEP_STATUS.accepted = min (s.get Reg.PWR_STEP_STATUS.accepted + 1) 0xFFFF ∧
      t.brk = { s.brk with notices := s.brk.notices ++ [⟨id, amplitude, start, duration⟩] } ∧
      t.allowance = s.allowance + amplitude ∧
      t.gpPsh = { s.gpPsh with queue := s.gpPsh.queue ++ [.answer id true] } ∧
      t.gpGld = { s.gpGld with queue := s.gpGld.queue.erase (.notice id amplitude start duration) } ∧
      s.only t [.fld Reg.PWR_STEP_STATUS.accepted, .part .brk, .part .gpPsh, .part .gpGld]) ∧
  (∀ (s : State) (id amplitude start duration : Nat),
    s.gpPsh.lost = true →
    ∃ t, exec (.stepNotice id amplitude start duration) s = .next t ∧
      s.only t []) ∧
  (∀ (s : State) (id : Nat) (ok : Bool),
    s.svc.rstLow = false →
    ∃ t, exec (.stepNoticeAnswer id ok) s = .next t ∧
      t.svc.notices = s.svc.notices.map (fun g => if g.notice.id = id then { g with stage := if ok then .accepted else .refused } else g) ∧
      t.gpPsh = { s.gpPsh with queue := s.gpPsh.queue.erase (.answer id ok) } ∧
      s.only t [.part .svc, .part .gpPsh]) ∧
  (∀ (s : State) (g : GldNotice),
    s.svc.notices.find? (fun h => decide (h.notice.id = g.notice.id) && decide (h.stage = .refused)) = some g →
    ∃ t, exec (.stepNoticeRetry g.notice.id) s = .next t ∧
      t.svc.notices = s.svc.notices.map (fun h => if h.notice.id = g.notice.id then { h with stage := .sent } else h) ∧
      t.gpGld = { s.gpGld with queue := s.gpGld.queue ++ [.notice g.notice.id g.notice.amplitude g.notice.start g.notice.duration] } ∧
      s.only t [.part .svc, .part .gpGld]) ∧
  (∀ (s : State) (id : Nat),
    ∃ t, exec (.noticeClose id) s = .next t ∧
      t.brk = { s.brk with notices := s.brk.notices.filter (fun n => decide (n.id ≠ id)) } ∧
      s.only t [.part .brk]) ∧
  (∀ (s : State) (g : GldNotice),
    s.svc.notices.find? (fun h => decide (h.notice.id = g.notice.id) && decide (h.stage = .accepted)) = some g →
    s.gpGld.lost = false →
    s.svc.rstLow = false →
    g.use = .restoreShed →
    ∃ t, exec (.stepStart g.notice.id) s = .next t ∧
      t.svc = { s.svc with
        notices := s.svc.notices.filter (fun h => decide (h.notice.id ≠ g.notice.id))
        shedHalf := decide (s.get Reg.PWR_STATE.shed_active = 1) } ∧
      s.only t [.part .svc])

/-- PWR_PROFILE (03 R68, R70; 04 R100; 06 R155): profiles 0 to 2 load their settings, the live table, both staging copies and clear both stale flags, restart every timer and the retry count, and PWR and RCD leave Expert; value 3 changes nothing. While PSH2 runs slot-safe from ROM the write is discarded (14 R383). Committing and reloading trip rules (03 R62, R70, R76; 14 R383): a copy that is not stale becomes the live table whole, restarts the timers and the retry count, answers result 1 and makes the other path's copy stale; a stale copy is refused with result 2 and changes no rule; a reload copies the live table into the path's copy and clears its stale flag. Model's own readings and choices it may rest on, in notes/assumptions: DEDUCED 19, 22, 42. -/
def Obligations.RulesLoadAndCommitWhole : Prop :=
  (∀ (s : State) (v : Nat),
    s.pshOpen →
    s.sec.romSafe = false →
    v < 3 →
    ∃ t, exec (.pwrProfile v) s = .next t ∧
      t.get Reg.PWR_PROFILE.profile = v ∧
      t.expert blk.pwr = false ∧ t.expert blk.rcd = false ∧
      t.get Reg.PWR_LIMIT_CFG.ilimit = (if v = 1 then 115 else fieldOf (resetWord 0xA0014) 0 7) ∧
      t.get Reg.PWR_RETRY_CFG.hw_retries = (if v = 0 then fieldOf (resetWord 0xA0024) 0 4 else if v = 1 then 1 else 0) ∧
      (∀ off ∈ ruleOffs, Store.read resetWord t.brk.live off = profileRule v off ∧ t.word off = profileRule v off ∧ Store.read resetWord t.brk.pmbStage off = profileRule v off) ∧
      t.get Reg.PWR_RULE_COMMIT.stale = 0 ∧ t.brk.pmbStale = false ∧
      t.brk.timers = List.replicate 8 RuleTimer.fresh ∧
      t.get Reg.PWR_STATE.retry_count = 0 ∧
      s.only t [.fld Reg.PWR_PROFILE.profile, .fld Reg.PWR_STATE.retry_count, .fld Reg.PWR_RULE_COMMIT.stale, .fld Reg.GLB_EXPERT_STATUS.expert, .words 0xA0010 24, .words 0xA0100 0x80, .part .brk, .part .host]) ∧
  (∀ (s : State),
    s.pshOpen →
    ∃ t, exec (.pwrProfile 3) s = .next t ∧
      s.only t []) ∧
  (∀ (s : State) (p : MgmtPath),
    s.pshOpen →
    s.sec.romSafe = false →
    s.stale p = false →
    ∃ t, exec (.ruleCommit p false) s = .next t ∧
      (∀ off ∈ ruleOffs, Store.read resetWord t.brk.live off = s.staging p off) ∧
      t.brk.timers = List.replicate 8 RuleTimer.fresh ∧
      t.get Reg.PWR_STATE.retry_count = 0 ∧
      (p = .bar0 → t.get Reg.PWR_RULE_COMMIT.result = 1 ∧ t.brk.pmbStale = true) ∧
      (p = .pmbus → t.brk.pmbResult = 1 ∧ t.get Reg.PWR_RULE_COMMIT.stale = 1) ∧
      s.only t [.fld Reg.PWR_STATE.retry_count, .fld Reg.PWR_RULE_COMMIT.result, .fld Reg.PWR_RULE_COMMIT.stale, .part .brk]) ∧
  (∀ (s : State) (p : MgmtPath),
    s.pshOpen →
    s.sec.romSafe = false →
    s.stale p = true →
    ∃ t, exec (.ruleCommit p false) s = .next t ∧
      t.brk.live = s.brk.live ∧ t.brk.timers = s.brk.timers ∧
      (p = .bar0 → t.get Reg.PWR_RULE_COMMIT.result = 2) ∧
      (p = .pmbus → t.brk.pmbResult = 2) ∧
      s.only t [.fld Reg.PWR_RULE_COMMIT.result, .part .brk]) ∧
  (∀ (s : State) (p : MgmtPath),
    s.pshOpen →
    ∃ t, exec (.ruleReload p) s = .next t ∧
      (∀ off ∈ ruleOffs, t.staging p off = Store.read resetWord s.brk.live off) ∧
      t.stale p = false ∧
      t.brk.live = s.brk.live ∧ t.brk.timers = s.brk.timers ∧
      s.only t [.fld Reg.PWR_RULE_COMMIT.stale, .words 0xA0100 0x80, .part .brk])

/-- The end of a conversion (04 R82, R83, R88, R90, R97, R101): an entry's corrected code goes to its result register, an urgent one to the urgent register with done set and busy cleared, the power pair of an accumulate-only entry adds its exact truncated products, and two entry-15 results more than 0.1 % apart fail the check. Model's own readings and choices it may rest on, in notes/assumptions: DEDUCED 8, 35, 37; PRESUMED 36. -/
def Obligations.ConversionsStoreTheirResults : Prop :=
  (∀ (s : State) (e : Nat) (r : Int) (dt : Nat),
    e < 16 →
    s.meter.a.run = some (.entry e) →
    s.cfgForce.accOnly 0 e = false →
    ∃ t, exec (.conversionEnd (some r) none dt) s = .next t ∧
      t.get (Reg.PWR_ADC_RESULT.result 0 e) = unsigned 24 (s.code 0 r).1 ∧
      t.get (Reg.PWR_ADC_RESULT.fresh 0 e) = 1 ∧
      t.get (Reg.PWR_ADC_RESULT.sat 0 e) = (if (s.code 0 r).2 = true then 1 else 0) ∧
      e ∉ t.meter.a.todo ∧
      s.only t (([.fld (Reg.PWR_ADC_RESULT.result 0 e), .fld (Reg.PWR_ADC_RESULT.fresh 0 e), .fld (Reg.PWR_ADC_RESULT.sat 0 e), .fld Reg.PWR_ADC_STATUS.sat, .words 0x90100 0x200, .part .meter, .part .card, .part .thermal, .part .mgmt, .part .gpPsh] : List Place) ++ irqPlaces)) ∧
  (∀ (s : State) (r : Int) (dt : Nat),
    s.meter.a.run = some .urgent →
    ∃ t, exec (.conversionEnd (some r) none dt) s = .next t ∧
      t.get (Reg.PWR_ADC_URGENT_RESULT.result 0) = unsigned 24 (s.code 0 r).1 ∧
      t.get (Reg.PWR_ADC_URGENT_RESULT.done 0) = 1 ∧
      t.get (Reg.PWR_ADC_URGENT_RESULT.busy 0) = 0 ∧
      t.meter.a.urgent = none ∧
      s.only t (([.fld (Reg.PWR_ADC_URGENT_RESULT.result 0), .fld (Reg.PWR_ADC_URGENT_RESULT.done 0), .fld (Reg.PWR_ADC_URGENT_RESULT.busy 0), .fld Reg.PWR_ADC_STATUS.sat, .words 0x90100 0x200, .part .meter, .part .card, .part .thermal, .part .mgmt, .part .gpPsh] : List Place) ++ irqPlaces)) ∧
  (∀ (s : State) (e : Nat) (x y : Int) (dt : Nat),
    e < 15 →
    s.meter.a.run = some (.entry e) →
    s.meter.b.run = some (.entry e) →
    s.cfgForce.paired e = true →
    s.cfgForce.powerPair = some e →
    s.cfgForce.accOnly 0 e = true →
    s.meter.anyPair = true →
    ∃ t, exec (.conversionEnd (some x) (some y) dt) s = .next t ∧
      t.meter.energy = s.meter.energy + (s.code 0 x).1 * (s.code 1 y).1 * 500 * dt * 2 ^ 32 / (2 ^ 46 * 64000 : Nat) ∧
      t.meter.charge = s.meter.charge + (s.code 1 y).1 * 25 * dt * 2 ^ 32 / (2 ^ 23 * 64000 : Nat) ∧
      t.meter.elapsed = s.meter.elapsed + dt * 2 ^ 32 / 64000 ∧
      t.meter.pairs = min (s.meter.pairs + 1) 0xFFFFFFFF ∧
      t.meter.lastPair = some ((s.code 0 x).1, (s.code 1 y).1) ∧
      t.meter.sumN = s.meter.sumN + 1) ∧
  (∀ (s : State) (x y : Int) (dt : Nat),
    s.meter.a.run = some (.entry 15) →
    s.meter.b.run = some (.entry 15) →
    s.get Reg.PWR_ADC_STATUS.cal_valid_a = 1 →
    s.get Reg.PWR_ADC_STATUS.cal_valid_b = 1 →
    ∃ t, exec (.conversionEnd (some x) (some y) dt) s = .next t ∧
      t.get Reg.PWR_ADC_PLAUS_COUNT.checks = min (s.get Reg.PWR_ADC_PLAUS_COUNT.checks + 1) 0xFFFF ∧
      t.get Reg.PWR_ADC_PLAUS_COUNT.fails = min (s.get Reg.PWR_ADC_PLAUS_COUNT.fails + (if plausBad (s.code 0 x).1 (s.code 1 y).1 = true then 1 else 0)) 0xFFFF ∧
      (plausBad (s.code 0 x).1 (s.code 1 y).1 = true → t.get Reg.PWR_ADC_STATUS.adc_plaus = 1 ∧ t.pmb.stPlaus = true ∧ t.meter.failRun = s.meter.failRun + 1) ∧
      (plausBad (s.code 0 x).1 (s.code 1 y).1 = false → t.meter.passRun = s.meter.passRun + 1 ∧ t.meter.failRun = 0))

/-- Passes (04 R85, R86, R87, R96, R103): a pass that restarts the sequence, and every low-power pass, runs each entry below seq_len and entry 15; collected writes without a power pair are dropped with cfg_refused; a paired entry starts on both converters together. Model's own readings and choices it may rest on, in notes/assumptions: DEDUCED 8, 37. -/
def Obligations.PassesStartWithDueEntries : Prop :=
  (∀ (s : State),
    s.passDone = true →
    s.convReady = true →
    s.get Reg.PWR_ADC_STATUS.lp_active = 0 →
    s.meter.collected = false →
    s.meter.restart = true →
    ∃ t, exec (.passStart) s = .next t ∧
      t.meter.a.todo = (List.range 15).filter (fun e => decide (e < s.cfgForce.len 0)) ++ [15] ∧
      t.meter.b.todo = (List.range 15).filter (fun e => s.cfgForce.paired e || decide (e < s.cfgForce.len 1)) ++ [15] ∧
      t.meter.restart = false ∧
      s.only t [.part .meter]) ∧
  (∀ (s : State),
    s.passDone = true →
    s.convReady = true →
    s.get Reg.PWR_ADC_STATUS.lp_active = 0 →
    s.meter.collected = true →
    s.cfgRegs.powerPair = none →
    ∃ t, exec (.passStart) s = .next t ∧
      t.get Reg.PWR_ADC_STATUS.cfg_refused = 1 ∧
      (∀ off ∈ seqOffs, t.word off = s.cfgForce off) ∧
      t.meter.collected = false ∧
      s.only t [.fld Reg.PWR_ADC_STATUS.cfg_refused, .words 0xA0420 8, .words 0xA0500 0x80, .part .meter]) ∧
  (∀ (s : State),
    s.passDone = true →
    s.convReady = true →
    s.get Reg.PWR_ADC_STATUS.lp_active = 1 →
    s.meter.collected = false →
    ∃ t, exec (.lpPassInterval) s = .next t ∧
      t.meter.a.todo = (List.range 15).filter (fun e => decide (e < s.cfgForce.len 0)) ++ [15] ∧
      t.meter.b.todo = (List.range 15).filter (fun e => s.cfgForce.paired e || decide (e < s.cfgForce.len 1)) ++ [15] ∧
      s.only t [.part .meter]) ∧
  (∀ (s : State) (e : Nat) (l m : List Nat),
    s.meter.a.todo = e :: l →
    s.meter.b.todo = e :: m →
    s.cfgForce.paired e = true →
    s.convReady = true →
    s.meter.a.run = none →
    s.meter.b.run = none →
    ∃ t, exec (.pairTrigger) s = .next t ∧
      t.meter = { s.meter with a := { s.meter.a with run := some (.entry e) }, b := { s.meter.b with run := some (.entry e) } } ∧
      s.only t [.part .meter])

/-- The end of a 100 ms interval (04 R93; 13 R343): the means of the interval's power-pair results become READ_VIN, READ_IIN and READ_PIN, and each tenth interval counts one operating second. PWR_ADC_CTRL's accumulator bits (04 R89, R90): a snapshot stores the accumulators truncated toward minus infinity, a clear in the same write follows it, and the trackers empty to their largest and smallest codes. Model's own readings and choices it may rest on, in notes/assumptions: DEDUCED 8, 34; DESIGN CHOICE 12. -/
def Obligations.IntervalsAndAccumulatorsReport : Prop :=
  (∀ (s : State),
    s.svc.pshPower = true →
    s.svc.pshRun = true →
    s.meter.sumN ≠ 0 →
    ∃ t, exec (.meterInterval) s = .next t ∧
      (t.meter.readVin, t.meter.readIin, t.meter.readPin) = readWords s.meter.sumN s.meter.sumV s.meter.sumI s.meter.sumVI ∧
      t.meter.sumN = 0 ∧ t.meter.sumV = 0 ∧ t.meter.sumI = 0 ∧ t.meter.sumVI = 0 ∧ t.meter.anyInterval = true ∧
      t.card.tenths = (if s.card.tenths = 9 then 0 else s.card.tenths + 1) ∧
      (s.card.tenths = 9 → t.get Reg.RCD_OP_SECONDS.op_seconds = (s.card.live.life.modify 33 (· + 1)).getD 33 0 % 2 ^ 32) ∧
      (s.card.tenths ≠ 9 → t.get Reg.RCD_OP_SECONDS.op_seconds = s.get Reg.RCD_OP_SECONDS.op_seconds) ∧
      s.only t [.fld Reg.RCD_OP_SECONDS.op_seconds, .part .meter, .part .card]) ∧
  (∀ (s : State) (c : Bool),
    s.pshOpen →
    ∃ t, exec (.accSnap c) s = .next t ∧
      t.get Reg.PWR_ADC_ENERGY.energy_lo + 2 ^ 32 * t.get Reg.PWR_ADC_ENERGY.energy_hi = unsigned 64 (s.meter.energy / 2 ^ 32) ∧
      t.get Reg.PWR_ADC_CHARGE.charge_lo + 2 ^ 32 * t.get Reg.PWR_ADC_CHARGE.charge_hi = unsigned 64 (s.meter.charge / 2 ^ 32) ∧
      t.get Reg.PWR_ADC_ELAPSED.elapsed_lo + 2 ^ 32 * t.get Reg.PWR_ADC_ELAPSED.elapsed_hi = s.meter.elapsed / 2 ^ 32 % 2 ^ 64 ∧
      t.get Reg.PWR_ADC_PAIRS.pairs = s.meter.pairs % 2 ^ 32 ∧
      t.meter = (if c = true then { s.meter with energy := 0, charge := 0, elapsed := 0, pairs := 0 } else s.meter) ∧
      s.only t [.words 0xA0460 0x1C, .part .meter]) ∧
  (∀ (s : State),
    s.pshOpen →
    ∃ t, exec (.accClear) s = .next t ∧
      t.meter = { s.meter with energy := 0, charge := 0, elapsed := 0, pairs := 0 } ∧
      s.only t [.part .meter]) ∧
  (∀ (s : State),
    s.pshOpen →
    ∃ t, exec (.minmaxClear) s = .next t ∧
      (∀ c e, c < 2 → e < 16 → t.get (Reg.PWR_ADC_MIN.min c e) = 0x7FFFFF ∧ t.get (Reg.PWR_ADC_MAX.max c e) = 0x800000) ∧
      s.only t [.words 0xA0700 0x100])

/-- The reference buffer and lp_gate_off (04 R95, R96, R104, R106): in Expert the buffer is enabled and starts its count, and it is disabled only with the gate off; outside Expert the writes are discarded; the end of the count makes the reference ready, starts the sequence at pass 1 and a calibration that waited for it; low-power mode holds while the bit is set and the gate is off. The metering set-up (04 R99, R100) and urgent requests (04 R101): a listed profile leaves the shared Expert, loads the sequence of both converters and takes force at once; a request is refused while one is busy or with the reserved order, and otherwise becomes busy. Model's own readings and choices it may rest on, in notes/assumptions: DEDUCED 8, 19, 22, 37; DESIGN CHOICE 132, 133. -/
def Obligations.MeteringTakesItsControls : Prop :=
  (∀ (s : State),
    s.pshOpen →
    ∃ t, exec (.refBufEnable) s = .next t ∧
      (s.expert blk.pwr = true → t.get Reg.PWR_ADC_CTRL.ref_buf_en = 1) ∧
      (s.expert blk.pwr = true → s.get Reg.PWR_ADC_CTRL.ref_buf_en = 0 → t.meter = { s.meter with refCount := true }) ∧
      (s.expert blk.pwr = false → t.get Reg.PWR_ADC_CTRL.ref_buf_en = s.get Reg.PWR_ADC_CTRL.ref_buf_en ∧ t.meter = s.meter) ∧
      s.only t [.fld Reg.PWR_ADC_CTRL.ref_buf_en, .part .meter]) ∧
  (∀ (s : State),
    s.pshOpen →
    ∃ t, exec (.refBufClear) s = .next t ∧
      (s.expert blk.pwr = true → s.get Reg.PWR_STATE.gate_on = 0 →
        t.get Reg.PWR_ADC_CTRL.ref_buf_en = 0 ∧ t.get Reg.PWR_ADC_STATUS.ref_ready = 0 ∧ t.get Reg.PWR_ADC_STATUS.cal_busy = 0 ∧
        t.meter = { s.meter with
          refCount := false, restart := true, calWaits := s.meter.calWaits || decide (s.get Reg.PWR_ADC_STATUS.cal_busy = 1)
          a := { s.meter.a with todo := [], run := if s.meter.a.run = some .cal then none else s.meter.a.run }
          b := { s.meter.b with todo := [], run := if s.meter.b.run = some .cal then none else s.meter.b.run } }) ∧
      (s.expert blk.pwr = false ∨ s.get Reg.PWR_STATE.gate_on = 1 → s.only t []) ∧
      s.only t [.fld Reg.PWR_ADC_CTRL.ref_buf_en, .fld Reg.PWR_ADC_STATUS.ref_ready, .fld Reg.PWR_ADC_STATUS.cal_busy, .part .meter]) ∧
  (∀ (s : State),
    s.svc.pshPower = true →
    s.meter.refCount = true →
    s.get Reg.PWR_ADC_CTRL.ref_buf_en = 1 →
    ∃ t, exec (.refReady) s = .next t ∧
      t.get Reg.PWR_ADC_STATUS.ref_ready = 1 ∧
      t.meter.refCount = false ∧ t.meter.restart = true ∧ t.meter.calWaits = false ∧ t.meter.a.todo = [] ∧ t.meter.b.todo = [] ∧
      (s.meter.calWaits = false → t.get Reg.PWR_ADC_STATUS.cal_busy = s.get Reg.PWR_ADC_STATUS.cal_busy) ∧
      (s.meter.calWaits = true → s.calBarred = false →
        t.get Reg.PWR_ADC_STATUS.cal_busy = 1 ∧ (s.get Reg.PWR_ADC_STATUS.cal_busy = 0 → t.meter.a.run = some .cal ∧ t.meter.b.run = some .cal)) ∧
      s.only t (([.fld Reg.PWR_ADC_STATUS.ref_ready, .fld Reg.PWR_ADC_STATUS.cal_busy, .fld Reg.PWR_ADC_STATUS.cal_refused, .part .meter] : List Place) ++ irqPlaces)) ∧
  (∀ (s : State) (on : Bool),
    s.pshOpen →
    ∃ t, exec (.lpGateOffWrite on) s = .next t ∧
      (s.expert blk.pwr = true → t.get Reg.PWR_ADC_CTRL.lp_gate_off = (if on = true then 1 else 0) ∧
        t.get Reg.PWR_ADC_STATUS.lp_active = (if on = true ∧ s.get Reg.PWR_STATE.gate_on = 0 then 1 else 0)) ∧
      (s.expert blk.pwr = false → s.only t []) ∧
      s.only t [.fld Reg.PWR_ADC_CTRL.lp_gate_off, .fld Reg.PWR_ADC_STATUS.lp_active, .part .meter]) ∧
  (∀ (s : State) (v : Nat),
    s.pshOpen →
    v < 3 →
    ∃ t, exec (.pwrAdcProfile v) s = .next t ∧
      t.get Reg.PWR_ADC_PROFILE.profile = v ∧
      t.expert blk.pwr = false ∧
      (∀ c e, c < 2 → e < 16 → t.word (entryOff c e) = BitVec.ofNat 32 (adcEntryWord v c e)) ∧
      t.get (Reg.PWR_ADC_SEQ_LEN.seq_len 0) = 6 ∧ t.get (Reg.PWR_ADC_SEQ_LEN.seq_len 1) = 6 ∧
      t.get Reg.PWR_ADC_LP.pass_interval = 100 ∧ t.get Reg.PWR_ADC_CTRL.lp_gate_off = (if v = 2 then 1 else 0) ∧
      (∀ off ∈ seqOffs, t.cfgForce off = t.word off) ∧
      t.meter.restart = true ∧ t.meter.collected = false ∧
      s.only t [.fld Reg.PWR_ADC_PROFILE.profile, .fld Reg.PWR_ADC_LP.pass_interval, .fld Reg.PWR_ADC_CTRL.lp_gate_off, .fld Reg.PWR_ADC_STATUS.lp_active, .fld Reg.GLB_EXPERT_STATUS.expert, .words 0xA0420 8, .words 0xA0500 0x80, .part .meter, .part .host]) ∧
  (∀ (s : State) (v : Nat),
    s.pshUp = true →
    v < 3 →
    ∃ t, exec (.mfrAdcProfile (.write .whole v)) s = .next t ∧
      t.get Reg.PWR_ADC_PROFILE.profile = v ∧
      t.expert blk.pwr = false ∧
      t.meter.restart = true ∧ t.meter.collected = false ∧
      t.pmb = { s.pmb with acked := true } ∧
      s.only t [.fld Reg.PWR_ADC_PROFILE.profile, .fld Reg.PWR_ADC_LP.pass_interval, .fld Reg.PWR_ADC_CTRL.lp_gate_off, .fld Reg.PWR_ADC_STATUS.lp_active, .fld Reg.GLB_EXPERT_STATUS.expert, .words 0xA0420 8, .words 0xA0500 0x80, .part .meter, .part .host, .part .pmb]) ∧
  (∀ (s : State) (c v : Nat),
    s.pshOpen →
    c < 2 →
    v % 2 = 1 →
    v / 256 % 4 ≠ 3 →
    s.get (Reg.PWR_ADC_URGENT_RESULT.busy c) = 0 →
    ∃ t, exec (.pwrAdcUrgent c v) s = .next t ∧
      t.get (Reg.PWR_ADC_URGENT_RESULT.busy c) = 1 ∧
      (t.conv c).urgent = some ⟨v / 2 % 16, v / 32 % 8, v / 256 % 4⟩ ∧
      s.only t [.fld (Reg.PWR_ADC_URGENT_RESULT.busy c), .part .meter]) ∧
  (∀ (s : State) (c v : Nat),
    s.pshOpen →
    c < 2 →
    v % 2 = 1 →
    (v / 256 % 4 = 3 ∨ s.get (Reg.PWR_ADC_URGENT_RESULT.busy c) = 1) →
    ∃ t, exec (.pwrAdcUrgent c v) s = .next t ∧
      t.get (Reg.PWR_ADC_URGENT_RESULT.refused c) = 1 ∧
      s.only t [.fld (Reg.PWR_ADC_URGENT_RESULT.refused c)])

/-- Calibration (04 R94, R105, Table 04-7): a request that no condition of R105 refuses takes both converters at once, waits while the reference is not ready, and is ignored while a calibration runs or waits; a refused one sets cal_refused; its end writes offset and gain of both converters and their valid bits, or keeps the values when one does not fit; an Expert write of a value clears that converter's valid bit. Model's own readings and choices it may rest on, in notes/assumptions: DEDUCED 35, 38; DESIGN CHOICE 133. -/
def Obligations.CalibrationTakesBothConverters : Prop :=
  (∀ (s : State),
    s.pshOpen →
    s.get Reg.PWR_ADC_STATUS.cal_busy = 0 →
    s.meter.calWaits = false →
    ∃ t, exec (.calStart) s = .next t ∧
      s.calTo t ∧
      s.only t (([.fld Reg.PWR_ADC_STATUS.cal_busy, .fld Reg.PWR_ADC_STATUS.cal_refused, .part .meter] : List Place) ++ irqPlaces)) ∧
  (∀ (s : State),
    s.pshOpen →
    (s.get Reg.PWR_ADC_STATUS.cal_busy = 1 ∨ s.meter.calWaits = true) →
    ∃ t, exec (.calStart) s = .next t ∧
      s.only t []) ∧
  (∀ (s : State),
    s.pshUp = true →
    s.get Reg.PWR_ADC_STATUS.cal_busy = 0 →
    s.meter.calWaits = false →
    ∃ t, exec (.mfrAdcCal .whole) s = .next t ∧
      s.calTo t ∧
      t.pmb = { s.pmb with acked := true } ∧
      s.only t (([.fld Reg.PWR_ADC_STATUS.cal_busy, .fld Reg.PWR_ADC_STATUS.cal_refused, .part .meter, .part .pmb] : List Place) ++ irqPlaces)) ∧
  (∀ (s : State) (offA gainA offB gainB : Int) (ga gb : Int),
    s.get Reg.PWR_ADC_STATUS.cal_busy = 1 →
    calGain (calOffset offA) gainA = some ga →
    calGain (calOffset offB) gainB = some gb →
    calFits (calOffset offA) (some ga) = true →
    calFits (calOffset offB) (some gb) = true →
    ∃ t, exec (.calibrationEnd offA gainA offB gainB) s = .next t ∧
      t.get (Reg.PWR_ADC_OFFSET.offset 0) = unsigned 24 (calOffset offA) ∧ t.get (Reg.PWR_ADC_OFFSET.offset 1) = unsigned 24 (calOffset offB) ∧
      t.get (Reg.PWR_ADC_GAIN.gain 0) = ga.toNat ∧ t.get (Reg.PWR_ADC_GAIN.gain 1) = gb.toNat ∧
      t.get Reg.PWR_ADC_STATUS.cal_busy = 0 ∧ t.get Reg.PWR_ADC_STATUS.cal_valid_a = 1 ∧ t.get Reg.PWR_ADC_STATUS.cal_valid_b = 1 ∧
      t.meter.restart = true ∧
      s.only t [.fld Reg.PWR_ADC_STATUS.cal_busy, .fld Reg.PWR_ADC_STATUS.cal_valid_a, .fld Reg.PWR_ADC_STATUS.cal_valid_b, .fld (Reg.PWR_ADC_OFFSET.offset 0), .fld (Reg.PWR_ADC_OFFSET.offset 1), .fld (Reg.PWR_ADC_GAIN.gain 0), .fld (Reg.PWR_ADC_GAIN.gain 1), .part .meter]) ∧
  (∀ (s : State) (offA gainA offB gainB : Int),
    s.get Reg.PWR_ADC_STATUS.cal_busy = 1 →
    (calFits (calOffset offA) (calGain (calOffset offA) gainA) && calFits (calOffset offB) (calGain (calOffset offB) gainB)) = false →
    ∃ t, exec (.calibrationEnd offA gainA offB gainB) s = .next t ∧
      t.get Reg.PWR_ADC_STATUS.cal_busy = 0 ∧ t.get Reg.PWR_ADC_STATUS.cal_refused = 1 ∧ t.meter.restart = true ∧
      s.only t (([.fld Reg.PWR_ADC_STATUS.cal_busy, .fld Reg.PWR_ADC_STATUS.cal_refused, .part .meter] : List Place) ++ irqPlaces)) ∧
  (∀ (s : State) (c : Nat) (v : Nat),
    s.pshOpen →
    c < 2 →
    s.expert blk.pwr = true →
    ∃ t, exec (.calValueWrite c false v) s = .next t ∧
      t.get (Reg.PWR_ADC_OFFSET.offset c) = v % 2 ^ 24 ∧
      t.get (if c = 0 then Reg.PWR_ADC_STATUS.cal_valid_a else Reg.PWR_ADC_STATUS.cal_valid_b) = 0 ∧
      s.only t [.fld (Reg.PWR_ADC_OFFSET.offset c), .fld Reg.PWR_ADC_STATUS.cal_valid_a, .fld Reg.PWR_ADC_STATUS.cal_valid_b])

/-- What each PMBus read returns (03 Table 03-12; 04 R93, R107; 12 R341; 13 R372; 14 R394; 16 R425): the bytes, low byte first, with the transaction acknowledged and nothing else changed. STATUS_WORD's bit places are PRESUMED from the PMBus standard (log 28). Transactions outside the command index (16 R424, R425, R429): the alert response answers with the address and releases the line, a quick command and a receive byte are acknowledged without effect, an unsupported code or direction sets STATUS_CML bit 7, an OPERATION value without a meaning bit 6, and a write with a failed PEC or too few bytes acts on nothing but STATUS_CML and the alert. Model's own readings and choices it may rest on, in notes/assumptions: DEDUCED 10, 29, 40; PRESUMED 28. -/
def Obligations.PmbusAnswersReadsAndEvents : Prop :=
  (∀ (s : State) (c : Instr) (l : List Byte),
    s.pshUp = true →
    (c, l) ∈ s.pmbReads →
    ∃ t, exec (c) s = .next t ∧
      t.pmb = { s.pmb with acked := true, reply := l } ∧
      s.only t [.part .pmb]) ∧
  (∀ (s : State),
    s.pshUp = true →
    ∃ t, exec (.mfrRcRead) s = .next t ∧
      t.pmb = { s.pmb with acked := true, reply := bytesAt s.card.bufPmb s.pmb.rcOffset 32, rcOffset := s.pmb.rcOffset + 32 } ∧
      s.only t [.part .pmb]) ∧
  (∀ (s : State),
    s.pshUp = true →
    ∃ t, exec (.mfrReadEnergy) s = .next t ∧
      t.pmb.reply = leBytes 8 (unsigned 64 (s.meter.energy / 2 ^ 32)) ++ leBytes 8 (unsigned 64 (s.meter.charge / 2 ^ 32)) ++ leBytes 8 (s.meter.elapsed / 2 ^ 32 % 2 ^ 64) ∧
      t.get Reg.PWR_ADC_PAIRS.pairs = s.meter.pairs % 2 ^ 32 ∧
      s.only t [.words 0xA0460 0x1C, .part .pmb]) ∧
  (∀ (s : State),
    ∃ t, exec (.statusWord) s = .next t ∧
      (s.romUp = true → t.pmb = { s.pmb with acked := true, reply := leBytes 2 s.statusWord }) ∧
      (s.romUp = false → t.pmb = s.pmb) ∧
      (s.statusWord.testBit 6 = decide (s.get Reg.PWR_STATE.gate_on = 0)) ∧
      (s.statusWord.testBit 12 = (s.pmb.stMfr || s.pmb.stPlaus || s.svc.romRecovery)) ∧
      (s.statusWord.testBit 1 = (s.pmb.cml7 || s.pmb.cml6 || s.pmb.cml5)) ∧
      s.only t [.part .pmb]) ∧
  (∀ (s : State),
    s.pshUp = true →
    s.pmb.alert = true →
    ∃ t, exec (.alertResponse) s = .next t ∧
      t.pmb = { s.pmb with alert := false, acked := true, reply := leBytes 1 (2 * s.pmb.address) } ∧
      s.only t [.part .pmb]) ∧
  (∀ (s : State),
    s.romUp = true →
    ∃ t, exec (.quickCommand) s = .next t ∧
      t.pmb = { s.pmb with acked := true } ∧
      s.only t [.part .pmb]) ∧
  (∀ (s : State),
    s.romUp = true →
    ∃ t, exec (.receiveByte) s = .next t ∧
      t.pmb = { s.pmb with acked := true, reply := [0xFF] } ∧
      s.only t [.part .pmb]) ∧
  (∀ (s : State) (u : Unsupported),
    s.pshUp = true →
    refusedTransaction u = true →
    ∃ t, exec (.unsupportedCommand u) s = .next t ∧
      ((∀ v, u ≠ .operation v) → t.pmb = { s.pmb with acked := false, cml7 := true, alert := s.pmb.alert || !s.pmb.cml7 }) ∧
      ((∃ v, u = .operation v) → t.pmb = { s.pmb with acked := false, cml6 := true, alert := s.pmb.alert || !s.pmb.cml6 }) ∧
      s.only t [.part .pmb]) ∧
  (∀ (s : State) (fin : PmbEnd) (c : Instr) (v : Nat) (l : List Byte),
    s.pshUp = true →
    fin ≠ .whole →
    c ∈ [.clearFaults fin, .operationOn (some fin), .operationSoftOff fin, .operationImmediateOff fin, .mfrSlotStatus (.write fin v), .mfrBreakerProfile (.write fin v), .mfrExpertUnlock fin v, .mfrRegAddr (.write fin v), .mfrRegData (.write fin v), .mfrAdcCal fin, .mfrAdcProfile (.write fin v), .mfrMeterAddr (.write fin v), .mfrMeterData (.write fin v), .mfrUnitIndex (.write fin v), .mfrUnitState (.write fin v), .mfrRcCtrl fin v, .mfrRcStatus (.write fin v), .mfrRcSelect (.write fin v), .mfrRcOffset (.write fin v), .mfrRcClear fin l, .mfrRcOpkey fin l] →
    ∃ t, exec (c) s = .next t ∧
      (fin = .badPec → t.pmb = { s.pmb with cml5 := true, alert := s.pmb.alert || !s.pmb.cml5 }) ∧
      (fin = .short → t.pmb = { s.pmb with cml6 := true, alert := s.pmb.alert || !s.pmb.cml6 }) ∧
      s.only t [.part .pmb])

/-- Selector writes over PMBus (03 Table 03-12; 04 R107; 12 R341; 13 R372; 16 R425): a value in range is kept; another is not acknowledged, sets STATUS_CML bit 6 and changes nothing else. The W1C bits of MFR_SLOT_STATUS and MFR_RC_STATUS clear. Model's own readings and choices it may rest on, in notes/assumptions: DEDUCED 40, 41. -/
def Obligations.PmbusSelectorsAndClears : Prop :=
  (∀ (s : State) (v : Nat),
    s.pshUp = true →
    ∃ t, exec (.mfrRegAddr (.write .whole v)) s = .next t ∧
      (v ≤ 0x1FC ∧ v % 4 = 0 → t.pmb = { s.pmb with acked := true, regAddr := v }) ∧
      (¬ (v ≤ 0x1FC ∧ v % 4 = 0) → t.pmb = { s.pmb with acked := false, cml6 := true, alert := s.pmb.alert || !s.pmb.cml6 }) ∧
      s.only t [.part .pmb]) ∧
  (∀ (s : State) (v : Nat),
    s.pshUp = true →
    ∃ t, exec (.mfrMeterAddr (.write .whole v)) s = .next t ∧
      (0x400 ≤ v ∧ v ≤ 0x7FC ∧ v % 4 = 0 → t.pmb = { s.pmb with acked := true, meterAddr := v }) ∧
      (¬ (0x400 ≤ v ∧ v ≤ 0x7FC ∧ v % 4 = 0) → t.pmb = { s.pmb with acked := false, cml6 := true, alert := s.pmb.alert || !s.pmb.cml6 }) ∧
      s.only t [.part .pmb]) ∧
  (∀ (s : State) (v : Nat),
    s.pshUp = true →
    ∃ t, exec (.mfrUnitIndex (.write .whole v)) s = .next t ∧
      (v ≤ 100 → t.pmb = { s.pmb with acked := true, unitIndex := v }) ∧
      (100 < v → t.pmb = { s.pmb with acked := false, cml6 := true, alert := s.pmb.alert || !s.pmb.cml6 }) ∧
      s.only t [.part .pmb]) ∧
  (∀ (s : State) (v : Nat),
    s.pshUp = true →
    ∃ t, exec (.mfrRcOffset (.write .whole v)) s = .next t ∧
      (v % 32 = 0 ∧ v ≤ 4064 → t.pmb = { s.pmb with acked := true, rcOffset := v }) ∧
      (¬ (v % 32 = 0 ∧ v ≤ 4064) → t.pmb = { s.pmb with acked := false, cml6 := true, alert := s.pmb.alert || !s.pmb.cml6 }) ∧
      s.only t [.part .pmb]) ∧
  (∀ (s : State) (v : Nat),
    s.pshUp = true →
    ∃ t, exec (.mfrRcSelect (.write .whole v)) s = .next t ∧
      t.card = { s.card with selPmb := v % 0x1000, readyPmb := true, bufPmb := s.readSource (v % 0x1000 % 4) (v % 0x1000 / 4) } ∧
      t.pmb = { s.pmb with acked := true, rcOffset := 0 } ∧
      s.only t [.part .card, .part .pmb]) ∧
  (∀ (s : State) (v : Nat),
    s.pshUp = true →
    ∃ t, exec (.mfrSlotStatus (.write .whole v)) s = .next t ∧
      t.get Reg.PWR_SLOT_STATUS.lever_event = (if v.testBit 1 then 0 else s.get Reg.PWR_SLOT_STATUS.lever_event) ∧
      t.get Reg.PWR_SLOT_STATUS.off_request = (if v.testBit 2 then 0 else s.get Reg.PWR_SLOT_STATUS.off_request) ∧
      s.only t [.fld Reg.PWR_SLOT_STATUS.lever_event, .fld Reg.PWR_SLOT_STATUS.off_request, .part .pmb]) ∧
  (∀ (s : State) (v : Nat),
    s.pshUp = true →
    ∃ t, exec (.mfrRcStatus (.write .whole v)) s = .next t ∧
      t.get Reg.RCD_STATUS.freeze_expired = (if v.testBit 1 then 0 else s.get Reg.RCD_STATUS.freeze_expired) ∧
      t.get Reg.RCD_STATUS.flush_fail = (if v.testBit 3 then 0 else s.get Reg.RCD_STATUS.flush_fail) ∧
      t.get Reg.RCD_STATUS.clear_done = (if v.testBit 6 then 0 else s.get Reg.RCD_STATUS.clear_done) ∧
      t.get Reg.RCD_STATUS.lost_flush = (if v.testBit 7 then 0 else s.get Reg.RCD_STATUS.lost_flush) ∧
      t.pmb = { s.pmb with acked := true } ∧
      s.only t [.fld Reg.RCD_STATUS.freeze_expired, .fld Reg.RCD_STATUS.flush_fail, .fld Reg.RCD_STATUS.clear_done, .fld Reg.RCD_STATUS.lost_flush, .part .pmb])

/-- Register access over the two management paths (03 R68, R70, R79, R80; 04 R107; 06 R155; 16 R428): a PMBus read of a plain status word answers it, a write reaches the register as a BAR0 write does, the unlock pair within 10 ms enters the shared Expert, and a BAR0 write is dropped and marked while the link is lost. Model's own readings and choices it may rest on, in notes/assumptions: DEDUCED 13, 18, 22, 41. -/
def Obligations.PmbusRegisterAccess : Prop :=
  (∀ (s : State),
    s.pshUp = true →
    s.pmb.regAddr = 0x14 →
    ∃ t, exec (.mfrRegData .read) s = .next t ∧
      t.pmb = { s.pmb with acked := true, reply := leBytes 4 (readableWord (s.word 0xA0014) 0xA0014).toNat } ∧
      t.word 0xA0014 = s.word 0xA0014 ∧
      s.only t [.words 0xA0014 4, .part .pmb]) ∧
  (∀ (s : State) (v : Nat),
    s.pshUp = true →
    s.pmb.regAddr = 0x1C →
    s.expert blk.pwr = true →
    ∃ t, exec (.mfrRegData (.write .whole v)) s = .next t ∧
      t.word 0xA001C = (writtenWord (s.word 0xA001C) 0xA001C true (BitVec.ofNat 32 v)).1 ∧
      t.pmb.cml6 = (s.pmb.cml6 || (writtenWord (s.word 0xA001C) 0xA001C true (BitVec.ofNat 32 v)).2) ∧
      s.only t [.words 0xA001C 4, .part .pmb]) ∧
  (∀ (s : State),
    s.pshUp = true →
    s.pmb.meterAddr = 0x414 →
    ∃ t, exec (.mfrMeterData .read) s = .next t ∧
      t.pmb = { s.pmb with acked := true, reply := leBytes 4 (readableWord (s.word 0xA0414) 0xA0414).toNat } ∧
      s.only t [.words 0xA0414 4, .part .pmb]) ∧
  (∀ (s : State) (v : Nat),
    s.pshUp = true →
    s.pmb.meterAddr = 0x404 →
    v % 64 = 0x10 →
    s.expert blk.pwr = false →
    ∃ t, exec (.mfrMeterData (.write .whole v)) s = .next t ∧
      t.meter = { s.meter with energy := 0, charge := 0, elapsed := 0, pairs := 0 } ∧
      t.pmb = { s.pmb with acked := true } ∧
      s.only t [.part .meter, .part .pmb]) ∧
  (∀ (s : State) (v : Nat),
    s.pshUp = true →
    s.sec.romSafe = false →
    v < 3 →
    ∃ t, exec (.mfrBreakerProfile (.write .whole v)) s = .next t ∧
      t.get Reg.PWR_PROFILE.profile = v ∧
      t.expert blk.pwr = false ∧
      t.brk.timers = List.replicate 8 RuleTimer.fresh ∧
      t.pmb = { s.pmb with acked := true } ∧
      s.only t [.fld Reg.PWR_PROFILE.profile, .fld Reg.PWR_STATE.retry_count, .fld Reg.PWR_RULE_COMMIT.stale, .fld Reg.GLB_EXPERT_STATUS.expert, .words 0xA0010 24, .words 0xA0100 0x80, .part .brk, .part .host, .part .pmb]) ∧
  (∀ (s : State) (k : Nat),
    s.pshUp = true →
    s.sec.romSafe = false →
    ∃ t, exec (.mfrExpertUnlock .whole k) s = .next t ∧
      (k = 0x4558 → t.host.halves = s.host.halves.filter (fun h => !(decide (h.block = blk.pwr) && decide (h.path = .pmbus))) ++ [⟨blk.pwr, .pmbus, s.now⟩]) ∧
      (k = 0x5054 → ∀ h, s.host.halves.find? (fun h => decide (h.block = blk.pwr) && decide (h.path = .pmbus)) = some h →
        s.now ≤ h.since + 10000000 → t.expert blk.pwr = true ∧ t.expert blk.rcd = true) ∧
      (k ≠ 0x5054 → t.get Reg.GLB_EXPERT_STATUS.expert = s.get Reg.GLB_EXPERT_STATUS.expert) ∧
      t.pmb = { s.pmb with acked := true } ∧
      s.only t [.fld Reg.GLB_EXPERT_STATUS.expert, .part .host, .part .pmb]) ∧
  (∀ (s : State) (off v : Nat),
    s.bar0Open →
    s.gpGld.lost = true →
    isPsh2Word off = true →
    off % 4 = 0 →
    ∃ t, exec (.psh2RegisterWrite off v) s = .next t ∧
      t.get Reg.GLB_GPLINK_STATUS.write_dropped = 1 ∧
      s.only t [.fld Reg.GLB_GPLINK_STATUS.write_dropped]) ∧
  (∀ (s : State) (v : Nat),
    s.pshOpen →
    s.expert blk.pwr = true →
    ∃ t, exec (.psh2RegisterWrite 0xA001C v) s = .next t ∧
      t.word 0xA001C = (writtenWord (s.word 0xA001C) 0xA001C true (BitVec.ofNat 32 v)).1 ∧
      s.only t [.words 0xA001C 4])

/-- Flushes and erases (13 R350, R351, R353 to R355, R366): a trigger makes a flush due; the flush programs the block of the live summary with the next sequence number and its commit word, byte for byte, leaves every other byte but one journal entry as it was, and moves on to the reserve; a finished erase leaves the sector blank; with the window open the next waiting erase starts. Model's own readings and choices it may rest on, in notes/assumptions: DEDUCED 8, 116. -/
def Obligations.FlushWritesTheBlock : Prop :=
  (∀ (s : State),
    s.pshUp = true →
    ∃ t, exec (.flushPeriod) s = .next t ∧
      s.dueTo t 0 ∧
      s.only t [.fld Reg.RCD_STATUS.flush_pending, .part .card]) ∧
  (∀ (s : State),
    s.pshOpen →
    ∃ t, exec (.flushNow) s = .next t ∧
      s.dueTo t 5 ∧
      s.only t [.fld Reg.RCD_STATUS.flush_pending, .part .card]) ∧
  (∀ (s : State),
    s.pshUp = true →
    s.flushReady = true →
    s.card.journalSector ≤ 1 →
    s.card.journalEntry ≤ 255 →
    ∃ t, exec (.flush true) s = .next t ∧
      t.get Reg.RCD_LAST_SEQ.last_seq = (s.get Reg.RCD_LAST_SEQ.last_seq + 1) % 2 ^ 32 ∧
      t.get Reg.RCD_STATUS.flush_pending = 0 ∧
      t.card.due = 0 ∧ t.card.failures = 0 ∧ t.card.flushSlot = s.card.reserve ∧ t.card.reserve = nextSlot s.card.reserve ∧
      (∀ i, i < (s.flushBlock).length → Store.read norBlank t.nor (circAddr s.card.flushSlot + i) = (s.flushBlock).getD i 0) ∧
      (∀ a, (a < circAddr s.card.flushSlot ∨ circAddr s.card.flushSlot + (s.flushBlock).length ≤ a) →
        (a < journalAddr s.card.journalSector s.card.journalEntry ∨ journalAddr s.card.journalSector s.card.journalEntry + 16 ≤ a) →
        Store.read norBlank t.nor a = Store.read norBlank s.nor a) ∧
      s.only t [.fld Reg.RCD_LAST_SEQ.last_seq, .fld Reg.RCD_STATUS.flush_pending, .fld Reg.RCD_STATUS.visible, .part .card, .part .nor]) ∧
  (∀ (s : State),
    s.pshUp = true →
    s.flushReady = true →
    ∃ t, exec (.flush false) s = .next t ∧
      t.get Reg.RCD_STATUS.flush_fail = 1 ∧
      t.get Reg.RCD_LAST_SEQ.last_seq = s.get Reg.RCD_LAST_SEQ.last_seq ∧
      t.card.due = s.card.due ∧ t.card.failures = s.card.failures + 1 ∧ t.card.flushSlot = s.card.reserve ∧
      s.only t (([.fld Reg.RCD_STATUS.flush_fail, .part .card, .part .nor] : List Place) ++ irqPlaces)) ∧
  (∀ (s : State) (e : EraseRun),
    s.svc.pshPower = true →
    s.halted 4 = false →
    s.card.erase = some e →
    s.card.eraseQueue = [] →
    e.purpose ≠ .journal →
    s.card.journalEntry < 255 →
    (e.entry + 16 ≤ e.addr ∨ e.addr + 0x1000 ≤ e.entry) →
    0x410000 ≤ e.addr →
    s.bk ≠ bkQualifying →
    ∃ t, exec (.eraseDone) s = .next t ∧
      (∀ i, i < 0x1000 → Store.read norBlank t.nor (e.addr + i) = 0xFF) ∧
      t.card.erase = none ∧
      t.card.flushErased = (s.card.flushErased || decide (e.addr = circAddr s.card.flushSlot)) ∧
      t.card.reserveErased = (s.card.reserveErased || decide (e.addr = circAddr s.card.reserve)) ∧
      (s.card.started = true → t.card.flushErased = true → t.card.reserveErased = true → t.get Reg.RCD_STATUS.reserve_ready = 1) ∧
      s.only t [.fld Reg.RCD_STATUS.reserve_ready, .part .card, .part .nor]) ∧
  (∀ (s : State) (a : Nat) (p : ErasePurpose) (l : List (Nat × ErasePurpose)),
    s.pshUp = true →
    s.get Reg.RCD_STATUS.window_closed = 0 →
    s.card.erase = none →
    s.card.eraseQueue = (a, p) :: l →
    s.card.journalEntry < 255 →
    s.card.due = 0 →
    ∃ t, exec (.windowRetry) s = .next t ∧
      t.card.erase = some ⟨a, p, journalAddr s.card.journalSector s.card.journalEntry, false⟩ ∧
      t.card.eraseQueue = l ∧
      t.card.journalEntry = s.card.journalEntry + 1 ∧
      s.only t [.part .card, .part .nor])

/-- The freeze (13 R358) and GLD1's increments (13 R346): a freeze holds the summary; the thaw of the last path and the expiry add the hold copy; GLD1's increments reach the summary that takes samples, stamped by PSH2, and stay with GLD1 while the link is lost. Selecting a block over BAR0 (13 R357) and the recorder's profile (13 R362; 04 R100; 00 R6). Model's own readings and choices it may rest on, in notes/assumptions: DEDUCED 19, 22, 117. -/
def Obligations.SummaryFreezesAndBlocksAreSelected : Prop :=
  (∀ (s : State),
    s.pshOpen →
    ∃ t, exec (.freeze) s = .next t ∧
      t.card = { s.card with frozenBar := true } ∧
      t.get Reg.RCD_STATUS.frozen = 1 ∧
      s.only t [.fld Reg.RCD_STATUS.frozen, .part .card]) ∧
  (∀ (s : State),
    s.pshOpen →
    s.card.frozenBar = true →
    s.card.clearWaits = none →
    ∃ t, exec (.thaw) s = .next t ∧
      (s.card.frozenPmb = false → t.get Reg.RCD_STATUS.frozen = 0 ∧
        t.card = { s.card with frozenBar := false, live := s.card.live.merge s.card.hold, hold := Live.empty }) ∧
      (s.card.frozenPmb = true → t.card = { s.card with frozenBar := false } ∧ t.get Reg.RCD_STATUS.frozen = s.get Reg.RCD_STATUS.frozen) ∧
      s.only t [.fld Reg.RCD_STATUS.frozen, .part .card]) ∧
  (∀ (s : State),
    s.pshUp = true →
    s.frozen = true →
    s.card.clearWaits = none →
    ∃ t, exec (.freezeExpiry) s = .next t ∧
      t.get Reg.RCD_STATUS.frozen = 0 ∧ t.get Reg.RCD_STATUS.freeze_expired = 1 ∧
      t.card = { s.card with frozenBar := false, frozenPmb := false, live := s.card.live.merge s.card.hold, hold := Live.empty } ∧
      s.only t [.fld Reg.RCD_STATUS.frozen, .fld Reg.RCD_STATUS.freeze_expired, .part .card]) ∧
  (∀ (s : State) (n : Nat),
    s.svc.rstLow = false →
    s.service ≠ svcRecess →
    ∃ t, exec (.rcIncrement n) s = .next t ∧
      (s.gpGld.lost = true ∨ s.pshUp = false → t.card = { s.card with gld := (s.gldSamples n).card.gld }) ∧
      (s.gpGld.lost = false → s.pshUp = true → t.card.gld = Live.empty) ∧
      (s.gpGld.lost = false → s.pshUp = true → s.frozen = false →
        t.card.live = s.card.live.merge ((s.gldSamples n).card.gld.stamp (s.get Reg.RCD_OP_SECONDS.op_seconds) (s.get Reg.RCD_POWER_CYCLE.power_cycle))) ∧
      (s.gpGld.lost = false → s.pshUp = true → s.frozen = true → t.card.live = s.card.live) ∧
      s.only t [.part .card]) ∧
  (∀ (s : State),
    s.pshUp = true →
    ∃ t, exec (.mfrRcCtrl .whole 1) s = .next t ∧
      t.card = { s.card with frozenPmb := true } ∧
      t.get Reg.RCD_STATUS.frozen = 1 ∧
      t.pmb = { s.pmb with acked := true } ∧
      s.only t [.fld Reg.RCD_STATUS.frozen, .part .card, .part .pmb]) ∧
  (∀ (s : State) (v : Nat),
    s.pshOpen →
    ∃ t, exec (.rcSelect v) s = .next t ∧
      t.get Reg.RCD_SELECT.source = v % 4 ∧ t.get Reg.RCD_SELECT.index = v / 2 ^ 16 % 1024 ∧ t.get Reg.RCD_SELECT.ready = 1 ∧
      t.card = { s.card with bufBar := s.readSource (v % 4) (v / 2 ^ 16 % 1024) } ∧
      s.only t [.fld Reg.RCD_SELECT.source, .fld Reg.RCD_SELECT.index, .fld Reg.RCD_SELECT.ready, .part .card]) ∧
  (∀ (s : State) (v : Nat),
    s.pshOpen →
    v < 3 →
    ∃ t, exec (.rcdProfile v) s = .next t ∧
      t.get Reg.RCD_PROFILE.profile = v ∧
      t.get Reg.RCD_CFG.flush_period = (if v = 2 then 30 else 10) ∧
      t.get Reg.RCD_CFG.fault_spacing = (if v = 0 then 60 else if v = 1 then 10 else 300) ∧
      t.expert blk.rcd = false ∧ t.expert blk.pwr = false ∧
      s.only t [.fld Reg.RCD_PROFILE.profile, .fld Reg.RCD_CFG.flush_period, .fld Reg.RCD_CFG.fault_spacing, .fld Reg.GLB_EXPERT_STATUS.expert, .part .host]) ∧
  (∀ (s : State),
    s.pshOpen →
    ∃ t, exec (.rcdProfile 3) s = .next t ∧
      s.only t [])

/-- Clearing the Report Card (13 R359, R361, R367, R370): a nonce is a value the spec leaves open, drawn anew at each request; a submitted token waits for its verification; its first failure is reported and changes nothing else; a good token counts a clear, writes a record and spends the nonce, at the thaw if the summary is frozen; the operator key is written once. Model's own readings and choices it may rest on, in notes/assumptions: DESIGN CHOICE 1, 118; PRESUMED 106; DEDUCED 119. -/
def Obligations.ClearTokensAreJudgedInOrder : Prop :=
  (∀ (s : State),
    s.pshOpen →
    ∃ t, exec (.nonceReq) s = .next t ∧
      t.get Reg.RCD_CLEAR_NONCE.nonce = (Config.clearNonce s.fresh).toNat ∧
      t.fresh = s.fresh + 1 ∧
      t.card = { s.card with nonceValid := true } ∧
      s.only t [.fld Reg.RCD_CLEAR_NONCE.nonce, .part .card, .part .fresh]) ∧
  (∀ (s : State),
    ∃ t, exec (.nonceExpiry) s = .next t ∧
      t.get Reg.RCD_CLEAR_NONCE.nonce = 0 ∧
      t.card = { s.card with nonceValid := false } ∧
      s.only t [.fld Reg.RCD_CLEAR_NONCE.nonce, .part .card]) ∧
  (∀ (s : State),
    s.pshOpen →
    s.card.verifying = none →
    s.card.clearWaits = none →
    ∃ t, exec (.apply) s = .next t ∧
      t.card = { s.card with verifying := some s.barToken } ∧
      t.get Reg.RCD_STATUS.clear_result = 2 ∧
      s.only t [.fld Reg.RCD_STATUS.clear_result, .part .card]) ∧
  (∀ (s : State) (token : List Byte),
    s.pshUp = true →
    160 ≤ token.length →
    s.card.verifying = none →
    s.card.clearWaits = none →
    ∃ t, exec (.mfrRcClear .whole token) s = .next t ∧
      t.card = { s.card with verifying := some (token.take 160) } ∧
      t.get Reg.RCD_STATUS.clear_result = 2 ∧
      t.pmb = { s.pmb with acked := true } ∧
      s.only t [.fld Reg.RCD_STATUS.clear_result, .part .card, .part .pmb]) ∧
  (∀ (s : State) (token : List Byte),
    s.card.verifying = some token →
    ∃ t, exec (.tokenVerified) s = .next t ∧
      (s.tokenResult token ≠ 1 → t.get Reg.RCD_STATUS.clear_result = s.tokenResult token ∧ t.card = { s.card with verifying := none } ∧ t.nor = s.nor ∧
        t.get Reg.RCD_CLEARS.clears = s.get Reg.RCD_CLEARS.clears ∧ t.get Reg.RCD_CLEAR_NONCE.nonce = s.get Reg.RCD_CLEAR_NONCE.nonce) ∧
      (s.tokenResult token = 1 → s.frozen = true → t.card = { s.card with verifying := none, clearWaits := some token } ∧ t.nor = s.nor) ∧
      (s.tokenResult token = 1 → s.frozen = false → t.get Reg.RCD_CLEARS.clears = (s.get Reg.RCD_CLEARS.clears + 1) % 2 ^ 32 ∧
        t.get Reg.RCD_CLEAR_NONCE.nonce = 0 ∧ t.get Reg.RCD_STATUS.clear_done = 1 ∧ t.get Reg.RCD_STATUS.clear_result = 1 ∧
        t.get Reg.RCD_STATUS.flush_pending = 1 ∧ t.card.records = s.card.records + 1 ∧ t.card.nonceValid = false ∧ t.card.verifying = none) ∧
      s.only t (([.fld Reg.RCD_CLEARS.clears, .fld Reg.RCD_CLEAR_NONCE.nonce, .fld Reg.RCD_STATUS.clear_done, .fld Reg.RCD_STATUS.clear_result, .fld Reg.RCD_STATUS.flush_pending, .fld Reg.RCD_STATUS.visible, .part .card, .part .nor] : List Place) ++ irqPlaces)) ∧
  (∀ (s : State) (key : List Byte),
    s.pshUp = true →
    97 ≤ key.length →
    ∃ t, exec (.mfrRcOpkey .whole key) s = .next t ∧
      (s.card.opKey = none → t.card = { s.card with opKey := some (key.take 97) } ∧ t.get Reg.RCD_STATUS.opkey_present = 1 ∧ t.pmb = { s.pmb with acked := true }) ∧
      (s.card.opKey ≠ none → t.card = s.card ∧ t.get Reg.RCD_STATUS.opkey_present = s.get Reg.RCD_STATUS.opkey_present ∧
        t.pmb = { s.pmb with acked := true, cml6 := true, alert := s.pmb.alert || !s.pmb.cml6 }) ∧
      s.only t [.fld Reg.RCD_STATUS.opkey_present, .part .card, .part .pmb])

/-- GP_LINK_FRAME, GP_LINK_REFUSAL and GP_LINK_IDLE (01 R12, R13; 12 R325): a frame that is not whole or not the next one is refused with the number expected and changes nothing else at its receiver; a whole and expected one is counted and applied: an idle frame does nothing more, a mirror frame writes GLD1's mirror word, which stands while the link counts as lost, a mgmt_state frame sets the unit's mgmt_state and lock and drains a unit that leaves IN_SERVICE; a refusal makes the sender send again from the number named. Model's own readings and choices it may rest on, in notes/assumptions: DEDUCED 13, 14, 15. -/
def Obligations.GpFramesAreTakenInOrder : Prop :=
  (∀ (s : State) (seq : Nat) (ok : Bool) (m : GpMsg),
    s.gpRuns = true →
    s.gpTakes true m = true →
    (ok = false ∨ seq % 256 ≠ s.gpGld.expect) →
    ∃ t, exec (.gpLinkFrame true seq ok m) s = .next t ∧
      t.gpGld = { s.gpGld with refusals := s.gpGld.refusals ++ [s.gpGld.expect], validRun := 0 } ∧
      (seq % 256 ≠ s.gpPsh.nextSeq → t.gpPsh = s.gpPsh) ∧
      (seq % 256 = s.gpPsh.nextSeq → t.gpPsh.nextSeq = (seq % 256 + 1) % 256) ∧
      s.only t [.part .gpGld, .part .gpPsh]) ∧
  (∀ (s : State) (seq : Nat) (ok : Bool) (m : GpMsg),
    s.gpRuns = true →
    s.gpTakes false m = true →
    (ok = false ∨ seq % 256 ≠ s.gpPsh.expect) →
    ∃ t, exec (.gpLinkFrame false seq ok m) s = .next t ∧
      t.gpPsh = { s.gpPsh with refusals := s.gpPsh.refusals ++ [s.gpPsh.expect], validRun := 0 } ∧
      (seq % 256 = s.gpGld.nextSeq → t.gpGld.nextSeq = (seq % 256 + 1) % 256) ∧
      s.only t [.part .gpGld, .part .gpPsh]) ∧
  (∀ (s : State) (seq : Nat),
    s.gpRuns = true →
    seq % 256 = s.gpGld.expect →
    ∃ t, exec (.gpLinkFrame true seq true .idle) s = .next t ∧
      t.gpGld = { s.gpGld with expect := (s.gpGld.expect + 1) % 256, validRun := s.gpGld.validRun + 1 } ∧
      s.only t [.part .gpGld, .part .gpPsh]) ∧
  (∀ (s : State) (seq : Nat),
    s.gpRuns = true →
    seq % 256 = s.gpPsh.expect →
    ∃ t, exec (.gpLinkFrame false seq true .idle) s = .next t ∧
      t.gpPsh = { s.gpPsh with expect := (s.gpPsh.expect + 1) % 256, validRun := s.gpPsh.validRun + 1 } ∧
      s.only t [.part .gpGld, .part .gpPsh]) ∧
  (∀ (s : State) (seq off : Nat) (w : Word),
    s.gpRuns = true →
    s.halted 3 = false →
    seq % 256 = s.gpGld.expect →
    ∃ t, exec (.gpLinkFrame true seq true (.mirror off w)) s = .next t ∧
      (s.gpGld.lost = false → Store.read resetWord t.mirror off = w ∧
        ∀ k, k ≠ off → Store.read resetWord t.mirror k = Store.read resetWord s.mirror k) ∧
      (s.gpGld.lost = true → t.mirror = s.mirror) ∧
      s.only t [.part .gpGld, .part .gpPsh, .part .mirror]) ∧
  (∀ (s : State) (seq u v : Nat),
    s.gpRuns = true →
    s.halted 3 = false →
    seq % 256 = s.gpGld.expect →
    s.gpGld.lost = false →
    u ≤ 100 →
    ∃ t, exec (.gpLinkFrame true seq true (.mgmt u v)) s = .next t ∧
      t.get (Reg.FAB_LEDGER.mgmt_state u) = v % 8 ∧
      t.get (Reg.FAB_LEDGER.lock u) = v / 8 % 2 ∧
      t.get (Reg.FAB_LEDGER.data_state u) =
        (if v % 8 = mgmtInService ∨ (s.get (Reg.FAB_LEDGER.data_state u) ≠ dataReady ∧ s.get (Reg.FAB_LEDGER.data_state u) ≠ dataDraining)
        then s.get (Reg.FAB_LEDGER.data_state u) else if s.unitInFlight u then dataDraining else dataOut) ∧
      t.get (Reg.FAB_LEDGER.disagree u) = (if pairAgrees (v % 8) (t.get (Reg.FAB_LEDGER.data_state u)) then 0 else 1) ∧
      s.only t [.fld (Reg.FAB_LEDGER.mgmt_state u), .fld (Reg.FAB_LEDGER.lock u), .fld (Reg.FAB_LEDGER.data_state u), .fld (Reg.FAB_LEDGER.disagree u), .fld Reg.FAB_LEDGER_STATUS.fenced_units, .words 0x20008 4, .words 0x20100 0x100, .part .gpGld, .part .gpPsh]) ∧
  (∀ (s : State) (n : Nat),
    s.gpRuns = true →
    ∃ t, exec (.gpLinkRefusal true n) s = .next t ∧
      (∀ i, s.gpGld.sent.findIdx? (fun x => decide (x.1 = n % 256)) = some i →
        t.gpGld = { s.gpGld with nextSeq := n % 256, sent := s.gpGld.sent.take i, queue := (s.gpGld.sent.drop i).map (·.2) ++ s.gpGld.queue } ∧
        t.get Reg.GLB_GPLINK_STATUS.crc_retries = min (s.get Reg.GLB_GPLINK_STATUS.crc_retries + (s.gpGld.sent.length - i)) 255) ∧
      (s.gpGld.sent.findIdx? (fun x => decide (x.1 = n % 256)) = none → t.gpGld = s.gpGld) ∧
      t.gpPsh = { s.gpPsh with refusals := s.gpPsh.refusals.erase (n % 256) } ∧
      s.only t [.fld Reg.GLB_GPLINK_STATUS.crc_retries, .part .gpGld, .part .gpPsh]) ∧
  (∀ (s : State) (n : Nat),
    s.gpRuns = true →
    ∃ t, exec (.gpLinkRefusal false n) s = .next t ∧
      (∀ i, s.gpPsh.sent.findIdx? (fun x => decide (x.1 = n % 256)) = some i →
        t.gpPsh = { s.gpPsh with nextSeq := n % 256, sent := s.gpPsh.sent.take i, queue := (s.gpPsh.sent.drop i).map (·.2) ++ s.gpPsh.queue } ∧
        t.get Reg.GLB_GPLINK_STATUS.crc_retries = min (s.get Reg.GLB_GPLINK_STATUS.crc_retries + (s.gpPsh.sent.length - i)) 255) ∧
      (s.gpPsh.sent.findIdx? (fun x => decide (x.1 = n % 256)) = none → t.gpPsh = s.gpPsh) ∧
      t.gpGld = { s.gpGld with refusals := s.gpGld.refusals.erase (n % 256) } ∧
      s.only t [.fld Reg.GLB_GPLINK_STATUS.crc_retries, .part .gpGld, .part .gpPsh]) ∧
  (∀ (s : State),
    s.gpRuns = true →
    s.gpPsh.queue = [] →
    ∃ t, exec (.gpLinkIdle true) s = .next t ∧
      t.gpPsh.queue = [.idle] ∧
      s.only t [.part .gpPsh]) ∧
  (∀ (s : State),
    s.gpRuns = true →
    s.gpGld.queue = [] →
    ∃ t, exec (.gpLinkIdle false) s = .next t ∧
      t.gpGld.queue = [.idle] ∧
      s.only t [.part .gpGld])

/-- GP_LINK_LOST and GP_LINK_RESTORED (01 R13; 13 R346): both sides start their numbering again; at the return PSH2 sends the mgmt_state of all 101 units. CLOCK_LOST and CLOCK_PRESENT (01 R20, R21): the lost bit latches, the ok bit follows, the crossings the clock feeds are held in reset until it returns, and the cause sets; counts that waited at the held crossing of the Hall Pass reach their registers when its clock is back. Model's own readings and choices it may rest on, in notes/assumptions: DEDUCED 8, 15, 55. -/
def Obligations.LinkAndClockLossAreShown : Prop :=
  (∀ (s : State),
    s.svc.rstLow = false →
    s.gpGld.lost = false →
    ∃ t, exec (.gpLinkLost) s = .next t ∧
      t.get Reg.GLB_GPLINK_STATUS.link_lost = 1 ∧ t.get Reg.GLB_GPLINK_STATUS.link_up = 0 ∧
      t.gpGld = { s.gpGld with nextSeq := 0, expect := 0, sent := [], refusals := [], validRun := 0, lost := true, up := false } ∧
      t.gpPsh = { s.gpPsh with nextSeq := 0, expect := 0, sent := [], refusals := [], validRun := 0, lost := true, up := false } ∧
      (t.causes 0).testBit cause.gpLink = true ∧
      (s.pshUp = true → t.get Reg.RCD_STATUS.flush_pending = 1) ∧
      s.only t (([.fld Reg.GLB_GPLINK_STATUS.link_lost, .fld Reg.GLB_GPLINK_STATUS.link_up, .fld Reg.RCD_STATUS.flush_pending, .part .gpGld, .part .gpPsh, .part .card] : List Place) ++ irqPlaces)) ∧
  (∀ (s : State),
    s.gpRuns = true →
    s.gpGld.up = false →
    16 ≤ s.gpGld.validRun →
    s.sec.checkDue = false →
    ∃ t, exec (.gpLinkRestored) s = .next t ∧
      t.get Reg.GLB_GPLINK_STATUS.link_up = 1 ∧
      t.gpGld.lost = false ∧ t.gpGld.up = true ∧ t.gpPsh.lost = false ∧ t.gpPsh.up = true ∧
      t.gpPsh.queue = s.gpPsh.queue ++ (List.range 101).map (fun u => .mgmt u ((s.mgmtOf u).mgmt + flagBit (s.mgmtOf u).lock 3)) ∧
      s.only t [.fld Reg.GLB_GPLINK_STATUS.link_up, .part .gpGld, .part .gpPsh, .part .card]) ∧
  (∀ (s : State),
    (s.gpRuns = false ∨ s.gpGld.up = true ∨ s.gpGld.validRun < 16) →
    ∃ t, exec (.gpLinkRestored) s = .next t ∧
      s.only t []) ∧
  (∀ (s : State) (c : WatchedClock),
    clockThere c = true →
    s.watches = true →
    s.get (clkOk c) = 1 →
    ∃ t, exec (.clockLost c) s = .next t ∧
      t.get (clkLost c) = 1 ∧ t.get (clkOk c) = 0 ∧
      t.crossHeld = s.crossHeld.set (WatchedClock.bit c) true ∧
      (t.causes 0).testBit cause.clockLost = true ∧
      ((c = .capture → s.cap.onLink = none) → (∀ p, c = .akgal p → s.akState p ≠ akUp) → s.only t ([.fld (clkLost c), .fld (clkOk c), .part .crossHeld] ++ irqPlaces)) ∧
      (∀ p, c = .akgal p → s.akState p = akUp → t.akState p = akRetrain) ∧
      s.only t (([] : List Place) ++ gldPlaces)) ∧
  (∀ (s : State) (c : WatchedClock),
    clockThere c = true →
    s.watches = true →
    ∃ t, exec (.clockPresent c) s = .next t ∧
      t.get (clkOk c) = 1 ∧
      t.crossHeld = s.crossHeld.set (WatchedClock.bit c) false ∧
      t.get Reg.HPS_TRIGGER_COUNT.triggers = (if c = .hpClk then min (s.get Reg.HPS_TRIGGER_COUNT.triggers + s.pass.heldTriggers) 0xFFFFFFFF else s.get Reg.HPS_TRIGGER_COUNT.triggers) ∧
      t.get Reg.HPS_DEFAULT_COUNT.default_answers = (if c = .hpClk then min (s.get Reg.HPS_DEFAULT_COUNT.default_answers + s.pass.heldDefaults) 0xFFFFFFFF else s.get Reg.HPS_DEFAULT_COUNT.default_answers) ∧
      t.pass = (if c = .hpClk then { s.pass with heldTriggers := 0, heldDefaults := 0 } else s.pass) ∧
      s.only t [.fld Reg.GLB_CLK_STATUS.refclk_ok, .fld Reg.GLB_CLK_STATUS.capture_clk_ok, .fld Reg.GLB_CLK_STATUS.hp_clk_ok, .fld Reg.GLB_CLK_STATUS.eth0_rx_ok, .fld Reg.GLB_CLK_STATUS.eth1_rx_ok, .fld Reg.GLB_CLK_STATUS.akgal_rx_ok, .fld Reg.HPS_TRIGGER_COUNT.triggers, .fld Reg.HPS_DEFAULT_COUNT.default_answers, .part .crossHeld, .part .pass])

/-- GP_RST_RELEASE, STAGE_COMPLETE, HANDOVER_START and PCIE_LINK_TRAINED (02 R48; 05 R111 to R118): GLD1 samples SLOT_ID and starts with the Image stage; every stage ends in the next one of Table 05-2, with what its failures leave (Table 05-4); full service starts only when the handover has begun. Model's own readings and choices it may rest on, in notes/assumptions: DEDUCED 8, 44, 45, 46, 47, 48. -/
def Obligations.BringUpRunsItsStages : Prop :=
  (∀ (s : State),
    s.svc.rstLow = true →
    s.pshUp = true →
    s.bk = bkOn →
    s.brk.regsUp = 4 →
    ∃ t, exec (.gpRstRelease) s = .next t ∧
      t.svc = { s.svc with rstLow := false, imageSent := 0, imageGot := 0 } ∧
      t.get Reg.GLB_SLOT.slot_id = s.slotStraps % 32 ∧
      t.get Reg.GLB_SERVICE.stage = 1 ∧ t.get Reg.DBG_STATUS.gld1_in_chain = 1 ∧
      t.get Reg.PWR_SLOT_STATUS.slot_id_differ = (if s.get Reg.PWR_SLOT_STATUS.psh2_slot_id = s.slotStraps % 32 then 0 else 1) ∧
      s.only t (([.fld Reg.GLB_SLOT.slot_id, .fld Reg.GLB_SERVICE.stage, .fld Reg.DBG_STATUS.gld1_in_chain, .fld Reg.PWR_SLOT_STATUS.slot_id_differ, .part .svc, .part .pmb] : List Place) ++ irqPlaces)) ∧
  (∀ (s : State),
    (s.svc.rstLow = false ∨ s.pshUp = false ∨ s.bk ≠ bkOn ∨ s.brk.regsUp ≠ 4) →
    ∃ t, exec (.gpRstRelease) s = .next t ∧
      s.only t []) ∧
  (∀ (s : State) (failed : List Nat),
    s.svc.rstLow = false →
    s.service = svcBoot →
    s.stage = 1 →
    ∃ t, exec (.stageComplete failed) s = .next t ∧
      t.get Reg.GLB_SERVICE.stage = 2 ∧
      s.only t [.fld Reg.GLB_SERVICE.stage]) ∧
  (∀ (s : State) (failed : List Nat),
    s.svc.rstLow = false →
    s.service = svcBoot →
    s.stage = 3 →
    s.sec.restarting = false →
    s.sec.checkDue = false →
    s.svc.warm = false →
    ∃ t, exec (.stageComplete failed) s = .next t ∧
      (s.get Reg.SEC_FW_STATUS.if_mismatch = 1 → t.service = svcRecovery) ∧
      (s.get Reg.SEC_FW_STATUS.if_mismatch = 0 → t.service = svcHomeroom ∧ t.get Reg.GLB_SERVICE.homeroom = 1 ∧ t.get Reg.GLB_SERVICE.full_service = 0 ∧ t.stage = 4) ∧
      (t.causes 0).testBit cause.serviceChange = true ∧
      s.only t (([.fld Reg.RCD_STATUS.flush_pending] : List Place) ++ gldPlaces)) ∧
  (∀ (s : State) (failed : List Nat),
    s.svc.rstLow = false →
    s.service = svcHomeroom →
    s.stage = 4 →
    s.fab.powered = true →
    s.get Reg.GLB_SERVICE.stuck_homeroom = 0 →
    s.svc.fromMemory = false →
    ∃ t, exec (.stageComplete failed) s = .next t ∧
      t.get Reg.GLB_BRINGUP_STATUS.mem_fail = s.get Reg.GLB_BRINGUP_STATUS.mem_fail ||| (((List.range 4).filter failed.contains).map (2 ^ ·)).sum ∧
      (∀ c, c < 4 → t.get (Reg.MEM_CH_STATUS.trained c) = (if failed.contains c then 0 else 1)) ∧
      (∀ c, c < 4 → failed.contains c = true → t.get (Reg.FAB_LEDGER.data_state (96 + c)) = dataFailed) ∧
      (((List.range 4).all failed.contains) = true → t.get Reg.GLB_SERVICE.stuck_homeroom = 1 ∧ t.stage = 4) ∧
      (((List.range 4).all failed.contains) = false → t.get Reg.GLB_SERVICE.stuck_homeroom = 0 ∧ t.stage = 5) ∧
      s.only t [.fld Reg.GLB_SERVICE.stage, .fld Reg.GLB_SERVICE.stuck_homeroom, .fld Reg.GLB_BRINGUP_STATUS.mem_fail, .words 0x80000 0x100, .words 0x21180 0x10, .fld Reg.FAB_LEDGER_STATUS.fenced_units, .words 0x20008 4, .words 0x20100 0x100]) ∧
  (∀ (s : State) (failed : List Nat),
    s.svc.rstLow = false →
    s.service = svcHomeroom →
    s.stage = 6 →
    ∃ t, exec (.stageComplete failed) s = .next t ∧
      (failed = [] → s.only t [.fld Reg.GLB_SERVICE.stage] ∧ t.stage = 7) ∧
      (failed ≠ [] → s.svc.calRefusals = 0 → t.svc = { s.svc with calRefusals := 1 } ∧ t.stage = 6 ∧ t.gpGld.queue = s.gpGld.queue ++ [.calRequest]) ∧
      (failed ≠ [] → s.svc.calRefusals ≠ 0 → t.get Reg.GLB_BRINGUP_STATUS.cal_fail = 1 ∧ t.stage = 7) ∧
      s.only t [.fld Reg.GLB_SERVICE.stage, .fld Reg.GLB_BRINGUP_STATUS.cal_fail, .part .svc, .part .gpGld]) ∧
  (∀ (s : State) (failed : List Nat),
    s.svc.rstLow = false →
    s.service = svcHomeroom →
    s.stage = 7 →
    ∃ t, exec (.stageComplete failed) s = .next t ∧
      t.stage = (if s.svc.warm = true ∨ s.svc.fromMemory = true then 9 else 8) ∧
      (∀ p, p < 4 → t.akState p = (if t.stage = 8 ∧ s.get (Reg.AKG_PORT_CTRL.enable p) = 1 ∧ s.akState p = akDisabled then akDetect else s.akState p)) ∧
      s.only t [.fld Reg.GLB_SERVICE.stage, .fld (Reg.AKG_PORT_STATUS.state 0), .fld (Reg.AKG_PORT_STATUS.state 1), .fld (Reg.AKG_PORT_STATUS.state 2), .fld (Reg.AKG_PORT_STATUS.state 3)]) ∧
  (∀ (s : State) (failed : List Nat),
    s.svc.rstLow = false →
    s.service = svcHomeroom →
    s.stage = 8 →
    ∃ t, exec (.stageComplete failed) s = .next t ∧
      t.stage = 9 ∧
      t.get Reg.GLB_BRINGUP_STATUS.akgal_untrained = ((List.range 4).map (fun p => if s.akState p = akUp then 0 else 2 ^ p)).sum ∧
      s.only t [.fld Reg.GLB_SERVICE.stage, .fld Reg.GLB_BRINGUP_STATUS.akgal_untrained]) ∧
  (∀ (s : State) (failed : List Nat),
    s.svc.rstLow = false →
    s.service = svcHomeroom →
    s.stage = 9 →
    ∃ t, exec (.stageComplete failed) s = .next t ∧
      (s.svc.handover = true → t.service = svcFull ∧ t.get Reg.GLB_SERVICE.full_service = 1 ∧ t.get Reg.GLB_SERVICE.homeroom = 0 ∧ t.stage = 15 ∧
        t.get Reg.GLB_SERVICE.bringup_time = (if s.svc.warm = true ∧ s.get Reg.GLB_SERVICE.bringup_time ≠ 0 then s.get Reg.GLB_SERVICE.bringup_time else min ((s.now - s.svc.powerGoodAt) / 1000000) 4095) ∧
        (t.causes 0).testBit cause.serviceChange = true) ∧
      (s.svc.handover = false → s.only t []) ∧
      s.only t (([] : List Place) ++ gldPlaces)) ∧
  (∀ (s : State),
    s.service = svcHomeroom →
    s.stage = 9 →
    s.homeroomDone = true →
    ∃ t, exec (.handoverStart) s = .next t ∧
      t.svc = { s.svc with handover := true } ∧
      s.only t [.part .svc]) ∧
  (∀ (s : State),
    s.svc.rstLow = false →
    s.host.perstLow = false →
    ∃ t, exec (.pcieLinkTrained) s = .next t ∧
      t.host = { s.host with linkUp := true } ∧
      s.only t [.part .host])

/-- PERST_N_ASSERT, PERST_N_DEASSERT, WARM_RESET, VF_FLR, FABRIC_RESET and COLD_RESET (05 R119, R120, R127): a warm reset starts the short bring-up at the entry test and keeps PSH2's registers, in Recovery it leaves the module there; PERST_N in Homeroom, and any cause in Boot, reset the PCIe endpoint alone; VF_FLR gives the VF's vectors and controls their reset values; FABRIC_RESET ends the work and clears tile modes and accumulators; COLD_RESET puts GLD1 in reset and keeps PSH2. Model's own readings and choices it may rest on, in notes/assumptions: DEDUCED 43, 49, 50, 51, 52; DESIGN CHOICE 53. -/
def Obligations.ResetsReachTheirParts : Prop :=
  (∀ (s : State),
    s.host.perstLow = false →
    ∃ t, exec (.perstNAssert) s = .next t ∧
      t.host.perstLow = true ∧ t.host.linkUp = false ∧
      (s.svc.rstLow = false → s.service = svcFull → t.svc.warm = true ∧ (s.get Reg.THM_STATUS.restart_wait = 0 → t.stage = 3)) ∧
      (s.svc.rstLow = false → s.service = svcBoot ∨ s.service = svcHomeroom → s.only t [.part .host] ∧
        t.host = { s.host with perstLow := true, msix := HostIf.reset.msix, fn := HostIf.reset.fn, aspmL1 := false, numVfs := 0, linkUp := false, linkL1 := false }) ∧
      s.only t (([] : List Place) ++ gldPlaces)) ∧
  (∀ (s : State),
    s.host.perstLow = true →
    ∃ t, exec (.perstNAssert) s = .next t ∧
      s.only t []) ∧
  (∀ (s : State),
    ∃ t, exec (.perstNDeassert) s = .next t ∧
      t.host = { s.host with perstLow := false } ∧
      s.only t [.part .host]) ∧
  (∀ (s : State) (cause : WarmCause),
    s.svc.rstLow = false →
    s.host.linkUp = true →
    s.host.perstLow = false →
    (s.service = svcFull ∨ s.service = svcHomeroom ∨ s.service = svcRecovery) →
    s.hostUp = true →
    ∃ t, exec (.warmReset cause) s = .next t ∧
      t.svc.warm = true ∧ t.svc.handover = false ∧
      t.host.linkUp = decide (cause = .flr ∨ cause = .glbReset) ∧
      t.host.flights = [] ∧ t.host.held = [] ∧ t.host.posted = s.host.posted ∧ t.cap.recs = [] ∧
      (s.service = svcRecovery → t.service = svcRecovery ∧ t.stage = s.stage) ∧
      (s.service ≠ svcRecovery → s.get Reg.THM_STATUS.restart_wait = 0 → t.stage = 3) ∧
      (s.service ≠ svcRecovery → s.get Reg.THM_STATUS.restart_wait = 1 → t.stage = 4 ∧ t.service = svcHomeroom) ∧
      (∀ n, n < 64 → t.get (Reg.HIF_SQ_CFG.enable n) = 0) ∧
      s.only t (([] : List Place) ++ gldPlaces)) ∧
  (∀ (s : State) (cause : WarmCause),
    s.svc.rstLow = false →
    s.host.linkUp = true →
    s.host.perstLow = false →
    s.service = svcBoot →
    (cause = .hotReset ∨ cause = .linkDown) →
    ∃ t, exec (.warmReset cause) s = .next t ∧
      t.host = { s.host with msix := HostIf.reset.msix, fn := HostIf.reset.fn, aspmL1 := false, numVfs := 0, linkUp := false, linkL1 := false } ∧
      s.only t [.part .host]) ∧
  (∀ (s : State) (vf : Nat),
    1 ≤ vf →
    vf ≤ 8 →
    s.bar0Open →
    s.service ≠ svcWaking →
    s.host.msix.length = 72 →
    s.host.fn.length = 9 →
    ∃ t, exec (.vfFlr vf) s = .next t ∧
      t.fnCfg vf = FnCfg.reset ∧
      (∀ v, v < 8 → t.msixVec vf v = ⟨0, 0, true, false⟩) ∧
      (∀ n, n < 64 → (s.part vf).sqs.testBit n = true → t.word (0x11008 + 32 * n) = 0x00100006) ∧
      (∀ f ∈ t.host.flights, f.part ≠ vf) ∧
      s.only t (([] : List Place) ++ gldPlaces)) ∧
  (∀ (s : State) (vf : Nat),
    1 ≤ vf →
    vf ≤ 8 →
    s.hostUp = true →
    s.service = svcRecess →
    ∃ t, exec (.vfFlr vf) s = .next t ∧
      t.svc.flrWaits = (if vf ∈ s.svc.flrWaits then s.svc.flrWaits else s.svc.flrWaits ++ [vf]) ∧
      t.service = svcWaking ∧
      s.only t (([] : List Place) ++ gldPlaces)) ∧
  (∀ (s : State),
    s.bar0Open →
    ∃ t, exec (.fabricReset) s = .next t ∧
      t.fab.models = [] ∧
      t.fab.accs = [] ∧ t.fab.captured = none ∧
      (∀ k, k < 64 → t.get (Reg.FAB_TILE_STATUS.mode k) = 0 ∧ t.get (Reg.FAB_TILE_STATUS.busy k) = 0) ∧
      t.get Reg.FAB_ACC_SEL.valid = 0 ∧ t.get Reg.FAB_ACC_LO.acc_lo = 0 ∧ t.get Reg.FAB_ACC_HI.acc_hi = 0 ∧
      t.service = s.service ∧ t.stage = s.stage ∧
      s.only t (([] : List Place) ++ gldPlaces)) ∧
  (∀ (s : State),
    s.bar0Open →
    s.gpGld.lost = false →
    s.pshUp = true →
    s.sec.gld.pending = false →
    s.sec.gld.trial = false →
    ∃ t, exec (.coldReset) s = .next t ∧
      t.svc.rstLow = true ∧
      t.coldAt = s.now ∧
      (∀ off, off < 0x80000 → off ≠ 0x208 → off ≠ Reg.GLB_SLOT.slot_id.off → t.word off = resetWord off) ∧
      t.get Reg.GLB_SLOT.slot_id = s.get Reg.GLB_SLOT.slot_id ∧
      s.only t (([] : List Place) ++ gld1Places)) ∧
  (∀ (s : State),
    s.bar0Open →
    (s.gpGld.lost = true ∨ s.pshUp = false) →
    ∃ t, exec (.coldReset) s = .next t ∧
      s.only t [])

/-- Recess (05 R121 to R129): a request under the conditions of R121 starts entry, any other is refused with its code; entry ends in Recess with the fabric gated, the PCIe link in L1 and the Ethernet and Akgal links down; a wake event in Recess starts the wake and is counted, one during an entry not yet committed abandons it, one after the commit point waits; the wake ends in full service, with the resets that waited carried out. The Recess profile loads its values and leaves Expert. Model's own readings and choices it may rest on, in notes/assumptions: DEDUCED 23, 54; DESIGN CHOICE 53. -/
def Obligations.RecessEntersAndWakes : Prop :=
  (∀ (s : State),
    s.hostUp = true →
    s.service = svcFull →
    s.debugMode = false →
    ∃ t, exec (.recessEnter) s = .next t ∧
      (s.recessCode = 0 → t.service = svcEntering ∧ t.get Reg.GLB_SERVICE.full_service = 0 ∧ t.get Reg.CAP_LINK_STATUS.link_up = 0 ∧
        (t.causes 0).testBit cause.serviceChange = true) ∧
      (s.recessCode ≠ 0 → t.service = svcFull ∧ t.get Reg.GLB_RECESS_STATUS.last_refusal = s.recessCode ∧ t.get Reg.GLB_RECESS_STATUS.refused = 1 ∧
        (t.causes 0).testBit cause.serviceChange = true ∧ s.only t ([.fld Reg.GLB_RECESS_STATUS.last_refusal, .fld Reg.GLB_RECESS_STATUS.refused] ++ irqPlaces)) ∧
      s.only t (([] : List Place) ++ gldPlaces)) ∧
  (∀ (s : State),
    s.get Reg.GLB_RECESS_CTRL.profile = 1 →
    s.recessCode = 0 →
    s.debugMode = false →
    s.svc.rstLow = false →
    ∃ t, exec (.idleAuto) s = .next t ∧
      t.service = svcEntering ∧
      (t.causes 0).testBit cause.serviceChange = true ∧
      s.only t (([] : List Place) ++ gldPlaces)) ∧
  (∀ (s : State),
    (s.get Reg.GLB_RECESS_CTRL.profile ≠ 1 ∨ s.recessCode ≠ 0) →
    ∃ t, exec (.idleAuto) s = .next t ∧
      s.only t []) ∧
  (∀ (s : State),
    s.service = svcEntering →
    s.svc.wakeWaits = false →
    ∃ t, exec (.recessEntryDone) s = .next t ∧
      t.service = svcRecess ∧
      t.fab = { s.fab with powered := false } ∧
      t.host.linkL1 = true ∧
      (s.fab.powered = true → ∀ k, k < 64 → t.get (Reg.FAB_TILE_STATUS.mode k) = 0) ∧
      t.get (Reg.CAP_ETH_MAC_HI.link_up 0) = 0 ∧ t.get (Reg.CAP_ETH_MAC_HI.link_up 1) = 0 ∧
      (∀ p, p < 4 → t.akState p = (if s.akState p = akUp then akDetect else s.akState p)) ∧
      (∀ c, c < 4 → s.get (Reg.MEM_CH_STATUS.trained c) = 1 → t.get (Reg.MEM_CH_STATUS.self_refresh c) = 1) ∧
      s.only t (([.words 0x24 4, .fld Reg.GLB_SERVICE.state, .fld Reg.GLB_SERVICE.full_service, .fld Reg.GLB_SERVICE.homeroom, .fld (Reg.MEM_CH_STATUS.self_refresh 0), .fld (Reg.MEM_CH_STATUS.self_refresh 1), .fld (Reg.MEM_CH_STATUS.self_refresh 2), .fld (Reg.MEM_CH_STATUS.self_refresh 3), .fld (Reg.AKG_PORT_STATUS.state 0), .fld (Reg.AKG_PORT_STATUS.state 1), .fld (Reg.AKG_PORT_STATUS.state 2), .fld (Reg.AKG_PORT_STATUS.state 3), .words 0x20100 0x100, .fld (Reg.CAP_ETH_MAC_HI.link_up 0), .fld (Reg.CAP_ETH_MAC_HI.link_up 1), .part .fab, .part .host] : List Place) ++ irqPlaces)) ∧
  (∀ (s : State),
    s.service = svcEntering →
    s.svc.wakeWaits = true →
    ∃ t, exec (.recessEntryDone) s = .next t ∧
      t.service = svcWaking ∧
      t.svc.wakeWaits = false ∧
      t.get Reg.GLB_RECESS_STATUS.wakes = min (s.get Reg.GLB_RECESS_STATUS.wakes + 1) 65535 ∧
      s.only t (([] : List Place) ++ gldPlaces)) ∧
  (∀ (s : State),
    s.get Reg.GLB_RECESS_CTRL.wake_n_en = 1 →
    s.svc.rstLow = false →
    ∃ t, exec (.wakeN) s = .next t ∧
      (s.service = svcRecess → t.service = svcWaking ∧ t.get Reg.GLB_RECESS_STATUS.wakes = min (s.get Reg.GLB_RECESS_STATUS.wakes + 1) 65535) ∧
      (s.service = svcEntering → s.now < s.svc.commitAt → t.service = svcFull ∧ t.get Reg.GLB_RECESS_STATUS.abandoned = 1) ∧
      (s.service = svcEntering → s.svc.commitAt ≤ s.now → t.svc = { s.svc with wakeWaits := true } ∧ t.service = svcEntering) ∧
      (s.service ≠ svcRecess → s.service ≠ svcEntering → s.only t []) ∧
      s.only t (([.fld Reg.GLB_SERVICE.state, .fld Reg.GLB_SERVICE.full_service, .fld Reg.GLB_SERVICE.homeroom, .fld Reg.GLB_RECESS_STATUS.wakes, .fld Reg.GLB_RECESS_STATUS.abandoned, .part .svc, .part .fresh, .part .gpGld] : List Place) ++ irqPlaces)) ∧
  (∀ (s : State) (fn off : Nat),
    fn < 9 →
    s.hostUp = true →
    ∃ t, exec (.recessBar0Wake fn off) s = .next t ∧
      (off / 4 * 4 = 0x100 ∨ off / 4 * 4 = 0x110 → s.only t []) ∧
      (off / 4 * 4 ≠ 0x100 → off / 4 * 4 ≠ 0x110 → s.service = svcRecess → t.service = svcWaking ∧
        t.get Reg.GLB_RECESS_STATUS.wakes = min (s.get Reg.GLB_RECESS_STATUS.wakes + 1) 65535) ∧
      s.only t (([.fld Reg.GLB_SERVICE.state, .fld Reg.GLB_SERVICE.full_service, .fld Reg.GLB_SERVICE.homeroom, .fld Reg.GLB_RECESS_STATUS.wakes, .fld Reg.GLB_RECESS_STATUS.abandoned, .part .svc, .part .fresh, .part .gpGld] : List Place) ++ irqPlaces)) ∧
  (∀ (s : State),
    s.service = svcWaking →
    s.svc.rstLow = false →
    s.svc.warmWaits ≠ none →
    ∃ t, exec (.wakeComplete) s = .next t ∧
      t.svc.warm = true ∧ t.svc.warmWaits = none ∧
      t.host.flights = [] ∧
      s.only t (([] : List Place) ++ gldPlaces)) ∧
  (∀ (s : State),
    s.service = svcWaking →
    s.svc.warmWaits = none →
    ∃ t, exec (.wakeComplete) s = .next t ∧
      (∀ vf ∈ s.svc.flrWaits, ∀ f ∈ t.host.flights, f.part ≠ vf) ∧
      t.service = svcFull ∧ t.get Reg.GLB_SERVICE.full_service = 1 ∧
      t.get Reg.GLB_RECESS_STATUS.late_wake = (if s.svc.wakeRefused then 1 else s.get Reg.GLB_RECESS_STATUS.late_wake) ∧
      t.fab.powered = true ∧
      (∀ c, c < 4 → t.get (Reg.MEM_CH_STATUS.self_refresh c) = 0) ∧
      s.only t (([] : List Place) ++ gldPlaces)) ∧
  (∀ (s : State) (v : Nat),
    s.bar0Open →
    v % 4 < 2 →
    ∃ t, exec (.recessProfile v) s = .next t ∧
      t.get Reg.GLB_RECESS_CTRL.profile = v % 4 ∧
      t.get Reg.GLB_RECESS_CTRL.wake_n_en = 1 ∧
      t.get Reg.GLB_RECESS_CTRL.idle_time = 10 ∧
      t.expert blk.glb = false ∧
      s.only t [.fld Reg.GLB_RECESS_CTRL.profile, .fld Reg.GLB_RECESS_CTRL.wake_n_en, .fld Reg.GLB_RECESS_CTRL.idle_time, .fld Reg.GLB_EXPERT_STATUS.expert, .part .host]) ∧
  (∀ (s : State) (v : Nat),
    s.bar0Open →
    2 ≤ v % 4 →
    ∃ t, exec (.recessProfile v) s = .next t ∧
      s.only t [])

/-- REGISTER_WRITE (00 R1, R4, R6; 06 R132, R133, R153; 05 R130): ones clear W1C bits; a RW field takes the value written; an Expert field takes a value in its range and keeps its old one otherwise, and outside Expert keeps it; RO words, accesses of another size or alignment, and GLB_RESET without its key change nothing; a BAR2 page is the doorbell of its ring; configuration controls take their values. Model's own readings and choices it may rest on, in notes/assumptions: DEDUCED 16, 19, 20; PRESUMED 24. -/
def Obligations.RegisterWritesFollowTheirCodes : Prop :=
  (∀ (s : State) (v : Nat),
    s.bar0Open →
    ∃ t, exec (.registerWrite 0 (.bar0 0x200) 4 v) s = .next t ∧
      (∀ i, i < 16 → (t.word 0x200).getLsbD i = ((s.word 0x200).getLsbD i && !v.testBit i)) ∧
      s.only t [.fld Reg.GLB_INT_CAUSE.cause]) ∧
  (∀ (s : State) (v : Nat),
    s.bar0Open →
    ∃ t, exec (.registerWrite 0 (.bar0 0x204) 4 v) s = .next t ∧
      t.get Reg.GLB_INT_ENABLE.enable = v % 65536 ∧
      s.only t [.fld Reg.GLB_INT_ENABLE.enable]) ∧
  (∀ (s : State) (v : Nat),
    s.bar0Open →
    ∃ t, exec (.registerWrite 0 (.bar0 0x10010) 4 v) s = .next t ∧
      (s.expert blk.hif = true → t.get Reg.HIF_FETCH_CFG.urgent_reserve = v % 256 ∧
        t.get Reg.HIF_FETCH_CFG.fetch_burst = (if 1 ≤ v / 256 % 32 ∧ v / 256 % 32 ≤ 16 then v / 256 % 32 else s.get Reg.HIF_FETCH_CFG.fetch_burst)) ∧
      (s.expert blk.hif = false → t.word 0x10010 = s.word 0x10010) ∧
      s.only t (([.fld Reg.HIF_FETCH_CFG.urgent_reserve, .fld Reg.HIF_FETCH_CFG.fetch_burst] : List Place) ++ cfgPlaces)) ∧
  (∀ (s : State) (off size v : Nat),
    s.bar0Open →
    (size ≠ 4 ∨ off % 4 ≠ 0 ∨ off < 0x20 ∨ (off = 0x108 ∧ v / 65536 % 65536 ≠ 0xA5C3)) →
    ∃ t, exec (.registerWrite 0 (.bar0 off) size v) s = .next t ∧
      s.only t []) ∧
  (∀ (s : State) (fn v : Nat),
    1 ≤ fn →
    fn ≤ 8 →
    s.host.vfEnable.length = 8 →
    s.bar0Open →
    ∃ t, exec (.registerWrite fn (.bar0 0x204) 4 v) s = .next t ∧
      t.enables fn = v % 65536 ∧
      s.only t [.part .host]) ∧
  (∀ (s : State) (fn n v : Nat),
    fn < 9 →
    n < 64 →
    ∃ t, exec (.registerWrite fn (.bar2 (0x1000 * n)) 4 v) s = .next t ∧
      exec (.sqDoorbell fn n v) s = .next t) ∧
  (∀ (s : State) (fn n v : Nat),
    fn < 9 →
    n < 64 →
    ∃ t, exec (.registerWrite fn (.bar2 (0x40000 + 0x1000 * n)) 4 v) s = .next t ∧
      exec (.cqDoorbell fn n v) s = .next t) ∧
  (∀ (s : State) (on : Bool),
    s.hostUp = true →
    ∃ t, exec (.registerWrite 0 (.config (.aspmL1 on)) 4 0) s = .next t ∧
      t.host = { s.host with aspmL1 := on } ∧
      s.only t [.part .host])

/-- RC_READ and LOW_HALF_READ (00 R1, R3, R4, R5): a read of a counter word by the host or by a core returns it and clears its RC fields; a read of the low half of a 64-bit quantity latches the high half, which the next read of the high half returns; a read of another size or alignment, and every read of BAR2, returns 0; a read of configuration space returns the item (06 R131, R132). Model's own readings and choices it may rest on, in notes/assumptions: DEDUCED 10, 17, 18, 20, 23; DESIGN CHOICE 115, 130. -/
def Obligations.ReadsClearAndLatch : Prop :=
  (∀ (s : State),
    s.bar0Open →
    ∃ t, exec (.rcRead (.host 0) 0x20030 4) s = .next t ∧
      t.lastRead = s.word 0x20030 ∧
      t.get Reg.FAB_FAULT_COUNT.parity_faults = 0 ∧ t.get Reg.FAB_FAULT_COUNT.residue_faults = 0 ∧
      s.only t [.fld Reg.FAB_FAULT_COUNT.parity_faults, .fld Reg.FAB_FAULT_COUNT.residue_faults, .part .lastRead]) ∧
  (∀ (s : State),
    s.svc.rstLow = false →
    ∃ t, exec (.rcRead .core 0x1000C 4) s = .next t ∧
      fieldOf t.lastRead 16 16 = s.get Reg.HIF_STATUS.backpressure ∧ fieldOf t.lastRead 0 12 = s.get Reg.HIF_STATUS.inflight ∧
      t.get Reg.HIF_STATUS.backpressure = 0 ∧
      s.only t [.fld Reg.HIF_STATUS.backpressure, .part .lastRead]) ∧
  (∀ (s : State) (size off : Nat),
    s.bar0Open →
    (size ≠ 4 ∨ off % 4 ≠ 0) →
    ∃ t, exec (.rcRead (.host 0) off size) s = .next t ∧
      t.lastRead = 0 ∧
      s.only t [.part .lastRead]) ∧
  (∀ (s : State),
    s.bar0Open →
    ∃ t, exec (.lowHalfRead (.host 0) 0x210) s = .next t ∧
      t.lastRead = BitVec.ofNat 32 s.time ∧
      Store.read noHalf t.latch 0x214 = some (BitVec.ofNat 32 (s.time / 2 ^ 32)) ∧
      (∀ k, k ≠ 0x214 → Store.read noHalf t.latch k = Store.read noHalf s.latch k) ∧
      s.only t [.part .lastRead, .part .latch]) ∧
  (∀ (s : State) (w : Word),
    s.bar0Open →
    Store.read noHalf s.latch 0x214 = some w →
    ∃ t, exec (.rcRead (.host 0) 0x214 4) s = .next t ∧
      t.lastRead = w ∧
      Store.read noHalf t.latch 0x214 = none ∧
      s.only t [.part .lastRead, .part .latch]) ∧
  (∀ (s : State) (fn off size : Nat),
    fn < 9 →
    s.bar0Open →
    ∃ t, exec (.rcRead (.doorbells fn) off size) s = .next t ∧
      t.lastRead = 0 ∧
      s.only t [.part .lastRead]) ∧
  (∀ (s : State) (fn off size : Nat) (item : CfgItem),
    fn < 9 →
    s.hostUp = true →
    ∃ t, exec (.rcRead (.config fn item) off size) s = .next t ∧
      t.lastRead = s.cfgWord fn item ∧
      s.only t [.part .lastRead])

/-- Doorbells (06 R133, R134, R136, R137, R157, R159): a tail within the ring's free space becomes the tail; one outside the ring is error 1, one beyond the free space error 2, and the ring stops; a disabled ring discards it, and a stopped one that is enabled takes it and stays stopped; a head within the used entries becomes the head and ends full, any other is an error; a ring of another partition counts as a misdirected doorbell. Clearing an error bit restarts a CQ and leaves an SQ stopped; only the owner and the PF clear it. Model's own readings and choices it may rest on, in notes/assumptions: DEDUCED 57, 58. -/
def Obligations.DoorbellsMoveTheirPointers : Prop :=
  (∀ (s : State) (fn n v : Nat),
    fn < 9 →
    n < 64 →
    s.bar0Open →
    s.sqOwner n = some fn →
    ((s.isDeputy = false ∧ s.swapDrains = false) ∨ n = s.get Reg.AKG_PAIR_CFG.pair_sq) →
    s.host.sqStopped.length = 64 →
    ∃ t, exec (.sqDoorbell fn n v) s = .next t ∧
      (s.sqOn n = false → s.only t []) ∧
      (s.sqOn n = true → s.sqSize n ≤ v % 65536 →
        t.get (Reg.HIF_SQ_STATUS.error n) = 1 ∧ t.get (Reg.HIF_SQ_STATUS.err_code n) = 1 ∧ t.sqStop n = true ∧ t.get (Reg.HIF_SQ_STATE.tail n) = s.get (Reg.HIF_SQ_STATE.tail n)) ∧
      (s.sqOn n = true → v % 65536 < s.sqSize n →
        s.sqSize n - 1 - s.sqWaiting n < (v % 65536 + s.sqSize n - s.get (Reg.HIF_SQ_STATE.tail n)) % s.sqSize n →
        t.get (Reg.HIF_SQ_STATUS.error n) = 1 ∧ t.get (Reg.HIF_SQ_STATUS.err_code n) = 2 ∧ t.sqStop n = true) ∧
      (s.sqOn n = true → v % 65536 < s.sqSize n →
        (v % 65536 + s.sqSize n - s.get (Reg.HIF_SQ_STATE.tail n)) % s.sqSize n ≤ s.sqSize n - 1 - s.sqWaiting n →
        t.get (Reg.HIF_SQ_STATE.tail n) = v % 65536 ∧ s.only t [.fld (Reg.HIF_SQ_STATE.tail n)]) ∧
      s.only t (([.fld (Reg.HIF_SQ_STATE.tail n), .fld (Reg.HIF_SQ_STATUS.error n), .fld (Reg.HIF_SQ_STATUS.err_code n)] : List Place) ++ irqPlaces)) ∧
  (∀ (s : State) (fn n v : Nat),
    fn < 9 →
    n < 64 →
    s.bar0Open →
    s.sqOwner n ≠ some fn →
    ∃ t, exec (.sqDoorbell fn n v) s = .next t ∧
      t.get Reg.HIF_STATUS.backpressure = min (s.get Reg.HIF_STATUS.backpressure + 1) 65535 ∧
      s.only t [.fld Reg.HIF_STATUS.backpressure]) ∧
  (∀ (s : State) (fn n v : Nat),
    fn < 9 →
    n < 64 →
    s.bar0Open →
    s.cqOwner n = some fn →
    ((s.isDeputy = false ∧ s.swapDrains = false) ∨ n = s.get Reg.AKG_PAIR_CFG.pair_cq) →
    ∃ t, exec (.cqDoorbell fn n v) s = .next t ∧
      (s.cqOn n = false → s.only t []) ∧
      (s.cqOn n = true → s.cqSize n ≤ v % 65536 ∨ s.cqUsed n < (v % 65536 + s.cqSize n - s.get (Reg.HIF_CQ_HEAD.head n)) % s.cqSize n →
        t.get (Reg.HIF_CQ_STATUS.error n) = 1 ∧ t.cqStop n = s.cqStop n ∧ t.get (Reg.HIF_CQ_HEAD.head n) = s.get (Reg.HIF_CQ_HEAD.head n)) ∧
      (s.cqOn n = true → v % 65536 < s.cqSize n → (v % 65536 + s.cqSize n - s.get (Reg.HIF_CQ_HEAD.head n)) % s.cqSize n ≤ s.cqUsed n →
        t.get (Reg.HIF_CQ_HEAD.head n) = v % 65536 ∧
        ((v % 65536 + s.cqSize n - s.get (Reg.HIF_CQ_HEAD.head n)) % s.cqSize n ≠ 0 → t.get (Reg.HIF_CQ_STATUS.full n) = 0)) ∧
      s.only t (([.fld (Reg.HIF_CQ_HEAD.head n), .fld (Reg.HIF_CQ_STATUS.full n), .fld (Reg.HIF_CQ_STATUS.error n)] : List Place) ++ irqPlaces)) ∧
  (∀ (s : State) (fn n : Nat),
    fn < 9 →
    n < 64 →
    s.bar0Open →
    (fn = 0 ∨ s.sqOwner n = some fn) →
    ∃ t, exec (.sqErrorClear fn n) s = .next t ∧
      t.get (Reg.HIF_SQ_STATUS.error n) = 0 ∧
      s.only t [.fld (Reg.HIF_SQ_STATUS.error n)]) ∧
  (∀ (s : State) (fn n : Nat),
    fn < 9 →
    n < 64 →
    s.bar0Open →
    (fn = 0 ∨ s.cqOwner n = some fn) →
    ∃ t, exec (.cqErrorClear fn n) s = .next t ∧
      t.get (Reg.HIF_CQ_STATUS.error n) = 0 ∧
      t.host = { s.host with cqStopped := s.host.cqStopped.set n false } ∧
      s.only t [.fld (Reg.HIF_CQ_STATUS.error n), .part .host])

/-- SQ_CFG_WRITE and CQ_CFG_WRITE (06 R139): enabling an SQ needs an enabled CQ of its owner, and clears head and tail; otherwise err_code 4 is shown and the write is discarded; while enabled the size and the CQ number hold; enabling a CQ clears its pointers and sets its phase to 1; a CQ with an enabled SQ bound to it is not disabled. -/
def Obligations.RingsTakeTheirConfiguration : Prop :=
  (∀ (s : State) (fn n v : Nat),
    fn < 9 →
    n < 64 →
    s.bar0Open →
    (fn = 0 ∨ s.sqOwner n = some fn) →
    s.sqOn n = false →
    v.testBit 24 = true →
    ∃ t, exec (.sqCfgWrite fn n v) s = .next t ∧
      (s.cqOn (v / 256 % 64) = true → s.cqOwner (v / 256 % 64) = s.sqOwner n →
        t.sqOn n = true ∧ t.get (Reg.HIF_SQ_CFG.cq n) = v / 256 % 64 ∧ t.get (Reg.HIF_SQ_STATE.head n) = 0 ∧ t.get (Reg.HIF_SQ_STATE.tail n) = 0 ∧
        t.get (Reg.HIF_SQ_CFG.size_log2 n) = (if 6 ≤ v % 32 ∧ v % 32 ≤ 16 then v % 32 else s.get (Reg.HIF_SQ_CFG.size_log2 n))) ∧
      (s.cqOn (v / 256 % 64) = false ∨ s.cqOwner (v / 256 % 64) ≠ s.sqOwner n →
        t.word (0x11008 + 32 * n) = s.word (0x11008 + 32 * n) ∧ t.sqOn n = false ∧ t.get (Reg.HIF_SQ_STATUS.err_code n) = 4) ∧
      s.only t (([.words (0x11008 + 32 * n) 12, .part .host] : List Place) ++ cfgPlaces)) ∧
  (∀ (s : State) (fn n v : Nat),
    fn < 9 →
    n < 64 →
    s.bar0Open →
    (fn = 0 ∨ s.sqOwner n = some fn) →
    s.sqOn n = true →
    v.testBit 24 = true →
    ∃ t, exec (.sqCfgWrite fn n v) s = .next t ∧
      t.sqOn n = true ∧ t.get (Reg.HIF_SQ_CFG.size_log2 n) = s.get (Reg.HIF_SQ_CFG.size_log2 n) ∧ t.get (Reg.HIF_SQ_CFG.cq n) = s.get (Reg.HIF_SQ_CFG.cq n) ∧
      t.get (Reg.HIF_SQ_CFG.priority n) = v / 2 ^ 16 % 8 ∧
      s.only t (([.words (0x11008 + 32 * n) 4] : List Place) ++ cfgPlaces)) ∧
  (∀ (s : State) (fn n v : Nat),
    fn < 9 →
    n < 64 →
    s.bar0Open →
    (fn = 0 ∨ s.cqOwner n = some fn) →
    ∃ t, exec (.cqCfgWrite fn n v) s = .next t ∧
      (s.cqOn n = false → v.testBit 16 = true → t.cqOn n = true ∧ t.get (Reg.HIF_CQ_STATE.tail n) = 0 ∧ t.get (Reg.HIF_CQ_HEAD.head n) = 0 ∧
        t.get (Reg.HIF_CQ_STATE.phase n) = 1 ∧ t.get (Reg.HIF_CQ_STATUS.full n) = 0) ∧
      (s.cqOn n = true → v.testBit 16 = true → t.cqOn n = true ∧ t.get (Reg.HIF_CQ_CFG.size_log2 n) = s.get (Reg.HIF_CQ_CFG.size_log2 n)) ∧
      (s.cqOn n = true → v.testBit 16 = false → t.cqOn n = s.cqBound n) ∧
      (s.cqOn n = true → v.testBit 16 = false → s.cqBound n = true → t.word (0x12008 + 32 * n) = s.word (0x12008 + 32 * n)) ∧
      s.only t (([.words (0x12008 + 32 * n) 20, .part .host] : List Place) ++ cfgPlaces))

/-- DESCRIPTOR_FETCH, FENCE and NOP (06 R136, R142, R143, R148, R149, R157): the descriptor of the SQ whose turn it is becomes the newest in flight, head and count advance, and a refused one ends at once with its status; a read error stops the SQ; a turn the limits take is counted; a FENCE ends once nothing before it in its scope is left; a NOP ends OK. Model's own readings and choices it may rest on, in notes/assumptions: DEDUCED 9, 59, 60, 61, 78; DESIGN CHOICE 131. -/
def Obligations.DescriptorsAreFetchedAndComplete : Prop :=
  (∀ (s : State) (n : Nat) (d : List Byte),
    s.mayFetch = true →
    s.arbiter = some n →
    s.host.flights.all (fun f => decide (f.id < s.host.nextId)) = true →
    ∃ t, exec (.descriptorFetch (some d)) s = .next t ∧
      t.host.nextId = s.host.nextId + 1 ∧
      t.get (Reg.HIF_SQ_STATE.head n) = (s.get (Reg.HIF_SQ_STATE.head n) + 1) % s.sqSize n % 65536 ∧
      t.get (Reg.HIF_SQ_STATUS.fetched n) = min (s.get (Reg.HIF_SQ_STATUS.fetched n) + 1) 65535 ∧
      t.get Reg.HIF_STATUS.backpressure = (if s.turnLost = true then min (s.get Reg.HIF_STATUS.backpressure + 1) 65535 else s.get Reg.HIF_STATUS.backpressure) ∧
      t.get Reg.HIF_STATUS.inflight = (s.host.flights.length + 1) % 4096 ∧
      (∃ f, t.flight s.host.nextId = some f ∧ f.sq = n ∧ f.bytes = bytesAt d 0 64 ∧ f.part = (s.sqOwner n).getD 0) ∧
      (∀ st, s.refusal n ((s.sqOwner n).getD 0) (bytesAt d 0 64) = some st → t.ends s.host.nextId st 0 0) ∧
      (dChain (bytesAt d 0 64) = false → s.refusal n ((s.sqOwner n).getD 0) (bytesAt d 0 64) = none → t.host.held = s.host.held) ∧
      s.only t [.fld (Reg.HIF_SQ_STATE.head n), .fld (Reg.HIF_SQ_STATUS.fetched n), .fld (Reg.HIF_SQ_STATUS.idle n), .fld Reg.HIF_STATUS.inflight, .fld Reg.HIF_STATUS.backpressure, .fld Reg.HPS_STATUS.publish_pending, .words 0xD0000 0x10000, .part .host, .part .dbg]) ∧
  (∀ (s : State) (n : Nat),
    s.mayFetch = true →
    s.arbiter = some n →
    ∃ t, exec (.descriptorFetch none) s = .next t ∧
      t.get (Reg.HIF_SQ_STATUS.error n) = 1 ∧ t.get (Reg.HIF_SQ_STATUS.err_code n) = 3 ∧
      t.host.flights = s.host.flights ∧
      s.only t (([.fld (Reg.HIF_SQ_STATUS.error n), .fld (Reg.HIF_SQ_STATUS.err_code n), .fld Reg.HIF_STATUS.backpressure] : List Place) ++ irqPlaces)) ∧
  (∀ (s : State) (data : Option (List Byte)),
    s.mayFetch = true →
    s.arbiter = none →
    ∃ t, exec (.descriptorFetch data) s = .next t ∧
      t.get Reg.HIF_STATUS.backpressure = (if s.turnLost = true then min (s.get Reg.HIF_STATUS.backpressure + 1) 65535 else s.get Reg.HIF_STATUS.backpressure) ∧
      s.only t [.fld Reg.HIF_STATUS.backpressure]) ∧
  (∀ (s : State) (id : Nat) (f : Flight),
    s.startable id opFence = some f →
    ∃ t, exec (.fence id) s = .next t ∧
      ((∀ g ∈ s.host.flights, g.id < id → g.standing = false → (if natAt f.bytes 24 1 % 4 = 1 then g.part ≠ f.part else g.sq ≠ f.sq)) → t.ends id 0 0 0) ∧
      ((∃ g ∈ s.host.flights, g.id < id ∧ g.standing = false ∧ (if natAt f.bytes 24 1 % 4 = 1 then g.part = f.part else g.sq = f.sq)) → s.only t []) ∧
      s.only t (([] : List Place) ++ endPlaces)) ∧
  (∀ (s : State) (id : Nat) (f : Flight),
    s.startable id opNop = some f →
    ∃ t, exec (.nop id) s = .next t ∧
      t.ends id 0 0 0 ∧
      s.only t (([] : List Place) ++ endPlaces))

/-- COMPLETION_WRITE, COALESCE_TIMER and MSIX_UNMASK (06 R137, R138, R153, R158, R159): the entry that waits longest goes to the slot at tail as one write of 32 bytes, tail and phase follow, and the CQ is full when tail meets head; one that cannot be issued stops the CQ; a vector with messages to send sends one, or holds it as pending while masked or disabled, and unmasking sends the one held. Model's own readings and choices it may rest on, in notes/assumptions: DEDUCED 9, 58, 61. -/
def Obligations.EntriesAndMessagesAreWritten : Prop :=
  (∀ (s : State) (cq : Nat) (h : Held),
    cq < 64 →
    s.awaitsResume cq = false →
    s.halted 0 = false →
    s.nextHeld cq = some h →
    s.mayPost = true →
    s.cqOn cq = true →
    s.cqStop cq = false →
    s.get (Reg.HIF_CQ_STATUS.full cq) = 0 →
    (s.fnCfg ((s.cqOwner cq).getD 0)).busMaster = true →
    ∃ t, exec (.completionWrite cq true) s = .next t ∧
      (∃ more, t.host.posted = s.host.posted ++ (.dma ((s.cqOwner cq).getD 0) (s.cqBase cq + 32 * s.get (Reg.HIF_CQ_STATE.tail cq))
        (h.entry.bytes (s.get (Reg.HIF_CQ_STATE.phase cq)) (if h.entry.kind = .event then 0 else s.get (Reg.HIF_SQ_STATE.head h.entry.sq))) false) :: more) ∧
      t.get (Reg.HIF_CQ_STATE.tail cq) = (s.get (Reg.HIF_CQ_STATE.tail cq) + 1) % s.cqSize cq % 65536 ∧
      t.get (Reg.HIF_CQ_STATE.phase cq) = (if (s.get (Reg.HIF_CQ_STATE.tail cq) + 1) % s.cqSize cq = 0 then (1 - s.get (Reg.HIF_CQ_STATE.phase cq)) else s.get (Reg.HIF_CQ_STATE.phase cq)) ∧
      t.get (Reg.HIF_CQ_STATUS.full cq) = (if (s.get (Reg.HIF_CQ_STATE.tail cq) + 1) % s.cqSize cq = s.get (Reg.HIF_CQ_HEAD.head cq) then 1 else 0) ∧
      s.only t (([] : List Place) ++ gldPlaces)) ∧
  (∀ (s : State) (cq : Nat) (h : Held),
    cq < 64 →
    s.awaitsResume cq = false →
    s.halted 0 = false →
    s.nextHeld cq = some h →
    s.mayPost = true →
    s.cqOn cq = true →
    s.cqStop cq = false →
    s.get (Reg.HIF_CQ_STATUS.full cq) = 0 →
    s.host.cqStopped.length = 64 →
    ∃ t, exec (.completionWrite cq false) s = .next t ∧
      t.get (Reg.HIF_CQ_STATUS.error cq) = 1 ∧
      t.cqStop cq = true ∧
      (∃ more, t.host.held = s.host.held ++ more) ∧
      s.only t (([.fld (Reg.HIF_CQ_STATUS.error cq)] : List Place) ++ irqPlaces)) ∧
  (∀ (s : State) (cq : Nat),
    cq < 64 →
    s.get (Reg.HIF_CQ_CFG.irq_en cq) = 1 →
    0 < s.host.unsignalled.getD cq 0 →
    ∃ t, exec (.coalesceTimer cq) s = .next t ∧
      t.host.unsignalled = s.host.unsignalled.set cq 0 ∧
      (s.canSend ((s.cqOwner cq).getD 0) (s.get (Reg.HIF_CQ_CFG.vector cq)) = true → t.host.posted = s.host.posted ++ [.msix ((s.cqOwner cq).getD 0) (s.get (Reg.HIF_CQ_CFG.vector cq))
        (s.msixVec ((s.cqOwner cq).getD 0) (s.get (Reg.HIF_CQ_CFG.vector cq))).addr (s.msixVec ((s.cqOwner cq).getD 0) (s.get (Reg.HIF_CQ_CFG.vector cq))).data]) ∧
      (s.canSend ((s.cqOwner cq).getD 0) (s.get (Reg.HIF_CQ_CFG.vector cq)) = false → t.host.posted = s.host.posted) ∧
      s.only t [.part .host]) ∧
  (∀ (s : State) (fn v : Nat),
    fn < 9 →
    v < 8 →
    s.bar0Open →
    s.host.msix.length = 72 →
    (List.range 8).all (fun k => decide (k = v) || !(s.msixVec fn k).pending) = true →
    ∃ t, exec (.msixUnmask fn (.vector v)) s = .next t ∧
      (t.msixVec fn v).masked = false ∧
      ((s.msixVec fn v).pending = true → (s.fnCfg fn).busMaster = true → (s.fnCfg fn).msixEnable = true → (s.fnCfg fn).funcMask = false →
        t.host.posted = s.host.posted ++ [.msix fn v (s.msixVec fn v).addr (s.msixVec fn v).data] ∧ (t.msixVec fn v).pending = false) ∧
      ((s.msixVec fn v).pending = false → t.host.posted = s.host.posted) ∧
      s.only t [.part .host])

/-- PART_COMMIT (06 R150 to R152): fields that give a resource twice or ask for too much are refused with 2, a change of a resource in use with 3, and otherwise all staged fields are in force. EXPERT_UNLOCK (06 R155): 0x4558 then 0x5054 written to one register on one path within 10 ms enters Expert; any other value breaks the pair. A profile write loads its block's table and leaves Expert (06 R156, R162; 07 R187; 08 R220; 09 R249; 11 R298; 14 R392); a value outside the table's codes has no effect, nor has AKG_PROFILE on a member of a pair. Model's own readings and choices it may rest on, in notes/assumptions: DEDUCED 19, 22, 62, 99. -/
def Obligations.PartitionsUnlocksAndProfilesApply : Prop :=
  (∀ (s : State),
    s.bar0Open →
    ∃ t, exec (.partCommit) s = .next t ∧
      ((t.get Reg.HIF_PART_COMMIT.result = 1 ∧ t.host.parts = (List.range 9).map s.stagedPart) ∨ (t.get Reg.HIF_PART_COMMIT.result = 2 ∨ t.get Reg.HIF_PART_COMMIT.result = 3) ∧ t.host.parts = s.host.parts) ∧
      (overlap ((List.range 9).map s.stagedPart) = true → t.get Reg.HIF_PART_COMMIT.result = 2) ∧
      s.only t (([.fld Reg.HIF_PART_COMMIT.result, .fld Reg.FAB_GANG_CFG.region16, .words 0xD0000 0x10000, .part .dbg, .part .host] : List Place) ++ cfgPlaces)) ∧
  (∀ (s : State) (b key : Nat),
    b < 14 →
    b ≠ blk.mem →
    sharedBlk b ≠ blk.pwr →
    s.bar0Open →
    ∃ t, exec (.expertUnlock b key) s = .next t ∧
      (key % 65536 = 0x4558 → t.host.halves = s.host.halves.filter (fun h => !(decide (h.block = b) && decide (h.path = .bar0))) ++ [⟨b, .bar0, s.now⟩] ∧
        t.get Reg.GLB_EXPERT_STATUS.expert = s.get Reg.GLB_EXPERT_STATUS.expert) ∧
      (key % 65536 = 0x5054 → (∃ h, s.host.halves.find? (fun h => decide (h.block = b) && decide (h.path = .bar0)) = some h ∧ s.now ≤ h.since + 10000000) →
        t.expert b = true) ∧
      (key % 65536 ≠ 0x5054 → t.get Reg.GLB_EXPERT_STATUS.expert = s.get Reg.GLB_EXPERT_STATUS.expert) ∧
      (key % 65536 ≠ 0x4558 → ∀ h ∈ t.host.halves, h.block = b → h.path ≠ .bar0) ∧
      s.only t [.fld Reg.GLB_EXPERT_STATUS.expert, .part .host]) ∧
  (∀ (s : State) (b key : Nat),
    (b = blk.pwr ∨ b = blk.rcd) →
    s.pshOpen →
    s.sec.romSafe = false →
    ∃ t, exec (.expertUnlock b key) s = .next t ∧
      (key % 65536 = 0x5054 → (∃ h, s.host.halves.find? (fun h => decide (h.block = b) && decide (h.path = .bar0)) = some h ∧ s.now ≤ h.since + 10000000) →
        t.expert blk.pwr = true ∧ t.expert blk.rcd = true) ∧
      (key % 65536 ≠ 0x5054 → t.get Reg.GLB_EXPERT_STATUS.expert = s.get Reg.GLB_EXPERT_STATUS.expert) ∧
      s.only t [.fld Reg.GLB_EXPERT_STATUS.expert, .part .host]) ∧
  (∀ (s : State) (v : Nat),
    s.bar0Open →
    v % 4 < 3 →
    ∃ t, exec (.hifProfile v) s = .next t ∧
      t.get Reg.HIF_PROFILE.profile = v % 4 ∧ t.expert blk.hif = false ∧
      t.get Reg.HIF_DATA_CFG.ro_data = (if v % 4 = 2 then 1 else 0) ∧ t.get Reg.HIF_FETCH_CFG.urgent_reserve = 64 ∧
        t.get Reg.HIF_FETCH_CFG.fetch_burst = (if v % 4 = 0 then 4 else if v % 4 = 1 then 8 else 16) ∧
      (∀ n, n < 64 → t.get (Reg.HIF_SQ_CFG.weight n) = 1 ∧ t.get (Reg.HIF_CQ_CFG.urgent_bypass n) = 1 ∧
        t.get (Reg.HIF_CQ_COALESCE.coalesce_count n) = (if v % 4 = 0 then 1 else if v % 4 = 1 then 16 else 64) ∧
        t.get (Reg.HIF_CQ_COALESCE.coalesce_time n) = (if v % 4 = 0 then 0 else if v % 4 = 1 then 8 else 64)) ∧
      s.only t (([.fld Reg.HIF_PROFILE.profile, .fld Reg.HIF_DATA_CFG.ro_data, .fld Reg.HIF_FETCH_CFG.urgent_reserve, .fld Reg.HIF_FETCH_CFG.fetch_burst, .fld Reg.GLB_EXPERT_STATUS.expert, .words 0x11000 0x2000, .part .host] : List Place) ++ cfgPlaces)) ∧
  (∀ (s : State) (v : Nat),
    s.bar0Open →
    v % 4 < 2 →
    ∃ t, exec (.fabProfile v) s = .next t ∧
      (s.spareMay (if v % 4 = 0 then some 15 else none) = true → t.get Reg.FAB_PROFILE.profile = v % 4 ∧ t.get Reg.FAB_PROFILE.spare_quad = 15 ∧ t.expert blk.fab = false ∧
        t.get Reg.FAB_PROFILE.group_r0 = 2 ∧ t.get Reg.FAB_PROFILE.group_r1 = 2 ∧ t.get Reg.FAB_PROFILE.group_r2 = 2 ∧ t.get Reg.FAB_PROFILE.group_r3 = 2) ∧
      (s.spareMay (if v % 4 = 0 then some 15 else none) = false → t.get Reg.FAB_STATUS.cfg_refused = 1 ∧ t.word 0x20000 = s.word 0x20000) ∧
      s.only t (([.words 0x20000 4, .fld Reg.GLB_EXPERT_STATUS.expert, .fld Reg.FAB_STATUS.cfg_refused, .words 0x20008 4, .words 0x20100 0x100, .part .host] : List Place) ++ cfgPlaces)) ∧
  (∀ (s : State) (v : Nat),
    s.bar0Open →
    v % 4 < 3 →
    ∃ t, exec (.smpProfile v) s = .next t ∧
      t.get Reg.SMP_PROFILE.profile = v % 4 ∧ t.expert blk.smp = false ∧
      t.get Reg.SMP_DEFAULTS.rungs = (if v % 4 = 0 then 8 else if v % 4 = 1 then 16 else 1) ∧
      t.get Reg.SMP_DEFAULTS.exch_interval = (if v % 4 = 0 then 4 else if v % 4 = 1 then 2 else 0) ∧
      t.get Reg.SMP_DEFAULTS.epoch_sweeps = 64 ∧ t.get Reg.SMP_DEFAULTS.rule = 0 ∧ t.get Reg.SMP_DEFAULTS.epoch_time = 1000 ∧
      s.only t (([.fld Reg.SMP_PROFILE.profile, .words 0x30008 8, .fld Reg.GLB_EXPERT_STATUS.expert, .part .host] : List Place) ++ cfgPlaces)) ∧
  (∀ (s : State) (v : Nat),
    s.bar0Open →
    v % 4 < 3 →
    ∃ t, exec (.capProfile v) s = .next t ∧
      t.get Reg.CAP_PROFILE.profile = v % 4 ∧ t.expert blk.cap = false ∧ t.get Reg.CAP_LOAD_TIMEOUT.load_timeout = 20 ∧
      (∀ n, n < 8 → t.get (Reg.CAP_STREAM_CFG.source n) = (if v % 4 = 0 then 0 else if v % 4 = 1 then 1 else if n < 4 then 0 else 1)) ∧
      s.only t (([.fld Reg.CAP_PROFILE.profile, .fld Reg.CAP_LOAD_TIMEOUT.load_timeout, .words 0x50200 0x100, .fld Reg.GLB_EXPERT_STATUS.expert, .part .host] : List Place) ++ cfgPlaces)) ∧
  (∀ (s : State) (v : Nat),
    s.bar0Open →
    v % 4 < 2 →
    ∃ t, exec (.sylProfile v) s = .next t ∧
      t.get Reg.SYL_PROFILE.profile = v % 4 ∧ t.expert blk.syl = false ∧
      t.get Reg.SYL_HASH_SEED.hash_seed = 0 ∧ t.get Reg.SYL_STAGE_BYPASS.stage_bypass = 0 ∧
      s.only t (([.fld Reg.SYL_PROFILE.profile, .fld Reg.SYL_HASH_SEED.hash_seed, .fld Reg.SYL_STAGE_BYPASS.stage_bypass, .fld Reg.GLB_EXPERT_STATUS.expert, .part .host] : List Place) ++ cfgPlaces)) ∧
  (∀ (s : State) (v : Nat),
    s.bar0Open →
    v % 4 < 3 →
    s.role = 0 →
    ∃ t, exec (.akgProfile v) s = .next t ∧
      t.get Reg.AKG_PROFILE.profile = v % 4 ∧ t.expert blk.akg = false ∧
      t.word Reg.AKG_TIMERS.claim_timeout.off = 0x0A080A05 ∧
      s.only t [.fld Reg.AKG_PROFILE.profile, .words Reg.AKG_TIMERS.claim_timeout.off 4, .fld Reg.GLB_EXPERT_STATUS.expert, .part .host]) ∧
  (∀ (s : State) (v : Nat),
    s.bar0Open →
    s.role ≠ 0 →
    ∃ t, exec (.akgProfile v) s = .next t ∧
      s.only t []) ∧
  (∀ (s : State) (v : Nat),
    s.bar0Open →
    v % 4 < 2 →
    ∃ t, exec (.secProfile v) s = .next t ∧
      t.get Reg.SEC_PROFILE.profile = v % 4 ∧ t.expert blk.sec = false ∧ t.get Reg.SEC_CFG.confirm_delay = 6 ∧
      s.only t [.fld Reg.SEC_PROFILE.profile, .fld Reg.SEC_CFG.confirm_delay, .fld Reg.GLB_EXPERT_STATUS.expert, .part .host]) ∧
  (∀ (s : State) (c : Instr),
    s.bar0Open →
    s.mirrors = false →
    c ∈ [Instr.hifProfile 3, .fabProfile 3, .fabProfile 2, .smpProfile 3, .capProfile 3, .sylProfile 2, .sylProfile 3, .hpsProfile 3, .akgProfile 3, .secProfile 2, .secProfile 3, .dbgProfile 3, .thmProfile 3, .recessProfile 3] →
    ∃ t, exec (c) s = .next t ∧
      s.only t [])

/-- HPS_PROFILE and DBG_PROFILE (10 R270, 15 R414): a listed profile is selected and leaves Expert; HPS loads its default verdict, both codes of every class, the threshold and the refresh streams; DBG loads enable, sink, wrap, owner, the four priorities, range 0 with its bounds, directions, space, sources and any partition, and makes the other ranges not valid. -/
def Obligations.HallPassAndTraceProfilesLoad : Prop :=
  (∀ (s : State) (v : Nat),
    s.bar0Open →
    v % 4 < 3 →
    ∃ t, exec (.hpsProfile v) s = .next t ∧
      t.get Reg.HPS_PROFILE.profile = v % 4 ∧ t.expert blk.hps = false ∧
      t.get Reg.HPS_CFG.default_verdict = 0 ∧ t.get Reg.HPS_CFG.refresh_en = (if v % 4 = 2 then 0 else 255) ∧
      t.get Reg.HPS_ANOMALY.threshold = 0x3F800000 ∧
      (∀ c, c < 256 → t.get (Reg.HPS_CLASS_MAP.normal_code c) = (if v % 4 = 1 then 1 else 0) ∧ t.get (Reg.HPS_CLASS_MAP.anomaly_code c) = (if v % 4 = 2 then 0 else 2)) ∧
      s.only t (([.fld Reg.HPS_PROFILE.profile, .fld Reg.HPS_CFG.default_verdict, .fld Reg.HPS_CFG.refresh_en, .fld Reg.HPS_ANOMALY.threshold, .words 0x60100 0x400, .fld Reg.GLB_EXPERT_STATUS.expert, .part .host] : List Place) ++ cfgPlaces)) ∧
  (∀ (s : State) (v : Nat),
    s.bar0Open →
    v % 4 < 3 →
    ∃ t, exec (.dbgProfile v) s = .next t ∧
      t.get Reg.DBG_PROFILE.profile = v % 4 ∧ t.expert blk.dbg = false ∧
      t.get Reg.DBG_TRACE_CTRL.enable = (if v % 4 = 0 then 0 else 1) ∧ t.get Reg.DBG_TRACE_CTRL.sink = 0 ∧ t.get Reg.DBG_TRACE_CTRL.owner = 0 ∧
        t.get Reg.DBG_TRACE_CTRL.wrap = (if v % 4 = 2 then 0 else 1) ∧
      t.get Reg.DBG_TRACE_CTRL.pri_core = 3 ∧ t.get Reg.DBG_TRACE_CTRL.pri_desc = 2 ∧ t.get Reg.DBG_TRACE_CTRL.pri_dma = 1 ∧ t.get Reg.DBG_TRACE_CTRL.pri_mirror = 0 ∧
      (∀ r, r < 8 → t.get (Reg.DBG_TRACE_RANGE.valid r) = (if r = 0 ∧ v % 4 ≠ 0 then 1 else 0)) ∧
      (v % 4 ≠ 0 → t.traceBounds 0 = (0, 0xFFFFFFFFFFFFFFFF) ∧ t.get (Reg.DBG_TRACE_RANGE.reads 0) = 1 ∧ t.get (Reg.DBG_TRACE_RANGE.writes 0) = 1 ∧
        t.get (Reg.DBG_TRACE_RANGE.partition 0) = 0xF) ∧
      (v % 4 = 1 → t.get (Reg.DBG_TRACE_RANGE.space 0) = 3 ∧ t.get (Reg.DBG_TRACE_RANGE.sources 0) = 1) ∧
      (v % 4 = 2 → t.get (Reg.DBG_TRACE_RANGE.space 0) = 0 ∧ t.get (Reg.DBG_TRACE_RANGE.sources 0) = 2) ∧
      s.only t [.fld Reg.DBG_PROFILE.profile, .words 0xD0100 4, .words 0xD0200 0x100, .fld Reg.GLB_EXPERT_STATUS.expert, .part .host])

/-- THERMAL_SAMPLE (12 R308, R310, R313, R314, R317): every live code becomes its sensor's reading, a code above the peak the peak; the warning sets on the second sample at or above warn_level, a throttle cause or release condition holds on its second sample, and 110 °C on two samples in a row gates the fabric. THROTTLE_STEP, THROTTLE_RELEASE, THERMAL_RESTART and THM_PROFILE (12 R314, R315, R318, R321, R335): while a cause holds the depth grows by one up to max_depth; a release sends a step notice and waits for it; the restart powers the fabric and, in Homeroom, starts bring-up from Memory; the profile loads Table 12-3 and leaves Expert. Model's own readings and choices it may rest on, in notes/assumptions: DEDUCED 82, 83, 84, 85. -/
def Obligations.ThermalSamplesDriveTheThrottle : Prop :=
  (∀ (s : State) (codes : List (Option Int)) (act : List (Nat × Nat)) (mr4 : List (Option Int)),
    s.samples = true →
    s.thermal.stuckRun.length = 19 →
    ∃ t, exec (.thermalSample codes act mr4) s = .next t ∧
      (∀ n ∈ shutSensors, ∀ v : Int, codeOf codes n = some v → -32768 ≤ v → v ≤ 32767 → t.reading n = v) ∧
      (∀ n ∈ shutSensors, codeOf codes n = none → t.reading n = s.reading n) ∧
      (∀ n ∈ shutSensors, t.thermal.stuckRun.getD n 0 = (if codeOf codes n = some (s.reading n) then s.thermal.stuckRun.getD n 0 + 1 else 0)) ∧
      (t.thermal.absHolds = true → s.thermal.absSeen = true) ∧ (t.thermal.rateHolds = true → s.thermal.rateSeen = true) ∧ (t.thermal.relHolds = true → s.thermal.relSeen = true) ∧
      (t.get Reg.THM_STATUS.warning = 1 → s.get Reg.THM_STATUS.warning = 0 → s.thermal.warnSeen = true ∧ t.get Reg.THM_STATUS.warn_event = 1) ∧
      (t.fab.powered = false → s.fab.powered = true → t.get Reg.THM_STATUS.shutdown = 1 ∧ t.get Reg.THM_STATUS.restart_wait = 1 ∧ t.get Reg.THM_STATUS.shutdown_event = 1) ∧
      s.only t (([.fld Reg.RCD_STATUS.flush_pending] : List Place) ++ gld1Places)) ∧
  (∀ (s : State),
    ∃ t, exec (.throttleStep) s = .next t ∧
      ((s.thermal.absHolds = true ∨ s.thermal.rateHolds = true) → 0 < s.get Reg.THM_STATUS.depth → s.get Reg.THM_STATUS.depth < s.get Reg.THM_CTRL.max_depth →
        t.get Reg.THM_STATUS.depth = s.get Reg.THM_STATUS.depth + 1 ∧ t.get Reg.THM_THROTTLE_COUNT.throttle_steps = min (s.get Reg.THM_THROTTLE_COUNT.throttle_steps + 1) 65535) ∧
      ((s.thermal.absHolds = false ∧ s.thermal.rateHolds = false) ∨ s.get Reg.THM_STATUS.depth = 0 ∨ s.get Reg.THM_CTRL.max_depth ≤ s.get Reg.THM_STATUS.depth → s.only t []) ∧
      s.only t [.fld Reg.THM_STATUS.depth, .fld Reg.THM_THROTTLE_COUNT.throttle_steps, .part .card]) ∧
  (∀ (s : State),
    s.thermal.relHolds = true →
    s.thermal.releaseWaits = false →
    s.get Reg.PWR_STATE.shed_active = 0 →
    s.depthFloor < s.get Reg.THM_STATUS.depth →
    ∃ t, exec (.throttleRelease) s = .next t ∧
      t.thermal = { s.thermal with releaseWaits := true } ∧
      t.get Reg.THM_STATUS.depth = s.get Reg.THM_STATUS.depth ∧
      t.svc.nextNotice = s.svc.nextNotice + 1 ∧
      (∃ n, t.svc.notices = s.svc.notices ++ [⟨n, .throttleRelease, .sent⟩] ∧ n.id = s.svc.nextNotice ∧ t.gpGld.queue = s.gpGld.queue ++ [.notice n.id n.amplitude n.start n.duration]) ∧
      s.only t [.part .thermal, .part .svc, .part .gpGld, .part .fresh]) ∧
  (∀ (s : State),
    s.get Reg.THM_STATUS.restart_wait = 1 →
    s.get Reg.THM_STATUS.fabric_held = 0 →
    shutSensors.all (fun n => !s.live n || decide (s.reading n < 680)) = true →
    ∃ t, exec (.thermalRestart) s = .next t ∧
      t.fab = { s.fab with powered := true } ∧
      t.get Reg.THM_STATUS.restart_wait = 0 ∧
      (s.service = svcHomeroom → t.svc = { s.svc with fromMemory := true } ∧ t.stage = 4 ∧ t.get Reg.THM_STATUS.shutdown = s.get Reg.THM_STATUS.shutdown) ∧
      (s.service ≠ svcHomeroom → t.get Reg.THM_STATUS.shutdown = 0 ∧ t.svc = s.svc ∧ t.stage = s.stage) ∧
      s.only t [.fld Reg.THM_STATUS.restart_wait, .fld Reg.THM_STATUS.shutdown, .fld Reg.GLB_SERVICE.stage, .part .fab, .part .svc]) ∧
  (∀ (s : State),
    (s.get Reg.THM_STATUS.restart_wait = 0 ∨ s.get Reg.THM_STATUS.fabric_held = 1) →
    ∃ t, exec (.thermalRestart) s = .next t ∧
      s.only t []) ∧
  (∀ (s : State) (v : Nat),
    s.bar0Open →
    v % 4 < 3 →
    s.thermal.mode = (if v % 4 = 1 then 1 else 0) →
    ∃ t, exec (.thmProfile v) s = .next t ∧
      t.get Reg.THM_PROFILE.profile = v % 4 ∧ t.expert blk.thm = false ∧
      t.get Reg.THM_LEVELS.warn_level = (if v % 4 = 2 then 90 else 95) ∧ t.get Reg.THM_LEVELS.throttle_level = (if v % 4 = 2 then 95 else 100) ∧ t.get Reg.THM_LEVELS.hysteresis = 3 ∧
      t.word Reg.THM_CTRL.mode.off = (if v % 4 = 0 then 0x18030A14 else if v % 4 = 1 then 0x181E0114 else 0x18030A0F) ∧
      s.only t [.fld Reg.THM_PROFILE.profile, .words 0x90008 8, .fld Reg.GLB_EXPERT_STATUS.expert, .part .host, .part .thermal, .part .svc])

/-- SENSOR_FLAGGED, PSH2_SENSOR_FLAGGED, FLASH_WINDOW_CLOSE and FLASH_WINDOW_OPEN (12 R310, R311, R312, R320, R337): a GLD1 sensor whose test has failed as often as its rule asks is flagged with the kind of failure and its event sets; with more than four quad sensors flagged the module is degraded at depth 1 or more; PSH2's own flagged sensor reads 0x7FFF; two results in a row outside or inside close or open the flash-write window. Model's own readings and choices it may rest on, in notes/assumptions: DEDUCED 8, 84, 120. -/
def Obligations.SensorsAreFlaggedAndWindowFollows : Prop :=
  (∀ (s : State) (n kind : Nat),
    n < 16 →
    s.svc.rstLow = false →
    s.live n = true →
    s.stage ≠ 7 →
    ((kind = 1 ∧ 10000 ≤ s.thermal.stuckRun.getD n 0) ∨ (kind = 2 ∧ 2 ≤ s.thermal.rangeRun.getD n 0) ∨ (kind = 3 ∧ 10 ≤ s.thermal.nbrRun.getD n 0)) →
    ∃ t, exec (.sensorFlagged n kind) s = .next t ∧
      t.get (Reg.THM_SENSOR.flag n) = kind ∧ t.live n = false ∧
      (t.get Reg.THM_FLAGS.flagged).testBit n = true ∧
      t.get Reg.THM_STATUS.sensor_event = 1 ∧
      (4 < ((List.range 16).filter (fun k => !s.live k)).length + 1 → t.get Reg.THM_STATUS.degraded = 1 ∧ 1 ≤ t.get Reg.THM_STATUS.depth) ∧
      s.only t (([.fld Reg.RCD_STATUS.flush_pending] : List Place) ++ gldPlaces)) ∧
  (∀ (s : State) (n kind : Nat),
    (n = 17 ∨ n = 18) →
    s.svc.rstLow = false →
    s.live n = true →
    ((kind = 1 ∧ 10000 ≤ s.thermal.stuckRun.getD n 0) ∨ (kind = 2 ∧ 2 ≤ s.thermal.rangeRun.getD n 0)) →
    ∃ t, exec (.sensorFlagged n kind) s = .next t ∧
      t.get (Reg.THM_SENSOR.flag n) = kind ∧
      (t.get Reg.THM_FLAGS.mem_flagged).testBit (n - 17) = true ∧
      t.get Reg.THM_STATUS.sensor_event = 1 ∧
      s.only t (([.fld Reg.RCD_STATUS.flush_pending] : List Place) ++ gldPlaces)) ∧
  (∀ (s : State) (n kind : Nat),
    (n = 19 ∨ n = 20) →
    (kind = 1 ∨ kind = 2) →
    s.pshUp = true →
    s.live n = true →
    ∃ t, exec (.psh2SensorFlagged n kind) s = .next t ∧
      t.get (Reg.THM_SENSOR.flag n) = kind ∧ t.get (Reg.THM_SENSOR.reading n) = 0x7FFF ∧
      (t.get Reg.THM_FLAGS.psh2_flagged).testBit (n - 19) = true ∧
      t.get Reg.THM_STATUS.sensor_event = 1 ∧
      (n = 19 → t.thermal.dieWarn = false) ∧
      (t.windowSensor = none → t.get Reg.THM_BANDS.flash_open = 1 ∧ t.get Reg.RCD_STATUS.window_closed = 0) ∧
      s.only t (([.fld (Reg.THM_SENSOR.flag n), .fld (Reg.THM_SENSOR.reading n), .fld Reg.THM_FLAGS.psh2_flagged, .fld Reg.THM_STATUS.sensor_event, .fld Reg.THM_BANDS.flash_open, .fld Reg.RCD_STATUS.window_closed, .part .thermal, .part .card] : List Place) ++ irqPlaces)) ∧
  (∀ (s : State),
    s.pshUp = true →
    2 ≤ s.thermal.winOut →
    s.get Reg.THM_BANDS.flash_open = 1 →
    ∃ t, exec (.flashWindowClose) s = .next t ∧
      t.get Reg.THM_BANDS.flash_open = 0 ∧ t.get Reg.RCD_STATUS.window_closed = 1 ∧
      (s.bk ≠ bkQualifying → s.only t [.fld Reg.THM_BANDS.flash_open, .fld Reg.RCD_STATUS.window_closed]) ∧
      (s.bk = bkQualifying → s.brk.qualDone = true → s.brk.voutLow = true → s.brk.minOff = false → s.get Reg.PWR_SLOT_STATUS.lever_open = 0 → t.bk = bkSoftStart ∧ t.get Reg.PWR_STATE.gate_on = 1) ∧
      s.only t (([.fld Reg.RCD_STATUS.window_closed, .fld Reg.PWR_STATE.state, .fld Reg.PWR_STATE.gate_on, .fld Reg.PWR_SLOT_STATUS.remove_led, .fld Reg.PWR_ADC_STATUS.lp_active, .words 0xB0000 0x10000, .part .brk, .part .meter, .part .pmb, .part .nor] : List Place) ++ gld1Places)) ∧
  (∀ (s : State),
    s.pshUp = true →
    2 ≤ s.thermal.winIn →
    s.get Reg.THM_BANDS.flash_open = 0 →
    ∃ t, exec (.flashWindowOpen) s = .next t ∧
      t.get Reg.THM_BANDS.flash_open = 1 ∧ t.get Reg.RCD_STATUS.window_closed = 0 ∧
      (s.card.due = 0 → s.card.eraseQueue = [] → s.card.journalEntry ≠ 255 → t.card = s.card) ∧
      s.only t [.fld Reg.THM_BANDS.flash_open, .words 0xB0000 0x10000, .part .card, .part .nor])

/-- The unit ledger (12 R324 to R328, R332, R334, R341): PSH2 orders mgmt_state and lock over PMBus and tells GLD1; a unit under IN_SERVICE becomes READY; a draining one with no work left becomes OUT; a pair outside Table 12-6 fences the unit; an OFF unit loses power once it is out of work; a REQUEST is granted unless the lock or the rail forbids it. Model's own readings and choices it may rest on, in notes/assumptions: DESIGN CHOICE 39; DEDUCED 80. -/
def Obligations.UnitsFollowTheirLedger : Prop :=
  (∀ (s : State) (u : Nat),
    u ≤ 100 →
    s.svc.rstLow = false →
    s.get (Reg.FAB_LEDGER.mgmt_state u) = mgmtInService →
    s.get (Reg.FAB_LEDGER.pgood u) = 1 →
    s.unitDark u = false →
    (s.get (Reg.FAB_LEDGER.data_state u) = dataOut ∨ s.get (Reg.FAB_LEDGER.data_state u) = dataDraining) →
    ∃ t, exec (.unitReady u) s = .next t ∧
      t.get (Reg.FAB_LEDGER.data_state u) = dataReady ∧
      t.get (Reg.FAB_LEDGER.disagree u) = 0 ∧
      (96 ≤ u → u < 100 → t.get (Reg.MEM_CH_STATUS.trained (u - 96)) = 1 ∧ t.get (Reg.MEM_CH_STATUS.deep_sleep (u - 96)) = 0 ∧
        t.get (Reg.MEM_CH_RETRAINS.retrains (u - 96)) = min (s.get (Reg.MEM_CH_RETRAINS.retrains (u - 96)) + 1) 65535) ∧
      s.only t (([] : List Place) ++ gldPlaces)) ∧
  (∀ (s : State) (u : Nat),
    u ≤ 100 →
    (s.get (Reg.FAB_LEDGER.mgmt_state u) ≠ mgmtInService ∨ s.get (Reg.FAB_LEDGER.pgood u) = 0) →
    ∃ t, exec (.unitReady u) s = .next t ∧
      s.only t []) ∧
  (∀ (s : State) (u : Nat),
    u ≤ 100 →
    ∃ t, exec (.unitDrained u) s = .next t ∧
      (s.get (Reg.FAB_LEDGER.data_state u) = dataDraining → s.unitInFlight u = false → t.get (Reg.FAB_LEDGER.data_state u) = dataOut) ∧
      (s.get (Reg.FAB_LEDGER.data_state u) ≠ dataDraining ∨ s.unitInFlight u = true → s.only t []) ∧
      s.only t [.fld (Reg.FAB_LEDGER.data_state u), .fld (Reg.FAB_LEDGER.disagree u), .fld Reg.FAB_LEDGER_STATUS.fenced_units, .words 0x20008 4, .words 0x20100 0x100]) ∧
  (∀ (s : State) (u : Nat),
    u ≤ 100 →
    s.svc.rstLow = false →
    pairAgrees (s.get (Reg.FAB_LEDGER.mgmt_state u)) (s.get (Reg.FAB_LEDGER.data_state u)) = false →
    s.get (Reg.FAB_LEDGER.data_state u) ≠ dataFenced →
    ∃ t, exec (.ledgerDisagreement u) s = .next t ∧
      t.get (Reg.FAB_LEDGER.data_state u) = dataFenced ∧
      t.get (Reg.FAB_LEDGER.fenced_event u) = 1 ∧
      t.get Reg.FAB_LEDGER_STATUS.disagreements = min (s.get Reg.FAB_LEDGER_STATUS.disagreements + 1) 65535 ∧
      (t.causes 0).testBit cause.ledger = true ∧
      (s.pshUp = true → s.gpGld.lost = false → t.get Reg.RCD_STATUS.flush_pending = 1) ∧
      s.only t (([.fld Reg.RCD_STATUS.flush_pending] : List Place) ++ gldPlaces)) ∧
  (∀ (s : State) (u : Nat),
    u ≤ 100 →
    pairAgrees (s.get (Reg.FAB_LEDGER.mgmt_state u)) (s.get (Reg.FAB_LEDGER.data_state u)) = true →
    ∃ t, exec (.ledgerDisagreement u) s = .next t ∧
      s.only t []) ∧
  (∀ (s : State) (u : Nat),
    u ≤ 100 →
    s.mgmt.length = 101 →
    s.pshUp = true →
    s.gpPsh.lost = false →
    (s.mgmtOf u).mgmt = mgmtOff →
    (s.mgmtOf u).pgood = true →
    (s.get (Reg.FAB_LEDGER.data_state u) = dataOut ∨ s.get (Reg.FAB_LEDGER.data_state u) = dataFailed ∨ s.get (Reg.FAB_LEDGER.data_state u) = dataFenced) →
    ∃ t, exec (.unitPowerOff u) s = .next t ∧
      t.mgmtOf u = { s.mgmtOf u with pgood := false } ∧
      t.gpPsh.queue = s.gpPsh.queue ++ [.pgood u false] ∧
      (u < 84 → ∀ k ∈ unitTiles u, t.get (Reg.FAB_TILE_STATUS.mode k) = 0) ∧
      (96 ≤ u → u < 100 → t.get (Reg.MEM_CH_STATUS.deep_sleep (u - 96)) = 1) ∧
      (u = 100 → t.pass.verdict = 0 ∧ t.pass.tagv = false) ∧
      s.only t (([.words 0x20100 0x100, .words 0x70000 0x10000, .words 0x80000 0x100, .fld Reg.HPS_STATUS.publish_pending, .part .mgmt, .part .gpPsh, .part .pass, .part .akg, .part .dram, .part .dramEra, .part .fresh] : List Place) ++ irqPlaces)) ∧
  (∀ (s : State) (v : Nat),
    s.pshUp = true →
    s.mgmt.length = 101 →
    s.pmb.unitIndex ≤ 100 →
    v % 8 ≤ 4 →
    ∃ t, exec (.mfrUnitState (.write .whole v)) s = .next t ∧
      (t.mgmtOf s.pmb.unitIndex).mgmt = v % 8 ∧ (t.mgmtOf s.pmb.unitIndex).lock = v.testBit 3 ∧
      (t.mgmtOf s.pmb.unitIndex).pgood = ((s.mgmtOf s.pmb.unitIndex).pgood || (decide (v % 8 = mgmtInService) && !s.railOut s.pmb.unitIndex)) ∧
      (∀ w, w ≠ s.pmb.unitIndex → t.mgmtOf w = s.mgmtOf w) ∧
      t.pmb = { s.pmb with acked := true } ∧
      s.only t [.part .mgmt, .part .gpPsh, .part .pmb]) ∧
  (∀ (s : State) (v : Nat),
    s.pshUp = true →
    s.mgmt.length = 101 →
    s.pmb.unitIndex ≤ 100 →
    4 < v % 8 →
    ∃ t, exec (.mfrUnitState (.write .whole v)) s = .next t ∧
      (t.mgmtOf s.pmb.unitIndex).mgmt = (s.mgmtOf s.pmb.unitIndex).mgmt ∧ (t.mgmtOf s.pmb.unitIndex).lock = v.testBit 3 ∧
      t.pmb.cml6 = true ∧
      s.only t [.part .mgmt, .part .gpPsh, .part .pmb]) ∧
  (∀ (s : State) (id : Nat) (f : Flight) (u : Nat),
    s.reconcile id 2 = some (f, u) →
    s.mgmt.length = 101 →
    ∃ t, exec (.request id) s = .next t ∧
      (s.pshUp = false ∨ s.gpGld.lost = true ∨ (s.mgmtOf u).lock = true ∨ s.railOut u = true → t.get (Reg.FAB_LEDGER.mgmt_state u) = s.get (Reg.FAB_LEDGER.mgmt_state u) ∧ t.mgmt = s.mgmt) ∧
      (s.pshUp = true → s.gpGld.lost = false → (s.mgmtOf u).lock = false → s.railOut u = false →
        t.get (Reg.FAB_LEDGER.mgmt_state u) = mgmtInService ∧ (t.mgmtOf u).mgmt = mgmtInService ∧ (t.mgmtOf u).pgood = true ∧ t.get (Reg.FAB_LEDGER.pgood u) = 1 ∧
        (s.get (Reg.FAB_LEDGER.data_state u) ≠ dataFailed → s.unitDark u = false → t.get (Reg.FAB_LEDGER.data_state u) = dataReady)) ∧
      t.ends id 0 (t.get (Reg.FAB_LEDGER.mgmt_state u) + t.get (Reg.FAB_LEDGER.data_state u) * 256) 0 ∧
      s.only t (([.part .mgmt] : List Place) ++ gldPlaces))

/-- TILE_FAULT, SPARE_STAND_IN, ADOPT and RETEST (12 R328 to R331, R333): a faulted tile is fenced, its unit FAILED, counted and reported; a fenced position nobody covers yet is taken over by a spare or a partner; ADOPT clears a fence that agrees with the order and keeps FAILED; RETEST clears the fault of a tile that passes. Model's own readings and choices it may rest on, in notes/assumptions: DEDUCED 60, 79. -/
def Obligations.FaultsAreFencedAndCovered : Prop :=
  (∀ (s : State) (k : Nat) (residue : Bool),
    k < 64 →
    s.svc.rstLow = false →
    s.fab.powered = true →
    s.get (Reg.FAB_TILE_STATUS.fenced k) = 0 →
    ∃ t, exec (.tileFault k residue) s = .next t ∧
      t.get (Reg.FAB_TILE_STATUS.fenced k) = 1 ∧
      t.get (Reg.FAB_LEDGER.data_state k) = dataFailed ∧
      t.get Reg.FAB_REPLAY_COUNT.last_tile = k ∧
      (t.causes 0).testBit cause.tileFault = true ∧
      t.get Reg.FAB_FAULT_COUNT.residue_faults = (if residue then min (s.get Reg.FAB_FAULT_COUNT.residue_faults + 1) 65535 else s.get Reg.FAB_FAULT_COUNT.residue_faults) ∧
      t.get Reg.FAB_FAULT_COUNT.parity_faults = (if residue then s.get Reg.FAB_FAULT_COUNT.parity_faults else min (s.get Reg.FAB_FAULT_COUNT.parity_faults + 1) 65535) ∧
      s.only t (([.fld Reg.RCD_STATUS.flush_pending] : List Place) ++ gldPlaces)) ∧
  (∀ (s : State) (k : Nat),
    k < 64 →
    s.fab.powered = true →
    s.get (Reg.FAB_TILE_STATUS.fenced k) = 1 →
    s.carrier k = k →
    ∃ t, exec (.spareStandIn k) s = .next t ∧
      (∀ c, s.takeOver k = some (true, c) → t.get (Reg.FAB_TILE_STATUS.standing_in c) = 1 ∧ t.get (Reg.FAB_TILE_STATUS.stands_for c) = k % 64) ∧
      (∀ c, s.takeOver k = some (false, c) → t.fab.partners = s.fab.partners ++ [(k, c)] ∧ t.get Reg.FAB_REPLAY_COUNT.remaps = min (s.get Reg.FAB_REPLAY_COUNT.remaps + 1) 255) ∧
      s.only t (([.fld Reg.RCD_STATUS.flush_pending] : List Place) ++ gldPlaces)) ∧
  (∀ (s : State) (id : Nat) (f : Flight) (u : Nat),
    s.reconcile id 0 = some (f, u) →
    ∃ t, exec (.adopt id) s = .next t ∧
      t.get (Reg.FAB_LEDGER.data_state u) = (if s.get (Reg.FAB_LEDGER.data_state u) = dataFailed then dataFailed
        else if s.get (Reg.FAB_LEDGER.mgmt_state u) = mgmtInService ∧ s.unitDark u = false then dataReady else dataOut) ∧
      t.ends id 0 (s.get (Reg.FAB_LEDGER.mgmt_state u) + t.get (Reg.FAB_LEDGER.data_state u) * 256) 0 ∧
      s.only t (([] : List Place) ++ gldPlaces)) ∧
  (∀ (s : State) (id : Nat) (pass : Bool) (f : Flight) (u : Nat),
    s.reconcile id 1 = some (f, u) →
    ∃ t, exec (.retest id pass) s = .next t ∧
      t.get (Reg.FAB_LEDGER.data_state u) = (if pass = false then dataFailed
        else if s.get (Reg.FAB_LEDGER.mgmt_state u) = mgmtInService ∧ s.unitDark u = false then dataReady else dataOut) ∧
      (u < 64 → t.get (Reg.FAB_TILE_STATUS.fenced u) = (if pass then 0 else 1)) ∧
      t.ends id 0 (s.get (Reg.FAB_LEDGER.mgmt_state u) + t.get (Reg.FAB_LEDGER.data_state u) * 256) 0 ∧
      s.only t (([] : List Place) ++ gldPlaces))

/-- LOAD_MODEL and LOAD_COEFF on a slot no other member shares (08 R195, R196; 07 R171, R172, R191, R431): a read error ends the descriptor ABORTED; an image that fails a check ends it with BAD_DESC and changes no bank; an accepted one is in the slot with its tiles marked; coefficients overwrite exactly the couplings named, block by block in their graded form, and the completion reports blocks and the worst error. Model's own readings and choices it may rest on, in notes/assumptions: DEDUCED 9, 60, 63, 64; DESIGN CHOICE 71, 72. -/
def Obligations.LoadsFillTheirBanks : Prop :=
  (∀ (s : State) (id : Nat) (f : Flight),
    s.startSlot id opLoadModel = some f →
    dDev0 f.bytes = false →
    ∃ t, exec (.loadModel id none) s = .next t ∧
      t.ends id 0x13 0 0 ∧
      t.fab = s.fab ∧
      s.only t (([] : List Place) ++ endPlaces)) ∧
  (∀ (s : State) (id : Nat) (f : Flight) (b : List Byte),
    s.startSlot id opLoadModel = some f →
    dDev0 f.bytes = false →
    s.sharedSlot (dModel f.bytes) = false →
    s.cap.standing = [] →
    ∃ t, exec (.loadModel id (some b)) s = .next t ∧
      (imCode f.smp.rungs (bytesAt b 0 (natAt f.bytes 24 4)) ≠ 0 → t.ends id 0x20 0 0 ∧ t.fab = s.fab) ∧
      (∀ w m gs, imCode f.smp.rungs (bytesAt b 0 (natAt f.bytes 24 4)) = 0 →
        (s.gangSets f.part (imSize (bytesAt b 0 (natAt f.bytes 24 4))) (imCount (bytesAt b 0 (natAt f.bytes 24 4))) (dGang f.bytes)).find?
        (fun w => w.all (fun g => s.gangReady (imSize (bytesAt b 0 (natAt f.bytes 24 4))) g && !s.gangHeld (imSize (bytesAt b 0 (natAt f.bytes 24 4))) g)) = some w →
        buildModel (bytesAt b 0 (natAt f.bytes 24 4)) f.part (natAt f.bytes 32 8) w (s.flag Reg.GLB_SERVICE.homeroom)
        (f.smp.table (natAt (bytesAt b 0 (natAt f.bytes 24 4)) 28 4) (natAt (bytesAt b 0 (natAt f.bytes 24 4)) 32 4)) = some (m, gs) →
        s.get Reg.GLB_SERVICE.homeroom = 0 → (m.devBytes = 0 ∨ s.memOk f.part m.devBase m.devBytes = true) → (m.rotation = false ∨ [96, 97, 98, 99].all s.unitReady = true) → m.table.checked ≠ none → imSec (bytesAt b 0 (natAt f.bytes 24 4)) 4 = 0 → verdictOk (bytesAt b 0 (natAt f.bytes 24 4)) m = true → m.exactOk = true →
        t.model (dModel f.bytes) = some m ∧ t.get (Reg.FAB_MODEL_STATUS.loaded (dModel f.bytes)) = 1) ∧
      s.dramKeeps t f.part (dDev1 f.bytes) (dAddr1 f.bytes) (if dAddr1 f.bytes = 0 then 0 else 4096) (natAt f.bytes 32 8) (imDev (bytesAt b 0 (natAt f.bytes 24 4))) ∧
      s.only t (([.fld Reg.HPS_STATUS.publish_pending, .words 0x20000 0x10000, .words 0x30000 0x1000, .words 0xD0000 0x10000, .part .fab, .part .dbg, .part .dram, .part .dramEra, .part .fresh] : List Place) ++ cfgPlaces ++ endPlaces)) ∧
  (∀ (s : State) (id : Nat) (f : Flight) (m : Model) (b : List Byte),
    s.startSlot id opLoadCoeff = some f →
    s.model (dModel f.bytes) = some m →
    dModel f.bytes < 256 →
    dDev0 f.bytes = false →
    natAt f.bytes 24 4 % 16 = 0 →
    natAt f.bytes 28 4 % 16 = 0 →
    natAt f.bytes 28 4 + natAt f.bytes 24 4 ≤ m.couplings →
    s.cap.standing = [] →
    ∃ t, exec (.loadCoeff id (some b)) s = .next t ∧
      (∃ m', t.model (dModel f.bytes) = some m' ∧
        (∀ i, i < natAt f.bytes 24 4 → m'.mantAt (natAt f.bytes 28 4 + i) =
        ((gradeBlock m.eMin (((blocksOf (f32list (bytesAt b 0 (4 * natAt f.bytes 24 4)))).getD (i / 16) []))).ms.getD (i % 16) 0)) ∧
        (∀ i, i < natAt f.bytes 28 4 ∨ natAt f.bytes 28 4 + natAt f.bytes 24 4 ≤ i → m'.mantAt i = m.mantAt i) ∧ m'.eMin = m.eMin ∧ m'.vars = m.vars) ∧
      (s.mirrors = false → t.ends id 0 (natAt f.bytes 24 4 / 16) (worstErr ((blocksOf (f32list (bytesAt b 0 (4 * natAt f.bytes 24 4)))).map (gradeBlock m.eMin)))) ∧
      s.dramKeeps t f.part (dDev1 f.bytes) (dAddr1 f.bytes) (if dAddr1 f.bytes = 0 then 0 else (natAt f.bytes 24 4 / 2 + 63) / 64 * 64) 0 0 ∧
      s.only t (([.fld Reg.HPS_STATUS.publish_pending, .words 0x20400 0x400, .words 0x30800 0x400, .words 0xD0000 0x10000, .part .fab, .part .dbg, .part .dram, .part .dramEra, .part .fresh] : List Place) ++ cfgPlaces ++ endPlaces))

/-- RUN_MAC, RUN_SAMPLE, RUN_ANNEAL, TRAIN_STEP and READ_STATES on a slot no other member shares (07 R190, R431; 08 R203, R207, R208, R211, R214, R216, R222): a model that does not suit ends the descriptor BAD_DESC; otherwise the run enters the scheduler with the sweeps, replicas, tracker size and points the descriptor gives; a replica count the rungs do not divide, and a table or schedule that is not valid, end it BAD_DESC, a read error ABORTED; a training step leaves the slot trained; READ_STATES reports as many states as it writes. Model's own readings and choices it may rest on, in notes/assumptions: DEDUCED 9, 60, 65, 66, 75; DESIGN CHOICE 69, 70; PRESUMED 73. -/
def Obligations.RunsAreSubmittedToTheirGangs : Prop :=
  (∀ (s : State) (id : Nat) (f : Flight) (m : Model),
    s.startSlot id opRunMac = some f →
    s.model (dModel f.bytes) = some m →
    s.sharedSlot (dModel f.bytes) = false →
    s.fab.runs.all (fun r => decide (r.id ≠ id)) = true →
    ∃ t, exec (.runMac id) s = .next t ∧
      (s.modelFits f.bytes = false → t.ends id 0x20 0 0) ∧
      (s.modelFits f.bytes = true → ∃ r, t.run id = some r ∧ r.kind = .mac ∧ r.vectors = natAt f.bytes 24 4 ∧ r.done = 0 ∧ r.slot = dModel f.bytes ∧
        r.exact = exactMode (dMode f.bytes) m ∧ r.prio = s.get (Reg.HIF_SQ_CFG.priority f.sq)) ∧
      s.only t (([.fld Reg.HPS_STATUS.publish_pending, .words 0x20100 0x100, .fld Reg.SMP_STATUS.replicas, .part .fab, .part .svc, .part .gpGld, .part .fresh] : List Place) ++ endPlaces)) ∧
  (∀ (s : State) (id : Nat) (f : Flight) (m : Model),
    s.startSlot id opRunSample = some f →
    s.model (dModel f.bytes) = some m →
    s.sharedSlot (dModel f.bytes) = false →
    s.fab.runs.all (fun r => decide (r.id ≠ id)) = true →
    ∃ t, exec (.runSample id none) s = .next t ∧
      (s.modelFits f.bytes = true → dAddr0 f.bytes ≠ 0 → dDev0 f.bytes = false → t.ends id 0x13 0 0) ∧
      (s.modelFits f.bytes = false ∨ (dAddr0 f.bytes = 0 ∧ ((f.slotTable m).checked = none ∨ natAt f.bytes 28 2 % (f.slotTable m).rungs.length ≠ 0)) → t.ends id 0x20 0 0) ∧
      (s.modelFits f.bytes = true → dAddr0 f.bytes = 0 → (f.slotTable m).checked ≠ none → natAt f.bytes 28 2 % (f.slotTable m).rungs.length = 0 →
        ∃ r, t.run id = some r ∧ r.kind = .sample ∧ r.total = natAt f.bytes 24 4 ∧ r.k = natAt f.bytes 30 2 ∧ r.path.reps.length = natAt f.bytes 28 2 ∧ r.path.sweeps = 0 ∧
        r.slot = dModel f.bytes ∧ ((natAt f.bytes 40 1).testBit 0 = true → r.seed = natAt f.bytes 32 8)) ∧
      s.only t (([.fld Reg.HPS_STATUS.publish_pending, .words 0x20100 0x100, .fld Reg.SMP_STATUS.replicas, .fld Reg.SMP_ENTROPY.seeds, .words 0xD0000 0x10000, .part .fab, .part .svc, .part .gpGld, .part .fresh, .part .dbg] : List Place) ++ endPlaces)) ∧
  (∀ (s : State) (id : Nat) (f : Flight) (m : Model) (b : List Byte),
    s.startSlot id opRunAnneal = some f →
    s.model (dModel f.bytes) = some m →
    s.modelFits f.bytes = true →
    dDev0 f.bytes = false →
    s.sharedSlot (dModel f.bytes) = false →
    s.fab.runs.all (fun r => decide (r.id ≠ id)) = true →
    ∃ t, exec (.runAnneal id (some b)) s = .next t ∧
      (parseSchedule (bytesAt b 0 (16 * natAt f.bytes 44 2)) (natAt f.bytes 44 2) = none ∨ (f.slotTable m).checked = none ∨ natAt f.bytes 28 2 % (f.slotTable m).rungs.length ≠ 0 → t.ends id 0x20 0 0) ∧
      (∀ ps, parseSchedule (bytesAt b 0 (16 * natAt f.bytes 44 2)) (natAt f.bytes 44 2) = some ps → (f.slotTable m).checked ≠ none → natAt f.bytes 28 2 % (f.slotTable m).rungs.length = 0 →
        ∃ r, t.run id = some r ∧ r.kind = .anneal ∧ r.path.points = ps ∧ r.path.reps.length = natAt f.bytes 28 2 ∧ r.total = natAt f.bytes 24 4) ∧
      s.only t (([.fld Reg.HPS_STATUS.publish_pending, .words 0x20100 0x100, .fld Reg.SMP_STATUS.replicas, .fld Reg.SMP_ENTROPY.seeds, .words 0xD0000 0x10000, .part .fab, .part .svc, .part .gpGld, .part .fresh, .part .dbg] : List Place) ++ endPlaces)) ∧
  (∀ (s : State) (id : Nat) (f : Flight) (m : Model) (b : List Byte),
    s.startSlot id opTrain = some f →
    s.model (dModel f.bytes) = some m →
    s.modelFits f.bytes = true →
    dDev0 f.bytes = false →
    dModel f.bytes < 256 →
    ∃ t, exec (.trainStep id (some b)) s = .next t ∧
      (s.trainReady f m = false → s.only t []) ∧
      (s.trainReady f m = true → ∃ m', t.model (dModel f.bytes) = some m' ∧ m'.trained = true ∧ m'.chains.length = natAt f.bytes 36 2 ∧ m'.gangs = m.gangs ∧ m'.trainMap = m.trainMap) ∧
      (s.trainReady f m = true → t.get (Reg.SMP_SLOT_STATUS.trained (dModel f.bytes)) = 1) ∧
      s.dramKeeps t f.part (dDev1 f.bytes) (dAddr1 f.bytes) (if dAddr1 f.bytes = 0 then 0 else 16 * m.trainMap.length) m.devBase m.devBytes ∧
      s.only t (([.fld Reg.HPS_STATUS.publish_pending, .words 0x20400 0x400, .words 0x30800 0x400, .fld Reg.SMP_ENTROPY.seeds, .words 0xD0000 0x10000, .part .fab, .part .dbg, .part .dram, .part .dramEra, .part .fresh] : List Place) ++ cfgPlaces ++ endPlaces)) ∧
  (∀ (s : State) (id : Nat) (f : Flight),
    s.startSlot id opReadStates = some f →
    ∃ t, exec (.readStates id) s = .next t ∧
      (s.modelFits f.bytes = false → t.ends id 0x20 0 0) ∧
      (s.modelFits f.bytes = true → (s.model (dModel f.bytes)).bind (fun m => m.last) = none → t.ends id 0 0 0) ∧
      (∀ m r, s.modelFits f.bytes = true → s.model (dModel f.bytes) = some m → m.last = some r → 64 ≤ natAt f.bytes 28 4 → r.sat = false →
        t.ends id 0 (min (min (natAt f.bytes 24 2) r.states.length) ((natAt f.bytes 28 4 - 64) / m.stride)) 0) ∧
      (natAt f.bytes 28 4 < 64 → t.host.posted = s.host.posted ∧ t.dram = s.dram) ∧
      ((s.model (dModel f.bytes)).bind (fun m => m.last) = none → s.dramKeeps t f.part (dDev1 f.bytes) (dAddr1 f.bytes) (if 64 ≤ natAt f.bytes 28 4 then 64 else 0) 0 0) ∧
      (∀ m r, s.model (dModel f.bytes) = some m → m.last = some r → r.header.length = 64 → s.dramKeeps t f.part (dDev1 f.bytes) (dAddr1 f.bytes) (natAt f.bytes 28 4) 0 0) ∧
      s.only t (([.fld Reg.HPS_STATUS.publish_pending, .words 0xD0000 0x10000, .part .dbg, .part .dram, .part .dramEra] : List Place) ++ endPlaces))

/-- MAC_PASS_END, SWEEP_END, EPOCH_BOUNDARY and ANNEAL_POINT_END (07 R174, R192; 08 R199, R210 to R213): a pass writes its outputs and counts, the last one completes the descriptor; a replica's sweep offers its state and hands over to the next, the last one counts a sweep; an epoch boundary keeps the path as the state to repeat from, or completes a run whose sweeps are done; a point ends once its sweeps are done and the next one's table applies. Model's own readings and choices it may rest on, in notes/assumptions: DEDUCED 8, 66, 74, 77. -/
def Obligations.PassesSweepsAndBoundariesEnd : Prop :=
  (∀ (s : State) (id : Nat) (r : Run) (f : Flight) (m : Model) (b : List Byte),
    s.run id = some r →
    r.kind = .mac →
    r.goes = true →
    s.halted 2 = false →
    s.flight id = some f →
    f.stage ≠ .ended →
    s.model r.slot = some m →
    dDev0 f.bytes = false →
    ∃ t, exec (.macPassEnd id (some b)) s = .next t ∧
      (r.done + 1 < r.vectors → ∃ q, t.run id = some q ∧ q.done = r.done + 1 ∧ q.vectors = r.vectors ∧ q.gangs = r.gangs ∧ q.path = r.path) ∧
      (r.vectors ≤ r.done + 1 → ∃ st, t.ends id st r.vectors 0 ∧ (st = 0 ∨ st = 2 ∨ st = 3 ∨ st = 0x30)) ∧
      s.dramKeeps t r.part (dDev1 f.bytes) (dAddr1 f.bytes + (if r.exact then 8 else 4) * m.side * r.done) ((if r.exact then 8 else 4) * m.side) 0 0 ∧
      s.only t (([.fld Reg.HPS_STATUS.publish_pending, .words 0x20000 0x300, .fld Reg.SMP_STATUS.replicas, .words 0xD0000 0x10000, .part .fab, .part .svc, .part .gpGld, .part .fresh, .part .dbg, .part .dram, .part .dramEra] : List Place) ++ endPlaces)) ∧
  (∀ (s : State) (id : Nat) (r : Run) (f : Flight) (m : Model),
    s.run id = some r →
    r.kind = .mac →
    r.goes = true →
    s.halted 2 = false →
    s.flight id = some f →
    f.stage ≠ .ended →
    s.model r.slot = some m →
    dDev0 f.bytes = false →
    ∃ t, exec (.macPassEnd id none) s = .next t ∧
      t.ends id 0x13 0 0 ∧
      s.only t (([.fld Reg.HPS_STATUS.publish_pending, .words 0x20000 0x300, .fld Reg.SMP_STATUS.replicas, .part .fab, .part .svc, .part .gpGld, .part .fresh] : List Place) ++ endPlaces)) ∧
  (∀ (s : State) (id : Nat) (r : Run) (m : Model),
    s.run id = some r →
    (r.kind = .mac ∨ r.kind = .sample ∨ r.kind = .anneal) →
    r.goes = true →
    r.boundary = false →
    r.path.reps ≠ [] →
    s.halted 2 = false →
    s.model r.slot = some m →
    s.sharedSlot r.slot = false →
    s.fab.runs.all (fun q => decide (q = r) || decide (q.id ≠ id)) = true →
    ∃ t, exec (.sweepEnd id) s = .next t ∧
      (∃ q, t.run id = some q ∧ q.gangs = r.gangs ∧ q.path.reps.length = r.path.reps.length ∧
        q.path.next = (if r.path.next + 1 < r.path.reps.length then r.path.next + 1 else 0) ∧
        q.path.sweeps = (if r.path.next + 1 < r.path.reps.length then r.path.sweeps else r.path.sweeps + 1) ∧
        (r.path.next + 1 < r.path.reps.length → q.boundary = false) ∧
        (r.path.reps.length ≤ r.path.next + 1 → q.boundary = (decide (r.path.table.epochSweeps ≤ r.path.inEpoch + 1) || decide (r.total ≤ r.path.sweeps + 1)))) ∧
      s.dramKeeps t m.part false 0 0 m.devBase (if m.rotation then m.devBytes else 0) ∧
      (m.rotation = false → t.dram = s.dram ∧ t.dramEra = s.dramEra ∧ t.fresh = s.fresh) ∧
      s.only t [.words 0x30200 0x100, .part .fab, .part .dram, .part .dramEra, .part .fresh]) ∧
  (∀ (s : State) (id : Nat) (r : Run) (f : Flight) (m : Model),
    s.run id = some r →
    (r.kind = .sample ∨ r.kind = .anneal) →
    r.goes = true →
    r.boundary = true →
    s.halted 2 = false →
    s.flight id = some f →
    f.stage ≠ .ended →
    s.model r.slot = some m →
    s.sharedSlot r.slot = false →
    s.fab.runs.all (fun q => decide (q = r) || decide (q.id ≠ id)) = true →
    ∃ t, exec (.epochBoundary id) s = .next t ∧
      (r.total ≤ r.path.sweeps → ∃ st r1, t.ends id st (r.path.track.length + r.path.sweeps % 2 ^ 32 * 2 ^ 32) r1) ∧
      (r.total ≤ r.path.sweeps → s.isPrefect = false → ∃ m', t.model r.slot = some m' ∧ m'.last.map (·.states) = some r.path.track ∧ m'.kept = (if (natAt f.bytes 40 1).testBit 1 then r.path.reps else [])) ∧
      (r.path.sweeps < r.total → ∃ q, t.run id = some q ∧ q.boundary = false ∧ q.path = { r.path with inEpoch := 0 } ∧ q.saved = { r.path with inEpoch := 0 } ∧ q.repeats = 0) ∧
      (r.path.sweeps < r.total → t.dram = s.dram ∧ t.dramEra = s.dramEra) ∧
      (r.total ≤ r.path.sweeps → s.dramKeeps t r.part (dDev1 f.bytes) (dAddr1 f.bytes) (64 + m.stride * r.path.track.length) 0 0) ∧
      s.only t (([] : List Place) ++ gld1Places)) ∧
  (∀ (s : State) (id : Nat) (r : Run) (m : Model) (x y : Dy × Nat × Bool) (l : List (Dy × Nat × Bool)),
    s.run id = some r →
    r.path.points = x :: y :: l →
    r.goes = true →
    s.halted 2 = false →
    s.model r.slot = some m →
    s.fab.runs.all (fun q => decide (q = r) || decide (q.id ≠ id)) = true →
    ∃ t, exec (.annealPointEnd id) s = .next t ∧
      (x.2.1 ≤ r.path.pointSweeps → r.path.next = 0 → ∃ q, t.run id = some q ∧ q.path = { r.path with points := y :: l, pointSweeps := 0, table := r.path.base.scaled y.1 y.2.2 m.window }) ∧
      (r.path.pointSweeps < x.2.1 ∨ r.path.next ≠ 0 → t.fab = s.fab) ∧
      s.only t [.part .fab])

/-- FAB_GANG_CFG, SPARE_QUAD_WRITE, ACC_LATCH and ACC_CAPTURE (07 R166, R186, R188), ENTROPY_TEST_FAIL and ENTROPY_TEST_PASS (08 R204): a layout is in force at once or refused as a whole; the spare quad changes only in Expert; in debug mode a latch asks for the selected accumulator, which a boundary captures; a failing health test clears health_ok and leaves its mark until cleared. Model's own readings and choices it may rest on, in notes/assumptions: DEDUCED 62, 67, 68. -/
def Obligations.FabricControlsAreApplied : Prop :=
  (∀ (s : State) (v : Nat),
    s.bar0Open →
    ∃ t, exec (.fabGangCfg v) s = .next t ∧
      (s.layoutFree { s.layout with quad4 := v % 2 ^ 16, region16 := v / 2 ^ 16 % 16 } = true → (∀ R, R < 4 → (v / 2 ^ 16 % 16).testBit R = true → s.regionWhole R = true) →
        t.get Reg.FAB_GANG_CFG.quad4 = v % 2 ^ 16 ∧ t.get Reg.FAB_GANG_CFG.region16 = v / 2 ^ 16 % 16 ∧ t.get Reg.FAB_STATUS.cfg_refused = s.get Reg.FAB_STATUS.cfg_refused) ∧
      (s.layoutFree { s.layout with quad4 := v % 2 ^ 16, region16 := v / 2 ^ 16 % 16 } = false → t.word 0x20010 = s.word 0x20010 ∧ t.get Reg.FAB_STATUS.cfg_refused = 1) ∧
      ((∃ R, R < 4 ∧ (v / 2 ^ 16 % 16).testBit R = true ∧ s.regionWhole R = false) → t.word 0x20010 = s.word 0x20010 ∧ t.get Reg.FAB_STATUS.cfg_refused = 1) ∧
      s.only t (([.fld Reg.FAB_GANG_CFG.quad4, .fld Reg.FAB_GANG_CFG.region16, .fld Reg.FAB_STATUS.cfg_refused] : List Place) ++ cfgPlaces)) ∧
  (∀ (s : State) (v : Nat),
    s.bar0Open →
    ∃ t, exec (.spareQuadWrite v) s = .next t ∧
      (s.expert blk.fab = false → t.get Reg.FAB_PROFILE.spare_quad = s.get Reg.FAB_PROFILE.spare_quad ∧ t.get Reg.FAB_STATUS.cfg_refused = s.get Reg.FAB_STATUS.cfg_refused) ∧
      (s.expert blk.fab = true → (s.get Reg.FAB_PROFILE.profile ≠ 0 ∨ s.spareMay (some (v % 16)) = true) → t.get Reg.FAB_PROFILE.spare_quad = v % 16) ∧
      (s.expert blk.fab = true → s.get Reg.FAB_PROFILE.profile = 0 → s.spareMay (some (v % 16)) = false → t.get Reg.FAB_PROFILE.spare_quad = s.get Reg.FAB_PROFILE.spare_quad ∧ t.get Reg.FAB_STATUS.cfg_refused = 1) ∧
      s.only t (([.fld Reg.FAB_PROFILE.spare_quad, .fld Reg.FAB_STATUS.cfg_refused, .words 0x20008 4, .words 0x20100 0x100] : List Place) ++ cfgPlaces)) ∧
  (∀ (s : State) (k row col : Nat),
    s.bar0Open →
    ∃ t, exec (.accLatch k row col) s = .next t ∧
      t.get Reg.FAB_ACC_SEL.tile = k % 64 ∧ t.get Reg.FAB_ACC_SEL.row = row % 64 ∧ t.get Reg.FAB_ACC_SEL.col = col % 64 ∧
      (s.debugMode = false → t.get Reg.FAB_ACC_SEL.valid = 0 ∧ t.fab = { s.fab with capturing := false }) ∧
      (s.debugMode = true → (s.get (Reg.FAB_TILE_STATUS.mode (k % 64)) = 1 ∨ s.get (Reg.FAB_TILE_STATUS.mode (k % 64)) = 2) →
        t.get Reg.FAB_ACC_SEL.valid = 0 ∧ t.fab = { s.fab with capturing := true }) ∧
      (s.debugMode = true → (s.get (Reg.FAB_TILE_STATUS.mode (k % 64)) = 0 ∨ s.get (Reg.FAB_TILE_STATUS.mode (k % 64)) = 3) →
        t.get Reg.FAB_ACC_SEL.valid = 1 ∧ t.fab.captured = some (Store.read (fun _ => (0 : Int)) s.fab.accs (k % 64 * 4096 + row % 64 * 64 + col % 64))) ∧
      s.only t [.fld Reg.FAB_ACC_SEL.tile, .fld Reg.FAB_ACC_SEL.row, .fld Reg.FAB_ACC_SEL.col, .fld Reg.FAB_ACC_SEL.valid, .fld Reg.FAB_ACC_LO.acc_lo, .fld Reg.FAB_ACC_HI.acc_hi, .fld Reg.FAB_ACC_WRAP.wrap, .part .fab]) ∧
  (∀ (s : State),
    s.fab.capturing = true →
    s.debugMode = true →
    ∃ t, exec (.accCapture) s = .next t ∧
      t.get Reg.FAB_ACC_SEL.valid = 1 ∧
      t.fab = { s.fab with capturing := false, captured := some (Store.read (fun _ => (0 : Int)) s.fab.accs
        (s.get Reg.FAB_ACC_SEL.tile * 4096 + s.get Reg.FAB_ACC_SEL.row * 64 + s.get Reg.FAB_ACC_SEL.col)) } ∧
      (∀ v, t.fab.captured = some v → t.get Reg.FAB_ACC_LO.acc_lo + t.get Reg.FAB_ACC_HI.acc_hi * 2 ^ 32 + t.get Reg.FAB_ACC_WRAP.wrap * 2 ^ 64 = unsigned 68 v) ∧
      s.only t [.fld Reg.FAB_ACC_SEL.valid, .fld Reg.FAB_ACC_LO.acc_lo, .fld Reg.FAB_ACC_HI.acc_hi, .fld Reg.FAB_ACC_WRAP.wrap, .part .fab]) ∧
  (∀ (s : State),
    s.svc.rstLow = false →
    ∃ t, exec (.entropyTestFail) s = .next t ∧
      t.get Reg.SMP_ENTROPY.health_ok = 0 ∧ t.get Reg.SMP_ENTROPY.health_fail = 1 ∧
      s.only t [.fld Reg.SMP_ENTROPY.health_ok, .fld Reg.SMP_ENTROPY.health_fail]) ∧
  (∀ (s : State),
    s.svc.rstLow = false →
    ∃ t, exec (.entropyTestPass) s = .next t ∧
      t.get Reg.SMP_ENTROPY.health_ok = 1 ∧
      s.only t [.fld Reg.SMP_ENTROPY.health_ok])

/-- DACCESS and TRST_N (15 R401 to R405, R416): an access is launched when none runs and its result waits for its completion; a peek of register space returns the value and changes no register, a consuming read acts as a host read, a write counts as a PF write over BAR0; a block stopped in Recess answers sleeping; outside debug mode the core spaces answer error; TRST_N resets the TAPs only. The trace unit (15 R412, R416, R420): the router writes the 8-byte write pointer to wp_addr unless that is 0; a host read of DBG_TRACE_BUF_DATA returns the word at buf_addr and advances it by one word, wrapping at 256 KiB; a clear empties the on-chip buffer and sets wp to 0. Model's own readings and choices it may rest on, in notes/assumptions: DEDUCED 112, 113, 114. -/
def Obligations.DebugPortAndTraceReachTheirTargets : Prop :=
  (∀ (s : State) (psh : Bool) (space addr : Nat),
    space < 4 →
    addr < 0x400000 →
    s.tapLive psh = true →
    (s.tap psh).busy = false →
    s.tapConsumes = false →
    ∃ t, exec (.daccessRead psh space addr) s = .next t ∧
      (t.tap psh).busy = true ∧ (t.tap psh).status = (s.tap psh).status ∧ (t.tap psh).data = (s.tap psh).data ∧ t.tap (!psh) = s.tap (!psh) ∧
      (space = 0 → psh = false → 4 * addr < 0xE0000 → (s.service = svcRecess → 4 * addr < 0x10000 ∨ 0xD0000 ≤ 4 * addr ∨ 4 * addr / 0x10000 = 6) →
        (t.tap psh).nextStatus = 0 ∧ (t.tap psh).nextData = s.regRead (4 * addr)) ∧
      (space = 0 → psh = false → 4 * addr < 0xD0000 → 0x10000 ≤ 4 * addr → 4 * addr / 0x10000 ≠ 6 → s.service = svcRecess → (t.tap psh).nextStatus = 3) ∧
      (space = 0 → psh = false → 0xE0000 ≤ 4 * addr → (t.tap psh).nextStatus = 2) ∧
      (space = 0 → psh = true → isPsh2Word (4 * addr) = true → (t.tap psh).nextStatus = 0 ∧ (t.tap psh).nextData = s.pshWord (4 * addr)) ∧
      (space = 0 → psh = true → isPsh2Word (4 * addr) = false → (t.tap psh).nextStatus = 2) ∧
      (space ≠ 0 → s.debugMode = false → (t.tap psh).nextStatus = 2) ∧
      (space = 1 → s.debugMode = true → psh = false → ∀ c, c < 4 → addr = 64 * c + 2 → s.halted c = true → (t.tap psh).nextData = BitVec.ofNat 32 (s.core c).dpc) ∧
      (space = 3 → (t.tap psh).nextStatus = 2) ∧
      t.dbg.cores = s.dbg.cores ∧ t.dbg.queue = s.dbg.queue ∧ t.dbg.buf = s.dbg.buf ∧ t.dbg.coreMem = s.dbg.coreMem ∧
      s.only t [.part .dbg]) ∧
  (∀ (s : State) (addr : Nat),
    addr < 0x400000 →
    s.tapLive false = true →
    (s.tap false).busy = false →
    s.tapConsumes = true →
    s.tapStatus (4 * addr) = 0 →
    ∃ t, exec (.daccessRead false 0 addr) s = .next t ∧
      (t.tap false).busy = true ∧ (t.tap false).nextStatus = 0 ∧ (t.tap false).nextData = (s.pfRead (4 * addr)).1 ∧
      (∀ off, t.word off = (s.pfRead (4 * addr)).2.word off)) ∧
  (∀ (s : State) (psh : Bool) (space addr : Nat),
    space < 4 →
    addr < 0x400000 →
    (s.tapLive psh = false ∨ (s.tap psh).busy = true) →
    ∃ t, exec (.daccessRead psh space addr) s = .next t ∧
      s.only t []) ∧
  (∀ (s : State) (psh : Bool) (space addr v : Nat),
    space < 4 →
    addr < 0x400000 →
    s.tapLive psh = true →
    (s.tap psh).busy = false →
    ∃ t, exec (.daccessWrite psh space addr v) s = .next t ∧
      (t.tap psh).busy = true ∧ (t.tap psh).data = (s.tap psh).data ∧ (t.tap psh).nextData = (s.tap psh).data ∧
      (space = 0 → psh = false → s.tapStatus (4 * addr) = 0 → (t.tap psh).nextStatus = 0 ∧ ∀ off, t.word off = (s.pfWrite (4 * addr) (BitVec.ofNat 32 v) true).word off) ∧
      (space = 0 → psh = false → s.tapStatus (4 * addr) ≠ 0 → (t.tap psh).nextStatus = s.tapStatus (4 * addr) ∧ s.only t [.part .dbg]) ∧
      (space = 0 → psh = true → isPsh2Word (4 * addr) = true → s.pshUp = true → (t.tap psh).nextStatus = 0 ∧ ∀ off, t.word off = (s.pshWrite .bar0 (4 * addr) (BitVec.ofNat 32 v)).word off) ∧
      (space ≠ 0 → s.debugMode = false → (t.tap psh).nextStatus = 2 ∧ s.only t [.part .dbg])) ∧
  (∀ (s : State) (psh : Bool) (space addr v : Nat),
    space < 4 →
    addr < 0x400000 →
    (s.tapLive psh = false ∨ (s.tap psh).busy = true) →
    ∃ t, exec (.daccessWrite psh space addr v) s = .next t ∧
      s.only t []) ∧
  (∀ (s : State) (psh : Bool),
    (s.tap psh).busy = true →
    ∃ t, exec (.daccessDone psh) s = .next t ∧
      t.tap psh = { s.tap psh with busy := false, status := (s.tap psh).nextStatus, data := (s.tap psh).nextData } ∧
      t.tap (!psh) = s.tap (!psh) ∧
      s.only t [.part .dbg]) ∧
  (∀ (s : State) (low : Bool),
    ∃ t, exec (.trstN low) s = .next t ∧
      t.dbg = { s.dbg with tapPsh := { s.dbg.tapPsh with inReset := low }, tapGld := { s.dbg.tapGld with inReset := low } } ∧
      s.only t [.part .dbg]) ∧
  (∀ (s : State),
    s.traceToHost = true →
    ∃ t, exec (.traceWpWrite) s = .next t ∧
      t.dbg = { s.dbg with sinceWp := 0 } ∧
      (s.get Reg.DBG_TRACE_WP_ADDR.wp_addr_lo + s.get Reg.DBG_TRACE_WP_ADDR.wp_addr_hi * 2 ^ 32 = 0 → t.host = s.host) ∧
      (s.get Reg.DBG_TRACE_WP_ADDR.wp_addr_lo + s.get Reg.DBG_TRACE_WP_ADDR.wp_addr_hi * 2 ^ 32 ≠ 0 → t.host.posted = s.host.posted ++
        [.dma (s.get Reg.DBG_TRACE_CTRL.owner) (s.get Reg.DBG_TRACE_WP_ADDR.wp_addr_lo + s.get Reg.DBG_TRACE_WP_ADDR.wp_addr_hi * 2 ^ 32)
        (leBytes 8 (s.get Reg.DBG_TRACE_RING_WP.ring_wp)) false]) ∧
      s.only t [.part .dbg, .part .host]) ∧
  (∀ (s : State),
    s.bar0Open →
    ∃ t, exec (.traceBufRead) s = .next t ∧
      t.lastRead = BitVec.ofNat 32 (leNat (Store.readList (fun _ => (0 : Byte)) s.dbg.buf (4 * s.get Reg.DBG_TRACE_BUF_ADDR.buf_addr) 4)) ∧
      t.get Reg.DBG_TRACE_BUF_ADDR.buf_addr = (s.get Reg.DBG_TRACE_BUF_ADDR.buf_addr + 1) % 0x10000 ∧
      s.only t [.fld Reg.DBG_TRACE_BUF_ADDR.buf_addr, .part .lastRead, .part .svc]) ∧
  (∀ (s : State),
    s.bar0Open →
    ∃ t, exec (.traceClear) s = .next t ∧
      t.dbg.bufUsed = 0 ∧ t.dbg.queue = s.dbg.queue ∧ t.dbg.buf = s.dbg.buf ∧
      t.get Reg.DBG_TRACE_WP.wp = 0 ∧ t.get Reg.DBG_TRACE_STATUS.wrapped = 0 ∧
      s.only t [.fld Reg.DBG_TRACE_WP.wp, .fld Reg.DBG_TRACE_STATUS.wrapped, .part .dbg, .part .svc])

/-- Debug mode and the cores (15 R405, R406, R417, R418): debug mode is entered and left through the GLD1 TAP, and leaving it resumes the cores and clears the breakpoints; in debug mode a request, an enabled breakpoint or a step halts the core with its cause, or is deferred inside a locked sequence of that core; the sequence's end makes the halt, 4,096 cycles force it, break the lock, count it and raise the debug cause. Model's own readings and choices it may rest on, in notes/assumptions: DEDUCED 8, 112. -/
def Obligations.CoresHaltStepAndResume : Prop :=
  (∀ (s : State),
    s.tapLive false = true →
    ∃ t, exec (.debugModeEnter) s = .next t ∧
      t.get Reg.DBG_CTRL.debug_mode = 1 ∧
      s.only t [.fld Reg.DBG_CTRL.debug_mode]) ∧
  (∀ (s : State),
    s.tapLive false = true →
    s.debugMode = true →
    s.svc.enterHeld = false →
    ∃ t, exec (.debugModeExit) s = .next t ∧
      t.get Reg.DBG_CTRL.debug_mode = 0 ∧
      t.dbg = { s.dbg with cores := s.dbg.cores.map Core.run } ∧
      (∀ c, c < 5 → s.dbg.cores.length = 5 → (t.core c).halted = false ∧ (t.core c).bps = [(false, 0), (false, 0)]) ∧
      s.only t [.fld Reg.DBG_CTRL.debug_mode, .fld Reg.DBG_STATUS.halted, .fld Reg.DBG_STATUS.deferred, .fld Reg.DBG_STATUS.psh2_halted, .fld Reg.DBG_STATUS.psh2_deferred, .words 0x20100 0x100, .part .dbg]) ∧
  (∀ (s : State) (core : Nat),
    core < 5 →
    s.dbg.cores.length = 5 →
    s.mayHalt core = true →
    (s.core core).deferred = false →
    ∃ t, exec (.haltReq core none) s = .next t ∧
      (t.core core).halted = true ∧ (t.core core).haltReq = false ∧ (t.core core).cause = 1 ∧ (t.core core).lock = none ∧ (t.core core).bps = (s.core core).bps ∧
      (∀ c, c < 5 → c ≠ core → t.core c = s.core c) ∧
      (core < 4 → (t.get Reg.DBG_STATUS.halted).testBit core = true) ∧
      (core = 4 → t.get Reg.DBG_STATUS.psh2_halted = 1) ∧
      (core ≠ 2 → ∀ k, k < 64 → t.word (0x20100 + 4 * k) = s.word (0x20100 + 4 * k)) ∧
      s.only t [.fld Reg.DBG_STATUS.halted, .fld Reg.DBG_STATUS.deferred, .fld Reg.DBG_STATUS.psh2_halted, .fld Reg.DBG_STATUS.psh2_deferred, .words 0x20100 0x100, .part .dbg, .part .fresh]) ∧
  (∀ (s : State) (core : Nat) (q : LockSeq),
    core < 5 →
    s.dbg.cores.length = 5 →
    s.mayHalt core = true →
    (s.core core).deferred = false →
    lockFits core q = true →
    ∃ t, exec (.haltReq core (some q)) s = .next t ∧
      t.core core = { s.core core with haltReq := true, deferred := true, lock := some q, why := 1 } ∧
      (∀ c, c < 5 → c ≠ core → t.core c = s.core c) ∧
      s.only t [.fld Reg.DBG_STATUS.halted, .fld Reg.DBG_STATUS.deferred, .fld Reg.DBG_STATUS.psh2_halted, .fld Reg.DBG_STATUS.psh2_deferred, .part .dbg]) ∧
  (∀ (s : State) (core : Nat) (lock : Option LockSeq),
    core < 5 →
    s.mayHalt core = false →
    ∃ t, exec (.haltReq core lock) s = .next t ∧
      s.only t []) ∧
  (∀ (s : State) (core b : Nat),
    core < 5 →
    b < 2 →
    s.dbg.cores.length = 5 →
    s.mayHalt core = true →
    (s.core core).deferred = false →
    ((s.core core).bps.getD b (false, 0)).1 = true →
    ∃ t, exec (.breakpoint core b none) s = .next t ∧
      (t.core core).halted = true ∧ (t.core core).cause = 2 ∧ (t.core core).dpc = 2 * ((s.core core).bps.getD b (false, 0)).2 ∧
      (core ≠ 2 → ∀ k, k < 64 → t.word (0x20100 + 4 * k) = s.word (0x20100 + 4 * k)) ∧
      s.only t [.fld Reg.DBG_STATUS.halted, .fld Reg.DBG_STATUS.deferred, .fld Reg.DBG_STATUS.psh2_halted, .fld Reg.DBG_STATUS.psh2_deferred, .words 0x20100 0x100, .part .dbg, .part .fresh]) ∧
  (∀ (s : State) (core : Nat),
    core < 5 →
    s.dbg.cores.length = 5 →
    s.debugMode = true →
    s.halted core = true →
    ∃ t, exec (.coreResume core) s = .next t ∧
      t.core core = { s.core core with haltReq := false, halted := false, deferred := false, lock := none } ∧
      (∀ c, c < 5 → c ≠ core → t.core c = s.core c) ∧
      (core ≠ 2 → ∀ k, k < 64 → t.word (0x20100 + 4 * k) = s.word (0x20100 + 4 * k)) ∧
      s.only t [.fld Reg.DBG_STATUS.halted, .fld Reg.DBG_STATUS.deferred, .fld Reg.DBG_STATUS.psh2_halted, .fld Reg.DBG_STATUS.psh2_deferred, .words 0x20100 0x100, .part .dbg]) ∧
  (∀ (s : State) (core : Nat),
    core < 5 →
    s.dbg.cores.length = 5 →
    s.debugMode = true →
    s.halted core = true →
    ∃ t, exec (.step core none) s = .next t ∧
      (t.core core).halted = true ∧ (t.core core).cause = 3 ∧ (t.core core).bps = (s.core core).bps ∧
      (core ≠ 2 → ∀ k, k < 64 → t.word (0x20100 + 4 * k) = s.word (0x20100 + 4 * k)) ∧
      s.only t [.fld Reg.DBG_STATUS.halted, .fld Reg.DBG_STATUS.deferred, .fld Reg.DBG_STATUS.psh2_halted, .fld Reg.DBG_STATUS.psh2_deferred, .words 0x20100 0x100, .part .dbg, .part .fresh]) ∧
  (∀ (s : State) (core : Nat),
    core < 5 →
    s.dbg.cores.length = 5 →
    (s.core core).deferred = true →
    ∃ t, exec (.lockEnd core) s = .next t ∧
      (t.core core).halted = true ∧ (t.core core).deferred = false ∧ (t.core core).lock = none ∧ (t.core core).cause = (s.core core).why ∧ (t.core core).lockBroken = (s.core core).lockBroken ∧
      (core ≠ 2 → ∀ k, k < 64 → t.word (0x20100 + 4 * k) = s.word (0x20100 + 4 * k)) ∧
      s.only t [.fld Reg.DBG_STATUS.halted, .fld Reg.DBG_STATUS.deferred, .fld Reg.DBG_STATUS.psh2_halted, .fld Reg.DBG_STATUS.psh2_deferred, .words 0x20100 0x100, .part .dbg, .part .fresh]) ∧
  (∀ (s : State) (core id : Nat) (q : LockSeq),
    core < 5 →
    s.dbg.cores.length = 5 →
    (s.core core).deferred = true →
    (s.core core).lock = some q →
    q ≠ .descriptor →
    s.svc.rstLow = false →
    ∃ t, exec (.haltForced core id) s = .next t ∧
      (t.core core).halted = true ∧ (t.core core).deferred = false ∧ (t.core core).lock = none ∧ (t.core core).cause = 4 ∧ (t.core core).lockBroken = true ∧
      t.get Reg.DBG_STATUS.lock_broken = 1 ∧ t.get Reg.DBG_STATUS.locks_broken = min (s.get Reg.DBG_STATUS.locks_broken + 1) 65535 ∧
      (t.causes 0).testBit cause.debug = true ∧
      (q = .unlockPair → t.host.halves = s.host.halves.filter (fun h => decide (sharedBlk h.block ≠ blk.pwr))) ∧
      (q ≠ .unlockPair → t.host.halves = s.host.halves) ∧
      (core ≠ 2 → ∀ k, k < 64 → t.word (0x20100 + 4 * k) = s.word (0x20100 + 4 * k)) ∧
      s.only t (([.words 0xD000C 4, .words 0x20100 0x100, .part .dbg, .part .fresh] : List Place) ++ irqPlaces)) ∧
  (∀ (s : State) (core id : Nat),
    core < 5 →
    s.dbg.cores.length = 5 →
    (s.core core).deferred = true →
    (s.core core).lock = some .descriptor →
    s.committing core id = true →
    s.svc.rstLow = false →
    ∃ t, exec (.haltForced core id) s = .next t ∧
      t.ends id 0x14 0 0 ∧
      (t.core core).halted = true ∧ (t.core core).cause = 4 ∧ (t.core core).lockBroken = true ∧
      t.get Reg.DBG_STATUS.lock_broken = 1 ∧ (t.causes 0).testBit cause.debug = true ∧
      (core ≠ 2 → ∀ k, k < 64 → t.word (0x20100 + 4 * k) = s.word (0x20100 + 4 * k)) ∧
      s.only t (([.words 0xD000C 4, .words 0x20100 0x100, .fld Reg.HPS_STATUS.queue_depth, .fld Reg.HPS_REFRESH_COUNT.refresh_writes, .fld Reg.GLB_INT_CAUSE.cause, .part .dbg, .part .fresh, .part .akg, .part .pass] : List Place) ++ endPlaces))

/-- Firmware updates (14 R384 to R388, R395): op 0 is refused on a pending activation or a trial, pauses while the flash may not be written, and else writes the chunk into the other slot, which is no longer valid; op 1 reports the first failing check or sets staged_valid; op 2 is refused, or makes the image pending alone, or both jointly; a pending activation of PSH2 alone restarts its core on the other slot with its trial flag set. Model's own readings and choices it may rest on, in notes/assumptions: DEDUCED 60, 104, 107, 108, 124, 125. -/
def Obligations.FirmwareIsStagedAndActivated : Prop :=
  (∀ (s : State) (id : Nat) (f : Flight) (timedOut : Bool),
    s.fwFlight id 0 = some f →
    dDev0 f.bytes = false →
    ∃ t, exec (.fwStageWriteChunk id none timedOut) s = .next t ∧
      ((s.image (fwImageOf f)).pending = true → t.ends id 0x13 0 0 ∧ t.get Reg.SEC_FW_STATUS.last_result = 10) ∧
      ((s.image (fwImageOf f)).pending = false → s.onTrial = true → t.ends id 0x13 0 0 ∧ t.get Reg.SEC_FW_STATUS.last_result = 7) ∧
      ((s.image (fwImageOf f)).pending = false → s.onTrial = false → s.get Reg.RCD_STATUS.window_closed = 1 → timedOut = true →
        t.ends id 0x21 0 0 ∧ (t.image (fwImageOf f)).staged = false) ∧
      ((s.image (fwImageOf f)).pending = false → s.onTrial = false → s.get Reg.RCD_STATUS.window_closed = 1 → timedOut = false → s.only t []) ∧
      ((s.image (fwImageOf f)).pending = false → s.onTrial = false → s.get Reg.RCD_STATUS.window_closed = 0 → s.card.erase = none →
        t.ends id 0x13 0 0 ∧ t.sec = s.sec) ∧
      t.nor = s.nor ∧ t.sec.bootSeq = s.sec.bootSeq ∧
      s.only t (([.words 0xC0010 0x40, .part .sec] : List Place) ++ endPlaces)) ∧
  (∀ (s : State) (id : Nat) (f : Flight) (b : List Byte),
    s.fwFlight id 0 = some f →
    dDev0 f.bytes = false →
    (s.image (fwImageOf f)).pending = false →
    (s.image (fwImageOf f)).slot ≤ 1 →
    s.onTrial = false →
    s.get Reg.RCD_STATUS.window_closed = 0 →
    s.card.erase = none →
    s.card.eraseQueue.all (fun e => decide (0x400000 ≤ e.1)) = true →
    natAt f.bytes 28 4 + natAt f.bytes 32 4 ≤ 0x100000 →
    ∃ t, exec (.fwStageWriteChunk id (some b) false) s = .next t ∧
      t.ends id 0 (natAt f.bytes 32 4) 0 ∧
      t.norRead (slotBase (fwImageOf f) (1 - (s.image (fwImageOf f)).slot) + natAt f.bytes 28 4) (natAt f.bytes 32 4) = bytesAt b 0 (natAt f.bytes 32 4) ∧
      (t.image (fwImageOf f)).staged = false ∧ (t.image (fwImageOf f)).slot = (s.image (fwImageOf f)).slot ∧
      (fwImageOf f = 0 → t.get Reg.SEC_FW_STATUS.gld1_staged_valid = 0 ∧ t.get Reg.SEC_GLD1_STAGED.gld1_staged = 0) ∧
      (fwImageOf f = 1 → t.get Reg.SEC_FW_STATUS.psh2_staged_valid = 0 ∧ t.get Reg.SEC_PSH2_STAGED.psh2_staged = 0) ∧
      s.only t [.words 0xC0010 0x40, .fld Reg.HPS_STATUS.publish_pending, .words 0xD0000 0x10000, .part .sec, .part .card, .part .nor, .part .dbg, .part .host, .fld Reg.RCD_STATUS.reserve_ready]) ∧
  (∀ (s : State) (id : Nat) (f : Flight),
    s.fwFlight id 1 = some f →
    ∃ t, exec (.fwStageVerify id) s = .next t ∧
      (s.checkSlot (fwImageOf f) (1 - (s.image (fwImageOf f)).slot) ≠ 0 → t.ends id 0x13 0 0 ∧
        t.get Reg.SEC_FW_STATUS.last_result = s.checkSlot (fwImageOf f) (1 - (s.image (fwImageOf f)).slot) ∧
        (t.image (fwImageOf f)).staged = (s.image (fwImageOf f)).staged) ∧
      (s.checkSlot (fwImageOf f) (1 - (s.image (fwImageOf f)).slot) = 0 →
        t.ends id 0 (4096 + mfBodySize (s.slotManifest (fwImageOf f) (1 - (s.image (fwImageOf f)).slot))) 0 ∧
        (t.image (fwImageOf f)).staged = true ∧ t.get Reg.SEC_FW_STATUS.last_result = 1) ∧
      (t.image (fwImageOf f)).slot = (s.image (fwImageOf f)).slot ∧ (t.image (fwImageOf f)).pending = (s.image (fwImageOf f)).pending ∧
      s.only t (([.words 0xC0010 0x40, .part .sec, .fld Reg.GLB_INT_CAUSE.cause] : List Place) ++ endPlaces)) ∧
  (∀ (s : State) (id : Nat) (f : Flight),
    s.fwFlight id 2 = some f →
    s.get Reg.RCD_STATUS.window_closed = 0 →
    ∃ t, exec (.fwStageActivate id) s = .next t ∧
      ((s.image (fwImageOf f)).staged = false → t.ends id 0x13 0 0 ∧ t.get Reg.SEC_FW_STATUS.last_result = 6) ∧
      ((s.image (fwImageOf f)).staged = true → s.onTrial = true → t.ends id 0x13 0 0 ∧ t.get Reg.SEC_FW_STATUS.last_result = 7) ∧
      ((s.image (fwImageOf f)).staged = true → s.onTrial = false → (s.image (fwImageOf f)).pending = true → t.ends id 0x13 0 0 ∧ t.get Reg.SEC_FW_STATUS.last_result = 10) ∧
      ((s.image (fwImageOf f)).staged = true → s.onTrial = false → (s.image (fwImageOf f)).pending = false →
        (s.image (1 - fwImageOf f)).pending = false →
        s.judgePair (fwImageOf f) (s.slotManifest (fwImageOf f) (1 - (s.image (fwImageOf f)).slot)) (s.image (1 - fwImageOf f)).manifest = 1 →
        (t.image (fwImageOf f)).pending = true ∧ t.image (1 - fwImageOf f) = s.image (1 - fwImageOf f) ∧ t.sec.joint = s.sec.joint ∧
        t.get Reg.SEC_FW_STATUS.last_result = 1 ∧ t.sec.bootSeq = s.sec.bootSeq + 1) ∧
      ((t.image (fwImageOf f)).pending = (s.image (fwImageOf f)).pending → t.image 0 = s.image 0 ∧ t.image 1 = s.image 1 ∧ t.sec.bootSeq = s.sec.bootSeq) ∧
      s.only t (([.words 0xC0010 0x40, .part .sec] : List Place) ++ endPlaces)) ∧
  (∀ (s : State),
    s.pshUp = true →
    s.sec.psh.pending = true →
    s.sec.joint = false →
    s.sec.restarting = false →
    ∃ t, exec (.liveRestart) s = .next t ∧
      t.svc.pshRun = false ∧ t.sec.restarting = true ∧
      t.sec.psh = { s.sec.psh with slot := 1 - s.sec.psh.slot, trial := true, pending := false, staged := false } ∧
      t.sec.gld = s.sec.gld ∧
      t.get Reg.SEC_FW_STATUS.psh2_trial = 1 ∧ t.get Reg.SEC_FW_STATUS.psh2_pending = 0 ∧
      (s.card.live = t.card.live) ∧
      t.brk = s.brk ∧ t.meter = s.meter ∧
      s.only t [.words 0xC0010 0x40, .words 0xB0000 0x40, .part .sec, .part .svc, .part .gpPsh, .part .card, .part .nor]) ∧
  (∀ (s : State),
    (s.pshUp = false ∨ s.sec.psh.pending = false ∨ s.sec.joint = true ∨ s.sec.restarting = true) →
    ∃ t, exec (.liveRestart) s = .next t ∧
      s.only t [])

/-- Trials (14 R389, R392, R395, R398, R399; 01 Table 01-2, R13): while GLD1 reaches PSH2, which keeps the boot-control record, confirm ends the trial of every image on trial, and with raise_floor and the key raises each floor to the svn of the running image, never down; without the key such a write is discarded; cancel withdraws every pending activation; strict_set needs the key; auto-confirm ends a trial in its profile and raises no floor. With PSH2 out of reach neither is withdrawn or confirmed. Model's own readings and choices it may rest on, in notes/assumptions: DEDUCED 104, 109, 125. -/
def Obligations.TrialsAndFloorsAreSettled : Prop :=
  (∀ (s : State) (raise : Bool) (key : Nat),
    s.bar0Open →
    s.gpGld.lost = false →
    s.pshUp = true →
    (raise = false ∨ key % 2 ^ 16 = 0x5EC1) →
    ∃ t, exec (.confirm raise key) s = .next t ∧
      t.sec.gld.trial = false ∧ t.sec.psh.trial = false ∧ t.sec.jointTrial = false ∧
      t.get Reg.SEC_FW_STATUS.gld1_trial = 0 ∧ t.get Reg.SEC_FW_STATUS.psh2_trial = 0 ∧
      t.sec.gld.slot = s.sec.gld.slot ∧ t.sec.psh.slot = s.sec.psh.slot ∧ t.sec.gld.pending = s.sec.gld.pending ∧ t.sec.psh.pending = s.sec.psh.pending ∧
      (raise = false → t.sec.gld.floor = s.sec.gld.floor ∧ t.sec.psh.floor = s.sec.psh.floor ∧ t.sec.lastResult = s.sec.lastResult) ∧
      (raise = true → mfSvn s.sec.gld.manifest ≤ 64 → t.sec.gld.floor = max s.sec.gld.floor (mfSvn s.sec.gld.manifest)) ∧
      (raise = true → mfSvn s.sec.psh.manifest ≤ 32 → t.sec.psh.floor = max s.sec.psh.floor (mfSvn s.sec.psh.manifest)) ∧
      s.sec.gld.floor ≤ t.sec.gld.floor ∧ s.sec.psh.floor ≤ t.sec.psh.floor ∧
      s.only t [.words 0xC0010 0x40, .part .sec, .part .svc]) ∧
  (∀ (s : State) (raise : Bool) (key : Nat),
    s.bar0Open →
    (raise = true ∧ key % 2 ^ 16 ≠ 0x5EC1) ∨ s.gpGld.lost = true ∨ s.pshUp = false →
    ∃ t, exec (.confirm raise key) s = .next t ∧
      s.only t [.part .svc]) ∧
  (∀ (s : State),
    s.bar0Open →
    (s.gpGld.lost = true ∨ s.pshUp = false) →
    ∃ t, exec (.cancel) s = .next t ∧
      s.only t [.part .svc]) ∧
  (∀ (s : State),
    s.bar0Open →
    s.gpGld.lost = false →
    s.pshUp = true →
    s.sec.coldWaits = false →
    ∃ t, exec (.cancel) s = .next t ∧
      t.sec.gld = { s.sec.gld with pending := false } ∧ t.sec.psh = { s.sec.psh with pending := false } ∧
      (s.sec.gld.pending = true ∨ s.sec.psh.pending = true → t.sec.joint = false ∧ t.sec.bootSeq = s.sec.bootSeq + 1 ∧
        t.get Reg.SEC_FW_STATUS.gld1_pending = 0 ∧ t.get Reg.SEC_FW_STATUS.psh2_pending = 0) ∧
      s.only t [.words 0xC0010 0x40, .part .sec, .part .svc]) ∧
  (∀ (s : State) (key : Nat),
    s.bar0Open →
    ∃ t, exec (.strictSet key) s = .next t ∧
      (key % 2 ^ 16 = 0x5EC1 → t.sec = { s.sec with strict := true } ∧ t.get Reg.SEC_FW_STATUS.strict_pairs = 1) ∧
      (key % 2 ^ 16 ≠ 0x5EC1 → t.sec = s.sec ∧ ∀ off, t.word off = s.word off) ∧
      s.only t [.words 0xC0010 0x40, .part .sec, .part .svc]) ∧
  (∀ (s : State),
    s.get Reg.SEC_PROFILE.profile = 1 →
    s.onTrial = true →
    s.service = svcFull →
    s.gpGld.lost = false →
    s.pshUp = true →
    ∃ t, exec (.autoConfirm) s = .next t ∧
      t.sec.gld = { s.sec.gld with trial := false } ∧ t.sec.psh = { s.sec.psh with trial := false } ∧ t.sec.jointTrial = false ∧
      s.only t [.words 0xC0010 0x40, .part .sec]) ∧
  (∀ (s : State),
    (s.get Reg.SEC_PROFILE.profile ≠ 1 ∨ s.onTrial = false ∨ s.service ≠ svcFull ∨ s.gpGld.lost = true ∨ s.pshUp = false) →
    ∃ t, exec (.autoConfirm) s = .next t ∧
      s.only t [])

/-- Attestation and recovery (14 R373 to R376, R394, R397, R400): the responder answers version, capabilities, algorithms, digests, certificate portions, measurement blocks and an error for any other request; a challenge and signed measurements wait for the vault, which signs in order and counts; MFR_FW_STATUS shows SEC_FW_STATUS, or last_result in ROM recovery, where 64 bytes at a time go into PSH2 slot A and 0x01 boots it when it is valid. Model's own readings and choices it may rest on, in notes/assumptions: PRESUMED 106; DEDUCED 110, 111. -/
def Obligations.AttestationAndRecoveryAnswer : Prop :=
  (∀ (s : State) (c : Instr) (r : SpdmReply),
    s.hostUp = true →
    (s.service = svcHomeroom ∨ s.service = svcFull ∨ s.service = svcRecovery) →
    (c, r) ∈ [(Instr.getVersion, SpdmReply.version), (.getCapabilities, .capabilities), (.negotiateAlgorithms, .algorithms), (.getDigests, .digests (Config.sha384 s.certChain)), (.spdmUnsupportedRequest, .errorUnsupported)] →
    ∃ t, exec (c) s = .next t ∧
      t.sec = { s.sec with reply := some r } ∧
      (c = .spdmUnsupportedRequest → t.get Reg.SEC_SPDM_COUNT.spdm_errors = min (s.get Reg.SEC_SPDM_COUNT.spdm_errors + 1) 65535) ∧
      (c ≠ .spdmUnsupportedRequest → t.get Reg.SEC_SPDM_COUNT.spdm_errors = s.get Reg.SEC_SPDM_COUNT.spdm_errors) ∧
      s.only t [.fld Reg.SEC_SPDM_COUNT.spdm_errors, .part .sec]) ∧
  (∀ (s : State) (offset length : Nat),
    s.hostUp = true →
    (s.service = svcHomeroom ∨ s.service = svcFull ∨ s.service = svcRecovery) →
    offset ≤ 65536 →
    ∃ t, exec (.getCertificate offset length) s = .next t ∧
      t.sec = { s.sec with reply := some (.certificate (s.norRead (0x400000 + offset) (min (min length 4088) (65536 - offset)))
        (65536 - offset - min (min length 4088) (65536 - offset))) } ∧
      s.only t [.part .sec]) ∧
  (∀ (s : State) (data : List Byte),
    s.hostUp = true →
    (s.service = svcHomeroom ∨ s.service = svcFull ∨ s.service = svcRecovery) →
    ∃ t, exec (.challenge data) s = .next t ∧
      t.sec = { s.sec with vault := s.sec.vault ++ [.challenge data] } ∧
      s.only t [.part .sec]) ∧
  (∀ (s : State) (signed : Bool) (index : Nat) (data : List Byte),
    s.hostUp = true →
    (s.service = svcHomeroom ∨ s.service = svcFull ∨ s.service = svcRecovery) →
    ∃ t, exec (.getMeasurements signed index data) s = .next t ∧
      (signed = false → t.sec = { s.sec with reply := some (.measurements (s.measurementsFor index) none) }) ∧
      (signed = true → t.sec = { s.sec with vault := s.sec.vault ++ [.measurements (s.measurementsFor index) data] }) ∧
      s.only t [.part .sec]) ∧
  (∀ (s : State) (j : VaultJob) (rest : List VaultJob),
    s.sec.vault = j :: rest →
    s.svc.rstLow = false →
    ∃ t, exec (.vaultSignature) s = .next t ∧
      t.sec.vault = rest ∧ t.fresh = s.fresh + 1 ∧
      (∀ d, j = .challenge d → t.sec.reply = some (.challengeAuth (Config.vaultSign s.fresh d)) ∧
        t.get Reg.SEC_SPDM_COUNT.challenges = min (s.get Reg.SEC_SPDM_COUNT.challenges + 1) 65535 ∧ s.only t [.fld Reg.SEC_SPDM_COUNT.challenges, .part .sec, .part .fresh]) ∧
      (∀ b d, j = .measurements b d → t.sec.reply = some (.measurements b (some (Config.vaultSign s.fresh (d ++ b.flatMap (fun x => x.2))))) ∧
        t.get Reg.SEC_SPDM_COUNT.challenges = min (s.get Reg.SEC_SPDM_COUNT.challenges + 1) 65535 ∧ s.only t [.fld Reg.SEC_SPDM_COUNT.challenges, .part .sec, .part .fresh])) ∧
  (∀ (s : State),
    s.romUp = true →
    (s.svc.romRecovery = true ∨ s.pshUp = true) →
    ∃ t, exec (.mfrFwStatus) s = .next t ∧
      t.pmb = { s.pmb with acked := true, reply := leBytes 2 (if s.svc.romRecovery then s.sec.lastResult % 16 else (s.word 0xC0010).toNat) } ∧
      s.only t [.part .pmb]) ∧
  (∀ (s : State) (data : List Byte),
    s.svc.pshPower = true →
    s.svc.romRecovery = true →
    data.length = 68 →
    natAt data 0 4 % 64 = 0 →
    natAt data 0 4 < 0x100000 →
    s.card.erase = none →
    s.card.eraseQueue.all (fun e => decide (0x400000 ≤ e.1)) = true →
    ∃ t, exec (.mfrFwRecovery .whole data) s = .next t ∧
      t.norRead (natAt data 0 4) 64 = data.drop 4 ∧
      (natAt data 0 4 % 4096 = 0 → ∀ i, 64 ≤ i → i < 4096 → Store.read norBlank t.nor (natAt data 0 4 + i) = 0xFF) ∧
      t.pmb = { s.pmb with acked := true } ∧
      s.only t [.fld Reg.RCD_STATUS.reserve_ready, .part .pmb, .part .card, .part .nor]) ∧
  (∀ (s : State) (data : List Byte),
    s.svc.pshPower = true →
    s.svc.romRecovery = true →
    (data.length ≠ 68 ∨ natAt data 0 4 % 64 ≠ 0 ∨ 0x100000 ≤ natAt data 0 4) →
    ∃ t, exec (.mfrFwRecovery .whole data) s = .next t ∧
      t.pmb.acked = false ∧ t.pmb.cml6 = true ∧
      s.only t [.part .pmb]) ∧
  (∀ (s : State),
    s.svc.pshPower = true →
    s.svc.romRecovery = true →
    ∃ t, exec (.mfrFwRecoveryCtrl .whole 1) s = .next t ∧
      (s.checkSlot 1 0 = 0 → t.svc.romRecovery = false ∧ t.sec.psh.slot = 0 ∧ t.get Reg.SEC_FW_STATUS.psh2_slot = 0) ∧
      (s.checkSlot 1 0 ≠ 0 → t.svc = s.svc ∧ t.sec.lastResult = s.checkSlot 1 0 ∧ t.sec.psh = s.sec.psh) ∧
      t.pmb = { s.pmb with acked := true } ∧
      s.only t [.words 0xC0010 0x40, .part .pmb, .part .sec, .part .svc])

/-- Akgal ports (11 R277, R278, R279, R282, R285): while the links run, the training phases follow each other or end in No peer, at the width the lanes that equalised allow; a fast retrain that fails goes on with full training; the peer's record brings the port Up, and what the peer has not received is sent again, or it reads miswired; retrain, disable, enable and a link loss move the port, count and report as the rules say. Model's own readings and choices it may rest on, in notes/assumptions: DEDUCED 8, 95, 97, 98. -/
def Obligations.AkgalPortsTrain : Prop :=
  trainedWidth 15 = 4 ∧ trainedWidth 3 = 2 ∧ trainedWidth 12 = 2 ∧ trainedWidth 1 = 1 ∧ trainedWidth 0 = 0 ∧
  (∀ (s : State) (p : Nat) (ok : Bool) (lanes : Nat),
    p < 4 →
    lanes < 16 →
    s.linksRun = false →
    ∃ t, exec (.trainingPhaseEnd p ok lanes) s = .next t ∧
      s.only t []) ∧
  (∀ (s : State) (p : Nat) (ok : Bool) (lanes : Nat),
    p < 4 →
    lanes < 16 →
    s.linksRun = true →
    ∃ t, exec (.trainingPhaseEnd p ok lanes) s = .next t ∧
      (s.akState p = 1 → t.akState p = (if ok then 2 else 7)) ∧
      (s.akState p = 2 → t.akState p = (if ok = true ∧ trainedWidth lanes ≠ 0 then 3 else 7)) ∧
      t.get (Reg.AKG_PORT_STATUS.width p) = (if s.akState p = 2 ∧ ok = true ∧ trainedWidth lanes ≠ 0 then trainedWidth lanes else s.get (Reg.AKG_PORT_STATUS.width p)) ∧
      (s.akState p = 3 → t.akState p = (if ok then 4 else 7)) ∧
      (s.akState p = 4 → t.akState p = (if ok = true ∨ s.get (Reg.AKG_PORT_STATUS.miswired p) = 1 then 4 else 7)) ∧
      (s.akState p = 6 → t.akState p = (if ok then 6 else 1)) ∧
      (s.akState p = 0 ∨ s.akState p = 5 ∨ s.akState p = 7 → s.only t []) ∧
      (ok = true → s.akState p = 3 ∨ s.akState p = 6 → s.akg.ports.length = 4 →
        t.port p = { s.port p with out := (s.port p).out ++ [.ident (s.identity p) (((s.port p).expect + 4095) % 4096)] }) ∧
      (s.akState p ≠ 3 → s.akState p ≠ 6 → t.akg = s.akg) ∧
      s.only t [.fld (Reg.AKG_PORT_STATUS.state p), .fld (Reg.AKG_PORT_STATUS.width p), .part .akg]) ∧
  (∀ (s : State) (p : Nat) (r : IdRecord) (last : Nat),
    p < 4 →
    s.linksRun = true →
    s.akg.ports.length = 4 →
    (s.akState p = 4 ∨ s.akState p = 6) →
    s.peerFits p r = true →
    (p ≠ 0 ∨ s.role = 0) →
    ∃ t, exec (.ident p r last) s = .next t ∧
      t.akState p = 5 ∧ t.get (Reg.AKG_PORT_STATUS.miswired p) = 0 ∧
      t.get (Reg.AKG_PORT_STATUS.peer_index p) = r.index % 16 ∧ t.get (Reg.AKG_PORT_STATUS.peer_slot_id p) = r.slotId % 32 ∧ t.get (Reg.AKG_PORT_STATUS.peer_port p) = r.port % 4 ∧
      (t.port p).peer = some r ∧ (t.port p).nakOut = false ∧ (t.port p).expect = (s.port p).expect ∧
      ((s.port p).waiting = [] → (t.port p).unacked = ((s.port p).acked (last % 4096)).unacked ∧
        (t.port p).out = (s.port p).out ++ ((s.port p).acked (last % 4096)).unacked.map (fun u => AkOut.data u.1 (((s.port p).expect + 4095) % 4096) u.2.2)) ∧
      (s.akState p = 6 → (t.causes 0).testBit cause.akgal = true) ∧
      (∀ q, q < 4 → q ≠ p → t.port q = s.port q) ∧
      s.only t (([.words 0x70100 0x80, .fld Reg.AKG_PAIR_STATUS.peer_slot_id, .words 0x20008 4, .words 0x20028 4, .words 0x20100 0x100, .words 0x21000 0x200, .part .akg, .part .fresh] : List Place) ++ irqPlaces)) ∧
  (∀ (s : State) (p : Nat) (r : IdRecord) (last : Nat),
    p < 4 →
    s.linksRun = true →
    (s.akState p = 4 ∨ s.akState p = 6) →
    s.peerFits p r = false →
    ∃ t, exec (.ident p r last) s = .next t ∧
      t.akState p = 4 ∧ t.get (Reg.AKG_PORT_STATUS.miswired p) = 1 ∧
      s.only t [.fld (Reg.AKG_PORT_STATUS.state p), .fld (Reg.AKG_PORT_STATUS.miswired p)]) ∧
  (∀ (s : State) (p : Nat),
    p < 4 →
    s.akState p = 7 →
    s.get (Reg.AKG_PORT_CTRL.enable p) = 1 →
    ∃ t, exec (.noPeerRetry p) s = .next t ∧
      t.akState p = 1 ∧ t.get (Reg.AKG_PORT_STATUS.miswired p) = 0 ∧
      s.only t [.fld (Reg.AKG_PORT_STATUS.state p), .fld (Reg.AKG_PORT_STATUS.miswired p)]) ∧
  (∀ (s : State) (p : Nat),
    p < 4 →
    s.bar0Open →
    s.get (Reg.AKG_PORT_CTRL.enable p) = 1 →
    (p ≠ 0 ∨ s.role = 0) →
    ∃ t, exec (.portRetrain p) s = .next t ∧
      t.akState p = 1 ∧
      (s.akState p ≠ 5 → t.get (Reg.AKG_PORT_STATUS.miswired p) = 0 ∧ t.akg = s.akg) ∧
      (s.akState p = 5 → s.svc.rstLow = false → t.get (Reg.AKG_PORT_RETRAIN.retrains p) = min (s.get (Reg.AKG_PORT_RETRAIN.retrains p) + 1) 65535 ∧
        (t.causes 0).testBit cause.akgal = true) ∧
      (t.port p).unacked = (s.port p).unacked ∧ (t.port p).expect = (s.port p).expect ∧ (t.port p).next = (s.port p).next ∧
      s.only t (([.fld (Reg.AKG_PORT_STATUS.state p), .fld (Reg.AKG_PORT_STATUS.miswired p), .fld (Reg.AKG_PORT_RETRAIN.retrains p), .part .akg, .part .svc] : List Place) ++ irqPlaces)) ∧
  (∀ (s : State) (p : Nat),
    p < 4 →
    s.bar0Open →
    s.akg.ports.length = 4 →
    s.get (Reg.AKG_PORT_CTRL.enable p) = 1 →
    s.akg.shares = [] →
    (p ≠ 0 ∨ s.role = 0) →
    ∃ t, exec (.portDisable p) s = .next t ∧
      t.akState p = 0 ∧ t.get (Reg.AKG_PORT_CTRL.enable p) = 0 ∧ t.get (Reg.AKG_PORT_STATUS.miswired p) = 0 ∧ t.get (Reg.AKG_PORT_RETRAIN.replay_fill p) = 0 ∧
      t.port p = { s.port p with unacked := [], waiting := [], nakOut := false, timeouts := 0 } ∧
      s.only t (([.words 0x70100 0x80, .part .akg, .part .svc] : List Place) ++ irqPlaces)) ∧
  (∀ (s : State) (p : Nat),
    p < 4 →
    s.bar0Open →
    s.get (Reg.AKG_PORT_CTRL.enable p) = 0 →
    s.akState p = 0 →
    ∃ t, exec (.portEnable p) s = .next t ∧
      t.akState p = 1 ∧ t.get (Reg.AKG_PORT_CTRL.enable p) = 1 ∧
      s.only t [.fld (Reg.AKG_PORT_STATUS.state p), .fld (Reg.AKG_PORT_STATUS.miswired p), .fld (Reg.AKG_PORT_CTRL.enable p), .part .svc]) ∧
  (∀ (s : State) (p : Nat),
    p < 4 →
    s.svc.rstLow = false →
    s.akState p = 5 →
    s.akg.ports.length = 4 →
    ∃ t, exec (.akgalLinkDown p) s = .next t ∧
      t.akState p = 6 ∧ t.get (Reg.AKG_PORT_RETRAIN.retrains p) = min (s.get (Reg.AKG_PORT_RETRAIN.retrains p) + 1) 65535 ∧
      (t.causes 0).testBit cause.akgal = true ∧
      t.port p = { s.port p with timeouts := 0, nakOut := false } ∧
      (p = 0 → s.role ≠ 0 → t.get Reg.AKG_PAIR_STATUS.in_step = 0 ∧ t.get Reg.AKG_PAIR_STATUS.peer_lost = 1 ∧ t.akg.downAt = s.now ∧ t.akg.waits = [] ∧ t.akg.claimBy = none ∧
        t.fab = { s.fab with runs := s.fab.runs.map (fun r => if s.akg.swapReady.contains r.id then r else { r with held := false }) }) ∧
      (∀ c f, p = 0 → s.role ≠ 0 → s.akg.waits = [] → s.akg.claimBy = some c → s.flight c = some f → f.stage ≠ .ended → t.ends c 0 s.role 0) ∧
      (p ≠ 0 ∨ s.role = 0 → t.word 0x70010 = s.word 0x70010 ∧ t.fab = s.fab) ∧
      s.only t (([.fld (Reg.AKG_PORT_STATUS.state p), .fld (Reg.AKG_PORT_RETRAIN.retrains p), .fld Reg.AKG_PAIR_STATUS.in_step, .fld Reg.AKG_PAIR_STATUS.peer_lost, .fld Reg.HPS_STATUS.publish_pending, .part .akg, .part .fab] : List Place) ++ irqPlaces))

/-- Akgal frames (11 R281, R282, R285, R286, R304): a DATA frame with a bad CRC or another number than the expected one is counted and answered by one NAK; the expected one is acknowledged and delivered, exactly once, to the pair on its port 0, or to the system's member it names, toward whom it goes on or waits where that link is not up; ACK frees the replay buffer up to the number, NAK and the timer replay every unacknowledged frame in order, the fourth timeout takes the link down; AKG_SYS_CFG is taken in full service with nothing shared; a shared load that waits too long ends BAD_DESC. Model's own readings and choices it may rest on, in notes/assumptions: DEDUCED 95, 97, 99, 105; DESIGN CHOICE 96. -/
def Obligations.AkgalFramesArriveInOrder : Prop :=
  (∀ (s : State) (p seq ack : Nat) (crcOk : Bool) (f : AkFrame),
    p < 4 →
    s.akg.ports.length = 4 →
    s.akState p = 5 →
    (crcOk = false ∨ seq % 4096 ≠ (s.port p).expect) →
    ∃ t, exec (.data p seq ack crcOk f) s = .next t ∧
      t.get (Reg.AKG_PORT_REPLAY.crc_errors p) = min (s.get (Reg.AKG_PORT_REPLAY.crc_errors p) + 1) 65535 ∧
      t.port p = (if (s.port p).nakOut then s.port p else { s.port p with nakOut := true, out := (s.port p).out ++ [.nak (((s.port p).expect + 4095) % 4096)] }) ∧
      (∀ q, q < 4 → q ≠ p → t.port q = s.port q) ∧
      s.only t [.fld (Reg.AKG_PORT_REPLAY.crc_errors p), .part .akg]) ∧
  (∀ (s : State) (p seq ack slot key : Nat) (v : Int) (f : AkFrame),
    p < 4 →
    s.akg.ports.length = 4 →
    s.akState p = 5 →
    seq % 4096 = (s.port p).expect →
    (p ≠ 0 ∨ s.akg.waits = []) →
    (s.port p).waiting = [] →
    (p ≠ 0 ∨ s.pairProfile = false) →
    f.dst = s.myIndex ∧ f.msg = .partialSum slot key v →
    ∃ t, exec (.data p seq ack true f) s = .next t ∧
      (t.port p).expect = ((s.port p).expect + 1) % 4096 ∧ (t.port p).nakOut = false ∧
      (t.port p).out = (s.port p).out ++ [.ack (s.port p).expect] ∧
      (t.port p).unacked = ((s.port p).acked (ack % 4096)).unacked ∧
      t.share slot = (s.share slot).addSum key v ∧
      s.only t [.fld (Reg.AKG_PORT_RETRAIN.replay_fill p), .part .akg]) ∧
  (∀ (s : State) (p seq ack : Nat) (f : AkFrame),
    p < 4 →
    s.akg.ports.length = 4 →
    s.akState p = 5 →
    seq % 4096 = (s.port p).expect →
    (p ≠ 0 ∨ (s.akg.waits = [] ∧ s.pairProfile = false)) →
    (s.port p).waiting = [] →
    f.dst ≠ s.myIndex →
    s.akState (s.routePort f.dst (seq % 4096)) ≠ 5 →
    ∃ t, exec (.data p seq ack true f) s = .next t ∧
      t.port (s.routePort f.dst (seq % 4096)) = { s.port (s.routePort f.dst (seq % 4096)) with
        waiting := (s.port (s.routePort f.dst (seq % 4096))).waiting ++ [f] } ∧
      (t.port p).expect = ((s.port p).expect + 1) % 4096 ∧ (t.port p).out = (s.port p).out ++ [.ack (s.port p).expect] ∧
      t.akg.shares = s.akg.shares ∧ t.akg.inbox = s.akg.inbox ∧
      s.only t [.fld (Reg.AKG_PORT_RETRAIN.replay_fill p), .part .akg]) ∧
  (∀ (s : State) (seq ack : Nat) (f : AkFrame),
    s.akg.ports.length = 4 →
    s.akState 0 = 5 →
    s.pairProfile = true →
    seq % 4096 = (s.port 0).expect →
    s.akg.waits = [] →
    (s.port 0).waiting = [] →
    waitsStep f.msg = true →
    s.akg.inbox.all waitsStep = true →
    ∃ t, exec (.data 0 seq ack true f) s = .next t ∧
      (t.port 0).expect = ((s.port 0).expect + 1) % 4096 ∧
      t.akg.inbox = s.akg.inbox ++ [f.msg] ∧
      s.only t [.fld (Reg.AKG_PORT_RETRAIN.replay_fill 0), .part .akg]) ∧
  (∀ (s : State) (p ack : Nat),
    p < 4 →
    s.akg.ports.length = 4 →
    s.akState p = 5 →
    (p ≠ 0 ∨ s.akg.waits = []) →
    (s.port p).waiting = [] →
    ∃ t, exec (.ack p ack) s = .next t ∧
      t.port p = (s.port p).acked (ack % 4096) ∧
      (∀ q, q < 4 → q ≠ p → t.port q = s.port q) ∧
      s.only t [.fld (Reg.AKG_PORT_RETRAIN.replay_fill p), .part .akg]) ∧
  (∀ (s : State) (p ack : Nat),
    p < 4 →
    s.akg.ports.length = 4 →
    s.akState p = 5 →
    (p ≠ 0 ∨ s.akg.waits = []) →
    (s.port p).waiting = [] →
    ∃ t, exec (.nak p ack) s = .next t ∧
      (t.port p).unacked = ((s.port p).acked (ack % 4096)).unacked ∧
      (t.port p).out = (s.port p).out ++ ((s.port p).acked (ack % 4096)).unacked.map (fun u => AkOut.data u.1 (((s.port p).expect + 4095) % 4096) u.2.2) ∧
      t.get (Reg.AKG_PORT_REPLAY.replays p) = min (s.get (Reg.AKG_PORT_REPLAY.replays p) + 1) 65535 ∧
      s.only t [.fld (Reg.AKG_PORT_REPLAY.replays p), .fld (Reg.AKG_PORT_RETRAIN.replay_fill p), .part .akg]) ∧
  (∀ (s : State) (p : Nat),
    p < 4 →
    s.akg.ports.length = 4 →
    s.akState p = 5 →
    (s.port p).unacked ≠ [] →
    s.svc.rstLow = false →
    ∃ t, exec (.replayTimeout p) s = .next t ∧
      ((s.port p).timeouts < 3 → (t.port p).timeouts = (s.port p).timeouts + 1 ∧ t.akState p = 5 ∧
        (t.port p).out = (s.port p).out ++ (s.port p).unacked.map (fun u => AkOut.data u.1 (((s.port p).expect + 4095) % 4096) u.2.2) ∧
        t.get (Reg.AKG_PORT_REPLAY.replays p) = min (s.get (Reg.AKG_PORT_REPLAY.replays p) + 1) 65535) ∧
      (3 ≤ (s.port p).timeouts → t.akState p = 6 ∧ (t.port p).timeouts = 0 ∧ (t.causes 0).testBit cause.akgal = true ∧
        t.get (Reg.AKG_PORT_RETRAIN.retrains p) = min (s.get (Reg.AKG_PORT_RETRAIN.retrains p) + 1) 65535) ∧
      (t.port p).unacked = (s.port p).unacked ∧
      s.only t (([.fld (Reg.AKG_PORT_STATUS.state p), .fld (Reg.AKG_PORT_REPLAY.replays p), .fld (Reg.AKG_PORT_RETRAIN.retrains p), .fld Reg.AKG_PAIR_STATUS.in_step, .fld Reg.AKG_PAIR_STATUS.peer_lost, .fld Reg.GLB_INT_CAUSE.cause, .part .akg, .part .fab] : List Place) ++ endPlaces)) ∧
  (∀ (s : State) (v : Nat),
    s.bar0Open →
    (s.service ≠ svcFull ∨ s.fab.models.any (fun m => s.sharedSlot m.1) = true) →
    ∃ t, exec (.sysCfgWrite v) s = .next t ∧
      s.only t [.part .svc]) ∧
  (∀ (s : State) (v : Nat),
    s.bar0Open →
    s.service = svcFull →
    s.fab.models = [] →
    s.akg.shares = [] →
    s.role = 0 →
    ∃ t, exec (.sysCfgWrite v) s = .next t ∧
      t.get Reg.AKG_SYS_CFG.system_id = v % 2 ^ 16 ∧ t.get Reg.AKG_SYS_CFG.index = v / 2 ^ 16 % 16 ∧
      t.get Reg.AKG_SYS_CFG.size_m1 = v / 2 ^ 20 % 16 ∧ t.get Reg.AKG_SYS_CFG.topology = (if v / 2 ^ 24 % 4 = 3 then s.get Reg.AKG_SYS_CFG.topology else v / 2 ^ 24 % 4) ∧
      (∀ p, 1 ≤ p → p < 4 → s.akg.ports.length = 4 → (t.port p).unacked = [] ∧ (t.port p).waiting = [] ∧ (s.get (Reg.AKG_PORT_CTRL.enable p) = 1 → t.akState p = 1)) ∧
      s.only t (([.words 0x70008 4, .words 0x70100 0x80, .part .akg, .part .svc] : List Place) ++ irqPlaces)) ∧
  (∀ (s : State) (slot id a b : Nat) (f : Flight),
    slot < 256 →
    s.sharedSlot slot = true →
    (s.share slot).load = some (id, a, b) →
    (s.share slot).loaded.any (fun l => decide (l.1 = s.myIndex)) = true →
    s.flight id = some f →
    f.stage ≠ .ended →
    ∃ t, exec (.shareTimeout slot) s = .next t ∧
      t.ends id 0x20 0 0 ∧
      t.model slot = none ∧ t.get (Reg.FAB_MODEL_STATUS.loaded slot) = 0 ∧
      (t.share slot).load = none ∧ (t.share slot).loaded = (s.share slot).loaded.filter (fun l => decide (l.1 ≠ s.myIndex)) ∧
      t.akg.spread = s.akg.spread + (s.others slot).length ∧
      s.only t (([.words 0x20000 0x1000, .words 0x22000 0x1000, .words 0x30000 0x1000, .words 0x70100 0x80, .part .fab, .part .akg, .part .fresh] : List Place) ++ endPlaces))

/-- Forming and leaving a pair (11 R293, R294, Table 11-7; 14 R390): STATUS reports the role; a pairing request is refused on a paired member, outside full service and without a neighbour Up on a pair profile, and else tells the peer the role asked for; it fails when the peer does not answer; the certificate chain, nonces and signatures are taken in order or end it; when the full copy is held both members stand in step; UNPAIR makes the role none. Model's own readings and choices it may rest on, in notes/assumptions: DEDUCED 60, 99, 100, 101, 102; PRESUMED 106. -/
def Obligations.PairsFormAndPart : Prop :=
  (∀ (s : State) (id : Nat) (f : Flight),
    s.mirrorCtrl id 0 = some f →
    ∃ t, exec (.status id) s = .next t ∧
      t.ends id 0 s.role 0 ∧
      s.only t (([] : List Place) ++ endPlaces)) ∧
  (∀ (s : State) (id : Nat) (f : Flight) (role : Nat) (c : Instr),
    (c, role) ∈ [(Instr.pairPrefect id, 1), (.pairDeputy id, 2)] →
    s.mirrorCtrl id role = some f →
    s.akg.ports.length = 4 →
    ∃ t, exec (c) s = .next t ∧
      (s.role ≠ 0 ∨ s.akg.pairing.isSome = true → t.ends id 0x13 s.role 0 ∧ t.akg = s.akg) ∧
      (s.role = 0 → s.akg.pairing = none → s.service ≠ svcFull → t.ends id 0x13 0 0 ∧ t.get Reg.AKG_PAIR_STATUS.last_result = 2 ∧ t.akg = s.akg) ∧
      (s.role = 0 → s.akg.pairing = none → s.service = svcFull →
        s.pairProfile = false ∨ s.akState 0 ≠ 5 ∨ s.peerRecord.slotId ≠ s.get Reg.GLB_SLOT.slot_id ^^^ 1 →
        t.ends id 0x13 0 0 ∧ t.get Reg.AKG_PAIR_STATUS.last_result = 3 ∧ t.akg = s.akg) ∧
      (s.role = 0 → s.akg.pairing = none → s.service = svcFull → s.pairProfile = true → s.akState 0 = 5 →
        s.peerRecord.slotId = s.get Reg.GLB_SLOT.slot_id ^^^ 1 → s.akg.inbox = [] →
        t.akg.pairing = some ⟨id, role, s.now + (if natAt f.bytes 28 4 = 0 then 1000 else natAt f.bytes 28 4) * 1000000, none, [], none, none, false, false, false⟩ ∧
        t.role = 0) ∧
      s.only t (([.fld Reg.AKG_PAIR_STATUS.last_result, .fld (Reg.AKG_PORT_RETRAIN.replay_fill 0), .part .akg, .part .fresh] : List Place) ++ endPlaces)) ∧
  (∀ (s : State) (id : Nat) (f : Flight),
    s.mirrorCtrl id 3 = some f →
    ∃ t, exec (.unpair id) s = .next t ∧
      t.role = 0 ∧
      (s.role = 0 → t.ends id 0 0 0 ∧ t.akg = s.akg) ∧
      (s.role ≠ 0 → s.akg.swap = none → s.akg.waits = [] → s.akg.claimBy = none → t.ends id 0 0 0) ∧
      (s.role ≠ 0 → t.get Reg.AKG_PAIR_STATUS.in_step = 0 ∧ t.get Reg.AKG_PAIR_STATUS.authenticated = 0 ∧ t.akg.follows = false) ∧
      (2 ≤ s.role → s.fab.runs = [] → t.cap.recs = [] ∧ t.akg.mirror = Mirror.reset) ∧
      s.only t (([.words 0x70000 0x200, .words 0x20000 0x10000, .words 0x30000 0x1000, .words 0x50200 0x100, .fld Reg.GLB_INT_CAUSE.cause, .part .akg, .part .fab, .part .cap, .part .pass, .part .svc, .part .gpGld, .part .fresh] : List Place) ++ endPlaces)) ∧
  (∀ (s : State) (p : Pairing) (f : Flight),
    s.halted 3 = false →
    s.akg.inbox = [] →
    s.akg.pairing = some p →
    p.copying = false →
    s.flight p.flight = some f →
    f.stage ≠ .ended →
    ∃ t, exec (.pairingTimeout) s = .next t ∧
      t.akg.pairing = none ∧ t.get Reg.AKG_PAIR_STATUS.last_result = (if p.peerWant = none then 4 else 5) ∧
      t.ends p.flight 0x13 0 0 ∧
      s.only t (([.fld Reg.AKG_PAIR_STATUS.last_result, .fld (Reg.AKG_PORT_RETRAIN.replay_fill 0), .part .akg, .part .fresh] : List Place) ++ endPlaces)) ∧
  (∀ (s : State) (p : Pairing) (c : List Byte) (f : Flight),
    s.halted 3 = false →
    s.akg.inbox = [.chain c] →
    s.akg.pairing = some p →
    s.akg.ports.length = 4 →
    s.flight p.flight = some f →
    f.stage ≠ .ended →
    ∃ t, exec (.pairAuthFrame) s = .next t ∧
      (p.peerChain.isSome = true ∨ Config.chainGood c s.peerRecord.serial = false → t.akg.pairing = none ∧ t.get Reg.AKG_PAIR_STATUS.last_result = 5 ∧ t.ends p.flight 0x13 0 0) ∧
      (p.peerChain = none → Config.chainGood c s.peerRecord.serial = true → ∃ n, n.length = 48 ∧ t.akg.pairing = some { p with peerChain := some c, nonce := n }) ∧
      t.akg.inbox = [] ∧
      s.only t (([.fld Reg.AKG_PAIR_STATUS.last_result, .fld (Reg.AKG_PORT_RETRAIN.replay_fill 0), .part .akg, .part .fresh] : List Place) ++ endPlaces)) ∧
  (∀ (s : State) (p : Pairing) (f : Flight),
    s.halted 3 = false →
    s.akg.inbox = [.copyDone] →
    s.akg.pairing = some p →
    s.isDeputy = true →
    s.akg.waits = [] →
    s.flight p.flight = some f →
    f.stage ≠ .ended →
    ∃ t, exec (.pairCopyDone) s = .next t ∧
      t.role = 2 ∧ t.get Reg.AKG_PAIR_STATUS.in_step = 1 ∧ t.get Reg.AKG_PAIR_STATUS.last_result = 1 ∧
      t.akg.pairing = none ∧ t.akg.copying = false ∧ t.akg.inbox = [] ∧
      t.ends p.flight 0 2 0 ∧
      s.only t (([.fld Reg.AKG_PAIR_STATUS.role, .fld Reg.AKG_PAIR_STATUS.role_changed, .fld Reg.AKG_PAIR_STATUS.in_step, .fld Reg.AKG_PAIR_STATUS.last_result, .fld (Reg.AKG_PORT_RETRAIN.replay_fill 0), .fld Reg.GLB_INT_CAUSE.cause, .part .akg, .part .fresh] : List Place) ++ endPlaces)) ∧
  (∀ (s : State) (p : Pairing) (f : Flight),
    s.halted 3 = false →
    s.akg.inbox = [.copyAck] →
    s.akg.pairing = some p →
    s.isPrefect = true →
    s.akg.copying = true →
    s.flight p.flight = some f →
    f.stage ≠ .ended →
    ∃ t, exec (.pairCopyDone) s = .next t ∧
      t.role = 1 ∧ t.get Reg.AKG_PAIR_STATUS.in_step = 1 ∧ t.get Reg.AKG_PAIR_STATUS.last_result = 1 ∧
      t.akg.pairing = none ∧ t.akg.copying = false ∧ t.akg.inbox = [] ∧
      t.ends p.flight 0 1 0 ∧
      s.only t (([.fld Reg.AKG_PAIR_STATUS.in_step, .fld Reg.AKG_PAIR_STATUS.last_result, .part .akg] : List Place) ++ endPlaces))

/-- Roles of a pair (11 R291, R292, R295 to R298, R301 to R303): SWAP is taken only in step with port 0 Up, one at a time, joins a swap the peer asked for within 2 us and waits behind an older one; a peer's request merges with this member's own or is held behind a running one; CLAIM makes a Deputy Prefect at once, waiting for resume, completes at once while port 0 is down and else as the peer answers, and changes nothing on a Prefect; a Prefect that a claim reaches stands down; where two Prefects meet the even slot stays; the auto-claim profile claims when port 0 stays down; resume loads every CQ tail but the pair's; a snapshot held whole is applied and acknowledged, and its acknowledgement lets the gang go on. Model's own readings and choices it may rest on, in notes/assumptions: DESIGN CHOICE 96; DEDUCED 100, 101, 102, 103. -/
def Obligations.RolesAreSwappedAndClaimed : Prop :=
  (∀ (s : State) (id : Nat) (f : Flight),
    s.mirrorCtrl id 4 = some f →
    ∃ t, exec (.swap id) s = .next t ∧
      (s.akg.swap.isSome = true → s.only t []) ∧
      (s.akg.swapPeer = true → s.akg.swapAt + 2000 < s.now → s.only t []) ∧
      (s.akg.swap = none → s.akg.swapPeer = true → s.now ≤ s.akg.swapAt + 2000 →
        t.akg = { s.akg with swap := some (id, s.now) } ∧ (∀ g, t.flight id = some g → g.stage = .running)) ∧
      (s.akg.swap = none → s.akg.swapPeer = false → s.role = 0 ∨ s.get Reg.AKG_PAIR_STATUS.in_step = 0 ∨ s.akState 0 ≠ 5 → t.ends id 0x13 s.role 0 ∧ t.akg = s.akg) ∧
      (s.akg.swap = none → s.akg.swapPeer = false → s.role ≠ 0 → s.get Reg.AKG_PAIR_STATUS.in_step = 1 → s.akState 0 = 5 →
        t.akg.swap = some (id, s.now) ∧ t.role = s.role ∧ (∀ g, t.flight id = some g → g.stage = .running)) ∧
      s.only t (([.fld (Reg.AKG_PORT_RETRAIN.replay_fill 0), .part .akg, .part .fresh] : List Place) ++ endPlaces)) ∧
  (∀ (s : State),
    s.halted 3 = false →
    s.akg.inbox = [.swap] →
    s.role ≠ 0 →
    ∃ t, exec (.peerSwap) s = .next t ∧
      (∀ f n, s.akg.swap = some (f, n) → s.akg.swapSent = false ∨ s.now ≤ n + 2000 → t.akg.swapPeer = true ∧ t.akg.swapHeld = s.akg.swapHeld) ∧
      (∀ f n, s.akg.swap = some (f, n) → s.akg.swapSent = true → n + 2000 < s.now → t.akg.swapHeld = true ∧ t.akg.swapPeer = s.akg.swapPeer) ∧
      (s.akg.swap = none → s.akg.swapPeer = true → t.akg.swapHeld = true) ∧
      (s.akg.swap = none → s.akg.swapPeer = false → t.akg.swapPeer = true ∧ t.akg.swapHeld = s.akg.swapHeld ∧ t.akg.swapAt = s.now) ∧
      t.akg.inbox = [] ∧ t.akg.swap = s.akg.swap ∧
      s.only t [.fld (Reg.AKG_PORT_RETRAIN.replay_fill 0), .part .akg, .part .fresh]) ∧
  (∀ (s : State) (id : Nat) (f : Flight),
    s.mirrorCtrl id 5 = some f →
    s.role ≤ 1 →
    ∃ t, exec (.claim id) s = .next t ∧
      (s.role = 0 → t.ends id 0x13 0 0) ∧
      (s.role = 1 → t.ends id 0 1 0) ∧
      s.only t (([] : List Place) ++ endPlaces)) ∧
  (∀ (s : State) (id : Nat) (f : Flight),
    s.mirrorCtrl id 5 = some f →
    2 ≤ s.role →
    s.svc.rstLow = false →
    ∃ t, exec (.claim id) s = .next t ∧
      t.role = 1 ∧ t.get Reg.AKG_RESUME_CTRL.resume_pending = 1 ∧ t.get Reg.AKG_PAIR_STATUS.in_step = 0 ∧
      t.get Reg.AKG_MIRROR_STATUS.failovers = min (s.get Reg.AKG_MIRROR_STATUS.failovers + 1) 65535 ∧
      t.akg.split = true ∧
      (s.akState 0 = 5 → t.akg.claimBy = some id) ∧
      (s.akState 0 ≠ 5 → t.akg.claimBy = none ∧ (s.akg.swap = none → s.akg.waits = [] → t.ends id 0 1 0)) ∧
      s.only t (([.words 0x70000 0x200, .words 0x10000 0x10000, .words 0x20000 0x10000, .words 0x30000 0x1000, .words 0x60000 0x100, .fld Reg.GLB_INT_CAUSE.cause, .part .akg, .part .fab, .part .cap, .part .pass, .part .svc, .part .gpGld, .part .fresh] : List Place) ++ endPlaces)) ∧
  (∀ (s : State) (cut : Bool),
    s.halted 3 = false →
    s.akg.inbox = [.claim cut] →
    s.role = 1 →
    (cut = true ∨ s.akg.split = true) →
    ∃ t, exec (.peerClaim) s = .next t ∧
      ((s.get Reg.GLB_SLOT.slot_id).testBit 0 = false → t.role = 1 ∧ t.akg.split = false ∧
        s.only t (([.fld (Reg.AKG_PORT_RETRAIN.replay_fill 0), .part .akg, .part .fresh] : List Place) ++ endPlaces)) ∧
      (∀ c f, s.akg.claimBy = some c → s.flight c = some f → f.stage ≠ .ended → f.sq = s.get Reg.AKG_PAIR_CFG.pair_sq → s.akg.swap = none → s.akg.waits = [] →
        t.ends c 0 (if (s.get Reg.GLB_SLOT.slot_id).testBit 0 then 3 else 1) 0) ∧
      t.akg.claimBy = none ∧
      ((s.get Reg.GLB_SLOT.slot_id).testBit 0 = true → t.role = 3 ∧ t.get Reg.AKG_PAIR_STATUS.split_resolved = 1 ∧ t.get Reg.AKG_PAIR_STATUS.last_result = 7 ∧
        t.get Reg.AKG_RESUME_CTRL.resume_pending = 0 ∧ t.get Reg.HPS_STATUS.active_valid = 0) ∧
      t.akg.inbox = [] ∧
      s.only t (([.words 0x70000 0x200, .words 0x10000 0x10000, .words 0x20000 0x10000, .words 0x30000 0x1000, .words 0x60000 0x100, .fld Reg.GLB_INT_CAUSE.cause, .words 0xB0010 4, .part .akg, .part .fab, .part .cap, .part .pass, .part .svc, .part .gpGld, .part .fresh, .part .card] : List Place) ++ endPlaces)) ∧
  (∀ (s : State),
    s.halted 3 = false →
    s.akg.inbox = [.claim false] →
    s.role = 1 →
    s.akg.split = false →
    ∃ t, exec (.peerClaim) s = .next t ∧
      t.role = 3 ∧ t.get Reg.AKG_PAIR_STATUS.in_step = 0 ∧ t.get Reg.AKG_PAIR_STATUS.split_resolved = s.get Reg.AKG_PAIR_STATUS.split_resolved ∧
      t.get Reg.HPS_STATUS.active_valid = 0 ∧ t.akg.inbox = [] ∧
      s.only t (([.words 0x70000 0x200, .words 0x10000 0x10000, .words 0x20000 0x10000, .words 0x30000 0x1000, .words 0x60000 0x100, .fld Reg.GLB_INT_CAUSE.cause, .part .akg, .part .fab, .part .cap, .part .pass, .part .svc, .part .gpGld, .part .fresh] : List Place) ++ endPlaces)) ∧
  (∀ (s : State),
    s.halted 3 = false →
    s.akg.inbox = [] →
    s.get Reg.AKG_PROFILE.profile = 2 →
    (s.role = 2 ∨ s.role = 3) →
    s.akState 0 ≠ 5 →
    ∃ t, exec (.claimTimeout) s = .next t ∧
      t.role = 1 ∧ t.get Reg.AKG_RESUME_CTRL.resume_pending = 1 ∧ t.akg.split = true ∧
      s.only t (([.words 0x70000 0x200, .words 0x10000 0x10000, .words 0x20000 0x10000, .words 0x30000 0x1000, .words 0x60000 0x100, .fld Reg.GLB_INT_CAUSE.cause, .part .akg, .part .fab, .part .cap, .part .pass, .part .svc, .part .gpGld, .part .fresh] : List Place) ++ endPlaces)) ∧
  (∀ (s : State),
    s.halted 3 = false →
    s.akg.inbox = [] →
    (s.get Reg.AKG_PROFILE.profile ≠ 2 ∨ s.role ≤ 1 ∨ s.akState 0 = 5) →
    ∃ t, exec (.claimTimeout) s = .next t ∧
      s.only t [.part .akg]) ∧
  (∀ (s : State),
    s.bar0Open →
    s.get Reg.AKG_RESUME_CTRL.resume_pending = 1 →
    ∃ t, exec (.resume) s = .next t ∧
      t.get Reg.AKG_RESUME_CTRL.resume_pending = 0 ∧
      (∀ n, n < 64 → n ≠ s.get Reg.AKG_PAIR_CFG.pair_cq →
        t.get (Reg.HIF_CQ_STATE.tail n) = s.get (Reg.AKG_CQ_RESUME.tail n) ∧ t.get (Reg.HIF_CQ_STATE.phase n) = s.get (Reg.AKG_CQ_RESUME.phase n)) ∧
      t.get (Reg.HIF_CQ_STATE.tail (s.get Reg.AKG_PAIR_CFG.pair_cq)) = s.get (Reg.HIF_CQ_STATE.tail (s.get Reg.AKG_PAIR_CFG.pair_cq)) ∧
      s.only t [.fld Reg.AKG_RESUME_CTRL.resume_pending, .words 0x12000 0x800, .part .svc]) ∧
  (∀ (s : State),
    s.halted 3 = false →
    s.akg.inbox = [] →
    (s.mirrors = false ∨ s.akState 0 ≠ 5) →
    ∃ t, exec (.mirrorTick) s = .next t ∧
      s.only t [.part .akg]) ∧
  (∀ (s : State),
    s.halted 3 = false →
    s.akg.inbox = [] →
    s.akg.ports.length = 4 →
    s.mirrors = true →
    s.akState 0 = 5 →
    s.akg.waits = [] →
    ∃ t, exec (.mirrorTick) s = .next t ∧
      t.akg.refreshes = [] ∧ t.role = 1 ∧
      (t.port 0).expect = (s.port 0).expect ∧ (t.port 0).unacked.length + (t.port 0).waiting.length ≥ (s.port 0).unacked.length + (s.port 0).waiting.length + 1 + s.akg.refreshes.length ∧
      s.only t [.fld (Reg.AKG_PORT_RETRAIN.replay_fill 0), .part .akg, .part .fresh]) ∧
  (∀ (s : State) (r : Run) (rest : List Run),
    s.halted 3 = false →
    s.akg.inbox = [] →
    2 ≤ s.role →
    s.akg.mirror.arrived = r :: rest →
    ∃ t, exec (.snapshotApply) s = .next t ∧
      t.akg.mirror = { s.akg.mirror with runs := s.akg.mirror.runs.filter (fun q => decide (q.name ≠ r.name)) ++ [r], arrived := rest } ∧
      s.only t [.fld (Reg.AKG_PORT_RETRAIN.replay_fill 0), .part .akg, .part .fresh]) ∧
  (∀ (s : State) (n : Nat) (r : Run),
    s.halted 3 = false →
    s.akg.inbox = [.snapshotAck none n] →
    s.swapDrains = false →
    s.fab.runs = [r] →
    r.held = true →
    (r.sent s).name = (none, n) →
    ∃ t, exec (.snapshotAck) s = .next t ∧
      t.fab.runs = [{ r with held := false }] ∧
      t.akg.inbox = [] ∧
      s.only t [.part .fab, .part .akg])

/-- Hall Pass (10 R260, R261, R264, R265, R268, R272, Tables 10-1, 10-3, 10-6): a trigger is answered from the active bank, or with the default verdict when no table may answer, and both are counted, at once or, while crossing X12 is held, when it restarts (01 R21); one publish at a time loads the shadow, asks for the flip, flips, completes with bank and time, and copies; shadow writes and the fill take effect at once, or wait in their order for a copy, or are refused while a publish is pending; the band follows the hottest live quad sensor by one tap. Model's own readings and choices it may rest on, in notes/assumptions: DESIGN CHOICE 3; DEDUCED 55, 93, 94. -/
def Obligations.HallPassAnswersAndPublishes : Prop :=
  (∀ (s : State) (valid : Bool) (sig : Nat),
    s.passDriven = true →
    ∃ t, exec (.hpTrigger valid sig) s = .next t ∧
      (valid = false → t.pass = { s.pass with verdict := 0, tagv := false } ∧ t.get Reg.HPS_TRIGGER_COUNT.triggers = s.get Reg.HPS_TRIGGER_COUNT.triggers) ∧
      (valid = true → t.get Reg.HPS_TRIGGER_COUNT.triggers =
        (if s.crossHeld.getD 2 false then s.get Reg.HPS_TRIGGER_COUNT.triggers else min (s.get Reg.HPS_TRIGGER_COUNT.triggers + 1) 4294967295)) ∧
      (valid = true → s.get Reg.HPS_STATUS.active_valid = 1 → s.service ≠ svcRecovery → s.service ≠ svcHomeroom ∨ s.get Reg.THM_STATUS.shutdown = 1 →
        t.pass = { s.pass with verdict := s.entry s.activeBank sig, tagv := true, heldTriggers := s.pass.heldTriggers + (if s.crossHeld.getD 2 false then 1 else 0) } ∧ t.get Reg.HPS_DEFAULT_COUNT.default_answers = s.get Reg.HPS_DEFAULT_COUNT.default_answers) ∧
      (valid = true → s.get Reg.HPS_STATUS.active_valid = 0 ∨ s.service = svcRecovery ∨ (s.service = svcHomeroom ∧ s.get Reg.THM_STATUS.shutdown = 0) →
        t.pass = { s.pass with verdict := s.get Reg.HPS_CFG.default_verdict, tagv := false, heldTriggers := s.pass.heldTriggers + (if s.crossHeld.getD 2 false then 1 else 0), heldDefaults := s.pass.heldDefaults + (if s.crossHeld.getD 2 false then 1 else 0) } ∧
        t.get Reg.HPS_DEFAULT_COUNT.default_answers =
          (if s.crossHeld.getD 2 false then s.get Reg.HPS_DEFAULT_COUNT.default_answers else min (s.get Reg.HPS_DEFAULT_COUNT.default_answers + 1) 4294967295)) ∧
      s.only t [.fld Reg.HPS_TRIGGER_COUNT.triggers, .fld Reg.HPS_DEFAULT_COUNT.default_answers, .part .pass]) ∧
  (∀ (s : State) (valid : Bool) (sig : Nat),
    s.passDriven = false →
    ∃ t, exec (.hpTrigger valid sig) s = .next t ∧
      s.only t []) ∧
  (∀ (s : State) (id : Nat) (f : Flight),
    s.startable id opPublish = some f →
    dDev0 f.bytes = false →
    ∃ t, exec (.hpsTablePublish id none) s = .next t ∧
      (s.get Reg.HPS_STATUS.copying = 1 ∨ s.pass.copyWaits = true ∨ s.host.flights.any (fun g => decide (g.id < id) && decide (dOp g.bytes = opPublish) && decide (g.stage ≠ .ended)) = true → s.only t []) ∧
      (s.get Reg.HPS_STATUS.copying = 0 → s.pass.copyWaits = false → s.host.flights.any (fun g => decide (g.id < id) && decide (dOp g.bytes = opPublish) && decide (g.stage ≠ .ended)) = false → dAddr0 f.bytes = 0 →
        t.pass = { s.pass with publishes := [⟨id, true⟩] } ∧ t.get Reg.HPS_STATUS.publish_pending = 1) ∧
      (s.get Reg.HPS_STATUS.copying = 0 → s.pass.copyWaits = false → s.host.flights.any (fun g => decide (g.id < id) && decide (dOp g.bytes = opPublish) && decide (g.stage ≠ .ended)) = false → dAddr0 f.bytes ≠ 0 →
        t.ends id 0x13 0 0) ∧
      t.activeBank = s.activeBank ∧ t.bank s.activeBank = s.bank s.activeBank ∧
      s.only t [.fld Reg.HPS_STATUS.publish_pending, .fld Reg.HPS_STATUS.queue_depth, .fld Reg.HPS_REFRESH_COUNT.refresh_writes, .part .pass, .part .host]) ∧
  (∀ (s : State) (id : Nat) (f : Flight) (b : List Byte),
    s.startable id opPublish = some f →
    dDev0 f.bytes = false →
    dAddr0 f.bytes ≠ 0 →
    s.get Reg.HPS_STATUS.copying = 0 →
    s.pass.copyWaits = false →
    s.host.flights.any (fun g => decide (g.id < id) && decide (dOp g.bytes = opPublish) && decide (g.stage ≠ .ended)) = false →
    ∃ t, exec (.hpsTablePublish id (some b)) s = .next t ∧
      (∀ i, i < 65536 → t.entry s.shadowBank i = ((bytesAt b 0 32768).getD (i / 2) 0).toNat / 16 ^ (i % 2) % 16) ∧
      t.pass.publishes = [⟨id, true⟩] ∧ t.get Reg.HPS_STATUS.publish_pending = 1 ∧
      t.activeBank = s.activeBank ∧ t.bank s.activeBank = s.bank s.activeBank ∧
      s.only t [.fld Reg.HPS_STATUS.publish_pending, .words 0xD0000 0x10000, .part .pass, .part .dbg, .part .host]) ∧
  (∀ (s : State) (p : Publish) (rest : List Publish),
    s.pass.publishes = p :: rest →
    ∃ t, exec (.publishFlip) s = .next t ∧
      t.activeBank = (1 - s.activeBank) ∧ t.get Reg.HPS_STATUS.active_valid = 1 ∧
      t.get Reg.HPS_PUBLISH_COUNT.publishes = min (s.get Reg.HPS_PUBLISH_COUNT.publishes + 1) 65535 ∧
      t.pass.done = some (p.flight, 1 - s.activeBank, s.time) ∧ t.pass.publishes = [] ∧
      (s.host.flights.any (fun f => decide (dOp f.bytes = opPublish) && decide (f.stage = .waiting)) = false → t.get Reg.HPS_STATUS.publish_pending = 0) ∧
      (s.get Reg.GLB_CLK_STATUS.hp_clk_ok = 1 → t.get Reg.HPS_STATUS.copying = 1) ∧
      (s.get Reg.GLB_CLK_STATUS.hp_clk_ok = 0 → t.pass.copyWaits = true ∧ t.get Reg.HPS_STATUS.unclocked_flip = 1) ∧
      t.bank 0 = s.bank 0 ∧ t.bank 1 = s.bank 1 ∧
      s.only t [.fld Reg.HPS_STATUS.active_bank, .fld Reg.HPS_STATUS.active_valid, .fld Reg.HPS_STATUS.publish_pending, .fld Reg.HPS_STATUS.copying, .fld Reg.HPS_STATUS.unclocked_flip, .fld Reg.HPS_PUBLISH_COUNT.publishes, .part .pass]) ∧
  (∀ (s : State) (id b n : Nat) (f : Flight),
    s.pass.done = some (id, b, n) →
    s.flight id = some f →
    f.stage ≠ .ended →
    s.mirrors = false →
    ∃ t, exec (.publishDone) s = .next t ∧
      t.ends id 0 b n ∧
      t.pass = { s.pass with done := none } ∧
      s.only t (([.part .pass] : List Place) ++ endPlaces)) ∧
  (∀ (s : State),
    s.get Reg.HPS_STATUS.copying = 1 →
    ∃ t, exec (.publishCopyEnd) s = .next t ∧
      t.get Reg.HPS_STATUS.copying = 0 ∧ t.get Reg.HPS_STATUS.queue_depth = 0 ∧ t.pass.queue = [] ∧ t.pass.fill = none ∧
      t.bank s.activeBank = s.bank s.activeBank ∧
      (s.pass.queue = [] → s.pass.fill = none → t.bank s.shadowBank = s.bank s.activeBank) ∧
      (∀ w, s.pass.queue = [w] → s.pass.fill = none → w.index < 65536 → t.entry s.shadowBank w.index = w.value % 16) ∧
      (∀ k v, s.pass.queue = [] → s.pass.fill = some (k, v) → ∀ i, i < 65536 → t.entry s.shadowBank i = v) ∧
      s.only t [.fld Reg.HPS_STATUS.copying, .fld Reg.HPS_STATUS.queue_depth, .fld Reg.HPS_REFRESH_COUNT.refresh_writes, .part .pass]) ∧
  (∀ (s : State) (v : Nat),
    s.bar0Open →
    ∃ t, exec (.hpsShadowData v) s = .next t ∧
      (s.get Reg.HPS_STATUS.publish_pending = 1 → t.get Reg.HPS_STATUS.write_refused = 1 ∧ t.pass = s.pass ∧ t.get Reg.HPS_SHADOW_ADDR.index = s.get Reg.HPS_SHADOW_ADDR.index) ∧
      (s.get Reg.HPS_STATUS.publish_pending = 0 → t.get Reg.HPS_SHADOW_ADDR.index = (s.get Reg.HPS_SHADOW_ADDR.index + 1) % 65536) ∧
      (s.passHolds = false → t.entry s.shadowBank (s.get Reg.HPS_SHADOW_ADDR.index) = v % 16 ∧ t.pass.queue = s.pass.queue) ∧
      (s.get Reg.HPS_STATUS.publish_pending = 0 → s.passHolds = true → s.pass.queue.length < 1024 → t.pass = { s.pass with queue := s.pass.queue ++ [⟨s.get Reg.HPS_SHADOW_ADDR.index, v % 16, false⟩] }) ∧
      (s.get Reg.HPS_STATUS.publish_pending = 0 → s.passHolds = true → 1024 ≤ s.pass.queue.length → t.get Reg.HPS_STATUS.write_refused = 1 ∧ t.pass = s.pass) ∧
      t.bank s.activeBank = s.bank s.activeBank ∧
      s.only t [.fld Reg.HPS_STATUS.write_refused, .fld Reg.HPS_STATUS.queue_depth, .fld Reg.HPS_SHADOW_ADDR.index, .part .pass, .part .svc]) ∧
  (∀ (s : State),
    s.bar0Open →
    ∃ t, exec (.shadowFill) s = .next t ∧
      (s.get Reg.HPS_STATUS.publish_pending = 1 → t.pass = s.pass ∧ t.get Reg.HPS_STATUS.write_refused = 1) ∧
      (s.get Reg.HPS_STATUS.publish_pending = 0 → s.passHolds = true → t.pass = { s.pass with fill := some (s.pass.queue.length, s.get Reg.HPS_CFG.default_verdict) }) ∧
      (s.passHolds = false → ∀ i, i < 65536 → t.entry s.shadowBank i = s.get Reg.HPS_CFG.default_verdict) ∧
      (s.get Reg.HPS_STATUS.publish_pending = 0 → t.get Reg.HPS_STATUS.write_refused = s.get Reg.HPS_STATUS.write_refused) ∧
      t.bank s.activeBank = s.bank s.activeBank ∧
      s.only t [.fld Reg.HPS_STATUS.write_refused, .part .pass, .part .svc]) ∧
  (∀ (s : State),
    ∃ t, exec (.hpClkReturn) s = .next t ∧
      (s.pass.copyWaits = true → t.pass = { s.pass with copyWaits := false } ∧ t.get Reg.HPS_STATUS.copying = 1) ∧
      (s.pass.copyWaits = false → s.only t []) ∧
      s.only t [.fld Reg.HPS_STATUS.copying, .part .pass]) ∧
  (∀ (s : State),
    ∃ t, exec (.trimBandChange) s = .next t ∧
      (∀ x, s.hottestOf (List.range 16) = some x → t.get Reg.HPS_STATUS.trim_band = bandStep (s.get Reg.HPS_STATUS.trim_band) x.1 ∧
        (s.get Reg.HPS_STATUS.trim_taps = bandTaps (t.get Reg.HPS_STATUS.trim_band) → t.get Reg.HPS_STATUS.trim_taps = s.get Reg.HPS_STATUS.trim_taps) ∧
        (s.get Reg.HPS_STATUS.trim_taps < bandTaps (t.get Reg.HPS_STATUS.trim_band) → t.get Reg.HPS_STATUS.trim_taps = s.get Reg.HPS_STATUS.trim_taps + 1) ∧
        (bandTaps (t.get Reg.HPS_STATUS.trim_band) < s.get Reg.HPS_STATUS.trim_taps → t.get Reg.HPS_STATUS.trim_taps + 1 = s.get Reg.HPS_STATUS.trim_taps)) ∧
      s.only t [.fld Reg.HPS_STATUS.trim_band, .fld Reg.HPS_STATUS.trim_taps])

/-- Capture ingest (09 R229 to R237, R251, R252, R256): the link's state; a header is lost or its record is counted and then lands, or is discarded for its source, its consumer or its space, in Recess always, and not framed while its crossing is held (01 R21); bad blocks count wherever they come; a record ends good, with a CRC error, or truncated; an Ethernet frame is judged in order and counted, or becomes a record; a burst loads once it has landed whole, or short at the record's end; one that stays incomplete ends the standing descriptor with UNDERRUN. Model's own readings and choices it may rest on, in notes/assumptions: DEDUCED 8, 86, 126; PRESUMED 87. -/
def Obligations.RecordsLandAndEnd : Prop :=
  (∀ (s : State) (skew : Nat),
    s.capReceives = true →
    ∃ t, exec (.captureLinkUp skew) s = .next t ∧
      t.get Reg.CAP_LINK_STATUS.lane_lock = 255 ∧ t.get Reg.CAP_LINK_STATUS.aligned = 1 ∧ t.get Reg.CAP_LINK_STATUS.link_up = 1 ∧ t.get Reg.CAP_LINK_STATUS.lane_skew = skew % 256 ∧
      s.only t [.fld Reg.CAP_LINK_STATUS.lane_lock, .fld Reg.CAP_LINK_STATUS.aligned, .fld Reg.CAP_LINK_STATUS.link_up, .fld Reg.CAP_LINK_STATUS.lane_skew]) ∧
  (∀ (s : State) (locked : Nat) (inHeader : Bool),
    s.get Reg.CAP_LINK_STATUS.link_up = 1 →
    s.cap.onLink = none →
    ∃ t, exec (.captureLinkDown locked inHeader) s = .next t ∧
      t.get Reg.CAP_LINK_STATUS.lane_lock = locked % 256 ∧ t.get Reg.CAP_LINK_STATUS.aligned = 0 ∧ t.get Reg.CAP_LINK_STATUS.link_up = 0 ∧
      t.get Reg.CAP_LINK_ERR.align_loss = min (s.get Reg.CAP_LINK_ERR.align_loss + 1) 65535 ∧
      t.get Reg.CAP_RECORD_ERR.header_lost = min (s.get Reg.CAP_RECORD_ERR.header_lost + (if inHeader then 1 else 0)) 65535 ∧
      s.only t [.fld Reg.CAP_LINK_STATUS.lane_lock, .fld Reg.CAP_LINK_STATUS.aligned, .fld Reg.CAP_LINK_STATUS.link_up, .fld Reg.CAP_LINK_ERR.align_loss, .fld Reg.CAP_RECORD_ERR.header_lost]) ∧
  (∀ (s : State) (locked id : Nat) (inHeader : Bool) (l : LinkRec) (r : Rec),
    s.get Reg.CAP_LINK_STATUS.link_up = 1 →
    s.cap.onLink = some l →
    l.id = some id →
    s.recOf id = some r →
    l.stream = r.stream →
    r.stream < 8 →
    ∃ t, exec (.captureLinkDown locked inHeader) s = .next t ∧
      t.get Reg.CAP_LINK_STATUS.link_up = 0 ∧ t.cap.onLink = none ∧
      t.recOf id = some { r with ended := true, truncated := true, time := s.time, data := if r.data.length < r.len then r.data.take (r.data.length / 8 * 8) else r.data } ∧
      t.get (Reg.CAP_STREAM_TRUNC.truncated r.stream) = min (s.get (Reg.CAP_STREAM_TRUNC.truncated r.stream) + 1) 65535 ∧
      s.only t [.fld Reg.CAP_LINK_STATUS.lane_lock, .fld Reg.CAP_LINK_STATUS.aligned, .fld Reg.CAP_LINK_STATUS.link_up, .fld Reg.CAP_LINK_ERR.align_loss, .fld Reg.CAP_RECORD_ERR.header_lost, .fld (Reg.CAP_STREAM_TRUNC.truncated r.stream), .part .cap]) ∧
  (∀ (s : State) (n : Nat) (h : List Byte),
    n < 8 →
    s.capFrames = true →
    s.get Reg.CAP_LINK_STATUS.link_up = 1 →
    s.capHeld = false →
    s.cap.onLink = none →
    ∃ t, exec (.recordHeader n h) s = .next t ∧
      (linkHeaderOk h = false → t.get Reg.CAP_RECORD_ERR.header_lost = min (s.get Reg.CAP_RECORD_ERR.header_lost + 1) 65535 ∧ t.cap = s.cap) ∧
      (linkHeaderOk h = true → t.get (Reg.CAP_STREAM_RECORDS.records_in n) = min (s.get (Reg.CAP_STREAM_RECORDS.records_in n) + 1) 4294967295 ∧
        t.get (Reg.CAP_STREAM_LAST_SEQ.last_seq n) = natAt h 0 4) ∧
      (linkHeaderOk h = true → s.get (Reg.CAP_STREAM_CFG.source n) = 1 →
        t.cap = { s.cap with onLink := some ⟨none, n, natAt h 16 4, bytesAt h 0 64, []⟩ } ∧ t.get (Reg.CAP_STREAM_ERR.wrong_source n) = min (s.get (Reg.CAP_STREAM_ERR.wrong_source n) + 1) 65535) ∧
      (linkHeaderOk h = true → s.get (Reg.CAP_STREAM_CFG.source n) = 0 → s.consumes n = false →
        t.cap = { s.cap with onLink := some ⟨none, n, natAt h 16 4, bytesAt h 0 64, []⟩ } ∧ t.get (Reg.CAP_STREAM_DISCARD.discarded_no_consumer n) = min (s.get (Reg.CAP_STREAM_DISCARD.discarded_no_consumer n) + 1) 65535) ∧
      (linkHeaderOk h = true → s.get (Reg.CAP_STREAM_CFG.source n) = 0 → s.consumes n = true → 524288 < s.reserved n + recSpace (natAt h 16 4) →
        t.cap = { s.cap with onLink := some ⟨none, n, natAt h 16 4, bytesAt h 0 64, []⟩ } ∧ t.get (Reg.CAP_STREAM_DISCARD.discarded_full n) = min (s.get (Reg.CAP_STREAM_DISCARD.discarded_full n) + 1) 65535) ∧
      (linkHeaderOk h = true → s.get (Reg.CAP_STREAM_CFG.source n) = 0 → s.consumes n = true → s.reserved n + recSpace (natAt h 16 4) ≤ 524288 →
        t.cap = { s.cap with recs := s.cap.recs ++ [{ linkRec n h with id := s.host.nextId }], onLink := some ⟨some s.host.nextId, n, natAt h 16 4, bytesAt h 0 64, []⟩ } ∧
        t.get (Reg.CAP_STREAM_FILL.fill n) = s.reserved n + recSpace (natAt h 16 4)) ∧
      s.only t [.fld Reg.CAP_RECORD_ERR.header_lost, .words (0x50200 + 32 * n) 32, .part .cap, .part .host]) ∧
  (∀ (s : State) (n : Nat) (h : List Byte),
    n < 8 →
    s.capFrames = true →
    s.capHeld = true →
    ∃ t, exec (.recordHeader n h) s = .next t ∧
      t.get Reg.CAP_RECORD_ERR.header_lost = (if s.get Reg.CAP_LINK_STATUS.link_up = 1 ∧ h.length < 64 then min (s.get Reg.CAP_RECORD_ERR.header_lost + 1) 65535 else s.get Reg.CAP_RECORD_ERR.header_lost) ∧
      s.only t [.fld Reg.CAP_RECORD_ERR.header_lost]) ∧
  (∀ (s : State) (n : Nat) (h : List Byte),
    n < 8 →
    s.service = svcRecess →
    s.cap.onLink = none →
    linkHeaderOk h = true →
    s.get (Reg.CAP_STREAM_CFG.source n) = 0 →
    ∃ t, exec (.recordHeader n h) s = .next t ∧
      t.get (Reg.CAP_STREAM_RECORDS.records_in n) = min (s.get (Reg.CAP_STREAM_RECORDS.records_in n) + 1) 4294967295 ∧
      t.get (Reg.CAP_STREAM_DISCARD.discarded_no_consumer n) = min (s.get (Reg.CAP_STREAM_DISCARD.discarded_no_consumer n) + 1) 65535 ∧
      t.cap = s.cap ∧
      s.only t [.words (0x50200 + 32 * n) 32]) ∧
  (∀ (s : State) (rest : List Byte) (surplus : Nat) (fin : RecEnd),
    s.capFrames = true →
    s.get Reg.CAP_LINK_STATUS.link_up = 1 →
    s.capHeld = false →
    s.cap.onLink = none →
    ∃ t, exec (.endOfRecord rest surplus fin) s = .next t ∧
      t.get Reg.CAP_RECORD_ERR.bad_block = min (s.get Reg.CAP_RECORD_ERR.bad_block + (surplus + (if fin = .bad then 1 else 0))) 65535 ∧
      s.only t [.fld Reg.CAP_RECORD_ERR.bad_block]) ∧
  (∀ (s : State) (rest : List Byte) (surplus id : Nat) (l : LinkRec) (r : Rec) (fin : RecEnd),
    s.capFrames = true →
    s.get Reg.CAP_LINK_STATUS.link_up = 1 →
    s.capHeld = false →
    s.cap.onLink = some l →
    l.id = some id →
    s.recOf id = some r →
    l.stream = r.stream ∧ l.len = r.len ∧ l.header = r.header ∧ l.data = r.data →
    r.stream < 8 →
    r.ended = false →
    (fin = .sor ∨ (fin = .bad ∧ (r.data ++ rest).length < r.len)) →
    ∃ t, exec (.endOfRecord rest surplus fin) s = .next t ∧
      t.recOf id = some { r with ended := true, truncated := true, time := s.time, data := if ((r.data ++ rest).take r.len).length < r.len then (r.data ++ rest).take (((r.data ++ rest).take r.len).length / 8 * 8) else (r.data ++ rest).take r.len } ∧
      t.cap.onLink = none ∧
      t.get (Reg.CAP_STREAM_TRUNC.truncated r.stream) = min (s.get (Reg.CAP_STREAM_TRUNC.truncated r.stream) + 1) 65535 ∧
      t.get Reg.CAP_RECORD_ERR.bad_block = min (s.get Reg.CAP_RECORD_ERR.bad_block + (surplus + (if fin = .bad then 1 else 0))) 65535 ∧
      s.only t [.fld Reg.CAP_RECORD_ERR.bad_block, .fld (Reg.CAP_STREAM_TRUNC.truncated r.stream), .part .cap]) ∧
  (∀ (s : State) (rest : List Byte) (surplus id : Nat) (l : LinkRec) (r : Rec) (crc : Nat),
    s.capFrames = true →
    s.get Reg.CAP_LINK_STATUS.link_up = 1 →
    s.capHeld = false →
    s.cap.onLink = some l →
    l.id = some id →
    s.recOf id = some r →
    l.stream = r.stream ∧ l.len = r.len ∧ l.header = r.header ∧ l.data = r.data →
    r.stream < 8 →
    r.ended = false →
    r.len ≤ (r.data ++ rest).length →
    crc32 (r.header ++ (r.data ++ rest).take r.len) = crc →
    ∃ t, exec (.endOfRecord rest surplus (.eor crc)) s = .next t ∧
      t.recOf id = some { r with ended := true, time := s.time, data := (r.data ++ rest).take r.len } ∧
      t.cap.onLink = none ∧
      t.get Reg.CAP_RECORD_ERR.bad_block = min (s.get Reg.CAP_RECORD_ERR.bad_block + surplus) 65535 ∧
      s.only t [.fld Reg.CAP_RECORD_ERR.bad_block, .part .cap]) ∧
  (∀ (s : State) (rest : List Byte) (surplus id : Nat) (l : LinkRec) (r : Rec) (crc : Nat),
    s.capFrames = true →
    s.get Reg.CAP_LINK_STATUS.link_up = 1 →
    s.capHeld = false →
    s.cap.onLink = some l →
    l.id = some id →
    s.recOf id = some r →
    l.stream = r.stream ∧ l.len = r.len ∧ l.header = r.header ∧ l.data = r.data →
    r.ended = false →
    r.flight = none →
    r.len ≤ (r.data ++ rest).length →
    crc32 (r.header ++ (r.data ++ rest).take r.len) ≠ crc →
    s.run id = none →
    ∃ t, exec (.endOfRecord rest surplus (.eor crc)) s = .next t ∧
      t.cap.onLink = none ∧ t.get Reg.CAP_LINK_ERR.crc_bad = min (s.get Reg.CAP_LINK_ERR.crc_bad + 1) 65535 ∧
      (∀ q ∈ t.cap.recs, q.id = id → q.finished = true) ∧
      s.only t [.fld Reg.CAP_RECORD_ERR.bad_block, .fld Reg.CAP_LINK_ERR.crc_bad, .fld (Reg.CAP_STREAM_FILL.fill r.stream), .part .cap]) ∧
  (∀ (s : State) (p : Nat) (b : List Byte),
    p < 2 →
    s.capFrames = true →
    s.ethUp p = true →
    s.get (Reg.CAP_ETH_MAC_HI.rx_enable p) = 1 →
    s.crossHeld.getD (3 + p) false = false →
    ∃ t, exec (.ethFrame p b) s = .next t ∧
      (s.readFrame p b = .unsupported → t.get (Reg.CAP_ETH_RX_DROP.unsupported p) = min (s.get (Reg.CAP_ETH_RX_DROP.unsupported p) + 1) 65535 ∧ t.cap = s.cap) ∧
      (s.readFrame p b = .bad → t.get (Reg.CAP_ETH_RX_ERR.fcs_bad p) = min (s.get (Reg.CAP_ETH_RX_ERR.fcs_bad p) + 1) 65535 ∧ t.cap = s.cap) ∧
      (s.readFrame p b = .ignored → s.only t []) ∧
      (∀ f pr sid cls d cut, s.readFrame p b = .packet f pr sid cls d cut → s.vitaMap p sid cls = none →
        t.get (Reg.CAP_ETH_RX_ERR.unmapped p) = min (s.get (Reg.CAP_ETH_RX_ERR.unmapped p) + 1) 65535 ∧ t.cap = s.cap) ∧
      (∀ f pr sid cls d cut i, s.readFrame p b = .packet f pr sid cls d cut → s.vitaMap p sid cls = some i → s.cap.vitaSeq.length = 8 →
        t.get (Reg.CAP_STREAM_RECORDS.records_in (s.get (Reg.CAP_VITA_MAP.stream i))) = min (s.get (Reg.CAP_STREAM_RECORDS.records_in (s.get (Reg.CAP_VITA_MAP.stream i))) + 1) 4294967295 ∧
        t.get (Reg.CAP_STREAM_LAST_SEQ.last_seq (s.get (Reg.CAP_VITA_MAP.stream i))) = s.cap.vitaSeq.getD (s.get (Reg.CAP_VITA_MAP.stream i)) 0 % 2 ^ 32) ∧
      s.only t [.fld (Reg.CAP_ETH_RX_ERR.fcs_bad p), .fld (Reg.CAP_ETH_RX_ERR.unmapped p), .fld (Reg.CAP_ETH_RX_DROP.unsupported p), .fld (Reg.CAP_ETH_RX_DROP.fragments p), .words 0x50200 0x100, .part .cap, .part .host]) ∧
  (∀ (s : State) (id : Nat) (r : Rec) (q : Run) (m : Model),
    s.cap.onLink.bind (·.id) ≠ some id →
    s.recOf id = some r →
    s.run id = some q →
    s.model q.slot = some m →
    q.started = true →
    q.loaded < q.vectors →
    q.stopped = none →
    q.failed = 0 →
    r.stream < 8 →
    ∃ t, exec (.burstLoad id []) s = .next t ∧
      (m.burst * (q.loaded + 1) ≤ r.data.length → t.run id = some { q with loaded := q.loaded + 1 } ∧ t.cap = s.cap) ∧
      (r.data.length < m.burst * (q.loaded + 1) → r.ended = false → s.only t []) ∧
      (r.data.length < m.burst * (q.loaded + 1) → r.ended = true → t.run id = some { q with loaded := q.loaded + 1 } ∧ t.recOf id = some { r with short := true } ∧
        t.get (Reg.CAP_STREAM_LOAD.short r.stream) = min (s.get (Reg.CAP_STREAM_LOAD.short r.stream) + (if r.short then 0 else 1)) 65535) ∧
      s.only t [.fld (Reg.CAP_STREAM_LOAD.short r.stream), .part .cap, .part .fab]) ∧
  (∀ (s : State) (id : Nat) (r : Rec) (q : Run) (m : Model) (x : Standing) (f : Flight),
    s.recOf id = some r →
    s.run id = some q →
    s.model q.slot = some m →
    r.flight = some x.flight →
    s.standing x.flight = some x →
    s.flight x.flight = some f →
    f.stage ≠ .ended →
    q.started = true →
    q.loaded < q.vectors →
    r.ended = false →
    r.data.length < m.burst * (q.loaded + 1) →
    r.stream < 8 →
    ∃ t, exec (.loadTimeout id) s = .next t ∧
      t.get (Reg.CAP_STREAM_LOAD.underrun r.stream) = min (s.get (Reg.CAP_STREAM_LOAD.underrun r.stream) + 1) 65535 ∧
      t.ends x.flight 0x10 x.done x.dropped ∧
      t.standing x.flight = none ∧
      s.only t (([.fld (Reg.CAP_STREAM_LOAD.underrun r.stream), .words 0x20000 0x1000, .words 0x30000 0x1000, .part .fab, .part .svc, .part .gpGld, .part .fresh, .part .cap] : List Place) ++ endPlaces))

/-- Syllabus (09 R242, R245, R246, R253): a write of the shadow stores its word and leaves the shadow not built, a clear empties it, a build shows its first error or makes it valid; while a swap is pending such writes are refused; a swap flips to a valid shadow or ends BAD_DESC, and completes when no record is left on the old bank; a pass of a record counts, and one that asks for another goes again at most twice. Model's own readings and choices it may rest on, in notes/assumptions: DEDUCED 88, 90; DESIGN CHOICE 89. -/
def Obligations.RulesAreBuiltAndSwapped : Prop :=
  (∀ (s : State) (v : Nat),
    s.bar0Open →
    s.get Reg.SYL_STATUS.swap_pending = 0 →
    ∃ t, exec (.shadowDataWrite v) s = .next t ∧
      (∀ a, Store.read ruleBlank (t.rules s.ruleShadow) a = (if s.get Reg.SYL_SHADOW_ADDR.shadow_addr ≤ a ∧ a < s.get Reg.SYL_SHADOW_ADDR.shadow_addr + 4 then BitVec.ofNat 8 (v / 256 ^ (a - s.get Reg.SYL_SHADOW_ADDR.shadow_addr)) else Store.read ruleBlank (s.rules s.ruleShadow) a)) ∧
      t.get Reg.SYL_SHADOW_ADDR.shadow_addr = (s.get Reg.SYL_SHADOW_ADDR.shadow_addr + 4) % 2 ^ 23 ∧ t.get Reg.SYL_STATUS.shadow_valid = 0 ∧ t.cap.building = false ∧
      t.rules s.ruleBank = s.rules s.ruleBank ∧
      s.only t [.fld Reg.SYL_STATUS.shadow_valid, .fld Reg.SYL_SHADOW_ADDR.shadow_addr, .part .cap, .part .svc]) ∧
  (∀ (s : State),
    s.bar0Open →
    s.get Reg.SYL_STATUS.swap_pending = 0 →
    ∃ t, exec (.shadowClear) s = .next t ∧
      t.rules s.ruleShadow = [] ∧ t.rules s.ruleBank = s.rules s.ruleBank ∧ t.get Reg.SYL_STATUS.shadow_valid = 0 ∧
      s.only t [.fld Reg.SYL_STATUS.shadow_valid, .part .cap, .part .svc]) ∧
  (∀ (s : State),
    s.bar0Open →
    s.get Reg.SYL_STATUS.swap_pending = 0 →
    ∃ t, exec (.shadowBuild) s = .next t ∧
      t.cap = { s.cap with building := true } ∧ t.get Reg.SYL_STATUS.shadow_valid = 0 ∧ t.get Reg.SYL_STATUS.image_error = 0 ∧
      s.only t [.fld Reg.SYL_STATUS.shadow_valid, .fld Reg.SYL_STATUS.image_error, .part .cap, .part .svc]) ∧
  (∀ (s : State) (c : Instr),
    c ∈ [Instr.shadowDataWrite 5, .shadowClear, .shadowBuild] →
    s.bar0Open →
    s.get Reg.SYL_STATUS.swap_pending = 1 →
    ∃ t, exec (c) s = .next t ∧
      t.get Reg.SYL_STATUS.write_refused = 1 ∧
      s.only t [.fld Reg.SYL_STATUS.write_refused, .part .svc]) ∧
  (∀ (s : State),
    s.cap.building = true →
    ∃ t, exec (.shadowBuildEnd) s = .next t ∧
      t.cap = { s.cap with building := false, shadowGood := decide (imageError (s.rules s.ruleShadow) (s.get Reg.SYL_HASH_SEED.hash_seed) = 0) } ∧
      (imageError (s.rules s.ruleShadow) (s.get Reg.SYL_HASH_SEED.hash_seed) = 0 → t.get Reg.SYL_STATUS.shadow_valid = 1) ∧
      (imageError (s.rules s.ruleShadow) (s.get Reg.SYL_HASH_SEED.hash_seed) ≠ 0 → t.get Reg.SYL_STATUS.shadow_valid = 0) ∧
      t.get Reg.SYL_STATUS.image_error = imageError (s.rules s.ruleShadow) (s.get Reg.SYL_HASH_SEED.hash_seed) % 16 ∧
      s.only t [.fld Reg.SYL_STATUS.shadow_valid, .fld Reg.SYL_STATUS.image_error, .part .cap]) ∧
  (∀ (s : State) (id : Nat) (f : Flight),
    s.startable id opBankSwap = some f →
    dDev0 f.bytes = false →
    ∃ t, exec (.sylBankSwap id none) s = .next t ∧
      (s.host.flights.any (fun g => decide (g.id < id) && decide (dOp g.bytes = opBankSwap) && decide (g.stage ≠ .ended)) = true ∨ s.cap.flipped.isSome = true → s.only t []) ∧
      (s.host.flights.any (fun g => decide (g.id < id) && decide (dOp g.bytes = opBankSwap) && decide (g.stage ≠ .ended)) = false → s.cap.flipped = none → dAddr0 f.bytes ≠ 0 → t.ends id 0x13 0 0 ∧ t.cap = s.cap) ∧
      (s.host.flights.any (fun g => decide (g.id < id) && decide (dOp g.bytes = opBankSwap) && decide (g.stage ≠ .ended)) = false → s.cap.flipped = none → dAddr0 f.bytes = 0 →
        s.get Reg.SYL_STATUS.shadow_valid = 1 ∨ imageError (s.rules s.ruleShadow) (s.get Reg.SYL_HASH_SEED.hash_seed) = 0 →
        t.ruleBank = s.ruleShadow ∧ t.get Reg.SYL_STATUS.swap_pending = 1 ∧ t.get Reg.SYL_STATUS.shadow_valid = 1 ∧
        t.get Reg.SYL_STATUS.active_valid = (if s.get Reg.SYL_STATUS.shadow_valid = 0 ∨ s.cap.shadowGood = true then 1 else 0) ∧
        t.cap.shadowGood = s.flag Reg.SYL_STATUS.active_valid ∧ t.cap.flipped = some (id, s.ruleShadow, s.time)) ∧
      (s.host.flights.any (fun g => decide (g.id < id) && decide (dOp g.bytes = opBankSwap) && decide (g.stage ≠ .ended)) = false → s.cap.flipped = none → dAddr0 f.bytes = 0 →
        s.get Reg.SYL_STATUS.shadow_valid = 0 → imageError (s.rules s.ruleShadow) (s.get Reg.SYL_HASH_SEED.hash_seed) ≠ 0 →
        t.ends id 0x20 0 0 ∧ t.ruleBank = s.ruleBank) ∧
      t.rules 0 = s.rules 0 ∧ t.rules 1 = s.rules 1 ∧ t.cap.recs = s.cap.recs ∧
      s.only t [.words 0x40008 4, .fld Reg.HPS_STATUS.publish_pending, .part .cap, .part .host]) ∧
  (∀ (s : State) (id bank n : Nat) (f : Flight),
    s.cap.flipped = some (id, bank, n) →
    s.flight id = some f →
    f.stage ≠ .ended →
    s.mirrors = false →
    ∃ t, exec (.sylSwapDone) s = .next t ∧
      (s.cap.recs.any (fun r => !r.classified && !r.finished && decide (r.bank = some (1 - bank))) = true → s.only t []) ∧
      (s.cap.recs.any (fun r => !r.classified && !r.finished && decide (r.bank = some (1 - bank))) = false →
        t.ends id 0 bank n ∧ t.get Reg.SYL_STATUS.swap_pending = 0 ∧ t.cap = { s.cap with flipped := none }) ∧
      s.only t (([.fld Reg.SYL_STATUS.swap_pending, .part .cap] : List Place) ++ endPlaces)) ∧
  (∀ (s : State) (id k : Nat) (r : Rec),
    s.recOf id = some r →
    r.classified = false →
    r.finished = false →
    s.isDeputy = false →
    r.bank = some 0 →
    (runPass (s.rules 0) 0 r).resit = some k →
    r.pass < 2 →
    ∃ t, exec (.syllabusPass id) s = .next t ∧
      t.get Reg.SYL_PASS_COUNT.passes = min (s.get Reg.SYL_PASS_COUNT.passes + 1) 4294967295 ∧
      t.get Reg.SYL_RESIT_COUNT.resits = min (s.get Reg.SYL_RESIT_COUNT.resits + 1) 65535 ∧
      t.recOf id = some { (runPass (s.rules 0) 0 r).rec_ with pass := r.pass + 1, stage := k } ∧
      s.only t [.fld Reg.SYL_PASS_COUNT.passes, .fld Reg.SYL_RESIT_COUNT.resits, .part .cap]) ∧
  (∀ (s : State) (id : Nat) (r : Rec),
    s.recOf id = some r →
    r.classified = false →
    r.finished = false →
    s.isDeputy = false →
    ∃ t, exec (.syllabusPass id) s = .next t ∧
      (s.get Reg.SYL_PROFILE.profile ≠ 1 ∨ s.get Reg.SYL_STATUS.active_valid = 0 → r.bank = none → t.get Reg.SYL_PASS_COUNT.passes = s.get Reg.SYL_PASS_COUNT.passes) ∧
      (r.bank = some 0 ∨ r.bank = some 1 → t.get Reg.SYL_PASS_COUNT.passes = min (s.get Reg.SYL_PASS_COUNT.passes + 1) 4294967295) ∧
      t.rules 0 = s.rules 0 ∧ t.rules 1 = s.rules 1 ∧
      s.only t (([.words 0x40000 0x100, .words 0x50200 0x100, .words 0x20000 0x1000, .words 0x30000 0x1000, .words 0xD0000 0x10000, .part .fab, .part .svc, .part .gpGld, .part .fresh, .part .cap, .part .dbg] : List Place) ++ endPlaces))

/-- Standing descriptors, verdicts and context egress (06 R146, R158; 08 R215; 11 R300): CLASSIFY_STREAM waits for the loads of its model ahead of it, ends BAD_DESC where its model or gang does not fit (07 R167, R190), stands on its stream and the one that stood gives way; with records 0 it completes at once; a verdict is held or dropped and counted under its standing descriptor, and its gangs are free; a port that comes up sends its queue in order, one that goes down puts the packet it was sending back with its age, with hold time 0 discards all; a packet held too long is dropped and counted. Model's own readings and choices it may rest on, in notes/assumptions: DEDUCED 61, 76, 90, 92. -/
def Obligations.VerdictsAndPacketsGoOut : Prop :=
  (∀ (s : State) (id : Nat) (f : Flight),
    s.startable id opClassify = some f →
    (dModel f.bytes = 0xFFFF ∨ s.loadAhead (dModel f.bytes) id = false) →
    s.modelFits f.bytes = true →
    s.cap.standing = [] →
    s.cap.recs = [] →
    recordsOf f.bytes ≠ 0 →
    ∃ t, exec (.classifyStream id) s = .next t ∧
      t.cap.standing = [⟨id, natAt f.bytes 24 1 % 8, 0, 0, 0, false⟩] ∧
      (∀ g, t.flight id = some g → g.stage = .running ∧ g.standing = true) ∧
      s.only t [.part .cap, .part .host]) ∧
  (∀ (s : State) (id : Nat) (f : Flight),
    s.startable id opClassify = some f →
    (dModel f.bytes = 0xFFFF ∨ s.loadAhead (dModel f.bytes) id = false) →
    s.modelFits f.bytes = true →
    s.cap.standing = [] →
    s.cap.recs = [] →
    recordsOf f.bytes = 0 →
    ∃ t, exec (.classifyStream id) s = .next t ∧
      t.ends id 0 0 0 ∧
      t.cap.standing = [] ∧
      s.only t (([.part .cap] : List Place) ++ endPlaces)) ∧
  (∀ (s : State) (id : Nat) (f : Flight),
    s.startable id opClassify = some f →
    ∃ t, exec (.classifyStream id) s = .next t ∧
      (dModel f.bytes ≠ 0xFFFF → s.loadAhead (dModel f.bytes) id = true → s.only t []) ∧
      ((dModel f.bytes = 0xFFFF ∨ s.loadAhead (dModel f.bytes) id = false) → s.modelFits f.bytes = false →
        t.ends id 0x20 0 0 ∧ t.cap = s.cap ∧ s.only t endPlaces)) ∧
  (∀ (s : State) (id : Nat) (f g : Flight) (x : Standing),
    s.startable id opClassify = some f →
    (dModel f.bytes = 0xFFFF ∨ s.loadAhead (dModel f.bytes) id = false) →
    s.modelFits f.bytes = true →
    s.cap.standing = [x] →
    x.stream = natAt f.bytes 24 1 % 8 →
    x.leaving = false →
    x.flight ≠ id →
    s.flight x.flight = some g →
    g.stage ≠ .ended →
    s.cap.recs = [] →
    recordsOf f.bytes ≠ 0 →
    ∃ t, exec (.classifyStream id) s = .next t ∧
      t.ends x.flight 0 x.done x.dropped ∧
      t.cap.standing = [⟨id, natAt f.bytes 24 1 % 8, 0, 0, 0, false⟩] ∧
      s.only t [.fld Reg.HPS_STATUS.publish_pending, .part .cap, .part .host]) ∧
  (∀ (s : State) (id : Nat) (r : Rec) (q : Run) (f : Flight) (x : Standing),
    s.recOf id = some r →
    s.run id = some q →
    r.flight = some x.flight →
    s.flight x.flight = some f →
    s.standing x.flight = some x →
    x.leaving = false →
    recordsOf f.bytes = 0xFFFFFFFF →
    q.failed = 0 →
    q.path.reps ≠ [] →
    q.total ≤ q.path.sweeps →
    r.ended = true →
    s.verdictDrops (s.get (Reg.HIF_SQ_CFG.cq f.sq)) r.stream = false →
    dAddr0 f.bytes = 0 →
    s.fab.runs.filter (fun y => decide (y.id = id)) = [q] →
    ∃ t, exec (.recordVerdict id) s = .next t ∧
      t.fab.runs.all (fun y => decide (y.id ≠ id)) = true ∧
      (t.standing x.flight) = some { x with done := x.done + 1 } ∧
      (∃ h ∈ t.host.held, h.record = some id ∧ h.stream = some r.stream ∧ h.entry.kind = .verdict ∧ h.entry.time = r.time ∧ h.entry.tag = dTag f.bytes ∧ h.entry.replay = min q.replays 15 ∧
        h.entry.status = (Info.mk r.short q.replays q.cancel).status false ∧ h.entry.infoShort = r.short ∧ h.entry.infoCancel = q.cancel) ∧
      t.cap.recs = s.cap.recs ∧
      s.only t (([.words 0x20000 0x1000, .words 0x30000 0x1000, .words 0x60000 0x100, .words 0x40000 0x100, .part .fab, .part .svc, .part .gpGld, .part .fresh, .part .cap, .part .pass, .part .akg] : List Place) ++ endPlaces ++ irqPlaces)) ∧
  (∀ (s : State) (p : Nat),
    p < 2 →
    s.linksRun = true →
    s.ethUp p = false →
    s.cap.egress.length = 2 →
    ∃ t, exec (.ethLinkUp p) s = .next t ∧
      t.ethUp p = true ∧ t.egressQueue p = [] ∧
      t.cap.sent = s.cap.sent ++ (s.egressQueue p).map (fun x => (p, x.bytes)) ∧
      t.get (Reg.CAP_ETH_EGRESS.egress_sent p) = min (s.get (Reg.CAP_ETH_EGRESS.egress_sent p) + (s.egressQueue p).length) 65535 ∧
      s.only t [.fld (Reg.CAP_ETH_MAC_HI.link_up p), .fld (Reg.CAP_ETH_EGRESS.egress_sent p), .part .cap]) ∧
  (∀ (s : State) (p : Nat),
    p < 2 →
    s.ethUp p = true →
    s.cap.egress.length = 2 →
    ∃ t, exec (.ethLinkDown p false) s = .next t ∧
      t.ethUp p = false ∧ t.cap.sent = s.cap.sent ∧
      (s.get (Reg.CAP_ETH_HOLD.hold_time p) = 0 → t.egressQueue p = [] ∧ t.get (Reg.CAP_ETH_EGRESS.egress_dropped p) = min (s.get (Reg.CAP_ETH_EGRESS.egress_dropped p) + (s.egressQueue p).length) 65535) ∧
      (s.get (Reg.CAP_ETH_HOLD.hold_time p) ≠ 0 → t.cap = s.cap) ∧
      s.only t [.fld (Reg.CAP_ETH_MAC_HI.link_up p), .fld (Reg.CAP_ETH_EGRESS.egress_dropped p), .part .cap]) ∧
  (∀ (s : State) (p : Nat),
    p < 2 →
    s.linksRun = false →
    ∃ t, exec (.ethLinkUp p) s = .next t ∧
      s.only t []) ∧
  (∀ (s : State) (p : Nat) (b : List Byte) (pre post : List (Nat × List Byte)),
    p < 2 →
    s.ethUp p = true →
    s.cap.egress.length = 2 →
    s.cap.sent = pre ++ (p, b) :: post →
    (∀ x ∈ post, x.1 ≠ p) →
    s.get (Reg.CAP_ETH_HOLD.hold_time p) ≠ 0 →
    s.get (Reg.CAP_ETH_EGRESS.egress_sent p) ≠ 0 →
    ∃ t, exec (.ethLinkDown p true) s = .next t ∧
      t.egressQueue p = [⟨b, s.cap.sentSince.getD p 0⟩] ∧ t.cap.sent = pre ++ post ∧
      t.get (Reg.CAP_ETH_EGRESS.egress_sent p) + 1 = s.get (Reg.CAP_ETH_EGRESS.egress_sent p) ∧
      s.only t [.fld (Reg.CAP_ETH_MAC_HI.link_up p), .fld (Reg.CAP_ETH_EGRESS.egress_sent p), .part .cap]) ∧
  (∀ (s : State) (p : Nat) (x : EgressPkt) (rest : List EgressPkt),
    p < 2 →
    s.ethUp p = false →
    s.cap.egress.length = 2 →
    s.egressQueue p = x :: rest →
    ∃ t, exec (.egressHoldExpiry p) s = .next t ∧
      t.egressQueue p = rest ∧ t.get (Reg.CAP_ETH_EGRESS.egress_dropped p) = min (s.get (Reg.CAP_ETH_EGRESS.egress_dropped p) + 1) 65535 ∧
      t.egressQueue (1 - p) = s.egressQueue (1 - p) ∧ t.cap.sent = s.cap.sent ∧
      s.only t [.fld (Reg.CAP_ETH_EGRESS.egress_dropped p), .part .cap])

/-- A step takes the first waiting command and is that command's effect on the state with the rest of the queue. The second clause is the model's own choice (log 4): with no command waiting a nanosecond passes, one trace record drains (15 R412), a Recess entry may reach its commit point (05 R122), and PSH2 fills the GP link (01 R11, R12); no command comes to wait, and but for that commit point no register outside DBG is written. Model's own readings and choices it may rest on, in notes/assumptions: DESIGN CHOICE 4, 6. -/
def Obligations.StepRunsTheFrontCommand : Prop :=
  (∀ (s : State) (c : Instr) (rest : List Instr), s.pending = c :: rest → step s = exec c (s.withPending rest)) ∧
  ∀ s : State, s.pending = [] → ∃ t, step s = .next t ∧ t.now = s.now + 1 ∧ t.pending = [] ∧
    (s.service ≠ svcEntering ∨ s.now + 1 < s.svc.commitAt → ∀ off, off < 0xD0000 → t.word off = s.word off)

/-- Every command completes, in every state, once the function, ring, port, unit, core or vector it names exists (00_scope.md: 64 rings, 4 ports, 101 ledger units, 9 functions); a command that names another stops with noSuchUnit. Which indices each command may name is WellFormed.lean. Model's own readings and choices it may rest on, in notes/assumptions: DESIGN CHOICE 7. -/
def Obligations.CommandsCompleteWhereTheirUnitsExist : Prop :=
  ∀ (c : Instr) (s : State),
    (c.wf = true → ∃ t, exec c s = .next t ∧ t.pending = s.pending) ∧
    (c.wf = false → exec c s = .fault .noSuchUnit)

/-- The invariant of every step, from every state that meets it: the stores stay in canonical form, so that equal contents are equal data, and of the waiting commands exactly the first is taken. It is a property of the model's data (log 5), over the storage that 00 R1, 03 R80, 01 R423 and 13 R348 give the module. Model's own readings and choices it may rest on, in notes/assumptions: DESIGN CHOICE 5; DEDUCED 94. -/
def Obligations.EveryStepKeepsTheCanonicalForm : Prop :=
  ∀ s t : State, s.Inv → step s = .next t → t.Inv ∧ t.pending = s.pending.tail

/-- The state after reset meets the invariant, and the words of Tables 16-5 and 16-6 whose value no firmware, fuse or pin gives read the table's value (16 R426). That no command waits and that the memories list nothing is the model's choice (log 5). Model's own readings and choices it may rest on, in notes/assumptions: DESIGN CHOICE 1, 5, 122. -/
def Obligations.ResetIsCanonicalAndReadsTheTables : Prop :=
  State.reset.Inv ∧ State.reset.pending = [] ∧ State.reset.dram = [] ∧ State.reset.nor = [] ∧
  ∀ r ∈ resetListed, ∀ i, i < r.2.2.1 → State.reset.word (r.1 + r.2.1 * i) = r.2.2.2

/-- PSH2_POWER_ON (16 R427): from every state, the staging copy of each path holds the slot-safe rules of Table 16-7 and the live table equals it. -/
def Obligations.Psh2StartsWithTheSlotSafeRules : Prop :=
  ∀ s : State, ∃ t, exec .psh2PowerOn s = .next t ∧
    ∀ r ∈ slotSafeRules, t.staging .bar0 r.1 = r.2 ∧ t.staging .pmbus r.1 = r.2 ∧ Store.read resetWord t.brk.live r.1 = r.2
end

