-- ==== Sys2Proof/Laws/State.lean ====
section
/-!
SUPPORT. Laws/State.lean: what each field reads after each update of one component.
-/
namespace Sys2Proof.Machine

open Sys2Proof

variable (s : State)

/-! Replacing `regs`. -/

@[simp] theorem State.withRegs_regs (v) : (s.withRegs v).regs = v := rfl
@[simp] theorem State.withRegs_mirror (v) : (s.withRegs v).mirror = s.mirror := rfl
@[simp] theorem State.withRegs_latch (v) : (s.withRegs v).latch = s.latch := rfl
@[simp] theorem State.withRegs_hiStage (v) : (s.withRegs v).hiStage = s.hiStage := rfl
@[simp] theorem State.withRegs_lastRead (v) : (s.withRegs v).lastRead = s.lastRead := rfl
@[simp] theorem State.withRegs_now (v) : (s.withRegs v).now = s.now := rfl
@[simp] theorem State.withRegs_coldAt (v) : (s.withRegs v).coldAt = s.coldAt := rfl
@[simp] theorem State.withRegs_fresh (v) : (s.withRegs v).fresh = s.fresh := rfl
@[simp] theorem State.withRegs_slotStraps (v) : (s.withRegs v).slotStraps = s.slotStraps := rfl
@[simp] theorem State.withRegs_host (v) : (s.withRegs v).host = s.host := rfl
@[simp] theorem State.withRegs_gpPsh (v) : (s.withRegs v).gpPsh = s.gpPsh := rfl
@[simp] theorem State.withRegs_gpGld (v) : (s.withRegs v).gpGld = s.gpGld := rfl
@[simp] theorem State.withRegs_crossHeld (v) : (s.withRegs v).crossHeld = s.crossHeld := rfl
@[simp] theorem State.withRegs_svc (v) : (s.withRegs v).svc = s.svc := rfl
@[simp] theorem State.withRegs_brk (v) : (s.withRegs v).brk = s.brk := rfl
@[simp] theorem State.withRegs_meter (v) : (s.withRegs v).meter = s.meter := rfl
@[simp] theorem State.withRegs_pmb (v) : (s.withRegs v).pmb = s.pmb := rfl
@[simp] theorem State.withRegs_card (v) : (s.withRegs v).card = s.card := rfl
@[simp] theorem State.withRegs_mgmt (v) : (s.withRegs v).mgmt = s.mgmt := rfl
@[simp] theorem State.withRegs_thermal (v) : (s.withRegs v).thermal = s.thermal := rfl
@[simp] theorem State.withRegs_sec (v) : (s.withRegs v).sec = s.sec := rfl
@[simp] theorem State.withRegs_dbg (v) : (s.withRegs v).dbg = s.dbg := rfl
@[simp] theorem State.withRegs_fab (v) : (s.withRegs v).fab = s.fab := rfl
@[simp] theorem State.withRegs_pass (v) : (s.withRegs v).pass = s.pass := rfl
@[simp] theorem State.withRegs_cap (v) : (s.withRegs v).cap = s.cap := rfl
@[simp] theorem State.withRegs_akg (v) : (s.withRegs v).akg = s.akg := rfl
@[simp] theorem State.withRegs_dram (v) : (s.withRegs v).dram = s.dram := rfl
@[simp] theorem State.withRegs_dramEra (v) : (s.withRegs v).dramEra = s.dramEra := rfl
@[simp] theorem State.withRegs_nor (v) : (s.withRegs v).nor = s.nor := rfl
@[simp] theorem State.withRegs_pending (v) : (s.withRegs v).pending = s.pending := rfl

/-! Replacing `mirror`. -/

@[simp] theorem State.withMirror_regs (v) : (s.withMirror v).regs = s.regs := rfl
@[simp] theorem State.withMirror_mirror (v) : (s.withMirror v).mirror = v := rfl
@[simp] theorem State.withMirror_latch (v) : (s.withMirror v).latch = s.latch := rfl
@[simp] theorem State.withMirror_hiStage (v) : (s.withMirror v).hiStage = s.hiStage := rfl
@[simp] theorem State.withMirror_lastRead (v) : (s.withMirror v).lastRead = s.lastRead := rfl
@[simp] theorem State.withMirror_now (v) : (s.withMirror v).now = s.now := rfl
@[simp] theorem State.withMirror_coldAt (v) : (s.withMirror v).coldAt = s.coldAt := rfl
@[simp] theorem State.withMirror_fresh (v) : (s.withMirror v).fresh = s.fresh := rfl
@[simp] theorem State.withMirror_slotStraps (v) : (s.withMirror v).slotStraps = s.slotStraps := rfl
@[simp] theorem State.withMirror_host (v) : (s.withMirror v).host = s.host := rfl
@[simp] theorem State.withMirror_gpPsh (v) : (s.withMirror v).gpPsh = s.gpPsh := rfl
@[simp] theorem State.withMirror_gpGld (v) : (s.withMirror v).gpGld = s.gpGld := rfl
@[simp] theorem State.withMirror_crossHeld (v) : (s.withMirror v).crossHeld = s.crossHeld := rfl
@[simp] theorem State.withMirror_svc (v) : (s.withMirror v).svc = s.svc := rfl
@[simp] theorem State.withMirror_brk (v) : (s.withMirror v).brk = s.brk := rfl
@[simp] theorem State.withMirror_meter (v) : (s.withMirror v).meter = s.meter := rfl
@[simp] theorem State.withMirror_pmb (v) : (s.withMirror v).pmb = s.pmb := rfl
@[simp] theorem State.withMirror_card (v) : (s.withMirror v).card = s.card := rfl
@[simp] theorem State.withMirror_mgmt (v) : (s.withMirror v).mgmt = s.mgmt := rfl
@[simp] theorem State.withMirror_thermal (v) : (s.withMirror v).thermal = s.thermal := rfl
@[simp] theorem State.withMirror_sec (v) : (s.withMirror v).sec = s.sec := rfl
@[simp] theorem State.withMirror_dbg (v) : (s.withMirror v).dbg = s.dbg := rfl
@[simp] theorem State.withMirror_fab (v) : (s.withMirror v).fab = s.fab := rfl
@[simp] theorem State.withMirror_pass (v) : (s.withMirror v).pass = s.pass := rfl
@[simp] theorem State.withMirror_cap (v) : (s.withMirror v).cap = s.cap := rfl
@[simp] theorem State.withMirror_akg (v) : (s.withMirror v).akg = s.akg := rfl
@[simp] theorem State.withMirror_dram (v) : (s.withMirror v).dram = s.dram := rfl
@[simp] theorem State.withMirror_dramEra (v) : (s.withMirror v).dramEra = s.dramEra := rfl
@[simp] theorem State.withMirror_nor (v) : (s.withMirror v).nor = s.nor := rfl
@[simp] theorem State.withMirror_pending (v) : (s.withMirror v).pending = s.pending := rfl

/-! Replacing `latch`. -/

@[simp] theorem State.withLatch_regs (v) : (s.withLatch v).regs = s.regs := rfl
@[simp] theorem State.withLatch_mirror (v) : (s.withLatch v).mirror = s.mirror := rfl
@[simp] theorem State.withLatch_latch (v) : (s.withLatch v).latch = v := rfl
@[simp] theorem State.withLatch_hiStage (v) : (s.withLatch v).hiStage = s.hiStage := rfl
@[simp] theorem State.withLatch_lastRead (v) : (s.withLatch v).lastRead = s.lastRead := rfl
@[simp] theorem State.withLatch_now (v) : (s.withLatch v).now = s.now := rfl
@[simp] theorem State.withLatch_coldAt (v) : (s.withLatch v).coldAt = s.coldAt := rfl
@[simp] theorem State.withLatch_fresh (v) : (s.withLatch v).fresh = s.fresh := rfl
@[simp] theorem State.withLatch_slotStraps (v) : (s.withLatch v).slotStraps = s.slotStraps := rfl
@[simp] theorem State.withLatch_host (v) : (s.withLatch v).host = s.host := rfl
@[simp] theorem State.withLatch_gpPsh (v) : (s.withLatch v).gpPsh = s.gpPsh := rfl
@[simp] theorem State.withLatch_gpGld (v) : (s.withLatch v).gpGld = s.gpGld := rfl
@[simp] theorem State.withLatch_crossHeld (v) : (s.withLatch v).crossHeld = s.crossHeld := rfl
@[simp] theorem State.withLatch_svc (v) : (s.withLatch v).svc = s.svc := rfl
@[simp] theorem State.withLatch_brk (v) : (s.withLatch v).brk = s.brk := rfl
@[simp] theorem State.withLatch_meter (v) : (s.withLatch v).meter = s.meter := rfl
@[simp] theorem State.withLatch_pmb (v) : (s.withLatch v).pmb = s.pmb := rfl
@[simp] theorem State.withLatch_card (v) : (s.withLatch v).card = s.card := rfl
@[simp] theorem State.withLatch_mgmt (v) : (s.withLatch v).mgmt = s.mgmt := rfl
@[simp] theorem State.withLatch_thermal (v) : (s.withLatch v).thermal = s.thermal := rfl
@[simp] theorem State.withLatch_sec (v) : (s.withLatch v).sec = s.sec := rfl
@[simp] theorem State.withLatch_dbg (v) : (s.withLatch v).dbg = s.dbg := rfl
@[simp] theorem State.withLatch_fab (v) : (s.withLatch v).fab = s.fab := rfl
@[simp] theorem State.withLatch_pass (v) : (s.withLatch v).pass = s.pass := rfl
@[simp] theorem State.withLatch_cap (v) : (s.withLatch v).cap = s.cap := rfl
@[simp] theorem State.withLatch_akg (v) : (s.withLatch v).akg = s.akg := rfl
@[simp] theorem State.withLatch_dram (v) : (s.withLatch v).dram = s.dram := rfl
@[simp] theorem State.withLatch_dramEra (v) : (s.withLatch v).dramEra = s.dramEra := rfl
@[simp] theorem State.withLatch_nor (v) : (s.withLatch v).nor = s.nor := rfl
@[simp] theorem State.withLatch_pending (v) : (s.withLatch v).pending = s.pending := rfl

/-! Replacing `hiStage`. -/

@[simp] theorem State.withHiStage_regs (v) : (s.withHiStage v).regs = s.regs := rfl
@[simp] theorem State.withHiStage_mirror (v) : (s.withHiStage v).mirror = s.mirror := rfl
@[simp] theorem State.withHiStage_latch (v) : (s.withHiStage v).latch = s.latch := rfl
@[simp] theorem State.withHiStage_hiStage (v) : (s.withHiStage v).hiStage = v := rfl
@[simp] theorem State.withHiStage_lastRead (v) : (s.withHiStage v).lastRead = s.lastRead := rfl
@[simp] theorem State.withHiStage_now (v) : (s.withHiStage v).now = s.now := rfl
@[simp] theorem State.withHiStage_coldAt (v) : (s.withHiStage v).coldAt = s.coldAt := rfl
@[simp] theorem State.withHiStage_fresh (v) : (s.withHiStage v).fresh = s.fresh := rfl
@[simp] theorem State.withHiStage_slotStraps (v) : (s.withHiStage v).slotStraps = s.slotStraps := rfl
@[simp] theorem State.withHiStage_host (v) : (s.withHiStage v).host = s.host := rfl
@[simp] theorem State.withHiStage_gpPsh (v) : (s.withHiStage v).gpPsh = s.gpPsh := rfl
@[simp] theorem State.withHiStage_gpGld (v) : (s.withHiStage v).gpGld = s.gpGld := rfl
@[simp] theorem State.withHiStage_crossHeld (v) : (s.withHiStage v).crossHeld = s.crossHeld := rfl
@[simp] theorem State.withHiStage_svc (v) : (s.withHiStage v).svc = s.svc := rfl
@[simp] theorem State.withHiStage_brk (v) : (s.withHiStage v).brk = s.brk := rfl
@[simp] theorem State.withHiStage_meter (v) : (s.withHiStage v).meter = s.meter := rfl
@[simp] theorem State.withHiStage_pmb (v) : (s.withHiStage v).pmb = s.pmb := rfl
@[simp] theorem State.withHiStage_card (v) : (s.withHiStage v).card = s.card := rfl
@[simp] theorem State.withHiStage_mgmt (v) : (s.withHiStage v).mgmt = s.mgmt := rfl
@[simp] theorem State.withHiStage_thermal (v) : (s.withHiStage v).thermal = s.thermal := rfl
@[simp] theorem State.withHiStage_sec (v) : (s.withHiStage v).sec = s.sec := rfl
@[simp] theorem State.withHiStage_dbg (v) : (s.withHiStage v).dbg = s.dbg := rfl
@[simp] theorem State.withHiStage_fab (v) : (s.withHiStage v).fab = s.fab := rfl
@[simp] theorem State.withHiStage_pass (v) : (s.withHiStage v).pass = s.pass := rfl
@[simp] theorem State.withHiStage_cap (v) : (s.withHiStage v).cap = s.cap := rfl
@[simp] theorem State.withHiStage_akg (v) : (s.withHiStage v).akg = s.akg := rfl
@[simp] theorem State.withHiStage_dram (v) : (s.withHiStage v).dram = s.dram := rfl
@[simp] theorem State.withHiStage_dramEra (v) : (s.withHiStage v).dramEra = s.dramEra := rfl
@[simp] theorem State.withHiStage_nor (v) : (s.withHiStage v).nor = s.nor := rfl
@[simp] theorem State.withHiStage_pending (v) : (s.withHiStage v).pending = s.pending := rfl

/-! Replacing `lastRead`. -/

@[simp] theorem State.withLastRead_regs (v) : (s.withLastRead v).regs = s.regs := rfl
@[simp] theorem State.withLastRead_mirror (v) : (s.withLastRead v).mirror = s.mirror := rfl
@[simp] theorem State.withLastRead_latch (v) : (s.withLastRead v).latch = s.latch := rfl
@[simp] theorem State.withLastRead_hiStage (v) : (s.withLastRead v).hiStage = s.hiStage := rfl
@[simp] theorem State.withLastRead_lastRead (v) : (s.withLastRead v).lastRead = v := rfl
@[simp] theorem State.withLastRead_now (v) : (s.withLastRead v).now = s.now := rfl
@[simp] theorem State.withLastRead_coldAt (v) : (s.withLastRead v).coldAt = s.coldAt := rfl
@[simp] theorem State.withLastRead_fresh (v) : (s.withLastRead v).fresh = s.fresh := rfl
@[simp] theorem State.withLastRead_slotStraps (v) : (s.withLastRead v).slotStraps = s.slotStraps := rfl
@[simp] theorem State.withLastRead_host (v) : (s.withLastRead v).host = s.host := rfl
@[simp] theorem State.withLastRead_gpPsh (v) : (s.withLastRead v).gpPsh = s.gpPsh := rfl
@[simp] theorem State.withLastRead_gpGld (v) : (s.withLastRead v).gpGld = s.gpGld := rfl
@[simp] theorem State.withLastRead_crossHeld (v) : (s.withLastRead v).crossHeld = s.crossHeld := rfl
@[simp] theorem State.withLastRead_svc (v) : (s.withLastRead v).svc = s.svc := rfl
@[simp] theorem State.withLastRead_brk (v) : (s.withLastRead v).brk = s.brk := rfl
@[simp] theorem State.withLastRead_meter (v) : (s.withLastRead v).meter = s.meter := rfl
@[simp] theorem State.withLastRead_pmb (v) : (s.withLastRead v).pmb = s.pmb := rfl
@[simp] theorem State.withLastRead_card (v) : (s.withLastRead v).card = s.card := rfl
@[simp] theorem State.withLastRead_mgmt (v) : (s.withLastRead v).mgmt = s.mgmt := rfl
@[simp] theorem State.withLastRead_thermal (v) : (s.withLastRead v).thermal = s.thermal := rfl
@[simp] theorem State.withLastRead_sec (v) : (s.withLastRead v).sec = s.sec := rfl
@[simp] theorem State.withLastRead_dbg (v) : (s.withLastRead v).dbg = s.dbg := rfl
@[simp] theorem State.withLastRead_fab (v) : (s.withLastRead v).fab = s.fab := rfl
@[simp] theorem State.withLastRead_pass (v) : (s.withLastRead v).pass = s.pass := rfl
@[simp] theorem State.withLastRead_cap (v) : (s.withLastRead v).cap = s.cap := rfl
@[simp] theorem State.withLastRead_akg (v) : (s.withLastRead v).akg = s.akg := rfl
@[simp] theorem State.withLastRead_dram (v) : (s.withLastRead v).dram = s.dram := rfl
@[simp] theorem State.withLastRead_dramEra (v) : (s.withLastRead v).dramEra = s.dramEra := rfl
@[simp] theorem State.withLastRead_nor (v) : (s.withLastRead v).nor = s.nor := rfl
@[simp] theorem State.withLastRead_pending (v) : (s.withLastRead v).pending = s.pending := rfl

/-! Replacing `now`. -/

@[simp] theorem State.withNow_regs (v) : (s.withNow v).regs = s.regs := rfl
@[simp] theorem State.withNow_mirror (v) : (s.withNow v).mirror = s.mirror := rfl
@[simp] theorem State.withNow_latch (v) : (s.withNow v).latch = s.latch := rfl
@[simp] theorem State.withNow_hiStage (v) : (s.withNow v).hiStage = s.hiStage := rfl
@[simp] theorem State.withNow_lastRead (v) : (s.withNow v).lastRead = s.lastRead := rfl
@[simp] theorem State.withNow_now (v) : (s.withNow v).now = v := rfl
@[simp] theorem State.withNow_coldAt (v) : (s.withNow v).coldAt = s.coldAt := rfl
@[simp] theorem State.withNow_fresh (v) : (s.withNow v).fresh = s.fresh := rfl
@[simp] theorem State.withNow_slotStraps (v) : (s.withNow v).slotStraps = s.slotStraps := rfl
@[simp] theorem State.withNow_host (v) : (s.withNow v).host = s.host := rfl
@[simp] theorem State.withNow_gpPsh (v) : (s.withNow v).gpPsh = s.gpPsh := rfl
@[simp] theorem State.withNow_gpGld (v) : (s.withNow v).gpGld = s.gpGld := rfl
@[simp] theorem State.withNow_crossHeld (v) : (s.withNow v).crossHeld = s.crossHeld := rfl
@[simp] theorem State.withNow_svc (v) : (s.withNow v).svc = s.svc := rfl
@[simp] theorem State.withNow_brk (v) : (s.withNow v).brk = s.brk := rfl
@[simp] theorem State.withNow_meter (v) : (s.withNow v).meter = s.meter := rfl
@[simp] theorem State.withNow_pmb (v) : (s.withNow v).pmb = s.pmb := rfl
@[simp] theorem State.withNow_card (v) : (s.withNow v).card = s.card := rfl
@[simp] theorem State.withNow_mgmt (v) : (s.withNow v).mgmt = s.mgmt := rfl
@[simp] theorem State.withNow_thermal (v) : (s.withNow v).thermal = s.thermal := rfl
@[simp] theorem State.withNow_sec (v) : (s.withNow v).sec = s.sec := rfl
@[simp] theorem State.withNow_dbg (v) : (s.withNow v).dbg = s.dbg := rfl
@[simp] theorem State.withNow_fab (v) : (s.withNow v).fab = s.fab := rfl
@[simp] theorem State.withNow_pass (v) : (s.withNow v).pass = s.pass := rfl
@[simp] theorem State.withNow_cap (v) : (s.withNow v).cap = s.cap := rfl
@[simp] theorem State.withNow_akg (v) : (s.withNow v).akg = s.akg := rfl
@[simp] theorem State.withNow_dram (v) : (s.withNow v).dram = s.dram := rfl
@[simp] theorem State.withNow_dramEra (v) : (s.withNow v).dramEra = s.dramEra := rfl
@[simp] theorem State.withNow_nor (v) : (s.withNow v).nor = s.nor := rfl
@[simp] theorem State.withNow_pending (v) : (s.withNow v).pending = s.pending := rfl

/-! Replacing `coldAt`. -/

@[simp] theorem State.withColdAt_regs (v) : (s.withColdAt v).regs = s.regs := rfl
@[simp] theorem State.withColdAt_mirror (v) : (s.withColdAt v).mirror = s.mirror := rfl
@[simp] theorem State.withColdAt_latch (v) : (s.withColdAt v).latch = s.latch := rfl
@[simp] theorem State.withColdAt_hiStage (v) : (s.withColdAt v).hiStage = s.hiStage := rfl
@[simp] theorem State.withColdAt_lastRead (v) : (s.withColdAt v).lastRead = s.lastRead := rfl
@[simp] theorem State.withColdAt_now (v) : (s.withColdAt v).now = s.now := rfl
@[simp] theorem State.withColdAt_coldAt (v) : (s.withColdAt v).coldAt = v := rfl
@[simp] theorem State.withColdAt_fresh (v) : (s.withColdAt v).fresh = s.fresh := rfl
@[simp] theorem State.withColdAt_slotStraps (v) : (s.withColdAt v).slotStraps = s.slotStraps := rfl
@[simp] theorem State.withColdAt_host (v) : (s.withColdAt v).host = s.host := rfl
@[simp] theorem State.withColdAt_gpPsh (v) : (s.withColdAt v).gpPsh = s.gpPsh := rfl
@[simp] theorem State.withColdAt_gpGld (v) : (s.withColdAt v).gpGld = s.gpGld := rfl
@[simp] theorem State.withColdAt_crossHeld (v) : (s.withColdAt v).crossHeld = s.crossHeld := rfl
@[simp] theorem State.withColdAt_svc (v) : (s.withColdAt v).svc = s.svc := rfl
@[simp] theorem State.withColdAt_brk (v) : (s.withColdAt v).brk = s.brk := rfl
@[simp] theorem State.withColdAt_meter (v) : (s.withColdAt v).meter = s.meter := rfl
@[simp] theorem State.withColdAt_pmb (v) : (s.withColdAt v).pmb = s.pmb := rfl
@[simp] theorem State.withColdAt_card (v) : (s.withColdAt v).card = s.card := rfl
@[simp] theorem State.withColdAt_mgmt (v) : (s.withColdAt v).mgmt = s.mgmt := rfl
@[simp] theorem State.withColdAt_thermal (v) : (s.withColdAt v).thermal = s.thermal := rfl
@[simp] theorem State.withColdAt_sec (v) : (s.withColdAt v).sec = s.sec := rfl
@[simp] theorem State.withColdAt_dbg (v) : (s.withColdAt v).dbg = s.dbg := rfl
@[simp] theorem State.withColdAt_fab (v) : (s.withColdAt v).fab = s.fab := rfl
@[simp] theorem State.withColdAt_pass (v) : (s.withColdAt v).pass = s.pass := rfl
@[simp] theorem State.withColdAt_cap (v) : (s.withColdAt v).cap = s.cap := rfl
@[simp] theorem State.withColdAt_akg (v) : (s.withColdAt v).akg = s.akg := rfl
@[simp] theorem State.withColdAt_dram (v) : (s.withColdAt v).dram = s.dram := rfl
@[simp] theorem State.withColdAt_dramEra (v) : (s.withColdAt v).dramEra = s.dramEra := rfl
@[simp] theorem State.withColdAt_nor (v) : (s.withColdAt v).nor = s.nor := rfl
@[simp] theorem State.withColdAt_pending (v) : (s.withColdAt v).pending = s.pending := rfl

/-! Replacing `fresh`. -/

@[simp] theorem State.withFresh_regs (v) : (s.withFresh v).regs = s.regs := rfl
@[simp] theorem State.withFresh_mirror (v) : (s.withFresh v).mirror = s.mirror := rfl
@[simp] theorem State.withFresh_latch (v) : (s.withFresh v).latch = s.latch := rfl
@[simp] theorem State.withFresh_hiStage (v) : (s.withFresh v).hiStage = s.hiStage := rfl
@[simp] theorem State.withFresh_lastRead (v) : (s.withFresh v).lastRead = s.lastRead := rfl
@[simp] theorem State.withFresh_now (v) : (s.withFresh v).now = s.now := rfl
@[simp] theorem State.withFresh_coldAt (v) : (s.withFresh v).coldAt = s.coldAt := rfl
@[simp] theorem State.withFresh_fresh (v) : (s.withFresh v).fresh = v := rfl
@[simp] theorem State.withFresh_slotStraps (v) : (s.withFresh v).slotStraps = s.slotStraps := rfl
@[simp] theorem State.withFresh_host (v) : (s.withFresh v).host = s.host := rfl
@[simp] theorem State.withFresh_gpPsh (v) : (s.withFresh v).gpPsh = s.gpPsh := rfl
@[simp] theorem State.withFresh_gpGld (v) : (s.withFresh v).gpGld = s.gpGld := rfl
@[simp] theorem State.withFresh_crossHeld (v) : (s.withFresh v).crossHeld = s.crossHeld := rfl
@[simp] theorem State.withFresh_svc (v) : (s.withFresh v).svc = s.svc := rfl
@[simp] theorem State.withFresh_brk (v) : (s.withFresh v).brk = s.brk := rfl
@[simp] theorem State.withFresh_meter (v) : (s.withFresh v).meter = s.meter := rfl
@[simp] theorem State.withFresh_pmb (v) : (s.withFresh v).pmb = s.pmb := rfl
@[simp] theorem State.withFresh_card (v) : (s.withFresh v).card = s.card := rfl
@[simp] theorem State.withFresh_mgmt (v) : (s.withFresh v).mgmt = s.mgmt := rfl
@[simp] theorem State.withFresh_thermal (v) : (s.withFresh v).thermal = s.thermal := rfl
@[simp] theorem State.withFresh_sec (v) : (s.withFresh v).sec = s.sec := rfl
@[simp] theorem State.withFresh_dbg (v) : (s.withFresh v).dbg = s.dbg := rfl
@[simp] theorem State.withFresh_fab (v) : (s.withFresh v).fab = s.fab := rfl
@[simp] theorem State.withFresh_pass (v) : (s.withFresh v).pass = s.pass := rfl
@[simp] theorem State.withFresh_cap (v) : (s.withFresh v).cap = s.cap := rfl
@[simp] theorem State.withFresh_akg (v) : (s.withFresh v).akg = s.akg := rfl
@[simp] theorem State.withFresh_dram (v) : (s.withFresh v).dram = s.dram := rfl
@[simp] theorem State.withFresh_dramEra (v) : (s.withFresh v).dramEra = s.dramEra := rfl
@[simp] theorem State.withFresh_nor (v) : (s.withFresh v).nor = s.nor := rfl
@[simp] theorem State.withFresh_pending (v) : (s.withFresh v).pending = s.pending := rfl

/-! Replacing `slotStraps`. -/

@[simp] theorem State.withSlotStraps_regs (v) : (s.withSlotStraps v).regs = s.regs := rfl
@[simp] theorem State.withSlotStraps_mirror (v) : (s.withSlotStraps v).mirror = s.mirror := rfl
@[simp] theorem State.withSlotStraps_latch (v) : (s.withSlotStraps v).latch = s.latch := rfl
@[simp] theorem State.withSlotStraps_hiStage (v) : (s.withSlotStraps v).hiStage = s.hiStage := rfl
@[simp] theorem State.withSlotStraps_lastRead (v) : (s.withSlotStraps v).lastRead = s.lastRead := rfl
@[simp] theorem State.withSlotStraps_now (v) : (s.withSlotStraps v).now = s.now := rfl
@[simp] theorem State.withSlotStraps_coldAt (v) : (s.withSlotStraps v).coldAt = s.coldAt := rfl
@[simp] theorem State.withSlotStraps_fresh (v) : (s.withSlotStraps v).fresh = s.fresh := rfl
@[simp] theorem State.withSlotStraps_slotStraps (v) : (s.withSlotStraps v).slotStraps = v := rfl
@[simp] theorem State.withSlotStraps_host (v) : (s.withSlotStraps v).host = s.host := rfl
@[simp] theorem State.withSlotStraps_gpPsh (v) : (s.withSlotStraps v).gpPsh = s.gpPsh := rfl
@[simp] theorem State.withSlotStraps_gpGld (v) : (s.withSlotStraps v).gpGld = s.gpGld := rfl
@[simp] theorem State.withSlotStraps_crossHeld (v) : (s.withSlotStraps v).crossHeld = s.crossHeld := rfl
@[simp] theorem State.withSlotStraps_svc (v) : (s.withSlotStraps v).svc = s.svc := rfl
@[simp] theorem State.withSlotStraps_brk (v) : (s.withSlotStraps v).brk = s.brk := rfl
@[simp] theorem State.withSlotStraps_meter (v) : (s.withSlotStraps v).meter = s.meter := rfl
@[simp] theorem State.withSlotStraps_pmb (v) : (s.withSlotStraps v).pmb = s.pmb := rfl
@[simp] theorem State.withSlotStraps_card (v) : (s.withSlotStraps v).card = s.card := rfl
@[simp] theorem State.withSlotStraps_mgmt (v) : (s.withSlotStraps v).mgmt = s.mgmt := rfl
@[simp] theorem State.withSlotStraps_thermal (v) : (s.withSlotStraps v).thermal = s.thermal := rfl
@[simp] theorem State.withSlotStraps_sec (v) : (s.withSlotStraps v).sec = s.sec := rfl
@[simp] theorem State.withSlotStraps_dbg (v) : (s.withSlotStraps v).dbg = s.dbg := rfl
@[simp] theorem State.withSlotStraps_fab (v) : (s.withSlotStraps v).fab = s.fab := rfl
@[simp] theorem State.withSlotStraps_pass (v) : (s.withSlotStraps v).pass = s.pass := rfl
@[simp] theorem State.withSlotStraps_cap (v) : (s.withSlotStraps v).cap = s.cap := rfl
@[simp] theorem State.withSlotStraps_akg (v) : (s.withSlotStraps v).akg = s.akg := rfl
@[simp] theorem State.withSlotStraps_dram (v) : (s.withSlotStraps v).dram = s.dram := rfl
@[simp] theorem State.withSlotStraps_dramEra (v) : (s.withSlotStraps v).dramEra = s.dramEra := rfl
@[simp] theorem State.withSlotStraps_nor (v) : (s.withSlotStraps v).nor = s.nor := rfl
@[simp] theorem State.withSlotStraps_pending (v) : (s.withSlotStraps v).pending = s.pending := rfl

/-! Replacing `host`. -/

@[simp] theorem State.withHost_regs (v) : (s.withHost v).regs = s.regs := rfl
@[simp] theorem State.withHost_mirror (v) : (s.withHost v).mirror = s.mirror := rfl
@[simp] theorem State.withHost_latch (v) : (s.withHost v).latch = s.latch := rfl
@[simp] theorem State.withHost_hiStage (v) : (s.withHost v).hiStage = s.hiStage := rfl
@[simp] theorem State.withHost_lastRead (v) : (s.withHost v).lastRead = s.lastRead := rfl
@[simp] theorem State.withHost_now (v) : (s.withHost v).now = s.now := rfl
@[simp] theorem State.withHost_coldAt (v) : (s.withHost v).coldAt = s.coldAt := rfl
@[simp] theorem State.withHost_fresh (v) : (s.withHost v).fresh = s.fresh := rfl
@[simp] theorem State.withHost_slotStraps (v) : (s.withHost v).slotStraps = s.slotStraps := rfl
@[simp] theorem State.withHost_host (v) : (s.withHost v).host = v := rfl
@[simp] theorem State.withHost_gpPsh (v) : (s.withHost v).gpPsh = s.gpPsh := rfl
@[simp] theorem State.withHost_gpGld (v) : (s.withHost v).gpGld = s.gpGld := rfl
@[simp] theorem State.withHost_crossHeld (v) : (s.withHost v).crossHeld = s.crossHeld := rfl
@[simp] theorem State.withHost_svc (v) : (s.withHost v).svc = s.svc := rfl
@[simp] theorem State.withHost_brk (v) : (s.withHost v).brk = s.brk := rfl
@[simp] theorem State.withHost_meter (v) : (s.withHost v).meter = s.meter := rfl
@[simp] theorem State.withHost_pmb (v) : (s.withHost v).pmb = s.pmb := rfl
@[simp] theorem State.withHost_card (v) : (s.withHost v).card = s.card := rfl
@[simp] theorem State.withHost_mgmt (v) : (s.withHost v).mgmt = s.mgmt := rfl
@[simp] theorem State.withHost_thermal (v) : (s.withHost v).thermal = s.thermal := rfl
@[simp] theorem State.withHost_sec (v) : (s.withHost v).sec = s.sec := rfl
@[simp] theorem State.withHost_dbg (v) : (s.withHost v).dbg = s.dbg := rfl
@[simp] theorem State.withHost_fab (v) : (s.withHost v).fab = s.fab := rfl
@[simp] theorem State.withHost_pass (v) : (s.withHost v).pass = s.pass := rfl
@[simp] theorem State.withHost_cap (v) : (s.withHost v).cap = s.cap := rfl
@[simp] theorem State.withHost_akg (v) : (s.withHost v).akg = s.akg := rfl
@[simp] theorem State.withHost_dram (v) : (s.withHost v).dram = s.dram := rfl
@[simp] theorem State.withHost_dramEra (v) : (s.withHost v).dramEra = s.dramEra := rfl
@[simp] theorem State.withHost_nor (v) : (s.withHost v).nor = s.nor := rfl
@[simp] theorem State.withHost_pending (v) : (s.withHost v).pending = s.pending := rfl

/-! Replacing `gpPsh`. -/

@[simp] theorem State.withGpPsh_regs (v) : (s.withGpPsh v).regs = s.regs := rfl
@[simp] theorem State.withGpPsh_mirror (v) : (s.withGpPsh v).mirror = s.mirror := rfl
@[simp] theorem State.withGpPsh_latch (v) : (s.withGpPsh v).latch = s.latch := rfl
@[simp] theorem State.withGpPsh_hiStage (v) : (s.withGpPsh v).hiStage = s.hiStage := rfl
@[simp] theorem State.withGpPsh_lastRead (v) : (s.withGpPsh v).lastRead = s.lastRead := rfl
@[simp] theorem State.withGpPsh_now (v) : (s.withGpPsh v).now = s.now := rfl
@[simp] theorem State.withGpPsh_coldAt (v) : (s.withGpPsh v).coldAt = s.coldAt := rfl
@[simp] theorem State.withGpPsh_fresh (v) : (s.withGpPsh v).fresh = s.fresh := rfl
@[simp] theorem State.withGpPsh_slotStraps (v) : (s.withGpPsh v).slotStraps = s.slotStraps := rfl
@[simp] theorem State.withGpPsh_host (v) : (s.withGpPsh v).host = s.host := rfl
@[simp] theorem State.withGpPsh_gpPsh (v) : (s.withGpPsh v).gpPsh = v := rfl
@[simp] theorem State.withGpPsh_gpGld (v) : (s.withGpPsh v).gpGld = s.gpGld := rfl
@[simp] theorem State.withGpPsh_crossHeld (v) : (s.withGpPsh v).crossHeld = s.crossHeld := rfl
@[simp] theorem State.withGpPsh_svc (v) : (s.withGpPsh v).svc = s.svc := rfl
@[simp] theorem State.withGpPsh_brk (v) : (s.withGpPsh v).brk = s.brk := rfl
@[simp] theorem State.withGpPsh_meter (v) : (s.withGpPsh v).meter = s.meter := rfl
@[simp] theorem State.withGpPsh_pmb (v) : (s.withGpPsh v).pmb = s.pmb := rfl
@[simp] theorem State.withGpPsh_card (v) : (s.withGpPsh v).card = s.card := rfl
@[simp] theorem State.withGpPsh_mgmt (v) : (s.withGpPsh v).mgmt = s.mgmt := rfl
@[simp] theorem State.withGpPsh_thermal (v) : (s.withGpPsh v).thermal = s.thermal := rfl
@[simp] theorem State.withGpPsh_sec (v) : (s.withGpPsh v).sec = s.sec := rfl
@[simp] theorem State.withGpPsh_dbg (v) : (s.withGpPsh v).dbg = s.dbg := rfl
@[simp] theorem State.withGpPsh_fab (v) : (s.withGpPsh v).fab = s.fab := rfl
@[simp] theorem State.withGpPsh_pass (v) : (s.withGpPsh v).pass = s.pass := rfl
@[simp] theorem State.withGpPsh_cap (v) : (s.withGpPsh v).cap = s.cap := rfl
@[simp] theorem State.withGpPsh_akg (v) : (s.withGpPsh v).akg = s.akg := rfl
@[simp] theorem State.withGpPsh_dram (v) : (s.withGpPsh v).dram = s.dram := rfl
@[simp] theorem State.withGpPsh_dramEra (v) : (s.withGpPsh v).dramEra = s.dramEra := rfl
@[simp] theorem State.withGpPsh_nor (v) : (s.withGpPsh v).nor = s.nor := rfl
@[simp] theorem State.withGpPsh_pending (v) : (s.withGpPsh v).pending = s.pending := rfl

/-! Replacing `gpGld`. -/

@[simp] theorem State.withGpGld_regs (v) : (s.withGpGld v).regs = s.regs := rfl
@[simp] theorem State.withGpGld_mirror (v) : (s.withGpGld v).mirror = s.mirror := rfl
@[simp] theorem State.withGpGld_latch (v) : (s.withGpGld v).latch = s.latch := rfl
@[simp] theorem State.withGpGld_hiStage (v) : (s.withGpGld v).hiStage = s.hiStage := rfl
@[simp] theorem State.withGpGld_lastRead (v) : (s.withGpGld v).lastRead = s.lastRead := rfl
@[simp] theorem State.withGpGld_now (v) : (s.withGpGld v).now = s.now := rfl
@[simp] theorem State.withGpGld_coldAt (v) : (s.withGpGld v).coldAt = s.coldAt := rfl
@[simp] theorem State.withGpGld_fresh (v) : (s.withGpGld v).fresh = s.fresh := rfl
@[simp] theorem State.withGpGld_slotStraps (v) : (s.withGpGld v).slotStraps = s.slotStraps := rfl
@[simp] theorem State.withGpGld_host (v) : (s.withGpGld v).host = s.host := rfl
@[simp] theorem State.withGpGld_gpPsh (v) : (s.withGpGld v).gpPsh = s.gpPsh := rfl
@[simp] theorem State.withGpGld_gpGld (v) : (s.withGpGld v).gpGld = v := rfl
@[simp] theorem State.withGpGld_crossHeld (v) : (s.withGpGld v).crossHeld = s.crossHeld := rfl
@[simp] theorem State.withGpGld_svc (v) : (s.withGpGld v).svc = s.svc := rfl
@[simp] theorem State.withGpGld_brk (v) : (s.withGpGld v).brk = s.brk := rfl
@[simp] theorem State.withGpGld_meter (v) : (s.withGpGld v).meter = s.meter := rfl
@[simp] theorem State.withGpGld_pmb (v) : (s.withGpGld v).pmb = s.pmb := rfl
@[simp] theorem State.withGpGld_card (v) : (s.withGpGld v).card = s.card := rfl
@[simp] theorem State.withGpGld_mgmt (v) : (s.withGpGld v).mgmt = s.mgmt := rfl
@[simp] theorem State.withGpGld_thermal (v) : (s.withGpGld v).thermal = s.thermal := rfl
@[simp] theorem State.withGpGld_sec (v) : (s.withGpGld v).sec = s.sec := rfl
@[simp] theorem State.withGpGld_dbg (v) : (s.withGpGld v).dbg = s.dbg := rfl
@[simp] theorem State.withGpGld_fab (v) : (s.withGpGld v).fab = s.fab := rfl
@[simp] theorem State.withGpGld_pass (v) : (s.withGpGld v).pass = s.pass := rfl
@[simp] theorem State.withGpGld_cap (v) : (s.withGpGld v).cap = s.cap := rfl
@[simp] theorem State.withGpGld_akg (v) : (s.withGpGld v).akg = s.akg := rfl
@[simp] theorem State.withGpGld_dram (v) : (s.withGpGld v).dram = s.dram := rfl
@[simp] theorem State.withGpGld_dramEra (v) : (s.withGpGld v).dramEra = s.dramEra := rfl
@[simp] theorem State.withGpGld_nor (v) : (s.withGpGld v).nor = s.nor := rfl
@[simp] theorem State.withGpGld_pending (v) : (s.withGpGld v).pending = s.pending := rfl

/-! Replacing `crossHeld`. -/

@[simp] theorem State.withCrossHeld_regs (v) : (s.withCrossHeld v).regs = s.regs := rfl
@[simp] theorem State.withCrossHeld_mirror (v) : (s.withCrossHeld v).mirror = s.mirror := rfl
@[simp] theorem State.withCrossHeld_latch (v) : (s.withCrossHeld v).latch = s.latch := rfl
@[simp] theorem State.withCrossHeld_hiStage (v) : (s.withCrossHeld v).hiStage = s.hiStage := rfl
@[simp] theorem State.withCrossHeld_lastRead (v) : (s.withCrossHeld v).lastRead = s.lastRead := rfl
@[simp] theorem State.withCrossHeld_now (v) : (s.withCrossHeld v).now = s.now := rfl
@[simp] theorem State.withCrossHeld_coldAt (v) : (s.withCrossHeld v).coldAt = s.coldAt := rfl
@[simp] theorem State.withCrossHeld_fresh (v) : (s.withCrossHeld v).fresh = s.fresh := rfl
@[simp] theorem State.withCrossHeld_slotStraps (v) : (s.withCrossHeld v).slotStraps = s.slotStraps := rfl
@[simp] theorem State.withCrossHeld_host (v) : (s.withCrossHeld v).host = s.host := rfl
@[simp] theorem State.withCrossHeld_gpPsh (v) : (s.withCrossHeld v).gpPsh = s.gpPsh := rfl
@[simp] theorem State.withCrossHeld_gpGld (v) : (s.withCrossHeld v).gpGld = s.gpGld := rfl
@[simp] theorem State.withCrossHeld_crossHeld (v) : (s.withCrossHeld v).crossHeld = v := rfl
@[simp] theorem State.withCrossHeld_svc (v) : (s.withCrossHeld v).svc = s.svc := rfl
@[simp] theorem State.withCrossHeld_brk (v) : (s.withCrossHeld v).brk = s.brk := rfl
@[simp] theorem State.withCrossHeld_meter (v) : (s.withCrossHeld v).meter = s.meter := rfl
@[simp] theorem State.withCrossHeld_pmb (v) : (s.withCrossHeld v).pmb = s.pmb := rfl
@[simp] theorem State.withCrossHeld_card (v) : (s.withCrossHeld v).card = s.card := rfl
@[simp] theorem State.withCrossHeld_mgmt (v) : (s.withCrossHeld v).mgmt = s.mgmt := rfl
@[simp] theorem State.withCrossHeld_thermal (v) : (s.withCrossHeld v).thermal = s.thermal := rfl
@[simp] theorem State.withCrossHeld_sec (v) : (s.withCrossHeld v).sec = s.sec := rfl
@[simp] theorem State.withCrossHeld_dbg (v) : (s.withCrossHeld v).dbg = s.dbg := rfl
@[simp] theorem State.withCrossHeld_fab (v) : (s.withCrossHeld v).fab = s.fab := rfl
@[simp] theorem State.withCrossHeld_pass (v) : (s.withCrossHeld v).pass = s.pass := rfl
@[simp] theorem State.withCrossHeld_cap (v) : (s.withCrossHeld v).cap = s.cap := rfl
@[simp] theorem State.withCrossHeld_akg (v) : (s.withCrossHeld v).akg = s.akg := rfl
@[simp] theorem State.withCrossHeld_dram (v) : (s.withCrossHeld v).dram = s.dram := rfl
@[simp] theorem State.withCrossHeld_dramEra (v) : (s.withCrossHeld v).dramEra = s.dramEra := rfl
@[simp] theorem State.withCrossHeld_nor (v) : (s.withCrossHeld v).nor = s.nor := rfl
@[simp] theorem State.withCrossHeld_pending (v) : (s.withCrossHeld v).pending = s.pending := rfl

/-! Replacing `svc`. -/

@[simp] theorem State.withSvc_regs (v) : (s.withSvc v).regs = s.regs := rfl
@[simp] theorem State.withSvc_mirror (v) : (s.withSvc v).mirror = s.mirror := rfl
@[simp] theorem State.withSvc_latch (v) : (s.withSvc v).latch = s.latch := rfl
@[simp] theorem State.withSvc_hiStage (v) : (s.withSvc v).hiStage = s.hiStage := rfl
@[simp] theorem State.withSvc_lastRead (v) : (s.withSvc v).lastRead = s.lastRead := rfl
@[simp] theorem State.withSvc_now (v) : (s.withSvc v).now = s.now := rfl
@[simp] theorem State.withSvc_coldAt (v) : (s.withSvc v).coldAt = s.coldAt := rfl
@[simp] theorem State.withSvc_fresh (v) : (s.withSvc v).fresh = s.fresh := rfl
@[simp] theorem State.withSvc_slotStraps (v) : (s.withSvc v).slotStraps = s.slotStraps := rfl
@[simp] theorem State.withSvc_host (v) : (s.withSvc v).host = s.host := rfl
@[simp] theorem State.withSvc_gpPsh (v) : (s.withSvc v).gpPsh = s.gpPsh := rfl
@[simp] theorem State.withSvc_gpGld (v) : (s.withSvc v).gpGld = s.gpGld := rfl
@[simp] theorem State.withSvc_crossHeld (v) : (s.withSvc v).crossHeld = s.crossHeld := rfl
@[simp] theorem State.withSvc_svc (v) : (s.withSvc v).svc = v := rfl
@[simp] theorem State.withSvc_brk (v) : (s.withSvc v).brk = s.brk := rfl
@[simp] theorem State.withSvc_meter (v) : (s.withSvc v).meter = s.meter := rfl
@[simp] theorem State.withSvc_pmb (v) : (s.withSvc v).pmb = s.pmb := rfl
@[simp] theorem State.withSvc_card (v) : (s.withSvc v).card = s.card := rfl
@[simp] theorem State.withSvc_mgmt (v) : (s.withSvc v).mgmt = s.mgmt := rfl
@[simp] theorem State.withSvc_thermal (v) : (s.withSvc v).thermal = s.thermal := rfl
@[simp] theorem State.withSvc_sec (v) : (s.withSvc v).sec = s.sec := rfl
@[simp] theorem State.withSvc_dbg (v) : (s.withSvc v).dbg = s.dbg := rfl
@[simp] theorem State.withSvc_fab (v) : (s.withSvc v).fab = s.fab := rfl
@[simp] theorem State.withSvc_pass (v) : (s.withSvc v).pass = s.pass := rfl
@[simp] theorem State.withSvc_cap (v) : (s.withSvc v).cap = s.cap := rfl
@[simp] theorem State.withSvc_akg (v) : (s.withSvc v).akg = s.akg := rfl
@[simp] theorem State.withSvc_dram (v) : (s.withSvc v).dram = s.dram := rfl
@[simp] theorem State.withSvc_dramEra (v) : (s.withSvc v).dramEra = s.dramEra := rfl
@[simp] theorem State.withSvc_nor (v) : (s.withSvc v).nor = s.nor := rfl
@[simp] theorem State.withSvc_pending (v) : (s.withSvc v).pending = s.pending := rfl

/-! Replacing `brk`. -/

@[simp] theorem State.withBrk_regs (v) : (s.withBrk v).regs = s.regs := rfl
@[simp] theorem State.withBrk_mirror (v) : (s.withBrk v).mirror = s.mirror := rfl
@[simp] theorem State.withBrk_latch (v) : (s.withBrk v).latch = s.latch := rfl
@[simp] theorem State.withBrk_hiStage (v) : (s.withBrk v).hiStage = s.hiStage := rfl
@[simp] theorem State.withBrk_lastRead (v) : (s.withBrk v).lastRead = s.lastRead := rfl
@[simp] theorem State.withBrk_now (v) : (s.withBrk v).now = s.now := rfl
@[simp] theorem State.withBrk_coldAt (v) : (s.withBrk v).coldAt = s.coldAt := rfl
@[simp] theorem State.withBrk_fresh (v) : (s.withBrk v).fresh = s.fresh := rfl
@[simp] theorem State.withBrk_slotStraps (v) : (s.withBrk v).slotStraps = s.slotStraps := rfl
@[simp] theorem State.withBrk_host (v) : (s.withBrk v).host = s.host := rfl
@[simp] theorem State.withBrk_gpPsh (v) : (s.withBrk v).gpPsh = s.gpPsh := rfl
@[simp] theorem State.withBrk_gpGld (v) : (s.withBrk v).gpGld = s.gpGld := rfl
@[simp] theorem State.withBrk_crossHeld (v) : (s.withBrk v).crossHeld = s.crossHeld := rfl
@[simp] theorem State.withBrk_svc (v) : (s.withBrk v).svc = s.svc := rfl
@[simp] theorem State.withBrk_brk (v) : (s.withBrk v).brk = v := rfl
@[simp] theorem State.withBrk_meter (v) : (s.withBrk v).meter = s.meter := rfl
@[simp] theorem State.withBrk_pmb (v) : (s.withBrk v).pmb = s.pmb := rfl
@[simp] theorem State.withBrk_card (v) : (s.withBrk v).card = s.card := rfl
@[simp] theorem State.withBrk_mgmt (v) : (s.withBrk v).mgmt = s.mgmt := rfl
@[simp] theorem State.withBrk_thermal (v) : (s.withBrk v).thermal = s.thermal := rfl
@[simp] theorem State.withBrk_sec (v) : (s.withBrk v).sec = s.sec := rfl
@[simp] theorem State.withBrk_dbg (v) : (s.withBrk v).dbg = s.dbg := rfl
@[simp] theorem State.withBrk_fab (v) : (s.withBrk v).fab = s.fab := rfl
@[simp] theorem State.withBrk_pass (v) : (s.withBrk v).pass = s.pass := rfl
@[simp] theorem State.withBrk_cap (v) : (s.withBrk v).cap = s.cap := rfl
@[simp] theorem State.withBrk_akg (v) : (s.withBrk v).akg = s.akg := rfl
@[simp] theorem State.withBrk_dram (v) : (s.withBrk v).dram = s.dram := rfl
@[simp] theorem State.withBrk_dramEra (v) : (s.withBrk v).dramEra = s.dramEra := rfl
@[simp] theorem State.withBrk_nor (v) : (s.withBrk v).nor = s.nor := rfl
@[simp] theorem State.withBrk_pending (v) : (s.withBrk v).pending = s.pending := rfl

/-! Replacing `meter`. -/

@[simp] theorem State.withMeter_regs (v) : (s.withMeter v).regs = s.regs := rfl
@[simp] theorem State.withMeter_mirror (v) : (s.withMeter v).mirror = s.mirror := rfl
@[simp] theorem State.withMeter_latch (v) : (s.withMeter v).latch = s.latch := rfl
@[simp] theorem State.withMeter_hiStage (v) : (s.withMeter v).hiStage = s.hiStage := rfl
@[simp] theorem State.withMeter_lastRead (v) : (s.withMeter v).lastRead = s.lastRead := rfl
@[simp] theorem State.withMeter_now (v) : (s.withMeter v).now = s.now := rfl
@[simp] theorem State.withMeter_coldAt (v) : (s.withMeter v).coldAt = s.coldAt := rfl
@[simp] theorem State.withMeter_fresh (v) : (s.withMeter v).fresh = s.fresh := rfl
@[simp] theorem State.withMeter_slotStraps (v) : (s.withMeter v).slotStraps = s.slotStraps := rfl
@[simp] theorem State.withMeter_host (v) : (s.withMeter v).host = s.host := rfl
@[simp] theorem State.withMeter_gpPsh (v) : (s.withMeter v).gpPsh = s.gpPsh := rfl
@[simp] theorem State.withMeter_gpGld (v) : (s.withMeter v).gpGld = s.gpGld := rfl
@[simp] theorem State.withMeter_crossHeld (v) : (s.withMeter v).crossHeld = s.crossHeld := rfl
@[simp] theorem State.withMeter_svc (v) : (s.withMeter v).svc = s.svc := rfl
@[simp] theorem State.withMeter_brk (v) : (s.withMeter v).brk = s.brk := rfl
@[simp] theorem State.withMeter_meter (v) : (s.withMeter v).meter = v := rfl
@[simp] theorem State.withMeter_pmb (v) : (s.withMeter v).pmb = s.pmb := rfl
@[simp] theorem State.withMeter_card (v) : (s.withMeter v).card = s.card := rfl
@[simp] theorem State.withMeter_mgmt (v) : (s.withMeter v).mgmt = s.mgmt := rfl
@[simp] theorem State.withMeter_thermal (v) : (s.withMeter v).thermal = s.thermal := rfl
@[simp] theorem State.withMeter_sec (v) : (s.withMeter v).sec = s.sec := rfl
@[simp] theorem State.withMeter_dbg (v) : (s.withMeter v).dbg = s.dbg := rfl
@[simp] theorem State.withMeter_fab (v) : (s.withMeter v).fab = s.fab := rfl
@[simp] theorem State.withMeter_pass (v) : (s.withMeter v).pass = s.pass := rfl
@[simp] theorem State.withMeter_cap (v) : (s.withMeter v).cap = s.cap := rfl
@[simp] theorem State.withMeter_akg (v) : (s.withMeter v).akg = s.akg := rfl
@[simp] theorem State.withMeter_dram (v) : (s.withMeter v).dram = s.dram := rfl
@[simp] theorem State.withMeter_dramEra (v) : (s.withMeter v).dramEra = s.dramEra := rfl
@[simp] theorem State.withMeter_nor (v) : (s.withMeter v).nor = s.nor := rfl
@[simp] theorem State.withMeter_pending (v) : (s.withMeter v).pending = s.pending := rfl

/-! Replacing `pmb`. -/

@[simp] theorem State.withPmb_regs (v) : (s.withPmb v).regs = s.regs := rfl
@[simp] theorem State.withPmb_mirror (v) : (s.withPmb v).mirror = s.mirror := rfl
@[simp] theorem State.withPmb_latch (v) : (s.withPmb v).latch = s.latch := rfl
@[simp] theorem State.withPmb_hiStage (v) : (s.withPmb v).hiStage = s.hiStage := rfl
@[simp] theorem State.withPmb_lastRead (v) : (s.withPmb v).lastRead = s.lastRead := rfl
@[simp] theorem State.withPmb_now (v) : (s.withPmb v).now = s.now := rfl
@[simp] theorem State.withPmb_coldAt (v) : (s.withPmb v).coldAt = s.coldAt := rfl
@[simp] theorem State.withPmb_fresh (v) : (s.withPmb v).fresh = s.fresh := rfl
@[simp] theorem State.withPmb_slotStraps (v) : (s.withPmb v).slotStraps = s.slotStraps := rfl
@[simp] theorem State.withPmb_host (v) : (s.withPmb v).host = s.host := rfl
@[simp] theorem State.withPmb_gpPsh (v) : (s.withPmb v).gpPsh = s.gpPsh := rfl
@[simp] theorem State.withPmb_gpGld (v) : (s.withPmb v).gpGld = s.gpGld := rfl
@[simp] theorem State.withPmb_crossHeld (v) : (s.withPmb v).crossHeld = s.crossHeld := rfl
@[simp] theorem State.withPmb_svc (v) : (s.withPmb v).svc = s.svc := rfl
@[simp] theorem State.withPmb_brk (v) : (s.withPmb v).brk = s.brk := rfl
@[simp] theorem State.withPmb_meter (v) : (s.withPmb v).meter = s.meter := rfl
@[simp] theorem State.withPmb_pmb (v) : (s.withPmb v).pmb = v := rfl
@[simp] theorem State.withPmb_card (v) : (s.withPmb v).card = s.card := rfl
@[simp] theorem State.withPmb_mgmt (v) : (s.withPmb v).mgmt = s.mgmt := rfl
@[simp] theorem State.withPmb_thermal (v) : (s.withPmb v).thermal = s.thermal := rfl
@[simp] theorem State.withPmb_sec (v) : (s.withPmb v).sec = s.sec := rfl
@[simp] theorem State.withPmb_dbg (v) : (s.withPmb v).dbg = s.dbg := rfl
@[simp] theorem State.withPmb_fab (v) : (s.withPmb v).fab = s.fab := rfl
@[simp] theorem State.withPmb_pass (v) : (s.withPmb v).pass = s.pass := rfl
@[simp] theorem State.withPmb_cap (v) : (s.withPmb v).cap = s.cap := rfl
@[simp] theorem State.withPmb_akg (v) : (s.withPmb v).akg = s.akg := rfl
@[simp] theorem State.withPmb_dram (v) : (s.withPmb v).dram = s.dram := rfl
@[simp] theorem State.withPmb_dramEra (v) : (s.withPmb v).dramEra = s.dramEra := rfl
@[simp] theorem State.withPmb_nor (v) : (s.withPmb v).nor = s.nor := rfl
@[simp] theorem State.withPmb_pending (v) : (s.withPmb v).pending = s.pending := rfl

/-! Replacing `card`. -/

@[simp] theorem State.withCard_regs (v) : (s.withCard v).regs = s.regs := rfl
@[simp] theorem State.withCard_mirror (v) : (s.withCard v).mirror = s.mirror := rfl
@[simp] theorem State.withCard_latch (v) : (s.withCard v).latch = s.latch := rfl
@[simp] theorem State.withCard_hiStage (v) : (s.withCard v).hiStage = s.hiStage := rfl
@[simp] theorem State.withCard_lastRead (v) : (s.withCard v).lastRead = s.lastRead := rfl
@[simp] theorem State.withCard_now (v) : (s.withCard v).now = s.now := rfl
@[simp] theorem State.withCard_coldAt (v) : (s.withCard v).coldAt = s.coldAt := rfl
@[simp] theorem State.withCard_fresh (v) : (s.withCard v).fresh = s.fresh := rfl
@[simp] theorem State.withCard_slotStraps (v) : (s.withCard v).slotStraps = s.slotStraps := rfl
@[simp] theorem State.withCard_host (v) : (s.withCard v).host = s.host := rfl
@[simp] theorem State.withCard_gpPsh (v) : (s.withCard v).gpPsh = s.gpPsh := rfl
@[simp] theorem State.withCard_gpGld (v) : (s.withCard v).gpGld = s.gpGld := rfl
@[simp] theorem State.withCard_crossHeld (v) : (s.withCard v).crossHeld = s.crossHeld := rfl
@[simp] theorem State.withCard_svc (v) : (s.withCard v).svc = s.svc := rfl
@[simp] theorem State.withCard_brk (v) : (s.withCard v).brk = s.brk := rfl
@[simp] theorem State.withCard_meter (v) : (s.withCard v).meter = s.meter := rfl
@[simp] theorem State.withCard_pmb (v) : (s.withCard v).pmb = s.pmb := rfl
@[simp] theorem State.withCard_card (v) : (s.withCard v).card = v := rfl
@[simp] theorem State.withCard_mgmt (v) : (s.withCard v).mgmt = s.mgmt := rfl
@[simp] theorem State.withCard_thermal (v) : (s.withCard v).thermal = s.thermal := rfl
@[simp] theorem State.withCard_sec (v) : (s.withCard v).sec = s.sec := rfl
@[simp] theorem State.withCard_dbg (v) : (s.withCard v).dbg = s.dbg := rfl
@[simp] theorem State.withCard_fab (v) : (s.withCard v).fab = s.fab := rfl
@[simp] theorem State.withCard_pass (v) : (s.withCard v).pass = s.pass := rfl
@[simp] theorem State.withCard_cap (v) : (s.withCard v).cap = s.cap := rfl
@[simp] theorem State.withCard_akg (v) : (s.withCard v).akg = s.akg := rfl
@[simp] theorem State.withCard_dram (v) : (s.withCard v).dram = s.dram := rfl
@[simp] theorem State.withCard_dramEra (v) : (s.withCard v).dramEra = s.dramEra := rfl
@[simp] theorem State.withCard_nor (v) : (s.withCard v).nor = s.nor := rfl
@[simp] theorem State.withCard_pending (v) : (s.withCard v).pending = s.pending := rfl

/-! Replacing `mgmt`. -/

@[simp] theorem State.withMgmt_regs (v) : (s.withMgmt v).regs = s.regs := rfl
@[simp] theorem State.withMgmt_mirror (v) : (s.withMgmt v).mirror = s.mirror := rfl
@[simp] theorem State.withMgmt_latch (v) : (s.withMgmt v).latch = s.latch := rfl
@[simp] theorem State.withMgmt_hiStage (v) : (s.withMgmt v).hiStage = s.hiStage := rfl
@[simp] theorem State.withMgmt_lastRead (v) : (s.withMgmt v).lastRead = s.lastRead := rfl
@[simp] theorem State.withMgmt_now (v) : (s.withMgmt v).now = s.now := rfl
@[simp] theorem State.withMgmt_coldAt (v) : (s.withMgmt v).coldAt = s.coldAt := rfl
@[simp] theorem State.withMgmt_fresh (v) : (s.withMgmt v).fresh = s.fresh := rfl
@[simp] theorem State.withMgmt_slotStraps (v) : (s.withMgmt v).slotStraps = s.slotStraps := rfl
@[simp] theorem State.withMgmt_host (v) : (s.withMgmt v).host = s.host := rfl
@[simp] theorem State.withMgmt_gpPsh (v) : (s.withMgmt v).gpPsh = s.gpPsh := rfl
@[simp] theorem State.withMgmt_gpGld (v) : (s.withMgmt v).gpGld = s.gpGld := rfl
@[simp] theorem State.withMgmt_crossHeld (v) : (s.withMgmt v).crossHeld = s.crossHeld := rfl
@[simp] theorem State.withMgmt_svc (v) : (s.withMgmt v).svc = s.svc := rfl
@[simp] theorem State.withMgmt_brk (v) : (s.withMgmt v).brk = s.brk := rfl
@[simp] theorem State.withMgmt_meter (v) : (s.withMgmt v).meter = s.meter := rfl
@[simp] theorem State.withMgmt_pmb (v) : (s.withMgmt v).pmb = s.pmb := rfl
@[simp] theorem State.withMgmt_card (v) : (s.withMgmt v).card = s.card := rfl
@[simp] theorem State.withMgmt_mgmt (v) : (s.withMgmt v).mgmt = v := rfl
@[simp] theorem State.withMgmt_thermal (v) : (s.withMgmt v).thermal = s.thermal := rfl
@[simp] theorem State.withMgmt_sec (v) : (s.withMgmt v).sec = s.sec := rfl
@[simp] theorem State.withMgmt_dbg (v) : (s.withMgmt v).dbg = s.dbg := rfl
@[simp] theorem State.withMgmt_fab (v) : (s.withMgmt v).fab = s.fab := rfl
@[simp] theorem State.withMgmt_pass (v) : (s.withMgmt v).pass = s.pass := rfl
@[simp] theorem State.withMgmt_cap (v) : (s.withMgmt v).cap = s.cap := rfl
@[simp] theorem State.withMgmt_akg (v) : (s.withMgmt v).akg = s.akg := rfl
@[simp] theorem State.withMgmt_dram (v) : (s.withMgmt v).dram = s.dram := rfl
@[simp] theorem State.withMgmt_dramEra (v) : (s.withMgmt v).dramEra = s.dramEra := rfl
@[simp] theorem State.withMgmt_nor (v) : (s.withMgmt v).nor = s.nor := rfl
@[simp] theorem State.withMgmt_pending (v) : (s.withMgmt v).pending = s.pending := rfl

/-! Replacing `thermal`. -/

@[simp] theorem State.withThermal_regs (v) : (s.withThermal v).regs = s.regs := rfl
@[simp] theorem State.withThermal_mirror (v) : (s.withThermal v).mirror = s.mirror := rfl
@[simp] theorem State.withThermal_latch (v) : (s.withThermal v).latch = s.latch := rfl
@[simp] theorem State.withThermal_hiStage (v) : (s.withThermal v).hiStage = s.hiStage := rfl
@[simp] theorem State.withThermal_lastRead (v) : (s.withThermal v).lastRead = s.lastRead := rfl
@[simp] theorem State.withThermal_now (v) : (s.withThermal v).now = s.now := rfl
@[simp] theorem State.withThermal_coldAt (v) : (s.withThermal v).coldAt = s.coldAt := rfl
@[simp] theorem State.withThermal_fresh (v) : (s.withThermal v).fresh = s.fresh := rfl
@[simp] theorem State.withThermal_slotStraps (v) : (s.withThermal v).slotStraps = s.slotStraps := rfl
@[simp] theorem State.withThermal_host (v) : (s.withThermal v).host = s.host := rfl
@[simp] theorem State.withThermal_gpPsh (v) : (s.withThermal v).gpPsh = s.gpPsh := rfl
@[simp] theorem State.withThermal_gpGld (v) : (s.withThermal v).gpGld = s.gpGld := rfl
@[simp] theorem State.withThermal_crossHeld (v) : (s.withThermal v).crossHeld = s.crossHeld := rfl
@[simp] theorem State.withThermal_svc (v) : (s.withThermal v).svc = s.svc := rfl
@[simp] theorem State.withThermal_brk (v) : (s.withThermal v).brk = s.brk := rfl
@[simp] theorem State.withThermal_meter (v) : (s.withThermal v).meter = s.meter := rfl
@[simp] theorem State.withThermal_pmb (v) : (s.withThermal v).pmb = s.pmb := rfl
@[simp] theorem State.withThermal_card (v) : (s.withThermal v).card = s.card := rfl
@[simp] theorem State.withThermal_mgmt (v) : (s.withThermal v).mgmt = s.mgmt := rfl
@[simp] theorem State.withThermal_thermal (v) : (s.withThermal v).thermal = v := rfl
@[simp] theorem State.withThermal_sec (v) : (s.withThermal v).sec = s.sec := rfl
@[simp] theorem State.withThermal_dbg (v) : (s.withThermal v).dbg = s.dbg := rfl
@[simp] theorem State.withThermal_fab (v) : (s.withThermal v).fab = s.fab := rfl
@[simp] theorem State.withThermal_pass (v) : (s.withThermal v).pass = s.pass := rfl
@[simp] theorem State.withThermal_cap (v) : (s.withThermal v).cap = s.cap := rfl
@[simp] theorem State.withThermal_akg (v) : (s.withThermal v).akg = s.akg := rfl
@[simp] theorem State.withThermal_dram (v) : (s.withThermal v).dram = s.dram := rfl
@[simp] theorem State.withThermal_dramEra (v) : (s.withThermal v).dramEra = s.dramEra := rfl
@[simp] theorem State.withThermal_nor (v) : (s.withThermal v).nor = s.nor := rfl
@[simp] theorem State.withThermal_pending (v) : (s.withThermal v).pending = s.pending := rfl

/-! Replacing `sec`. -/

@[simp] theorem State.withSec_regs (v) : (s.withSec v).regs = s.regs := rfl
@[simp] theorem State.withSec_mirror (v) : (s.withSec v).mirror = s.mirror := rfl
@[simp] theorem State.withSec_latch (v) : (s.withSec v).latch = s.latch := rfl
@[simp] theorem State.withSec_hiStage (v) : (s.withSec v).hiStage = s.hiStage := rfl
@[simp] theorem State.withSec_lastRead (v) : (s.withSec v).lastRead = s.lastRead := rfl
@[simp] theorem State.withSec_now (v) : (s.withSec v).now = s.now := rfl
@[simp] theorem State.withSec_coldAt (v) : (s.withSec v).coldAt = s.coldAt := rfl
@[simp] theorem State.withSec_fresh (v) : (s.withSec v).fresh = s.fresh := rfl
@[simp] theorem State.withSec_slotStraps (v) : (s.withSec v).slotStraps = s.slotStraps := rfl
@[simp] theorem State.withSec_host (v) : (s.withSec v).host = s.host := rfl
@[simp] theorem State.withSec_gpPsh (v) : (s.withSec v).gpPsh = s.gpPsh := rfl
@[simp] theorem State.withSec_gpGld (v) : (s.withSec v).gpGld = s.gpGld := rfl
@[simp] theorem State.withSec_crossHeld (v) : (s.withSec v).crossHeld = s.crossHeld := rfl
@[simp] theorem State.withSec_svc (v) : (s.withSec v).svc = s.svc := rfl
@[simp] theorem State.withSec_brk (v) : (s.withSec v).brk = s.brk := rfl
@[simp] theorem State.withSec_meter (v) : (s.withSec v).meter = s.meter := rfl
@[simp] theorem State.withSec_pmb (v) : (s.withSec v).pmb = s.pmb := rfl
@[simp] theorem State.withSec_card (v) : (s.withSec v).card = s.card := rfl
@[simp] theorem State.withSec_mgmt (v) : (s.withSec v).mgmt = s.mgmt := rfl
@[simp] theorem State.withSec_thermal (v) : (s.withSec v).thermal = s.thermal := rfl
@[simp] theorem State.withSec_sec (v) : (s.withSec v).sec = v := rfl
@[simp] theorem State.withSec_dbg (v) : (s.withSec v).dbg = s.dbg := rfl
@[simp] theorem State.withSec_fab (v) : (s.withSec v).fab = s.fab := rfl
@[simp] theorem State.withSec_pass (v) : (s.withSec v).pass = s.pass := rfl
@[simp] theorem State.withSec_cap (v) : (s.withSec v).cap = s.cap := rfl
@[simp] theorem State.withSec_akg (v) : (s.withSec v).akg = s.akg := rfl
@[simp] theorem State.withSec_dram (v) : (s.withSec v).dram = s.dram := rfl
@[simp] theorem State.withSec_dramEra (v) : (s.withSec v).dramEra = s.dramEra := rfl
@[simp] theorem State.withSec_nor (v) : (s.withSec v).nor = s.nor := rfl
@[simp] theorem State.withSec_pending (v) : (s.withSec v).pending = s.pending := rfl

/-! Replacing `dbg`. -/

@[simp] theorem State.withDbg_regs (v) : (s.withDbg v).regs = s.regs := rfl
@[simp] theorem State.withDbg_mirror (v) : (s.withDbg v).mirror = s.mirror := rfl
@[simp] theorem State.withDbg_latch (v) : (s.withDbg v).latch = s.latch := rfl
@[simp] theorem State.withDbg_hiStage (v) : (s.withDbg v).hiStage = s.hiStage := rfl
@[simp] theorem State.withDbg_lastRead (v) : (s.withDbg v).lastRead = s.lastRead := rfl
@[simp] theorem State.withDbg_now (v) : (s.withDbg v).now = s.now := rfl
@[simp] theorem State.withDbg_coldAt (v) : (s.withDbg v).coldAt = s.coldAt := rfl
@[simp] theorem State.withDbg_fresh (v) : (s.withDbg v).fresh = s.fresh := rfl
@[simp] theorem State.withDbg_slotStraps (v) : (s.withDbg v).slotStraps = s.slotStraps := rfl
@[simp] theorem State.withDbg_host (v) : (s.withDbg v).host = s.host := rfl
@[simp] theorem State.withDbg_gpPsh (v) : (s.withDbg v).gpPsh = s.gpPsh := rfl
@[simp] theorem State.withDbg_gpGld (v) : (s.withDbg v).gpGld = s.gpGld := rfl
@[simp] theorem State.withDbg_crossHeld (v) : (s.withDbg v).crossHeld = s.crossHeld := rfl
@[simp] theorem State.withDbg_svc (v) : (s.withDbg v).svc = s.svc := rfl
@[simp] theorem State.withDbg_brk (v) : (s.withDbg v).brk = s.brk := rfl
@[simp] theorem State.withDbg_meter (v) : (s.withDbg v).meter = s.meter := rfl
@[simp] theorem State.withDbg_pmb (v) : (s.withDbg v).pmb = s.pmb := rfl
@[simp] theorem State.withDbg_card (v) : (s.withDbg v).card = s.card := rfl
@[simp] theorem State.withDbg_mgmt (v) : (s.withDbg v).mgmt = s.mgmt := rfl
@[simp] theorem State.withDbg_thermal (v) : (s.withDbg v).thermal = s.thermal := rfl
@[simp] theorem State.withDbg_sec (v) : (s.withDbg v).sec = s.sec := rfl
@[simp] theorem State.withDbg_dbg (v) : (s.withDbg v).dbg = v := rfl
@[simp] theorem State.withDbg_fab (v) : (s.withDbg v).fab = s.fab := rfl
@[simp] theorem State.withDbg_pass (v) : (s.withDbg v).pass = s.pass := rfl
@[simp] theorem State.withDbg_cap (v) : (s.withDbg v).cap = s.cap := rfl
@[simp] theorem State.withDbg_akg (v) : (s.withDbg v).akg = s.akg := rfl
@[simp] theorem State.withDbg_dram (v) : (s.withDbg v).dram = s.dram := rfl
@[simp] theorem State.withDbg_dramEra (v) : (s.withDbg v).dramEra = s.dramEra := rfl
@[simp] theorem State.withDbg_nor (v) : (s.withDbg v).nor = s.nor := rfl
@[simp] theorem State.withDbg_pending (v) : (s.withDbg v).pending = s.pending := rfl

/-! Replacing `fab`. -/

@[simp] theorem State.withFab_regs (v) : (s.withFab v).regs = s.regs := rfl
@[simp] theorem State.withFab_mirror (v) : (s.withFab v).mirror = s.mirror := rfl
@[simp] theorem State.withFab_latch (v) : (s.withFab v).latch = s.latch := rfl
@[simp] theorem State.withFab_hiStage (v) : (s.withFab v).hiStage = s.hiStage := rfl
@[simp] theorem State.withFab_lastRead (v) : (s.withFab v).lastRead = s.lastRead := rfl
@[simp] theorem State.withFab_now (v) : (s.withFab v).now = s.now := rfl
@[simp] theorem State.withFab_coldAt (v) : (s.withFab v).coldAt = s.coldAt := rfl
@[simp] theorem State.withFab_fresh (v) : (s.withFab v).fresh = s.fresh := rfl
@[simp] theorem State.withFab_slotStraps (v) : (s.withFab v).slotStraps = s.slotStraps := rfl
@[simp] theorem State.withFab_host (v) : (s.withFab v).host = s.host := rfl
@[simp] theorem State.withFab_gpPsh (v) : (s.withFab v).gpPsh = s.gpPsh := rfl
@[simp] theorem State.withFab_gpGld (v) : (s.withFab v).gpGld = s.gpGld := rfl
@[simp] theorem State.withFab_crossHeld (v) : (s.withFab v).crossHeld = s.crossHeld := rfl
@[simp] theorem State.withFab_svc (v) : (s.withFab v).svc = s.svc := rfl
@[simp] theorem State.withFab_brk (v) : (s.withFab v).brk = s.brk := rfl
@[simp] theorem State.withFab_meter (v) : (s.withFab v).meter = s.meter := rfl
@[simp] theorem State.withFab_pmb (v) : (s.withFab v).pmb = s.pmb := rfl
@[simp] theorem State.withFab_card (v) : (s.withFab v).card = s.card := rfl
@[simp] theorem State.withFab_mgmt (v) : (s.withFab v).mgmt = s.mgmt := rfl
@[simp] theorem State.withFab_thermal (v) : (s.withFab v).thermal = s.thermal := rfl
@[simp] theorem State.withFab_sec (v) : (s.withFab v).sec = s.sec := rfl
@[simp] theorem State.withFab_dbg (v) : (s.withFab v).dbg = s.dbg := rfl
@[simp] theorem State.withFab_fab (v) : (s.withFab v).fab = v := rfl
@[simp] theorem State.withFab_pass (v) : (s.withFab v).pass = s.pass := rfl
@[simp] theorem State.withFab_cap (v) : (s.withFab v).cap = s.cap := rfl
@[simp] theorem State.withFab_akg (v) : (s.withFab v).akg = s.akg := rfl
@[simp] theorem State.withFab_dram (v) : (s.withFab v).dram = s.dram := rfl
@[simp] theorem State.withFab_dramEra (v) : (s.withFab v).dramEra = s.dramEra := rfl
@[simp] theorem State.withFab_nor (v) : (s.withFab v).nor = s.nor := rfl
@[simp] theorem State.withFab_pending (v) : (s.withFab v).pending = s.pending := rfl

/-! Replacing `pass`. -/

@[simp] theorem State.withPass_regs (v) : (s.withPass v).regs = s.regs := rfl
@[simp] theorem State.withPass_mirror (v) : (s.withPass v).mirror = s.mirror := rfl
@[simp] theorem State.withPass_latch (v) : (s.withPass v).latch = s.latch := rfl
@[simp] theorem State.withPass_hiStage (v) : (s.withPass v).hiStage = s.hiStage := rfl
@[simp] theorem State.withPass_lastRead (v) : (s.withPass v).lastRead = s.lastRead := rfl
@[simp] theorem State.withPass_now (v) : (s.withPass v).now = s.now := rfl
@[simp] theorem State.withPass_coldAt (v) : (s.withPass v).coldAt = s.coldAt := rfl
@[simp] theorem State.withPass_fresh (v) : (s.withPass v).fresh = s.fresh := rfl
@[simp] theorem State.withPass_slotStraps (v) : (s.withPass v).slotStraps = s.slotStraps := rfl
@[simp] theorem State.withPass_host (v) : (s.withPass v).host = s.host := rfl
@[simp] theorem State.withPass_gpPsh (v) : (s.withPass v).gpPsh = s.gpPsh := rfl
@[simp] theorem State.withPass_gpGld (v) : (s.withPass v).gpGld = s.gpGld := rfl
@[simp] theorem State.withPass_crossHeld (v) : (s.withPass v).crossHeld = s.crossHeld := rfl
@[simp] theorem State.withPass_svc (v) : (s.withPass v).svc = s.svc := rfl
@[simp] theorem State.withPass_brk (v) : (s.withPass v).brk = s.brk := rfl
@[simp] theorem State.withPass_meter (v) : (s.withPass v).meter = s.meter := rfl
@[simp] theorem State.withPass_pmb (v) : (s.withPass v).pmb = s.pmb := rfl
@[simp] theorem State.withPass_card (v) : (s.withPass v).card = s.card := rfl
@[simp] theorem State.withPass_mgmt (v) : (s.withPass v).mgmt = s.mgmt := rfl
@[simp] theorem State.withPass_thermal (v) : (s.withPass v).thermal = s.thermal := rfl
@[simp] theorem State.withPass_sec (v) : (s.withPass v).sec = s.sec := rfl
@[simp] theorem State.withPass_dbg (v) : (s.withPass v).dbg = s.dbg := rfl
@[simp] theorem State.withPass_fab (v) : (s.withPass v).fab = s.fab := rfl
@[simp] theorem State.withPass_pass (v) : (s.withPass v).pass = v := rfl
@[simp] theorem State.withPass_cap (v) : (s.withPass v).cap = s.cap := rfl
@[simp] theorem State.withPass_akg (v) : (s.withPass v).akg = s.akg := rfl
@[simp] theorem State.withPass_dram (v) : (s.withPass v).dram = s.dram := rfl
@[simp] theorem State.withPass_dramEra (v) : (s.withPass v).dramEra = s.dramEra := rfl
@[simp] theorem State.withPass_nor (v) : (s.withPass v).nor = s.nor := rfl
@[simp] theorem State.withPass_pending (v) : (s.withPass v).pending = s.pending := rfl

/-! Replacing `cap`. -/

@[simp] theorem State.withCap_regs (v) : (s.withCap v).regs = s.regs := rfl
@[simp] theorem State.withCap_mirror (v) : (s.withCap v).mirror = s.mirror := rfl
@[simp] theorem State.withCap_latch (v) : (s.withCap v).latch = s.latch := rfl
@[simp] theorem State.withCap_hiStage (v) : (s.withCap v).hiStage = s.hiStage := rfl
@[simp] theorem State.withCap_lastRead (v) : (s.withCap v).lastRead = s.lastRead := rfl
@[simp] theorem State.withCap_now (v) : (s.withCap v).now = s.now := rfl
@[simp] theorem State.withCap_coldAt (v) : (s.withCap v).coldAt = s.coldAt := rfl
@[simp] theorem State.withCap_fresh (v) : (s.withCap v).fresh = s.fresh := rfl
@[simp] theorem State.withCap_slotStraps (v) : (s.withCap v).slotStraps = s.slotStraps := rfl
@[simp] theorem State.withCap_host (v) : (s.withCap v).host = s.host := rfl
@[simp] theorem State.withCap_gpPsh (v) : (s.withCap v).gpPsh = s.gpPsh := rfl
@[simp] theorem State.withCap_gpGld (v) : (s.withCap v).gpGld = s.gpGld := rfl
@[simp] theorem State.withCap_crossHeld (v) : (s.withCap v).crossHeld = s.crossHeld := rfl
@[simp] theorem State.withCap_svc (v) : (s.withCap v).svc = s.svc := rfl
@[simp] theorem State.withCap_brk (v) : (s.withCap v).brk = s.brk := rfl
@[simp] theorem State.withCap_meter (v) : (s.withCap v).meter = s.meter := rfl
@[simp] theorem State.withCap_pmb (v) : (s.withCap v).pmb = s.pmb := rfl
@[simp] theorem State.withCap_card (v) : (s.withCap v).card = s.card := rfl
@[simp] theorem State.withCap_mgmt (v) : (s.withCap v).mgmt = s.mgmt := rfl
@[simp] theorem State.withCap_thermal (v) : (s.withCap v).thermal = s.thermal := rfl
@[simp] theorem State.withCap_sec (v) : (s.withCap v).sec = s.sec := rfl
@[simp] theorem State.withCap_dbg (v) : (s.withCap v).dbg = s.dbg := rfl
@[simp] theorem State.withCap_fab (v) : (s.withCap v).fab = s.fab := rfl
@[simp] theorem State.withCap_pass (v) : (s.withCap v).pass = s.pass := rfl
@[simp] theorem State.withCap_cap (v) : (s.withCap v).cap = v := rfl
@[simp] theorem State.withCap_akg (v) : (s.withCap v).akg = s.akg := rfl
@[simp] theorem State.withCap_dram (v) : (s.withCap v).dram = s.dram := rfl
@[simp] theorem State.withCap_dramEra (v) : (s.withCap v).dramEra = s.dramEra := rfl
@[simp] theorem State.withCap_nor (v) : (s.withCap v).nor = s.nor := rfl
@[simp] theorem State.withCap_pending (v) : (s.withCap v).pending = s.pending := rfl

/-! Replacing `akg`. -/

@[simp] theorem State.withAkg_regs (v) : (s.withAkg v).regs = s.regs := rfl
@[simp] theorem State.withAkg_mirror (v) : (s.withAkg v).mirror = s.mirror := rfl
@[simp] theorem State.withAkg_latch (v) : (s.withAkg v).latch = s.latch := rfl
@[simp] theorem State.withAkg_hiStage (v) : (s.withAkg v).hiStage = s.hiStage := rfl
@[simp] theorem State.withAkg_lastRead (v) : (s.withAkg v).lastRead = s.lastRead := rfl
@[simp] theorem State.withAkg_now (v) : (s.withAkg v).now = s.now := rfl
@[simp] theorem State.withAkg_coldAt (v) : (s.withAkg v).coldAt = s.coldAt := rfl
@[simp] theorem State.withAkg_fresh (v) : (s.withAkg v).fresh = s.fresh := rfl
@[simp] theorem State.withAkg_slotStraps (v) : (s.withAkg v).slotStraps = s.slotStraps := rfl
@[simp] theorem State.withAkg_host (v) : (s.withAkg v).host = s.host := rfl
@[simp] theorem State.withAkg_gpPsh (v) : (s.withAkg v).gpPsh = s.gpPsh := rfl
@[simp] theorem State.withAkg_gpGld (v) : (s.withAkg v).gpGld = s.gpGld := rfl
@[simp] theorem State.withAkg_crossHeld (v) : (s.withAkg v).crossHeld = s.crossHeld := rfl
@[simp] theorem State.withAkg_svc (v) : (s.withAkg v).svc = s.svc := rfl
@[simp] theorem State.withAkg_brk (v) : (s.withAkg v).brk = s.brk := rfl
@[simp] theorem State.withAkg_meter (v) : (s.withAkg v).meter = s.meter := rfl
@[simp] theorem State.withAkg_pmb (v) : (s.withAkg v).pmb = s.pmb := rfl
@[simp] theorem State.withAkg_card (v) : (s.withAkg v).card = s.card := rfl
@[simp] theorem State.withAkg_mgmt (v) : (s.withAkg v).mgmt = s.mgmt := rfl
@[simp] theorem State.withAkg_thermal (v) : (s.withAkg v).thermal = s.thermal := rfl
@[simp] theorem State.withAkg_sec (v) : (s.withAkg v).sec = s.sec := rfl
@[simp] theorem State.withAkg_dbg (v) : (s.withAkg v).dbg = s.dbg := rfl
@[simp] theorem State.withAkg_fab (v) : (s.withAkg v).fab = s.fab := rfl
@[simp] theorem State.withAkg_pass (v) : (s.withAkg v).pass = s.pass := rfl
@[simp] theorem State.withAkg_cap (v) : (s.withAkg v).cap = s.cap := rfl
@[simp] theorem State.withAkg_akg (v) : (s.withAkg v).akg = v := rfl
@[simp] theorem State.withAkg_dram (v) : (s.withAkg v).dram = s.dram := rfl
@[simp] theorem State.withAkg_dramEra (v) : (s.withAkg v).dramEra = s.dramEra := rfl
@[simp] theorem State.withAkg_nor (v) : (s.withAkg v).nor = s.nor := rfl
@[simp] theorem State.withAkg_pending (v) : (s.withAkg v).pending = s.pending := rfl

/-! Replacing `dram`. -/

@[simp] theorem State.withDram_regs (v) : (s.withDram v).regs = s.regs := rfl
@[simp] theorem State.withDram_mirror (v) : (s.withDram v).mirror = s.mirror := rfl
@[simp] theorem State.withDram_latch (v) : (s.withDram v).latch = s.latch := rfl
@[simp] theorem State.withDram_hiStage (v) : (s.withDram v).hiStage = s.hiStage := rfl
@[simp] theorem State.withDram_lastRead (v) : (s.withDram v).lastRead = s.lastRead := rfl
@[simp] theorem State.withDram_now (v) : (s.withDram v).now = s.now := rfl
@[simp] theorem State.withDram_coldAt (v) : (s.withDram v).coldAt = s.coldAt := rfl
@[simp] theorem State.withDram_fresh (v) : (s.withDram v).fresh = s.fresh := rfl
@[simp] theorem State.withDram_slotStraps (v) : (s.withDram v).slotStraps = s.slotStraps := rfl
@[simp] theorem State.withDram_host (v) : (s.withDram v).host = s.host := rfl
@[simp] theorem State.withDram_gpPsh (v) : (s.withDram v).gpPsh = s.gpPsh := rfl
@[simp] theorem State.withDram_gpGld (v) : (s.withDram v).gpGld = s.gpGld := rfl
@[simp] theorem State.withDram_crossHeld (v) : (s.withDram v).crossHeld = s.crossHeld := rfl
@[simp] theorem State.withDram_svc (v) : (s.withDram v).svc = s.svc := rfl
@[simp] theorem State.withDram_brk (v) : (s.withDram v).brk = s.brk := rfl
@[simp] theorem State.withDram_meter (v) : (s.withDram v).meter = s.meter := rfl
@[simp] theorem State.withDram_pmb (v) : (s.withDram v).pmb = s.pmb := rfl
@[simp] theorem State.withDram_card (v) : (s.withDram v).card = s.card := rfl
@[simp] theorem State.withDram_mgmt (v) : (s.withDram v).mgmt = s.mgmt := rfl
@[simp] theorem State.withDram_thermal (v) : (s.withDram v).thermal = s.thermal := rfl
@[simp] theorem State.withDram_sec (v) : (s.withDram v).sec = s.sec := rfl
@[simp] theorem State.withDram_dbg (v) : (s.withDram v).dbg = s.dbg := rfl
@[simp] theorem State.withDram_fab (v) : (s.withDram v).fab = s.fab := rfl
@[simp] theorem State.withDram_pass (v) : (s.withDram v).pass = s.pass := rfl
@[simp] theorem State.withDram_cap (v) : (s.withDram v).cap = s.cap := rfl
@[simp] theorem State.withDram_akg (v) : (s.withDram v).akg = s.akg := rfl
@[simp] theorem State.withDram_dram (v) : (s.withDram v).dram = v := rfl
@[simp] theorem State.withDram_dramEra (v) : (s.withDram v).dramEra = s.dramEra := rfl
@[simp] theorem State.withDram_nor (v) : (s.withDram v).nor = s.nor := rfl
@[simp] theorem State.withDram_pending (v) : (s.withDram v).pending = s.pending := rfl

/-! Replacing `dramEra`. -/

@[simp] theorem State.withDramEra_regs (v) : (s.withDramEra v).regs = s.regs := rfl
@[simp] theorem State.withDramEra_mirror (v) : (s.withDramEra v).mirror = s.mirror := rfl
@[simp] theorem State.withDramEra_latch (v) : (s.withDramEra v).latch = s.latch := rfl
@[simp] theorem State.withDramEra_hiStage (v) : (s.withDramEra v).hiStage = s.hiStage := rfl
@[simp] theorem State.withDramEra_lastRead (v) : (s.withDramEra v).lastRead = s.lastRead := rfl
@[simp] theorem State.withDramEra_now (v) : (s.withDramEra v).now = s.now := rfl
@[simp] theorem State.withDramEra_coldAt (v) : (s.withDramEra v).coldAt = s.coldAt := rfl
@[simp] theorem State.withDramEra_fresh (v) : (s.withDramEra v).fresh = s.fresh := rfl
@[simp] theorem State.withDramEra_slotStraps (v) : (s.withDramEra v).slotStraps = s.slotStraps := rfl
@[simp] theorem State.withDramEra_host (v) : (s.withDramEra v).host = s.host := rfl
@[simp] theorem State.withDramEra_gpPsh (v) : (s.withDramEra v).gpPsh = s.gpPsh := rfl
@[simp] theorem State.withDramEra_gpGld (v) : (s.withDramEra v).gpGld = s.gpGld := rfl
@[simp] theorem State.withDramEra_crossHeld (v) : (s.withDramEra v).crossHeld = s.crossHeld := rfl
@[simp] theorem State.withDramEra_svc (v) : (s.withDramEra v).svc = s.svc := rfl
@[simp] theorem State.withDramEra_brk (v) : (s.withDramEra v).brk = s.brk := rfl
@[simp] theorem State.withDramEra_meter (v) : (s.withDramEra v).meter = s.meter := rfl
@[simp] theorem State.withDramEra_pmb (v) : (s.withDramEra v).pmb = s.pmb := rfl
@[simp] theorem State.withDramEra_card (v) : (s.withDramEra v).card = s.card := rfl
@[simp] theorem State.withDramEra_mgmt (v) : (s.withDramEra v).mgmt = s.mgmt := rfl
@[simp] theorem State.withDramEra_thermal (v) : (s.withDramEra v).thermal = s.thermal := rfl
@[simp] theorem State.withDramEra_sec (v) : (s.withDramEra v).sec = s.sec := rfl
@[simp] theorem State.withDramEra_dbg (v) : (s.withDramEra v).dbg = s.dbg := rfl
@[simp] theorem State.withDramEra_fab (v) : (s.withDramEra v).fab = s.fab := rfl
@[simp] theorem State.withDramEra_pass (v) : (s.withDramEra v).pass = s.pass := rfl
@[simp] theorem State.withDramEra_cap (v) : (s.withDramEra v).cap = s.cap := rfl
@[simp] theorem State.withDramEra_akg (v) : (s.withDramEra v).akg = s.akg := rfl
@[simp] theorem State.withDramEra_dram (v) : (s.withDramEra v).dram = s.dram := rfl
@[simp] theorem State.withDramEra_dramEra (v) : (s.withDramEra v).dramEra = v := rfl
@[simp] theorem State.withDramEra_nor (v) : (s.withDramEra v).nor = s.nor := rfl
@[simp] theorem State.withDramEra_pending (v) : (s.withDramEra v).pending = s.pending := rfl

/-! Replacing `nor`. -/

@[simp] theorem State.withNor_regs (v) : (s.withNor v).regs = s.regs := rfl
@[simp] theorem State.withNor_mirror (v) : (s.withNor v).mirror = s.mirror := rfl
@[simp] theorem State.withNor_latch (v) : (s.withNor v).latch = s.latch := rfl
@[simp] theorem State.withNor_hiStage (v) : (s.withNor v).hiStage = s.hiStage := rfl
@[simp] theorem State.withNor_lastRead (v) : (s.withNor v).lastRead = s.lastRead := rfl
@[simp] theorem State.withNor_now (v) : (s.withNor v).now = s.now := rfl
@[simp] theorem State.withNor_coldAt (v) : (s.withNor v).coldAt = s.coldAt := rfl
@[simp] theorem State.withNor_fresh (v) : (s.withNor v).fresh = s.fresh := rfl
@[simp] theorem State.withNor_slotStraps (v) : (s.withNor v).slotStraps = s.slotStraps := rfl
@[simp] theorem State.withNor_host (v) : (s.withNor v).host = s.host := rfl
@[simp] theorem State.withNor_gpPsh (v) : (s.withNor v).gpPsh = s.gpPsh := rfl
@[simp] theorem State.withNor_gpGld (v) : (s.withNor v).gpGld = s.gpGld := rfl
@[simp] theorem State.withNor_crossHeld (v) : (s.withNor v).crossHeld = s.crossHeld := rfl
@[simp] theorem State.withNor_svc (v) : (s.withNor v).svc = s.svc := rfl
@[simp] theorem State.withNor_brk (v) : (s.withNor v).brk = s.brk := rfl
@[simp] theorem State.withNor_meter (v) : (s.withNor v).meter = s.meter := rfl
@[simp] theorem State.withNor_pmb (v) : (s.withNor v).pmb = s.pmb := rfl
@[simp] theorem State.withNor_card (v) : (s.withNor v).card = s.card := rfl
@[simp] theorem State.withNor_mgmt (v) : (s.withNor v).mgmt = s.mgmt := rfl
@[simp] theorem State.withNor_thermal (v) : (s.withNor v).thermal = s.thermal := rfl
@[simp] theorem State.withNor_sec (v) : (s.withNor v).sec = s.sec := rfl
@[simp] theorem State.withNor_dbg (v) : (s.withNor v).dbg = s.dbg := rfl
@[simp] theorem State.withNor_fab (v) : (s.withNor v).fab = s.fab := rfl
@[simp] theorem State.withNor_pass (v) : (s.withNor v).pass = s.pass := rfl
@[simp] theorem State.withNor_cap (v) : (s.withNor v).cap = s.cap := rfl
@[simp] theorem State.withNor_akg (v) : (s.withNor v).akg = s.akg := rfl
@[simp] theorem State.withNor_dram (v) : (s.withNor v).dram = s.dram := rfl
@[simp] theorem State.withNor_dramEra (v) : (s.withNor v).dramEra = s.dramEra := rfl
@[simp] theorem State.withNor_nor (v) : (s.withNor v).nor = v := rfl
@[simp] theorem State.withNor_pending (v) : (s.withNor v).pending = s.pending := rfl

/-! Replacing `pending`. -/

@[simp] theorem State.withPending_regs (v) : (s.withPending v).regs = s.regs := rfl
@[simp] theorem State.withPending_mirror (v) : (s.withPending v).mirror = s.mirror := rfl
@[simp] theorem State.withPending_latch (v) : (s.withPending v).latch = s.latch := rfl
@[simp] theorem State.withPending_hiStage (v) : (s.withPending v).hiStage = s.hiStage := rfl
@[simp] theorem State.withPending_lastRead (v) : (s.withPending v).lastRead = s.lastRead := rfl
@[simp] theorem State.withPending_now (v) : (s.withPending v).now = s.now := rfl
@[simp] theorem State.withPending_coldAt (v) : (s.withPending v).coldAt = s.coldAt := rfl
@[simp] theorem State.withPending_fresh (v) : (s.withPending v).fresh = s.fresh := rfl
@[simp] theorem State.withPending_slotStraps (v) : (s.withPending v).slotStraps = s.slotStraps := rfl
@[simp] theorem State.withPending_host (v) : (s.withPending v).host = s.host := rfl
@[simp] theorem State.withPending_gpPsh (v) : (s.withPending v).gpPsh = s.gpPsh := rfl
@[simp] theorem State.withPending_gpGld (v) : (s.withPending v).gpGld = s.gpGld := rfl
@[simp] theorem State.withPending_crossHeld (v) : (s.withPending v).crossHeld = s.crossHeld := rfl
@[simp] theorem State.withPending_svc (v) : (s.withPending v).svc = s.svc := rfl
@[simp] theorem State.withPending_brk (v) : (s.withPending v).brk = s.brk := rfl
@[simp] theorem State.withPending_meter (v) : (s.withPending v).meter = s.meter := rfl
@[simp] theorem State.withPending_pmb (v) : (s.withPending v).pmb = s.pmb := rfl
@[simp] theorem State.withPending_card (v) : (s.withPending v).card = s.card := rfl
@[simp] theorem State.withPending_mgmt (v) : (s.withPending v).mgmt = s.mgmt := rfl
@[simp] theorem State.withPending_thermal (v) : (s.withPending v).thermal = s.thermal := rfl
@[simp] theorem State.withPending_sec (v) : (s.withPending v).sec = s.sec := rfl
@[simp] theorem State.withPending_dbg (v) : (s.withPending v).dbg = s.dbg := rfl
@[simp] theorem State.withPending_fab (v) : (s.withPending v).fab = s.fab := rfl
@[simp] theorem State.withPending_pass (v) : (s.withPending v).pass = s.pass := rfl
@[simp] theorem State.withPending_cap (v) : (s.withPending v).cap = s.cap := rfl
@[simp] theorem State.withPending_akg (v) : (s.withPending v).akg = s.akg := rfl
@[simp] theorem State.withPending_dram (v) : (s.withPending v).dram = s.dram := rfl
@[simp] theorem State.withPending_dramEra (v) : (s.withPending v).dramEra = s.dramEra := rfl
@[simp] theorem State.withPending_nor (v) : (s.withPending v).nor = s.nor := rfl
@[simp] theorem State.withPending_pending (v) : (s.withPending v).pending = v := rfl

end Sys2Proof.Machine
end

