-- ==== Sys2Proof/Laws/Store.lean ====
section
/-!
SUPPORT. Laws/Store.lean: what a sparse store reads after a write, and that its operations keep the canonical form.
-/
namespace Sys2Proof.Machine

variable {β : Type} [DecidableEq β] {d : Nat → β}

theorem Store.read_without_self (c : Store β) (a : Nat) : Store.read d (c.without a) a = d a := by
  unfold Store.without
  induction c with
  | nil => rfl
  | cons p t ih => by_cases h : p.1 = a <;> simp_all [Store.read]

theorem Store.read_without_ne (c : Store β) {a x : Nat} (hx : x ≠ a) : Store.read d (c.without a) x = Store.read d c x := by
  unfold Store.without
  induction c with
  | nil => rfl
  | cons p t ih =>
    by_cases h : p.1 = a
    · simp_all [Store.read, Ne.symm hx]
    · simp_all [Store.read]

theorem Store.read_place_self (c : Store β) (a : Nat) (b : β) (h : ∀ p ∈ c, p.1 ≠ a) : Store.read d (Store.place a b c) a = b := by
  induction c with
  | nil => simp [Store.place, Store.read]
  | cons p t ih =>
    obtain ⟨k, v⟩ := p
    have hk : k ≠ a := h (k, v) (by simp)
    unfold Store.place
    split
    · simp [Store.read]
    · simp [Store.read, hk, ih (fun q hq => h q (by simp [hq]))]

theorem Store.read_place_ne (c : Store β) {a x : Nat} (b : β) (hx : x ≠ a) : Store.read d (Store.place a b c) x = Store.read d c x := by
  induction c with
  | nil => simp [Store.place, Store.read, Ne.symm hx]
  | cons p t ih =>
    obtain ⟨k, v⟩ := p
    unfold Store.place
    split
    · simp [Store.read, Ne.symm hx]
    · simp [Store.read, ih]

/-- A key reads what was written to it last. -/
@[simp] theorem Store.read_write_self (c : Store β) (a : Nat) (b : β) : Store.read d (Store.write d c a b) a = b := by
  unfold Store.write
  split
  · rename_i h
    rw [h, Store.read_without_self]
  · exact Store.read_place_self _ a b (by simp [Store.without])

/-- Another key reads as before. -/
theorem Store.read_write_ne (c : Store β) {a x : Nat} (b : β) (hx : x ≠ a) : Store.read d (Store.write d c a b) x = Store.read d c x := by
  unfold Store.write
  split
  · exact Store.read_without_ne c hx
  · rw [Store.read_place_ne _ b hx, Store.read_without_ne c hx]

/-! The canonical form. -/

theorem Store.wfFrom_mono {lo lo' : Nat} {c : Store β} (h : Store.wfFrom d lo c = true) (hl : lo' ≤ lo) : Store.wfFrom d lo' c = true := by
  cases c with
  | nil => rfl
  | cons p t =>
    simp only [Store.wfFrom, Bool.and_eq_true, decide_eq_true_eq] at h ⊢
    exact ⟨⟨Nat.le_trans hl h.1.1, h.1.2⟩, h.2⟩

theorem Store.wfFrom_filter {lo : Nat} {p : Nat × β → Bool} {c : Store β} (h : Store.wfFrom d lo c = true) :
    Store.wfFrom d lo (c.filter p) = true := by
  induction c generalizing lo with
  | nil => rfl
  | cons q t ih =>
    simp only [Store.wfFrom, Bool.and_eq_true, decide_eq_true_eq] at h
    simp only [List.filter_cons]
    split
    · simp [Store.wfFrom, h.1.1, h.1.2, ih h.2]
    · exact Store.wfFrom_mono (ih h.2) (by omega)

theorem Store.wfFrom_place {lo a : Nat} {b : β} {c : Store β} (h : Store.wfFrom d lo c = true) (ha : lo ≤ a) (hb : b ≠ d a)
    (hn : ∀ p ∈ c, p.1 ≠ a) : Store.wfFrom d lo (Store.place a b c) = true := by
  induction c generalizing lo with
  | nil => simp [Store.place, Store.wfFrom, ha, hb]
  | cons p t ih =>
    obtain ⟨k, v⟩ := p
    simp only [Store.wfFrom, Bool.and_eq_true, decide_eq_true_eq] at h
    have hk : k ≠ a := hn (k, v) (by simp)
    unfold Store.place
    split
    · have : a + 1 ≤ k := by omega
      simp [Store.wfFrom, ha, hb, h.1.2, h.2, this]
    · simp only [Store.wfFrom, Bool.and_eq_true, decide_eq_true_eq]
      exact ⟨h.1, ih h.2 (by omega) (fun q hq => hn q (by simp [hq]))⟩

/-- A write keeps the canonical form. -/
theorem Store.wf_write {a : Nat} {b : β} {c : Store β} (h : Store.wf d c = true) : Store.wf d (Store.write d c a b) = true := by
  unfold Store.write
  split
  · exact Store.wfFrom_filter h
  · rename_i hb
    exact Store.wfFrom_place (Store.wfFrom_filter h) (Nat.zero_le a) hb (by simp [Store.without])

theorem Store.wf_nil : Store.wf d ([] : Store β) = true := rfl

/-- Consecutive writes keep the canonical form. -/
theorem Store.wf_writeList {a : Nat} {l : List β} {c : Store β} (h : Store.wf d c = true) :
    Store.wf d (Store.writeList d c a l) = true := by
  induction l generalizing a c with
  | nil => exact h
  | cons b t ih => exact ih (Store.wf_write h)

/-- Dropping entries keeps the canonical form. -/
theorem Store.wf_filter {p : Nat × β → Bool} {c : Store β} (h : Store.wf d c = true) : Store.wf d (c.filter p) = true :=
  Store.wfFrom_filter h

/-- Dropping entries keeps the canonical form under another unlisted value that agrees on the keys kept. -/
theorem Store.wf_filter_of {d' : Nat → β} {p : Nat × β → Bool} {c : Store β} {q : Nat → Bool} (h : Store.wf d c = true)
    (ha : ∀ a, q a = true → d' a = d a) (hp : ∀ x, p x = q x.1) : Store.wf d' (c.filter p) = true := by
  unfold Store.wf at *
  generalize 0 = lo at *
  induction c generalizing lo with
  | nil => rfl
  | cons x t ih =>
    simp only [Store.wfFrom, Bool.and_eq_true, decide_eq_true_eq] at h
    simp only [List.filter_cons]
    split
    · rename_i hx
      have hd := ha x.1 (by rw [← hp]; exact hx)
      simp only [Store.wfFrom, Bool.and_eq_true, decide_eq_true_eq, hd]
      exact ⟨h.1, ih _ h.2⟩
    · exact Store.wfFrom_mono (ih _ h.2) (by omega)

/-- Writes in turn keep the canonical form. -/
theorem Store.wf_foldl {α : Type} {f : Store β → α → Store β} {l : List α} {c : Store β}
    (hf : ∀ c a, Store.wf d c = true → Store.wf d (f c a) = true) (h : Store.wf d c = true) : Store.wf d (l.foldl f c) = true := by
  induction l generalizing c with
  | nil => exact h
  | cons a l ih => exact ih (hf _ _ h)

/-- Clearing a range keeps the canonical form. -/
theorem Store.wf_clear {lo n : Nat} {c : Store β} (h : Store.wf d c = true) : Store.wf d (Store.clear c lo n) = true :=
  Store.wf_filter h

end Sys2Proof.Machine
end

