-- ==== Sys2Proof/Laws/Bits.lean ====
section
/-!
SUPPORT. Laws/Bits.lean: fields of a word, and register fields after a write of another or of the same.
-/
namespace Sys2Proof.Machine

open Sys2Proof

theorem testBit_fieldOf (w : Word) (lo width i : Nat) : (fieldOf w lo width).testBit i = (decide (i < width) && w.getLsbD (lo + i)) := by
  simp [fieldOf, Nat.testBit_mod_two_pow, Nat.testBit_shiftRight, BitVec.testBit_toNat]

theorem getLsbD_withField (w : Word) (lo width v i : Nat) (hi : i < 32) :
    (withField w lo width v).getLsbD i = if lo ≤ i ∧ i < lo + width then v.testBit (i - lo) else w.getLsbD i := by
  have ofNat_bit (n j : Nat) (hj : j < 32) : (BitVec.ofNat 32 n).getLsbD j = n.testBit j := by
    simp only [BitVec.getLsbD_ofNat, hj, decide_true, Bool.true_and]
  unfold withField
  rw [BitVec.getLsbD_or, BitVec.getLsbD_and, BitVec.getLsbD_not, BitVec.getLsbD_shiftLeft, BitVec.getLsbD_shiftLeft]
  by_cases h1 : lo ≤ i
  · have h4 : i - lo < 32 := by omega
    rw [ofNat_bit _ _ h4, ofNat_bit _ _ h4, Nat.testBit_two_pow_sub_one, Nat.testBit_mod_two_pow]
    have h5 : ¬ i < lo := by omega
    by_cases h2 : i - lo < width
    · have h3 : i < lo + width := by omega
      simp [hi, h1, h2, h3, h5]
    · have h3 : ¬ i < lo + width := by omega
      simp [hi, h2, h3]
  · have h5 : i < lo := by omega
    simp [hi, h1, h5]

/-- A field reads what was put into it. -/
theorem fieldOf_withField_self (w : Word) {lo width : Nat} (v : Nat) (h : lo + width ≤ 32) :
    fieldOf (withField w lo width v) lo width = v % 2 ^ width := by
  apply Nat.eq_of_testBit_eq
  intro i
  rw [testBit_fieldOf, Nat.testBit_mod_two_pow]
  by_cases hi : i < width
  · rw [getLsbD_withField _ _ _ _ _ (by omega)]
    simp [hi]
  · simp [hi]

/-- A field apart from the one written reads as before. -/
theorem fieldOf_withField_ne (w : Word) {lo width lo' width' : Nat} (v : Nat) (h : lo' + width' ≤ 32)
    (hd : lo + width ≤ lo' ∨ lo' + width' ≤ lo) : fieldOf (withField w lo width v) lo' width' = fieldOf w lo' width' := by
  apply Nat.eq_of_testBit_eq
  intro i
  rw [testBit_fieldOf, testBit_fieldOf]
  by_cases hi : i < width'
  · rw [getLsbD_withField _ _ _ _ _ (by omega)]
    have : ¬ (lo ≤ lo' + i ∧ lo' + i < lo + width) := by omega
    simp [hi, this]
  · simp [hi]

@[simp] theorem State.word_setWord_self (s : State) (off : Nat) (w : Word) : (s.setWord off w).word off = w := by
  simp [State.word, State.setWord]

theorem State.word_setWord_ne (s : State) {off off' : Nat} (w : Word) (h : off' ≠ off) : (s.setWord off w).word off' = s.word off' := by
  simp [State.word, State.setWord, Store.read_write_ne _ _ h]

theorem State.word_put_ne (s : State) {f : Fld} {off : Nat} (v : Nat) (h : off ≠ f.off) : (s.put f v).word off = s.word off :=
  s.word_setWord_ne _ h

theorem State.word_put_self (s : State) (f : Fld) (v : Nat) : (s.put f v).word f.off = withField (s.word f.off) f.lo f.width v := by
  simp [State.put]

/-- A field reads what was put into it. -/
theorem State.get_put_self (s : State) (f : Fld) (v : Nat) (h : f.lo + f.width ≤ 32) : (s.put f v).get f = v % 2 ^ f.width := by
  simp only [State.get, State.put, State.word_setWord_self]
  exact fieldOf_withField_self _ v h

/-- A field of another word reads as before. -/
theorem State.get_put_off (s : State) {f g : Fld} (v : Nat) (h : g.off ≠ f.off) : (s.put f v).get g = s.get g := by
  simp only [State.get, State.word_put_ne s v h]

/-- A field apart from the one put reads as before. -/
theorem State.get_put_ne (s : State) {f g : Fld} (v : Nat) (hg : g.lo + g.width ≤ 32)
    (h : g.off ≠ f.off ∨ f.lo + f.width ≤ g.lo ∨ g.lo + g.width ≤ f.lo) : (s.put f v).get g = s.get g := by
  by_cases ho : g.off = f.off
  · have hd : f.lo + f.width ≤ g.lo ∨ g.lo + g.width ≤ f.lo := by
      rcases h with h | h
      · exact absurd ho h
      · exact h
    simp only [State.get, State.put]
    rw [ho, State.word_setWord_self]
    exact fieldOf_withField_ne _ v hg hd
  · exact s.get_put_off v ho

theorem State.get_setWord_off (s : State) {off : Nat} {g : Fld} (w : Word) (h : g.off ≠ off) : (s.setWord off w).get g = s.get g := by
  simp only [State.get, s.word_setWord_ne w h]

theorem State.get_setWord_self (s : State) (g : Fld) (w : Word) : (s.setWord g.off w).get g = fieldOf w g.lo g.width := by
  simp [State.get]

end Sys2Proof.Machine
end

