-- ==== Sys2Proof/Laws/Reads.lean ====
section
/-!
SUPPORT. Laws/Reads.lean: register reads after a change of a component, and components after a register write.
-/
namespace Sys2Proof.Machine

open Sys2Proof

variable (s : State)

/-! Registers after a component is replaced. -/

@[simp] theorem State.withMirror_word (v) (off : Nat) : (s.withMirror v).word off = s.word off := rfl
@[simp] theorem State.withMirror_get (v) (f : Fld) : (s.withMirror v).get f = s.get f := rfl
@[simp] theorem State.withMirror_flag (v) (f : Fld) : (s.withMirror v).flag f = s.flag f := rfl
@[simp] theorem State.withLatch_word (v) (off : Nat) : (s.withLatch v).word off = s.word off := rfl
@[simp] theorem State.withLatch_get (v) (f : Fld) : (s.withLatch v).get f = s.get f := rfl
@[simp] theorem State.withLatch_flag (v) (f : Fld) : (s.withLatch v).flag f = s.flag f := rfl
@[simp] theorem State.withHiStage_word (v) (off : Nat) : (s.withHiStage v).word off = s.word off := rfl
@[simp] theorem State.withHiStage_get (v) (f : Fld) : (s.withHiStage v).get f = s.get f := rfl
@[simp] theorem State.withHiStage_flag (v) (f : Fld) : (s.withHiStage v).flag f = s.flag f := rfl
@[simp] theorem State.withLastRead_word (v) (off : Nat) : (s.withLastRead v).word off = s.word off := rfl
@[simp] theorem State.withLastRead_get (v) (f : Fld) : (s.withLastRead v).get f = s.get f := rfl
@[simp] theorem State.withLastRead_flag (v) (f : Fld) : (s.withLastRead v).flag f = s.flag f := rfl
@[simp] theorem State.withNow_word (v) (off : Nat) : (s.withNow v).word off = s.word off := rfl
@[simp] theorem State.withNow_get (v) (f : Fld) : (s.withNow v).get f = s.get f := rfl
@[simp] theorem State.withNow_flag (v) (f : Fld) : (s.withNow v).flag f = s.flag f := rfl
@[simp] theorem State.withColdAt_word (v) (off : Nat) : (s.withColdAt v).word off = s.word off := rfl
@[simp] theorem State.withColdAt_get (v) (f : Fld) : (s.withColdAt v).get f = s.get f := rfl
@[simp] theorem State.withColdAt_flag (v) (f : Fld) : (s.withColdAt v).flag f = s.flag f := rfl
@[simp] theorem State.withFresh_word (v) (off : Nat) : (s.withFresh v).word off = s.word off := rfl
@[simp] theorem State.withFresh_get (v) (f : Fld) : (s.withFresh v).get f = s.get f := rfl
@[simp] theorem State.withFresh_flag (v) (f : Fld) : (s.withFresh v).flag f = s.flag f := rfl
@[simp] theorem State.withSlotStraps_word (v) (off : Nat) : (s.withSlotStraps v).word off = s.word off := rfl
@[simp] theorem State.withSlotStraps_get (v) (f : Fld) : (s.withSlotStraps v).get f = s.get f := rfl
@[simp] theorem State.withSlotStraps_flag (v) (f : Fld) : (s.withSlotStraps v).flag f = s.flag f := rfl
@[simp] theorem State.withHost_word (v) (off : Nat) : (s.withHost v).word off = s.word off := rfl
@[simp] theorem State.withHost_get (v) (f : Fld) : (s.withHost v).get f = s.get f := rfl
@[simp] theorem State.withHost_flag (v) (f : Fld) : (s.withHost v).flag f = s.flag f := rfl
@[simp] theorem State.withGpPsh_word (v) (off : Nat) : (s.withGpPsh v).word off = s.word off := rfl
@[simp] theorem State.withGpPsh_get (v) (f : Fld) : (s.withGpPsh v).get f = s.get f := rfl
@[simp] theorem State.withGpPsh_flag (v) (f : Fld) : (s.withGpPsh v).flag f = s.flag f := rfl
@[simp] theorem State.withGpGld_word (v) (off : Nat) : (s.withGpGld v).word off = s.word off := rfl
@[simp] theorem State.withGpGld_get (v) (f : Fld) : (s.withGpGld v).get f = s.get f := rfl
@[simp] theorem State.withGpGld_flag (v) (f : Fld) : (s.withGpGld v).flag f = s.flag f := rfl
@[simp] theorem State.withCrossHeld_word (v) (off : Nat) : (s.withCrossHeld v).word off = s.word off := rfl
@[simp] theorem State.withCrossHeld_get (v) (f : Fld) : (s.withCrossHeld v).get f = s.get f := rfl
@[simp] theorem State.withCrossHeld_flag (v) (f : Fld) : (s.withCrossHeld v).flag f = s.flag f := rfl
@[simp] theorem State.withSvc_word (v) (off : Nat) : (s.withSvc v).word off = s.word off := rfl
@[simp] theorem State.withSvc_get (v) (f : Fld) : (s.withSvc v).get f = s.get f := rfl
@[simp] theorem State.withSvc_flag (v) (f : Fld) : (s.withSvc v).flag f = s.flag f := rfl
@[simp] theorem State.withBrk_word (v) (off : Nat) : (s.withBrk v).word off = s.word off := rfl
@[simp] theorem State.withBrk_get (v) (f : Fld) : (s.withBrk v).get f = s.get f := rfl
@[simp] theorem State.withBrk_flag (v) (f : Fld) : (s.withBrk v).flag f = s.flag f := rfl
@[simp] theorem State.withMeter_word (v) (off : Nat) : (s.withMeter v).word off = s.word off := rfl
@[simp] theorem State.withMeter_get (v) (f : Fld) : (s.withMeter v).get f = s.get f := rfl
@[simp] theorem State.withMeter_flag (v) (f : Fld) : (s.withMeter v).flag f = s.flag f := rfl
@[simp] theorem State.withPmb_word (v) (off : Nat) : (s.withPmb v).word off = s.word off := rfl
@[simp] theorem State.withPmb_get (v) (f : Fld) : (s.withPmb v).get f = s.get f := rfl
@[simp] theorem State.withPmb_flag (v) (f : Fld) : (s.withPmb v).flag f = s.flag f := rfl
@[simp] theorem State.withCard_word (v) (off : Nat) : (s.withCard v).word off = s.word off := rfl
@[simp] theorem State.withCard_get (v) (f : Fld) : (s.withCard v).get f = s.get f := rfl
@[simp] theorem State.withCard_flag (v) (f : Fld) : (s.withCard v).flag f = s.flag f := rfl
@[simp] theorem State.withMgmt_word (v) (off : Nat) : (s.withMgmt v).word off = s.word off := rfl
@[simp] theorem State.withMgmt_get (v) (f : Fld) : (s.withMgmt v).get f = s.get f := rfl
@[simp] theorem State.withMgmt_flag (v) (f : Fld) : (s.withMgmt v).flag f = s.flag f := rfl
@[simp] theorem State.withThermal_word (v) (off : Nat) : (s.withThermal v).word off = s.word off := rfl
@[simp] theorem State.withThermal_get (v) (f : Fld) : (s.withThermal v).get f = s.get f := rfl
@[simp] theorem State.withThermal_flag (v) (f : Fld) : (s.withThermal v).flag f = s.flag f := rfl
@[simp] theorem State.withSec_word (v) (off : Nat) : (s.withSec v).word off = s.word off := rfl
@[simp] theorem State.withSec_get (v) (f : Fld) : (s.withSec v).get f = s.get f := rfl
@[simp] theorem State.withSec_flag (v) (f : Fld) : (s.withSec v).flag f = s.flag f := rfl
@[simp] theorem State.withDbg_word (v) (off : Nat) : (s.withDbg v).word off = s.word off := rfl
@[simp] theorem State.withDbg_get (v) (f : Fld) : (s.withDbg v).get f = s.get f := rfl
@[simp] theorem State.withDbg_flag (v) (f : Fld) : (s.withDbg v).flag f = s.flag f := rfl
@[simp] theorem State.withFab_word (v) (off : Nat) : (s.withFab v).word off = s.word off := rfl
@[simp] theorem State.withFab_get (v) (f : Fld) : (s.withFab v).get f = s.get f := rfl
@[simp] theorem State.withFab_flag (v) (f : Fld) : (s.withFab v).flag f = s.flag f := rfl
@[simp] theorem State.withPass_word (v) (off : Nat) : (s.withPass v).word off = s.word off := rfl
@[simp] theorem State.withPass_get (v) (f : Fld) : (s.withPass v).get f = s.get f := rfl
@[simp] theorem State.withPass_flag (v) (f : Fld) : (s.withPass v).flag f = s.flag f := rfl
@[simp] theorem State.withCap_word (v) (off : Nat) : (s.withCap v).word off = s.word off := rfl
@[simp] theorem State.withCap_get (v) (f : Fld) : (s.withCap v).get f = s.get f := rfl
@[simp] theorem State.withCap_flag (v) (f : Fld) : (s.withCap v).flag f = s.flag f := rfl
@[simp] theorem State.withAkg_word (v) (off : Nat) : (s.withAkg v).word off = s.word off := rfl
@[simp] theorem State.withAkg_get (v) (f : Fld) : (s.withAkg v).get f = s.get f := rfl
@[simp] theorem State.withAkg_flag (v) (f : Fld) : (s.withAkg v).flag f = s.flag f := rfl
@[simp] theorem State.withDram_word (v) (off : Nat) : (s.withDram v).word off = s.word off := rfl
@[simp] theorem State.withDram_get (v) (f : Fld) : (s.withDram v).get f = s.get f := rfl
@[simp] theorem State.withDram_flag (v) (f : Fld) : (s.withDram v).flag f = s.flag f := rfl
@[simp] theorem State.withDramEra_word (v) (off : Nat) : (s.withDramEra v).word off = s.word off := rfl
@[simp] theorem State.withDramEra_get (v) (f : Fld) : (s.withDramEra v).get f = s.get f := rfl
@[simp] theorem State.withDramEra_flag (v) (f : Fld) : (s.withDramEra v).flag f = s.flag f := rfl
@[simp] theorem State.withNor_word (v) (off : Nat) : (s.withNor v).word off = s.word off := rfl
@[simp] theorem State.withNor_get (v) (f : Fld) : (s.withNor v).get f = s.get f := rfl
@[simp] theorem State.withNor_flag (v) (f : Fld) : (s.withNor v).flag f = s.flag f := rfl
@[simp] theorem State.withPending_word (v) (off : Nat) : (s.withPending v).word off = s.word off := rfl
@[simp] theorem State.withPending_get (v) (f : Fld) : (s.withPending v).get f = s.get f := rfl
@[simp] theorem State.withPending_flag (v) (f : Fld) : (s.withPending v).flag f = s.flag f := rfl

/-! Components after a register write. -/

@[simp] theorem State.setWord_mirror (off : Nat) (w : Word) : (s.setWord off w).mirror = s.mirror := rfl
@[simp] theorem State.setWord_latch (off : Nat) (w : Word) : (s.setWord off w).latch = s.latch := rfl
@[simp] theorem State.setWord_hiStage (off : Nat) (w : Word) : (s.setWord off w).hiStage = s.hiStage := rfl
@[simp] theorem State.setWord_lastRead (off : Nat) (w : Word) : (s.setWord off w).lastRead = s.lastRead := rfl
@[simp] theorem State.setWord_now (off : Nat) (w : Word) : (s.setWord off w).now = s.now := rfl
@[simp] theorem State.setWord_coldAt (off : Nat) (w : Word) : (s.setWord off w).coldAt = s.coldAt := rfl
@[simp] theorem State.setWord_fresh (off : Nat) (w : Word) : (s.setWord off w).fresh = s.fresh := rfl
@[simp] theorem State.setWord_slotStraps (off : Nat) (w : Word) : (s.setWord off w).slotStraps = s.slotStraps := rfl
@[simp] theorem State.setWord_host (off : Nat) (w : Word) : (s.setWord off w).host = s.host := rfl
@[simp] theorem State.setWord_gpPsh (off : Nat) (w : Word) : (s.setWord off w).gpPsh = s.gpPsh := rfl
@[simp] theorem State.setWord_gpGld (off : Nat) (w : Word) : (s.setWord off w).gpGld = s.gpGld := rfl
@[simp] theorem State.setWord_crossHeld (off : Nat) (w : Word) : (s.setWord off w).crossHeld = s.crossHeld := rfl
@[simp] theorem State.setWord_svc (off : Nat) (w : Word) : (s.setWord off w).svc = s.svc := rfl
@[simp] theorem State.setWord_brk (off : Nat) (w : Word) : (s.setWord off w).brk = s.brk := rfl
@[simp] theorem State.setWord_meter (off : Nat) (w : Word) : (s.setWord off w).meter = s.meter := rfl
@[simp] theorem State.setWord_pmb (off : Nat) (w : Word) : (s.setWord off w).pmb = s.pmb := rfl
@[simp] theorem State.setWord_card (off : Nat) (w : Word) : (s.setWord off w).card = s.card := rfl
@[simp] theorem State.setWord_mgmt (off : Nat) (w : Word) : (s.setWord off w).mgmt = s.mgmt := rfl
@[simp] theorem State.setWord_thermal (off : Nat) (w : Word) : (s.setWord off w).thermal = s.thermal := rfl
@[simp] theorem State.setWord_sec (off : Nat) (w : Word) : (s.setWord off w).sec = s.sec := rfl
@[simp] theorem State.setWord_dbg (off : Nat) (w : Word) : (s.setWord off w).dbg = s.dbg := rfl
@[simp] theorem State.setWord_fab (off : Nat) (w : Word) : (s.setWord off w).fab = s.fab := rfl
@[simp] theorem State.setWord_pass (off : Nat) (w : Word) : (s.setWord off w).pass = s.pass := rfl
@[simp] theorem State.setWord_cap (off : Nat) (w : Word) : (s.setWord off w).cap = s.cap := rfl
@[simp] theorem State.setWord_akg (off : Nat) (w : Word) : (s.setWord off w).akg = s.akg := rfl
@[simp] theorem State.setWord_dram (off : Nat) (w : Word) : (s.setWord off w).dram = s.dram := rfl
@[simp] theorem State.setWord_dramEra (off : Nat) (w : Word) : (s.setWord off w).dramEra = s.dramEra := rfl
@[simp] theorem State.setWord_nor (off : Nat) (w : Word) : (s.setWord off w).nor = s.nor := rfl
@[simp] theorem State.setWord_pending (off : Nat) (w : Word) : (s.setWord off w).pending = s.pending := rfl
@[simp] theorem State.put_mirror (f : Fld) (v : Nat) : (s.put f v).mirror = s.mirror := rfl
@[simp] theorem State.put_latch (f : Fld) (v : Nat) : (s.put f v).latch = s.latch := rfl
@[simp] theorem State.put_hiStage (f : Fld) (v : Nat) : (s.put f v).hiStage = s.hiStage := rfl
@[simp] theorem State.put_lastRead (f : Fld) (v : Nat) : (s.put f v).lastRead = s.lastRead := rfl
@[simp] theorem State.put_now (f : Fld) (v : Nat) : (s.put f v).now = s.now := rfl
@[simp] theorem State.put_coldAt (f : Fld) (v : Nat) : (s.put f v).coldAt = s.coldAt := rfl
@[simp] theorem State.put_fresh (f : Fld) (v : Nat) : (s.put f v).fresh = s.fresh := rfl
@[simp] theorem State.put_slotStraps (f : Fld) (v : Nat) : (s.put f v).slotStraps = s.slotStraps := rfl
@[simp] theorem State.put_host (f : Fld) (v : Nat) : (s.put f v).host = s.host := rfl
@[simp] theorem State.put_gpPsh (f : Fld) (v : Nat) : (s.put f v).gpPsh = s.gpPsh := rfl
@[simp] theorem State.put_gpGld (f : Fld) (v : Nat) : (s.put f v).gpGld = s.gpGld := rfl
@[simp] theorem State.put_crossHeld (f : Fld) (v : Nat) : (s.put f v).crossHeld = s.crossHeld := rfl
@[simp] theorem State.put_svc (f : Fld) (v : Nat) : (s.put f v).svc = s.svc := rfl
@[simp] theorem State.put_brk (f : Fld) (v : Nat) : (s.put f v).brk = s.brk := rfl
@[simp] theorem State.put_meter (f : Fld) (v : Nat) : (s.put f v).meter = s.meter := rfl
@[simp] theorem State.put_pmb (f : Fld) (v : Nat) : (s.put f v).pmb = s.pmb := rfl
@[simp] theorem State.put_card (f : Fld) (v : Nat) : (s.put f v).card = s.card := rfl
@[simp] theorem State.put_mgmt (f : Fld) (v : Nat) : (s.put f v).mgmt = s.mgmt := rfl
@[simp] theorem State.put_thermal (f : Fld) (v : Nat) : (s.put f v).thermal = s.thermal := rfl
@[simp] theorem State.put_sec (f : Fld) (v : Nat) : (s.put f v).sec = s.sec := rfl
@[simp] theorem State.put_dbg (f : Fld) (v : Nat) : (s.put f v).dbg = s.dbg := rfl
@[simp] theorem State.put_fab (f : Fld) (v : Nat) : (s.put f v).fab = s.fab := rfl
@[simp] theorem State.put_pass (f : Fld) (v : Nat) : (s.put f v).pass = s.pass := rfl
@[simp] theorem State.put_cap (f : Fld) (v : Nat) : (s.put f v).cap = s.cap := rfl
@[simp] theorem State.put_akg (f : Fld) (v : Nat) : (s.put f v).akg = s.akg := rfl
@[simp] theorem State.put_dram (f : Fld) (v : Nat) : (s.put f v).dram = s.dram := rfl
@[simp] theorem State.put_dramEra (f : Fld) (v : Nat) : (s.put f v).dramEra = s.dramEra := rfl
@[simp] theorem State.put_nor (f : Fld) (v : Nat) : (s.put f v).nor = s.nor := rfl
@[simp] theorem State.put_pending (f : Fld) (v : Nat) : (s.put f v).pending = s.pending := rfl
@[simp] theorem State.putFlag_mirror (f : Fld) (b : Bool) : (s.putFlag f b).mirror = s.mirror := rfl
@[simp] theorem State.putFlag_latch (f : Fld) (b : Bool) : (s.putFlag f b).latch = s.latch := rfl
@[simp] theorem State.putFlag_hiStage (f : Fld) (b : Bool) : (s.putFlag f b).hiStage = s.hiStage := rfl
@[simp] theorem State.putFlag_lastRead (f : Fld) (b : Bool) : (s.putFlag f b).lastRead = s.lastRead := rfl
@[simp] theorem State.putFlag_now (f : Fld) (b : Bool) : (s.putFlag f b).now = s.now := rfl
@[simp] theorem State.putFlag_coldAt (f : Fld) (b : Bool) : (s.putFlag f b).coldAt = s.coldAt := rfl
@[simp] theorem State.putFlag_fresh (f : Fld) (b : Bool) : (s.putFlag f b).fresh = s.fresh := rfl
@[simp] theorem State.putFlag_slotStraps (f : Fld) (b : Bool) : (s.putFlag f b).slotStraps = s.slotStraps := rfl
@[simp] theorem State.putFlag_host (f : Fld) (b : Bool) : (s.putFlag f b).host = s.host := rfl
@[simp] theorem State.putFlag_gpPsh (f : Fld) (b : Bool) : (s.putFlag f b).gpPsh = s.gpPsh := rfl
@[simp] theorem State.putFlag_gpGld (f : Fld) (b : Bool) : (s.putFlag f b).gpGld = s.gpGld := rfl
@[simp] theorem State.putFlag_crossHeld (f : Fld) (b : Bool) : (s.putFlag f b).crossHeld = s.crossHeld := rfl
@[simp] theorem State.putFlag_svc (f : Fld) (b : Bool) : (s.putFlag f b).svc = s.svc := rfl
@[simp] theorem State.putFlag_brk (f : Fld) (b : Bool) : (s.putFlag f b).brk = s.brk := rfl
@[simp] theorem State.putFlag_meter (f : Fld) (b : Bool) : (s.putFlag f b).meter = s.meter := rfl
@[simp] theorem State.putFlag_pmb (f : Fld) (b : Bool) : (s.putFlag f b).pmb = s.pmb := rfl
@[simp] theorem State.putFlag_card (f : Fld) (b : Bool) : (s.putFlag f b).card = s.card := rfl
@[simp] theorem State.putFlag_mgmt (f : Fld) (b : Bool) : (s.putFlag f b).mgmt = s.mgmt := rfl
@[simp] theorem State.putFlag_thermal (f : Fld) (b : Bool) : (s.putFlag f b).thermal = s.thermal := rfl
@[simp] theorem State.putFlag_sec (f : Fld) (b : Bool) : (s.putFlag f b).sec = s.sec := rfl
@[simp] theorem State.putFlag_dbg (f : Fld) (b : Bool) : (s.putFlag f b).dbg = s.dbg := rfl
@[simp] theorem State.putFlag_fab (f : Fld) (b : Bool) : (s.putFlag f b).fab = s.fab := rfl
@[simp] theorem State.putFlag_pass (f : Fld) (b : Bool) : (s.putFlag f b).pass = s.pass := rfl
@[simp] theorem State.putFlag_cap (f : Fld) (b : Bool) : (s.putFlag f b).cap = s.cap := rfl
@[simp] theorem State.putFlag_akg (f : Fld) (b : Bool) : (s.putFlag f b).akg = s.akg := rfl
@[simp] theorem State.putFlag_dram (f : Fld) (b : Bool) : (s.putFlag f b).dram = s.dram := rfl
@[simp] theorem State.putFlag_dramEra (f : Fld) (b : Bool) : (s.putFlag f b).dramEra = s.dramEra := rfl
@[simp] theorem State.putFlag_nor (f : Fld) (b : Bool) : (s.putFlag f b).nor = s.nor := rfl
@[simp] theorem State.putFlag_pending (f : Fld) (b : Bool) : (s.putFlag f b).pending = s.pending := rfl
@[simp] theorem State.add_mirror (f : Fld) (n : Nat) : (s.add f n).mirror = s.mirror := rfl
@[simp] theorem State.add_latch (f : Fld) (n : Nat) : (s.add f n).latch = s.latch := rfl
@[simp] theorem State.add_hiStage (f : Fld) (n : Nat) : (s.add f n).hiStage = s.hiStage := rfl
@[simp] theorem State.add_lastRead (f : Fld) (n : Nat) : (s.add f n).lastRead = s.lastRead := rfl
@[simp] theorem State.add_now (f : Fld) (n : Nat) : (s.add f n).now = s.now := rfl
@[simp] theorem State.add_coldAt (f : Fld) (n : Nat) : (s.add f n).coldAt = s.coldAt := rfl
@[simp] theorem State.add_fresh (f : Fld) (n : Nat) : (s.add f n).fresh = s.fresh := rfl
@[simp] theorem State.add_slotStraps (f : Fld) (n : Nat) : (s.add f n).slotStraps = s.slotStraps := rfl
@[simp] theorem State.add_host (f : Fld) (n : Nat) : (s.add f n).host = s.host := rfl
@[simp] theorem State.add_gpPsh (f : Fld) (n : Nat) : (s.add f n).gpPsh = s.gpPsh := rfl
@[simp] theorem State.add_gpGld (f : Fld) (n : Nat) : (s.add f n).gpGld = s.gpGld := rfl
@[simp] theorem State.add_crossHeld (f : Fld) (n : Nat) : (s.add f n).crossHeld = s.crossHeld := rfl
@[simp] theorem State.add_svc (f : Fld) (n : Nat) : (s.add f n).svc = s.svc := rfl
@[simp] theorem State.add_brk (f : Fld) (n : Nat) : (s.add f n).brk = s.brk := rfl
@[simp] theorem State.add_meter (f : Fld) (n : Nat) : (s.add f n).meter = s.meter := rfl
@[simp] theorem State.add_pmb (f : Fld) (n : Nat) : (s.add f n).pmb = s.pmb := rfl
@[simp] theorem State.add_card (f : Fld) (n : Nat) : (s.add f n).card = s.card := rfl
@[simp] theorem State.add_mgmt (f : Fld) (n : Nat) : (s.add f n).mgmt = s.mgmt := rfl
@[simp] theorem State.add_thermal (f : Fld) (n : Nat) : (s.add f n).thermal = s.thermal := rfl
@[simp] theorem State.add_sec (f : Fld) (n : Nat) : (s.add f n).sec = s.sec := rfl
@[simp] theorem State.add_dbg (f : Fld) (n : Nat) : (s.add f n).dbg = s.dbg := rfl
@[simp] theorem State.add_fab (f : Fld) (n : Nat) : (s.add f n).fab = s.fab := rfl
@[simp] theorem State.add_pass (f : Fld) (n : Nat) : (s.add f n).pass = s.pass := rfl
@[simp] theorem State.add_cap (f : Fld) (n : Nat) : (s.add f n).cap = s.cap := rfl
@[simp] theorem State.add_akg (f : Fld) (n : Nat) : (s.add f n).akg = s.akg := rfl
@[simp] theorem State.add_dram (f : Fld) (n : Nat) : (s.add f n).dram = s.dram := rfl
@[simp] theorem State.add_dramEra (f : Fld) (n : Nat) : (s.add f n).dramEra = s.dramEra := rfl
@[simp] theorem State.add_nor (f : Fld) (n : Nat) : (s.add f n).nor = s.nor := rfl
@[simp] theorem State.add_pending (f : Fld) (n : Nat) : (s.add f n).pending = s.pending := rfl
@[simp] theorem State.bump_mirror (f : Fld) : (s.bump f).mirror = s.mirror := rfl
@[simp] theorem State.bump_latch (f : Fld) : (s.bump f).latch = s.latch := rfl
@[simp] theorem State.bump_hiStage (f : Fld) : (s.bump f).hiStage = s.hiStage := rfl
@[simp] theorem State.bump_lastRead (f : Fld) : (s.bump f).lastRead = s.lastRead := rfl
@[simp] theorem State.bump_now (f : Fld) : (s.bump f).now = s.now := rfl
@[simp] theorem State.bump_coldAt (f : Fld) : (s.bump f).coldAt = s.coldAt := rfl
@[simp] theorem State.bump_fresh (f : Fld) : (s.bump f).fresh = s.fresh := rfl
@[simp] theorem State.bump_slotStraps (f : Fld) : (s.bump f).slotStraps = s.slotStraps := rfl
@[simp] theorem State.bump_host (f : Fld) : (s.bump f).host = s.host := rfl
@[simp] theorem State.bump_gpPsh (f : Fld) : (s.bump f).gpPsh = s.gpPsh := rfl
@[simp] theorem State.bump_gpGld (f : Fld) : (s.bump f).gpGld = s.gpGld := rfl
@[simp] theorem State.bump_crossHeld (f : Fld) : (s.bump f).crossHeld = s.crossHeld := rfl
@[simp] theorem State.bump_svc (f : Fld) : (s.bump f).svc = s.svc := rfl
@[simp] theorem State.bump_brk (f : Fld) : (s.bump f).brk = s.brk := rfl
@[simp] theorem State.bump_meter (f : Fld) : (s.bump f).meter = s.meter := rfl
@[simp] theorem State.bump_pmb (f : Fld) : (s.bump f).pmb = s.pmb := rfl
@[simp] theorem State.bump_card (f : Fld) : (s.bump f).card = s.card := rfl
@[simp] theorem State.bump_mgmt (f : Fld) : (s.bump f).mgmt = s.mgmt := rfl
@[simp] theorem State.bump_thermal (f : Fld) : (s.bump f).thermal = s.thermal := rfl
@[simp] theorem State.bump_sec (f : Fld) : (s.bump f).sec = s.sec := rfl
@[simp] theorem State.bump_dbg (f : Fld) : (s.bump f).dbg = s.dbg := rfl
@[simp] theorem State.bump_fab (f : Fld) : (s.bump f).fab = s.fab := rfl
@[simp] theorem State.bump_pass (f : Fld) : (s.bump f).pass = s.pass := rfl
@[simp] theorem State.bump_cap (f : Fld) : (s.bump f).cap = s.cap := rfl
@[simp] theorem State.bump_akg (f : Fld) : (s.bump f).akg = s.akg := rfl
@[simp] theorem State.bump_dram (f : Fld) : (s.bump f).dram = s.dram := rfl
@[simp] theorem State.bump_dramEra (f : Fld) : (s.bump f).dramEra = s.dramEra := rfl
@[simp] theorem State.bump_nor (f : Fld) : (s.bump f).nor = s.nor := rfl
@[simp] theorem State.bump_pending (f : Fld) : (s.bump f).pending = s.pending := rfl

/-! Frames of the component updates. -/

theorem State.only_withMirror (v) : s.only (s.withMirror v) [.part .mirror] :=
  ⟨fun _ _ _ _ => rfl, fun p hp => by cases p <;> first | rfl | exact ⟨rfl, rfl⟩ | simp at hp⟩
theorem State.only_withLatch (v) : s.only (s.withLatch v) [.part .latch] :=
  ⟨fun _ _ _ _ => rfl, fun p hp => by cases p <;> first | rfl | exact ⟨rfl, rfl⟩ | simp at hp⟩
theorem State.only_withHiStage (v) : s.only (s.withHiStage v) [.part .hiStage] :=
  ⟨fun _ _ _ _ => rfl, fun p hp => by cases p <;> first | rfl | exact ⟨rfl, rfl⟩ | simp at hp⟩
theorem State.only_withLastRead (v) : s.only (s.withLastRead v) [.part .lastRead] :=
  ⟨fun _ _ _ _ => rfl, fun p hp => by cases p <;> first | rfl | exact ⟨rfl, rfl⟩ | simp at hp⟩
theorem State.only_withNow (v) : s.only (s.withNow v) [.part .clock] :=
  ⟨fun _ _ _ _ => rfl, fun p hp => by cases p <;> first | rfl | exact ⟨rfl, rfl⟩ | simp at hp⟩
theorem State.only_withColdAt (v) : s.only (s.withColdAt v) [.part .clock] :=
  ⟨fun _ _ _ _ => rfl, fun p hp => by cases p <;> first | rfl | exact ⟨rfl, rfl⟩ | simp at hp⟩
theorem State.only_withFresh (v) : s.only (s.withFresh v) [.part .fresh] :=
  ⟨fun _ _ _ _ => rfl, fun p hp => by cases p <;> first | rfl | exact ⟨rfl, rfl⟩ | simp at hp⟩
theorem State.only_withSlotStraps (v) : s.only (s.withSlotStraps v) [.part .slotStraps] :=
  ⟨fun _ _ _ _ => rfl, fun p hp => by cases p <;> first | rfl | exact ⟨rfl, rfl⟩ | simp at hp⟩
theorem State.only_withHost (v) : s.only (s.withHost v) [.part .host] :=
  ⟨fun _ _ _ _ => rfl, fun p hp => by cases p <;> first | rfl | exact ⟨rfl, rfl⟩ | simp at hp⟩
theorem State.only_withGpPsh (v) : s.only (s.withGpPsh v) [.part .gpPsh] :=
  ⟨fun _ _ _ _ => rfl, fun p hp => by cases p <;> first | rfl | exact ⟨rfl, rfl⟩ | simp at hp⟩
theorem State.only_withGpGld (v) : s.only (s.withGpGld v) [.part .gpGld] :=
  ⟨fun _ _ _ _ => rfl, fun p hp => by cases p <;> first | rfl | exact ⟨rfl, rfl⟩ | simp at hp⟩
theorem State.only_withCrossHeld (v) : s.only (s.withCrossHeld v) [.part .crossHeld] :=
  ⟨fun _ _ _ _ => rfl, fun p hp => by cases p <;> first | rfl | exact ⟨rfl, rfl⟩ | simp at hp⟩
theorem State.only_withSvc (v) : s.only (s.withSvc v) [.part .svc] :=
  ⟨fun _ _ _ _ => rfl, fun p hp => by cases p <;> first | rfl | exact ⟨rfl, rfl⟩ | simp at hp⟩
theorem State.only_withBrk (v) : s.only (s.withBrk v) [.part .brk] :=
  ⟨fun _ _ _ _ => rfl, fun p hp => by cases p <;> first | rfl | exact ⟨rfl, rfl⟩ | simp at hp⟩
theorem State.only_withMeter (v) : s.only (s.withMeter v) [.part .meter] :=
  ⟨fun _ _ _ _ => rfl, fun p hp => by cases p <;> first | rfl | exact ⟨rfl, rfl⟩ | simp at hp⟩
theorem State.only_withPmb (v) : s.only (s.withPmb v) [.part .pmb] :=
  ⟨fun _ _ _ _ => rfl, fun p hp => by cases p <;> first | rfl | exact ⟨rfl, rfl⟩ | simp at hp⟩
theorem State.only_withCard (v) : s.only (s.withCard v) [.part .card] :=
  ⟨fun _ _ _ _ => rfl, fun p hp => by cases p <;> first | rfl | exact ⟨rfl, rfl⟩ | simp at hp⟩
theorem State.only_withMgmt (v) : s.only (s.withMgmt v) [.part .mgmt] :=
  ⟨fun _ _ _ _ => rfl, fun p hp => by cases p <;> first | rfl | exact ⟨rfl, rfl⟩ | simp at hp⟩
theorem State.only_withThermal (v) : s.only (s.withThermal v) [.part .thermal] :=
  ⟨fun _ _ _ _ => rfl, fun p hp => by cases p <;> first | rfl | exact ⟨rfl, rfl⟩ | simp at hp⟩
theorem State.only_withSec (v) : s.only (s.withSec v) [.part .sec] :=
  ⟨fun _ _ _ _ => rfl, fun p hp => by cases p <;> first | rfl | exact ⟨rfl, rfl⟩ | simp at hp⟩
theorem State.only_withDbg (v) : s.only (s.withDbg v) [.part .dbg] :=
  ⟨fun _ _ _ _ => rfl, fun p hp => by cases p <;> first | rfl | exact ⟨rfl, rfl⟩ | simp at hp⟩
theorem State.only_withFab (v) : s.only (s.withFab v) [.part .fab] :=
  ⟨fun _ _ _ _ => rfl, fun p hp => by cases p <;> first | rfl | exact ⟨rfl, rfl⟩ | simp at hp⟩
theorem State.only_withPass (v) : s.only (s.withPass v) [.part .pass] :=
  ⟨fun _ _ _ _ => rfl, fun p hp => by cases p <;> first | rfl | exact ⟨rfl, rfl⟩ | simp at hp⟩
theorem State.only_withCap (v) : s.only (s.withCap v) [.part .cap] :=
  ⟨fun _ _ _ _ => rfl, fun p hp => by cases p <;> first | rfl | exact ⟨rfl, rfl⟩ | simp at hp⟩
theorem State.only_withAkg (v) : s.only (s.withAkg v) [.part .akg] :=
  ⟨fun _ _ _ _ => rfl, fun p hp => by cases p <;> first | rfl | exact ⟨rfl, rfl⟩ | simp at hp⟩
theorem State.only_withDram (v) : s.only (s.withDram v) [.part .dram] :=
  ⟨fun _ _ _ _ => rfl, fun p hp => by cases p <;> first | rfl | exact ⟨rfl, rfl⟩ | simp at hp⟩
theorem State.only_withDramEra (v) : s.only (s.withDramEra v) [.part .dramEra] :=
  ⟨fun _ _ _ _ => rfl, fun p hp => by cases p <;> first | rfl | exact ⟨rfl, rfl⟩ | simp at hp⟩
theorem State.only_withNor (v) : s.only (s.withNor v) [.part .nor] :=
  ⟨fun _ _ _ _ => rfl, fun p hp => by cases p <;> first | rfl | exact ⟨rfl, rfl⟩ | simp at hp⟩
theorem State.only_withPending (v) : s.only (s.withPending v) [.part .pending] :=
  ⟨fun _ _ _ _ => rfl, fun p hp => by cases p <;> first | rfl | exact ⟨rfl, rfl⟩ | simp at hp⟩

end Sys2Proof.Machine
end

