-- ==== Sys2Proof/Laws/Frame.lean ====
section
/-!
SUPPORT. Laws/Frame.lean: frames compose, tell what a field reads afterwards, and the frame of each shared operation.
-/
namespace Sys2Proof.Machine

open Sys2Proof

variable {s t u : State} {l l' : List Place}

theorem State.only.refl (s : State) : s.only s [] := by
  refine ⟨fun _ _ _ _ => rfl, fun p _ => ?_⟩
  cases p <;> first | rfl | exact ⟨rfl, rfl⟩

theorem Part.same_trans {p : Part} (h : p.same s t) (h' : p.same t u) : p.same s u := by
  cases p <;> first | exact Eq.trans h' h | exact ⟨Eq.trans h'.1 h.1, Eq.trans h'.2 h.2⟩

/-- Frames of two commands in turn: the places of either. -/
theorem State.only.trans (h : s.only t l) (h' : t.only u l') : s.only u (l ++ l') := by
  refine ⟨fun off i hi hn => ?_, fun p hp => ?_⟩
  · rw [h'.1 off i hi (fun p hp => hn p (List.mem_append_right _ hp)), h.1 off i hi (fun p hp => hn p (List.mem_append_left _ hp))]
  · simp only [List.mem_append, not_or] at hp
    exact Part.same_trans (h.2 p hp.1) (h'.2 p hp.2)

/-- A frame holds of more places. -/
theorem State.only.mono (h : s.only t l) (hl : ∀ p ∈ l, p ∈ l') : s.only t l' :=
  ⟨fun off i hi hn => h.1 off i hi (fun p hp => hn p (hl p hp)), fun p hp => h.2 p (fun hm => hp (hl _ hm))⟩

/-- A place shares no bit with a field. -/
def Place.apart (g : Fld) : Place → Bool
  | .fld f => decide (f.off ≠ g.off) || decide (f.lo + f.width ≤ g.lo) || decide (g.lo + g.width ≤ f.lo)
  | .words lo bytes => decide (g.off < lo) || decide (lo + bytes ≤ g.off)
  | .gld1 => isPsh2Word g.off
  | .part _ => true

theorem Place.apart_part (g : Fld) (p : Part) : Place.apart g (.part p) = true := rfl

/-- A field apart from every place of a frame reads as before. -/
theorem State.only.get (h : s.only t l) {g : Fld} (hg : g.lo + g.width ≤ 32) (ha : l.all (Place.apart g) = true) :
    t.get g = s.get g := by
  apply Nat.eq_of_testBit_eq
  intro i
  rw [State.get, State.get, testBit_fieldOf, testBit_fieldOf]
  by_cases hi : i < g.width
  · rw [h.1 g.off (g.lo + i) (by omega)]
    intro p hp
    have := List.all_eq_true.mp ha p hp
    cases p with
    | fld f => simp only [Place.apart, Place.holds, Bool.or_eq_true, decide_eq_true_eq, Bool.and_eq_false_iff, decide_eq_false_iff_not] at this ⊢; omega
    | words lo b => simp only [Place.apart, Place.holds, Bool.or_eq_true, decide_eq_true_eq, Bool.and_eq_false_iff, decide_eq_false_iff_not] at this ⊢; omega
    | gld1 => simp only [Place.apart] at this; simp [Place.holds, this]
    | part q => rfl
  · simp [hi]

/-- A register word is unchanged where a frame lists components only. -/
theorem State.only.word (h : s.only t l) (hl : ∀ p ∈ l, ∃ q, p = Place.part q) (off : Nat) : t.word off = s.word off := by
  apply BitVec.eq_of_getLsbD_eq
  intro i hi
  refine h.1 off i hi (fun p hp => ?_)
  obtain ⟨q, rfl⟩ := hl p hp
  rfl

/-- One more operation, whose places the frame holds already. -/
theorem State.only.step (h : s.only t l) (h' : t.only u l') (hl : ∀ p ∈ l', p ∈ l) : s.only u l :=
  (h.trans h').mono (fun p hp => (List.mem_append.mp hp).elim id (hl p))

/-- A component outside a frame is the same. -/
theorem State.only.part (h : s.only t l) {p : Part} (hp : Place.part p ∉ l) : p.same s t := h.2 p hp

/-- An operation that leaves the register words changes components alone. -/
theorem State.only_of_regs (hr : t.regs = s.regs) (hp : ∀ p, Place.part p ∉ l → p.same s t) : s.only t l :=
  ⟨fun off i _ _ => by simp only [State.word, hr], hp⟩

theorem State.only_put (s : State) (f : Fld) (v : Nat) : s.only (s.put f v) [.fld f] := by
  refine ⟨fun off i hi hn => ?_, fun p _ => by cases p <;> first | rfl | exact ⟨rfl, rfl⟩⟩
  have h := hn (.fld f) (by simp)
  simp only [Place.holds, Bool.and_eq_false_iff, decide_eq_false_iff_not] at h
  by_cases ho : off = f.off
  · subst ho
    rw [State.word_put_self, getLsbD_withField _ _ _ _ _ hi]
    have : ¬ (f.lo ≤ i ∧ i < f.lo + f.width) := by omega
    simp [this]
  · rw [State.word_put_ne s v ho]

theorem State.only_putFlag (s : State) (f : Fld) (b : Bool) : s.only (s.putFlag f b) [.fld f] := s.only_put f _

theorem State.only_add (s : State) (f : Fld) (n : Nat) : s.only (s.add f n) [.fld f] := s.only_put f _

theorem State.only_bump (s : State) (f : Fld) : s.only (s.bump f) [.fld f] := s.only_put f _

theorem State.only_setWord (s : State) (off : Nat) (w : Word) : s.only (s.setWord off w) [.words off 4] := by
  refine ⟨fun o i _ hn => ?_, fun p _ => by cases p <;> first | rfl | exact ⟨rfl, rfl⟩⟩
  have h := hn (.words off 4) (by simp)
  simp only [Place.holds, Bool.and_eq_false_iff, decide_eq_false_iff_not] at h
  rw [State.word_setWord_ne s w (by omega)]

theorem State.only_alertOn (s : State) : s.only s.alertOn [.part .pmb] :=
  State.only_of_regs rfl (fun p hp => by cases p <;> first | rfl | exact ⟨rfl, rfl⟩ | simp at hp)

theorem State.only_alertRefresh (s : State) : s.only s.alertRefresh [.part .pmb] :=
  State.only_of_regs rfl (fun p hp => by cases p <;> first | rfl | exact ⟨rfl, rfl⟩ | simp at hp)

theorem State.only_ite {c : Prop} [Decidable c] (h : s.only t l) (h' : s.only u l) : s.only (if c then t else u) l := by
  split <;> assumption

theorem State.only_post (s : State) (p : Posted) : s.only (s.post p) [.part .host] :=
  State.only_of_regs rfl (fun p hp => by cases p <;> first | rfl | exact ⟨rfl, rfl⟩ | simp at hp)

theorem State.only_setPending (s : State) (a v : Nat) (b : Bool) : s.only (s.setPending a v b) [.part .host] :=
  State.only_of_regs rfl (fun p hp => by cases p <;> first | rfl | exact ⟨rfl, rfl⟩ | simp at hp)

theorem State.only_hold (s : State) (h : Held) : s.only (s.hold h) [.part .host] :=
  State.only_of_regs rfl (fun p hp => by cases p <;> first | rfl | exact ⟨rfl, rfl⟩ | simp at hp)

theorem State.only_sendVec (s : State) (a v : Nat) : s.only (s.sendVec a v) [.part .host] := by
  unfold State.sendVec
  split
  · exact ((s.only_setPending a v false).trans (State.only_post _ _)).mono (by simp)
  · exact s.only_setPending a v true

theorem State.only_postEvent (s : State) (a b c d : Nat) : s.only (s.postEvent a b c d) [.part .host] := by
  unfold State.postEvent
  split
  · exact s.only_hold _
  · exact (State.only.refl s).mono (by simp)

theorem State.only_setCauses (s : State) (a v : Nat) : s.only (s.setCauses a v) [.fld Reg.GLB_INT_CAUSE.cause, .part .host] := by
  unfold State.setCauses
  split
  · exact (s.only_put _ _).mono (by simp)
  · exact State.only_of_regs rfl (fun p hp => by cases p <;> first | rfl | exact ⟨rfl, rfl⟩ | simp at hp)

theorem State.only_raiseTo (s : State) (a b c d : Nat) : s.only (s.raiseTo a b c d) [.fld Reg.GLB_INT_CAUSE.cause, .part .host] := by
  unfold State.raiseTo
  split
  · exact (State.only.refl s).mono (by simp)
  · have h := s.only_setCauses d (s.causes d ||| 2 ^ a)
    generalize s.setCauses d (s.causes d ||| 2 ^ a) = x at h
    exact ((h.trans (State.only_ite (x.only_sendVec d 0) ((State.only.refl x).mono (by simp)))).trans
      (State.only_postEvent _ d a b c)).mono (by simp)

/-- Raising a cause changes the cause word and what the host interface has to send. -/
theorem State.only_raise (s : State) (b c d : Nat) : s.only (s.raise b c d) [.fld Reg.GLB_INT_CAUSE.cause, .part .host] := by
  unfold State.raise
  split
  · exact (State.only.refl s).mono (by simp)
  · exact s.only_raiseTo _ _ _ _

theorem State.only_each {α : Type} (f : State → α → State) (hf : ∀ x a, State.only x (f x a) l) (xs : List α) (s : State) :
    s.only (s.each xs f) l := by
  induction xs generalizing s with
  | nil => exact (State.only.refl s).mono (by simp)
  | cons a xs ih => exact ((hf s a).trans (ih (f s a))).mono (by simp)

theorem State.only_raiseAll (s : State) (b c d : Nat) (vfs : List Nat) :
    s.only (s.raiseAll b c d vfs) [.fld Reg.GLB_INT_CAUSE.cause, .part .host] := by
  unfold State.raiseAll
  split
  · exact (State.only.refl s).mono (by simp)
  · exact ((s.only_raise b c d).trans (State.only_each _ (fun x a => x.only_raiseTo _ _ _ _) vfs _)).mono (by simp)

/-- The service-change cause. -/
theorem State.only_raiseService (s : State) : s.only s.raiseService [.fld Reg.GLB_INT_CAUSE.cause, .part .host] := s.only_raiseAll _ _ _ _

theorem State.only_toGld (s : State) (m : GpMsg) : s.only (s.toGld m) [.part .gpPsh] :=
  State.only_of_regs rfl (fun p hp => by cases p <;> first | rfl | exact ⟨rfl, rfl⟩ | simp at hp)

theorem State.only_toPsh (s : State) (m : GpMsg) : s.only (s.toPsh m) [.part .gpGld] :=
  State.only_of_regs rfl (fun p hp => by cases p <;> first | rfl | exact ⟨rfl, rfl⟩ | simp at hp)

theorem State.only_pshCount (s : State) (k : Nat) : s.only (s.pshCount k) [.part .card] := by
  unfold State.pshCount
  split <;> exact State.only_of_regs rfl (fun p hp => by cases p <;> first | rfl | exact ⟨rfl, rfl⟩ | simp at hp)

theorem State.only_gldCount (s : State) (k : Nat) : s.only (s.gldCount k) [.part .card] :=
  State.only_of_regs rfl (fun p hp => by cases p <;> first | rfl | exact ⟨rfl, rfl⟩ | simp at hp)

theorem State.only_setBk (s : State) (v : Nat) :
    s.only (s.setBk v) [.fld Reg.PWR_STATE.state, .fld Reg.PWR_SLOT_STATUS.remove_led] := by
  exact ((s.only_put _ _).trans (State.only_putFlag _ _ _)).mono (by simp)

theorem State.only_raiseSlot (s : State) : s.only s.raiseSlot [.fld Reg.GLB_INT_CAUSE.cause, .part .host] := s.only_raise _ _ _

/-- A slot event: its bit, the alert line and the slot cause. -/
theorem State.only_slotEvent (s : State) (f : Fld) :
    s.only (s.slotEvent f) [.fld f, .part .pmb, .fld Reg.GLB_INT_CAUSE.cause, .part .host] := by
  unfold State.slotEvent
  split
  · exact (State.only.refl s).mono (by simp)
  · exact (((s.only_put _ _).trans (State.only_alertOn _)).trans (State.only_raiseSlot _)).mono (by simp)

end Sys2Proof.Machine
end

