-- ==== Sys2Proof/Laws/Kept.lean ====
section
/-!
SUPPORT. Laws/Kept.lean: the canonical form through the primitive updates: a component that holds no store, a register word, a latched half, a byte of memory.
-/
namespace Sys2Proof.Machine

open Sys2Proof

theorem State.Kept.refl {s : State} : s.Kept s := ⟨rfl, id⟩

theorem State.Kept.trans {s t u : State} (h : s.Kept t) (h' : t.Kept u) : s.Kept u :=
  ⟨h'.1.trans h.1, fun i => h'.2 (h.2 i)⟩

/-- A change outside the stores and the queue. -/
theorem State.Kept.raw {s t u : State} (h : s.Kept t) (hp : u.pending = t.pending) (h1 : u.regs = t.regs) (h2 : u.mirror = t.mirror)
    (h3 : u.latch = t.latch) (h4 : u.hiStage = t.hiStage) (h5 : u.dram = t.dram) (h6 : u.dramEra = t.dramEra) (h7 : u.nor = t.nor) :
    s.Kept u := by
  refine ⟨hp.trans h.1, fun i => ?_⟩
  have := h.2 i
  unfold State.Inv at this ⊢
  rw [h1, h2, h3, h4, h5, h6, h7]
  exact this

theorem State.Kept.ite {s t u : State} {c : Prop} [Decidable c] (h : s.Kept t) (h' : s.Kept u) : s.Kept (if c then t else u) := by
  split <;> assumption

theorem State.Kept.bool {s t u : State} {c : Bool} (h : s.Kept t) (h' : s.Kept u) : s.Kept (bif c then t else u) := by
  cases c <;> assumption

theorem State.Kept.when_ {s t : State} {c : Bool} {f : State → State} (hf : ∀ u, s.Kept u → s.Kept (f u)) (h : s.Kept t) :
    s.Kept (t.when_ c f) := by
  unfold State.when_
  split
  · exact hf _ h
  · exact h

theorem State.Kept.foldl {α : Type} {s t : State} {l : List α} {f : State → α → State} (hf : ∀ u a, s.Kept u → s.Kept (f u a))
    (h : s.Kept t) : s.Kept (l.foldl f t) := by
  induction l generalizing t with
  | nil => exact h
  | cons a l ih => exact ih (hf _ _ h)

theorem State.Kept.each {α : Type} {s t : State} {l : List α} {f : State → α → State} (hf : ∀ u a, s.Kept u → s.Kept (f u a))
    (h : s.Kept t) : s.Kept (t.each l f) := State.Kept.foldl hf h

theorem State.Kept.withLastRead {s t : State} {v} (h : s.Kept t) : s.Kept (t.withLastRead v) :=
  h.raw rfl rfl rfl rfl rfl rfl rfl rfl
theorem State.Kept.withNow {s t : State} {v} (h : s.Kept t) : s.Kept (t.withNow v) :=
  h.raw rfl rfl rfl rfl rfl rfl rfl rfl
theorem State.Kept.withColdAt {s t : State} {v} (h : s.Kept t) : s.Kept (t.withColdAt v) :=
  h.raw rfl rfl rfl rfl rfl rfl rfl rfl
theorem State.Kept.withFresh {s t : State} {v} (h : s.Kept t) : s.Kept (t.withFresh v) :=
  h.raw rfl rfl rfl rfl rfl rfl rfl rfl
theorem State.Kept.withSlotStraps {s t : State} {v} (h : s.Kept t) : s.Kept (t.withSlotStraps v) :=
  h.raw rfl rfl rfl rfl rfl rfl rfl rfl
theorem State.Kept.withHost {s t : State} {v} (h : s.Kept t) : s.Kept (t.withHost v) :=
  h.raw rfl rfl rfl rfl rfl rfl rfl rfl
theorem State.Kept.withGpPsh {s t : State} {v} (h : s.Kept t) : s.Kept (t.withGpPsh v) :=
  h.raw rfl rfl rfl rfl rfl rfl rfl rfl
theorem State.Kept.withGpGld {s t : State} {v} (h : s.Kept t) : s.Kept (t.withGpGld v) :=
  h.raw rfl rfl rfl rfl rfl rfl rfl rfl
theorem State.Kept.withCrossHeld {s t : State} {v} (h : s.Kept t) : s.Kept (t.withCrossHeld v) :=
  h.raw rfl rfl rfl rfl rfl rfl rfl rfl
theorem State.Kept.withSvc {s t : State} {v} (h : s.Kept t) : s.Kept (t.withSvc v) :=
  h.raw rfl rfl rfl rfl rfl rfl rfl rfl
theorem State.Kept.withBrk {s t : State} {v} (h : s.Kept t) : s.Kept (t.withBrk v) :=
  h.raw rfl rfl rfl rfl rfl rfl rfl rfl
theorem State.Kept.withMeter {s t : State} {v} (h : s.Kept t) : s.Kept (t.withMeter v) :=
  h.raw rfl rfl rfl rfl rfl rfl rfl rfl
theorem State.Kept.withPmb {s t : State} {v} (h : s.Kept t) : s.Kept (t.withPmb v) :=
  h.raw rfl rfl rfl rfl rfl rfl rfl rfl
theorem State.Kept.withCard {s t : State} {v} (h : s.Kept t) : s.Kept (t.withCard v) :=
  h.raw rfl rfl rfl rfl rfl rfl rfl rfl
theorem State.Kept.withMgmt {s t : State} {v} (h : s.Kept t) : s.Kept (t.withMgmt v) :=
  h.raw rfl rfl rfl rfl rfl rfl rfl rfl
theorem State.Kept.withThermal {s t : State} {v} (h : s.Kept t) : s.Kept (t.withThermal v) :=
  h.raw rfl rfl rfl rfl rfl rfl rfl rfl
theorem State.Kept.withSec {s t : State} {v} (h : s.Kept t) : s.Kept (t.withSec v) :=
  h.raw rfl rfl rfl rfl rfl rfl rfl rfl
theorem State.Kept.withDbg {s t : State} {v} (h : s.Kept t) : s.Kept (t.withDbg v) :=
  h.raw rfl rfl rfl rfl rfl rfl rfl rfl
theorem State.Kept.withFab {s t : State} {v} (h : s.Kept t) : s.Kept (t.withFab v) :=
  h.raw rfl rfl rfl rfl rfl rfl rfl rfl
theorem State.Kept.withPass {s t : State} {v} (h : s.Kept t) : s.Kept (t.withPass v) :=
  h.raw rfl rfl rfl rfl rfl rfl rfl rfl
theorem State.Kept.withCap {s t : State} {v} (h : s.Kept t) : s.Kept (t.withCap v) :=
  h.raw rfl rfl rfl rfl rfl rfl rfl rfl
theorem State.Kept.withAkg {s t : State} {v} (h : s.Kept t) : s.Kept (t.withAkg v) :=
  h.raw rfl rfl rfl rfl rfl rfl rfl rfl

/-! The stores themselves: the new contents must be canonical where the old ones are. -/

theorem State.Kept.withRegs {s t : State} {v} (h : s.Kept t) (hv : Store.wf resetWord t.regs = true → Store.wf resetWord v = true) :
    s.Kept (t.withRegs v) :=
  ⟨h.1, fun j => let i := h.2 j; ⟨(hv i.1), i.2.1, i.2.2.1, i.2.2.2.1, i.2.2.2.2.1, i.2.2.2.2.2⟩⟩
theorem State.Kept.withMirror {s t : State} {v} (h : s.Kept t) (hv : Store.wf resetWord t.mirror = true → Store.wf resetWord v = true) :
    s.Kept (t.withMirror v) :=
  ⟨h.1, fun j => let i := h.2 j; ⟨i.1, (hv i.2.1), i.2.2.1, i.2.2.2.1, i.2.2.2.2.1, i.2.2.2.2.2⟩⟩
theorem State.Kept.withLatch {s t : State} {v} (h : s.Kept t) (hv : Store.wf noHalf t.latch = true → Store.wf noHalf v = true) :
    s.Kept (t.withLatch v) :=
  ⟨h.1, fun j => let i := h.2 j; ⟨i.1, i.2.1, (hv i.2.2.1), i.2.2.2.1, i.2.2.2.2.1, i.2.2.2.2.2⟩⟩
theorem State.Kept.withHiStage {s t : State} {v} (h : s.Kept t) (hv : Store.wf noHalf t.hiStage = true → Store.wf noHalf v = true) :
    s.Kept (t.withHiStage v) :=
  ⟨h.1, fun j => let i := h.2 j; ⟨i.1, i.2.1, i.2.2.1, (hv i.2.2.2.1), i.2.2.2.2.1, i.2.2.2.2.2⟩⟩
theorem State.Kept.withNor {s t : State} {v} (h : s.Kept t) (hv : Store.wf norBlank t.nor = true → Store.wf norBlank v = true) :
    s.Kept (t.withNor v) :=
  ⟨h.1, fun j => let i := h.2 j; ⟨i.1, i.2.1, i.2.2.1, i.2.2.2.1, i.2.2.2.2.1, (hv i.2.2.2.2.2)⟩⟩
theorem State.Kept.withDram {s t : State} {v} (h : s.Kept t)
    (hv : Store.wf (dramBlank t.dramEra) t.dram = true → Store.wf (dramBlank t.dramEra) v = true) : s.Kept (t.withDram v) :=
  ⟨h.1, fun j => let i := h.2 j; ⟨i.1, i.2.1, i.2.2.1, i.2.2.2.1, hv i.2.2.2.2.1, i.2.2.2.2.2⟩⟩

theorem State.Kept.setWord {s t : State} {off : Nat} {w : Word} (h : s.Kept t) : s.Kept (t.setWord off w) :=
  h.withRegs Store.wf_write
theorem State.Kept.put {s t : State} {f : Fld} {v : Nat} (h : s.Kept t) : s.Kept (t.put f v) := h.setWord

/-- Reset of the stores but the flash: what is left of the register words is canonical. -/
theorem State.Kept.cold {s t u : State} (h : s.Kept t) (hp : u.pending = t.pending) (hr : Store.wf resetWord t.regs = true → Store.wf resetWord u.regs = true)
    (h2 : u.mirror = []) (h3 : u.latch = []) (h4 : u.hiStage = []) (h5 : u.dram = []) (h7 : u.nor = t.nor) : s.Kept u := by
  refine ⟨hp.trans h.1, fun j => ?_⟩
  have i := h.2 j
  unfold State.Inv
  rw [h2, h3, h4, h5, h7]
  exact ⟨hr i.1, rfl, rfl, rfl, rfl, i.2.2.2.2.2⟩

/-- A command that answers a next state keeps the canonical form and the queue. -/
def Out.Kept (s : State) (o : Out) : Prop := ∀ t, o = .next t → s.Kept t

theorem Out.Kept.next {s t : State} (h : s.Kept t) : Out.Kept s (.next t) := fun _ e => by cases e; exact h
theorem Out.Kept.need {s t : State} {b : Bool} (h : s.Kept t) : Out.Kept s (need b t) := by
  unfold Machine.need
  split
  · exact Out.Kept.next h
  · exact fun _ e => by cases e
theorem Out.Kept.fault {s : State} {f : Fault} : Out.Kept s (.fault f) := fun _ e => by cases e
theorem Out.Kept.ite {s : State} {o o' : Out} {c : Prop} [Decidable c] (h : Out.Kept s o) (h' : Out.Kept s o') : Out.Kept s (if c then o else o') := by
  split <;> assumption

end Sys2Proof.Machine
end

