-- ==== Sys2Proof/Laws/KeptOps.lean ====
section
/-!
SUPPORT. Laws/KeptOps.lean: each operation of Machine/Ops.lean keeps the canonical form and the queue.
-/
namespace Sys2Proof.Machine

open Sys2Proof

theorem State.Kept.putFlag {s t : State} {f : Fld} {b : Bool} (h : s.Kept t) : s.Kept (State.putFlag t f b) := by
  unfold State.putFlag
  with_reducible repeat' (first | assumption | refine .ite ?_ ?_ | refine .put ?_)

theorem State.Kept.add {s t : State} {f : Fld} {n : Nat} (h : s.Kept t) : s.Kept (State.add t f n) := by
  unfold State.add
  with_reducible repeat' (first | assumption | refine .put ?_)

theorem State.Kept.bump {s t : State} {f : Fld} (h : s.Kept t) : s.Kept (State.bump t f) := by
  unfold State.bump
  with_reducible repeat' (first | assumption | refine .add ?_)

theorem State.Kept.stageHi {s t : State} {off : Nat} {v : Word} (h : s.Kept t) : s.Kept (State.stageHi t off v) := by
  unfold State.stageHi
  with_reducible repeat' (first | assumption | refine .withHiStage ?_ ?_ | with_unfolding_all exact Store.wf_write)

theorem State.Kept.stageTaken {s t : State} {off : Nat} (h : s.Kept t) : s.Kept (State.stageTaken t off) := by
  unfold State.stageTaken
  with_reducible repeat' (first | assumption | refine .withHiStage ?_ ?_ | with_unfolding_all exact Store.wf_write)

theorem State.Kept.pshCount {s t : State} {k : Nat} (h : s.Kept t) : s.Kept (State.pshCount t k) := by
  unfold State.pshCount
  with_reducible repeat' (first | assumption | refine .ite ?_ ?_ | refine .withCard ?_)

theorem State.Kept.gldCount {s t : State} {k : Nat} (h : s.Kept t) : s.Kept (State.gldCount t k) := by
  unfold State.gldCount
  with_reducible repeat' (first | assumption | refine .withCard ?_)

theorem State.Kept.flushDue {s t : State} {bit : Nat} {spaced : Bool} (h : s.Kept t) : s.Kept (State.flushDue t bit spaced) := by
  unfold State.flushDue
  with_reducible repeat' (first | assumption | refine .put ?_ | refine .withCard ?_)

theorem State.Kept.post {s t : State} {p : Posted} (h : s.Kept t) : s.Kept (State.post t p) := by
  unfold State.post
  with_reducible repeat' (first | assumption | refine .withHost ?_)

theorem State.Kept.setPending {s t : State} {part v : Nat} {b : Bool} (h : s.Kept t) : s.Kept (State.setPending t part v b) := by
  unfold State.setPending
  with_reducible repeat' (first | assumption | refine .withHost ?_)

theorem State.Kept.sendVec {s t : State} {part v : Nat} (h : s.Kept t) : s.Kept (State.sendVec t part v) := by
  unfold State.sendVec
  with_reducible repeat' (first | assumption | refine .ite ?_ ?_ | refine .setPending ?_ | refine .post ?_)

theorem State.Kept.hold {s t : State} {h_1 : Held} (h : s.Kept t) : s.Kept (State.hold t h_1) := by
  unfold State.hold
  with_reducible repeat' (first | assumption | refine .withHost ?_ | intro _ | split | (dsimp only; split))

theorem State.Kept.postEvent {s t : State} {part bit unit detail : Nat} (h : s.Kept t) : s.Kept (State.postEvent t part bit unit detail) := by
  unfold State.postEvent
  with_reducible repeat' (first | assumption | refine .ite ?_ ?_ | refine .hold ?_ | intro _ | split | (dsimp only; split))

theorem State.Kept.setCauses {s t : State} {part v : Nat} (h : s.Kept t) : s.Kept (State.setCauses t part v) := by
  unfold State.setCauses
  with_reducible repeat' (first | assumption | refine .ite ?_ ?_ | refine .put ?_ | refine .withHost ?_)

theorem State.Kept.raiseTo {s t : State} {bit unit detail part : Nat} (h : s.Kept t) : s.Kept (State.raiseTo t bit unit detail part) := by
  unfold State.raiseTo
  with_reducible repeat' (first | assumption | refine .ite ?_ ?_ | refine .setCauses ?_ | refine .sendVec ?_ | refine .postEvent ?_)

theorem State.Kept.raise {s t : State} {bit unit detail : Nat} (h : s.Kept t) : s.Kept (State.raise t bit unit detail) := by
  unfold State.raise
  with_reducible repeat' (first | assumption | refine .ite ?_ ?_ | refine .raiseTo ?_)

theorem State.Kept.raiseAll {s t : State} {bit unit detail : Nat} {vfs : List Nat} (h : s.Kept t) : s.Kept (State.raiseAll t bit unit detail vfs) := by
  unfold State.raiseAll
  with_reducible repeat' (first | assumption | refine .ite ?_ ?_ | refine .raise ?_ | refine .each ?_ ?_ | refine .raiseTo ?_ | intro _)

theorem State.Kept.raiseService {s t : State}  (h : s.Kept t) : s.Kept (State.raiseService t) := by
  unfold State.raiseService
  with_reducible repeat' (first | assumption | refine .raiseAll ?_)

theorem State.Kept.onCore {s t : State} {c : Nat} {f : State → State} (hf : ∀ u, s.Kept u → s.Kept (f u)) (h : s.Kept t) : s.Kept (State.onCore t c f) := by
  unfold State.onCore
  with_reducible repeat' (first | assumption | refine hf _ ?_ | refine .ite ?_ ?_)

theorem State.Kept.viaSupply {s t : State} {f : State → State} (hf : ∀ u, s.Kept u → s.Kept (f u)) (h : s.Kept t) : s.Kept (State.viaSupply t f) := by
  unfold State.viaSupply
  with_reducible repeat' (first | assumption | refine hf _ ?_ | refine .ite ?_ ?_)

theorem State.Kept.viaImage {s t : State} {f : State → State} (hf : ∀ u, s.Kept u → s.Kept (f u)) (h : s.Kept t) : s.Kept (State.viaImage t f) := by
  unfold State.viaImage
  with_reducible repeat' (first | assumption | refine hf _ ?_ | refine .ite ?_ ?_)

theorem State.Kept.showCores {s t : State}  (h : s.Kept t) : s.Kept (State.showCores t) := by
  unfold State.showCores
  with_reducible repeat' (first | assumption | refine .ite ?_ ?_ | refine .put ?_ | refine .putFlag ?_)

theorem State.Kept.mapCore {s t : State} {c : Nat} {f : Core → Core} (h : s.Kept t) : s.Kept (State.mapCore t c f) := by
  unfold State.mapCore
  with_reducible repeat' (first | assumption | refine .withDbg ?_ | refine .showCores ?_)

theorem State.Kept.toGld {s t : State} {m : GpMsg} (h : s.Kept t) : s.Kept (State.toGld t m) := by
  unfold State.toGld
  with_reducible repeat' (first | assumption | refine .withGpPsh ?_)

theorem State.Kept.toPsh {s t : State} {m : GpMsg} (h : s.Kept t) : s.Kept (State.toPsh t m) := by
  unfold State.toPsh
  with_reducible repeat' (first | assumption | refine .withGpGld ?_)

theorem State.Kept.mirrorOut {s t : State}  (h : s.Kept t) : s.Kept (State.mirrorOut t) := by
  unfold State.mirrorOut
  with_reducible repeat' (first | assumption | refine .ite ?_ ?_ | refine .each ?_ ?_ | refine .toGld ?_ | intro _ | split | (dsimp only; split))

theorem State.Kept.sendNotice {s t : State} {use : StepUse} (h : s.Kept t) : s.Kept (State.sendNotice t use) := by
  unfold State.sendNotice
  with_reducible repeat' (first | assumption | refine .ite ?_ ?_ | refine .withFresh ?_ | refine .withSvc ?_ | refine .toPsh ?_)

theorem State.Kept.setService {s t : State} {st : Nat} (h : s.Kept t) : s.Kept (State.setService t st) := by
  unfold State.setService
  with_reducible repeat' (first | assumption | refine .ite ?_ ?_ | refine .put ?_ | refine .putFlag ?_ | refine .raiseService ?_)

theorem State.Kept.wakeEvent {s t : State}  (h : s.Kept t) : s.Kept (State.wakeEvent t) := by
  unfold State.wakeEvent
  with_reducible repeat' (first | assumption | refine .ite ?_ ?_ | refine .withHost ?_ | refine .setService ?_ | refine .bump ?_ | refine .sendNotice ?_ | refine .withSvc ?_ | refine .put ?_ | intro _ | split | (dsimp only; split))

theorem State.Kept.viaHost {s t : State} {f : State → State} (hf : ∀ u, s.Kept u → s.Kept (f u)) (h : s.Kept t) : s.Kept (State.viaHost t f) := by
  unfold State.viaHost
  with_reducible repeat' (first | assumption | refine hf _ ?_ | refine .ite ?_ ?_ | refine .wakeEvent ?_)

theorem State.Kept.overPsh {s t : State} {f : State → State} (hf : ∀ u, s.Kept u → s.Kept (f u)) (h : s.Kept t) : s.Kept (State.overPsh t f) := by
  unfold State.overPsh
  with_reducible repeat' (first | assumption | refine hf _ ?_ | refine .ite ?_ ?_ | refine .put ?_)

theorem State.Kept.viaPsh {s t : State} {f : State → State} (hf : ∀ u, s.Kept u → s.Kept (f u)) (h : s.Kept t) : s.Kept (State.viaPsh t f) := by
  unfold State.viaPsh
  with_reducible repeat' (first | assumption | refine hf _ ?_ | refine .viaHost ?_ ?_ | refine .overPsh ?_ ?_ | intro _)

theorem State.Kept.alertOn {s t : State}  (h : s.Kept t) : s.Kept (State.alertOn t) := by
  unfold State.alertOn
  with_reducible repeat' (first | assumption | refine .withPmb ?_)

theorem State.Kept.alertRefresh {s t : State}  (h : s.Kept t) : s.Kept (State.alertRefresh t) := by
  unfold State.alertRefresh
  with_reducible repeat' (first | assumption | refine .withPmb ?_)

theorem State.Kept.cml6 {s t : State}  (h : s.Kept t) : s.Kept (State.cml6 t) := by
  unfold State.cml6
  with_reducible repeat' (first | assumption | refine .ite ?_ ?_ | refine .alertOn ?_ | refine .withPmb ?_)

theorem State.Kept.cml5 {s t : State}  (h : s.Kept t) : s.Kept (State.cml5 t) := by
  unfold State.cml5
  with_reducible repeat' (first | assumption | refine .ite ?_ ?_ | refine .alertOn ?_ | refine .withPmb ?_)

theorem State.Kept.cml7 {s t : State}  (h : s.Kept t) : s.Kept (State.cml7 t) := by
  unfold State.cml7
  with_reducible repeat' (first | assumption | refine .ite ?_ ?_ | refine .alertOn ?_ | refine .withPmb ?_)

theorem State.Kept.ack {s t : State}  (h : s.Kept t) : s.Kept (State.ack t) := by
  unfold State.ack
  with_reducible repeat' (first | assumption | refine .withPmb ?_)

theorem State.Kept.nack {s t : State}  (h : s.Kept t) : s.Kept (State.nack t) := by
  unfold State.nack
  with_reducible repeat' (first | assumption | refine .cml6 ?_ | refine .withPmb ?_)

theorem State.Kept.answer {s t : State} {bytes : List Byte} (h : s.Kept t) : s.Kept (State.answer t bytes) := by
  unfold State.answer
  with_reducible repeat' (first | assumption | refine .withPmb ?_)

theorem State.Kept.pmbWrite {s t : State} {fin : PmbEnd} {act : State → State} (hact : ∀ u, s.Kept u → s.Kept (act u)) (h : s.Kept t) : s.Kept (State.pmbWrite t fin act) := by
  unfold State.pmbWrite
  with_reducible repeat' (first | assumption | refine hact _ ?_ | refine .ite ?_ ?_ | refine .ack ?_ | refine .cml5 ?_ | refine .cml6 ?_ | intro _ | split | (dsimp only; split))

theorem State.Kept.pmbRead {s t : State} {act : State → State} (hact : ∀ u, s.Kept u → s.Kept (act u)) (h : s.Kept t) : s.Kept (State.pmbRead t act) := by
  unfold State.pmbRead
  with_reducible repeat' (first | assumption | refine hact _ ?_ | refine .ite ?_ ?_)

theorem State.Kept.pmbAcc {s t : State} {x : PmbAcc} {rd : State → State} {wr : Nat → State → State} (hrd : ∀ u, s.Kept u → s.Kept (rd u)) (hwr : ∀ x0 u, s.Kept u → s.Kept (wr x0 u)) (h : s.Kept t) : s.Kept (State.pmbAcc t x rd wr) := by
  unfold State.pmbAcc
  with_reducible repeat' (first | assumption | refine hrd _ ?_ | refine hwr _ _ ?_ | refine .pmbRead ?_ ?_ | refine .pmbWrite ?_ ?_ | intro _ | split | (dsimp only; split))

theorem State.Kept.enterExpert {s t : State} {b : Nat} (h : s.Kept t) : s.Kept (State.enterExpert t b) := by
  unfold State.enterExpert
  with_reducible repeat' (first | assumption | refine .put ?_)

theorem State.Kept.leaveExpert {s t : State} {b : Nat} (h : s.Kept t) : s.Kept (State.leaveExpert t b) := by
  unfold State.leaveExpert
  with_reducible repeat' (first | assumption | refine .put ?_ | refine .withHost ?_)

theorem State.Kept.unlockKey {s t : State} {b : Nat} {path : MgmtPath} {key : Nat} (h : s.Kept t) : s.Kept (State.unlockKey t b path key) := by
  unfold State.unlockKey
  with_reducible repeat' (first | assumption | refine .ite ?_ ?_ | refine .withHost ?_ | refine .enterExpert ?_ | intro _ | split | (dsimp only; split))

end Sys2Proof.Machine
end

