-- ==== Sys2Proof/Laws/KeptFabric.lean ====
section
/-!
SUPPORT. Laws/KeptFabric.lean: each shared operation of tracing, rings, the recorder, the fabric and capture keeps the canonical form and the queue.
-/
namespace Sys2Proof.Machine

open Sys2Proof

theorem State.Kept.traceOffer {s t : State} {r : TraceRec} (h : s.Kept t) : s.Kept (State.traceOffer t r) := by
  unfold State.traceOffer
  with_reducible repeat' (first | assumption | refine .ite ?_ ?_ | refine .withDbg ?_ | refine .bump ?_)

theorem State.Kept.traceLine {s t : State} {source part space addr : Nat} {bytes : List Byte} {write : Bool} {line : Nat} (h : s.Kept t) : s.Kept (State.traceLine t source part space addr bytes write line) := by
  unfold State.traceLine
  with_reducible repeat' (first | assumption | refine .ite ?_ ?_ | refine .traceOffer ?_ | intro _ | split | (dsimp only; split))

theorem State.Kept.traceAccess {s t : State} {source part space addr : Nat} {bytes : List Byte} {write : Bool} (h : s.Kept t) : s.Kept (State.traceAccess t source part space addr bytes write) := by
  unfold State.traceAccess
  with_reducible repeat' (first | assumption | refine .ite ?_ ?_ | refine .each ?_ ?_ | refine .traceLine ?_ | intro _)

theorem State.Kept.traceChip {s t : State} {bytes : List Byte} (h : s.Kept t) : s.Kept (State.traceChip t bytes) := by
  unfold State.traceChip
  with_reducible repeat' (first | assumption | refine .ite ?_ ?_ | refine .put ?_ | refine .withDbg ?_ | refine .when_ ?_ ?_ | refine .bump ?_ | intro _)

theorem State.Kept.traceHost {s t : State} {bytes : List Byte} (h : s.Kept t) : s.Kept (State.traceHost t bytes) := by
  unfold State.traceHost
  with_reducible repeat' (first | assumption | refine .ite ?_ ?_ | refine .put ?_ | refine .withDbg ?_ | refine .post ?_ | refine .when_ ?_ ?_ | refine .bump ?_ | intro _)

theorem State.Kept.traceDrain {s t : State}  (h : s.Kept t) : s.Kept (State.traceDrain t) := by
  unfold State.traceDrain
  with_reducible repeat' (first | assumption | refine .ite ?_ ?_ | refine .traceHost ?_ | refine .traceChip ?_ | split)

theorem State.Kept.traceWp {s t : State}  (h : s.Kept t) : s.Kept (State.traceWp t) := by
  unfold State.traceWp
  with_reducible repeat' (first | assumption | refine .withDbg ?_ | refine .when_ ?_ ?_ | refine .post ?_ | intro _)

theorem State.Kept.hostWrite {s t : State} {part addr : Nat} {bytes : List Byte} (h : s.Kept t) : s.Kept (State.hostWrite t part addr bytes) := by
  unfold State.hostWrite
  with_reducible repeat' (first | assumption | refine .ite ?_ ?_ | refine .post ?_ | refine .traceAccess ?_)

theorem State.Kept.dramWrite {s t : State} {part off : Nat} {bytes : List Byte} (h : s.Kept t) : s.Kept (State.dramWrite t part off bytes) := by
  unfold State.dramWrite
  with_reducible repeat' (first | assumption | refine .withDram ?_ ?_ | refine .traceAccess ?_ | with_unfolding_all exact Store.wf_writeList)

theorem State.Kept.dramLose {s t : State} {c : Nat} (h : s.Kept t) : s.Kept (t.dramLose c) := by
  refine ⟨h.1, fun j => ?_⟩
  have i := h.2 j
  refine ⟨i.1, i.2.1, i.2.2.1, i.2.2.2.1, ?_, i.2.2.2.2.2⟩
  refine Store.wf_filter_of (q := fun a => decide (Config.dramChannel a % 4 ≠ c)) i.2.2.2.2.1 (fun a ha => ?_) (fun _ => rfl)
  have hn : Config.dramChannel a % 4 ≠ c := of_decide_eq_true ha
  show dramBlank { t.dramEra with channels := t.dramEra.channels.set c (t.fresh + 1) } a = dramBlank t.dramEra a
  unfold dramBlank
  simp only [List.getD_eq_getElem?_getD, List.getElem?_set, Ne.symm hn, if_false]

/-- A byte outside an area reads as before when the area is written. -/
theorem dramBlank_renew (e : DramEra) {base len mark a : Nat} (h : ¬(base ≤ a ∧ a < base + len)) :
    dramBlank { e with areas := e.areas.filter (fun x => !(decide (x.base = base) && decide (x.len = len))) ++ [⟨base, len, mark⟩] } a = dramBlank e a := by
  have ha : (e.areas.filter (fun x : DevArea => !(decide (x.base = base) && decide (x.len = len))) ++ [(⟨base, len, mark⟩ : DevArea)]).filter (·.holds a) =
      e.areas.filter (·.holds a) := by
    have h1 : ([⟨base, len, mark⟩] : List DevArea).filter (·.holds a) = [] := by simp [DevArea.holds]; omega
    rw [List.filter_append, h1, List.append_nil, List.filter_filter]
    refine List.filter_congr (fun x _ => ?_)
    by_cases hb : x.base = base ∧ x.len = len
    · have : x.holds a = false := by simp [DevArea.holds, hb.1, hb.2]; omega
      simp [this]
    · have : (!(decide (x.base = base) && decide (x.len = len))) = true := by
        rw [← Bool.decide_and, decide_eq_false hb]; rfl
      simp [this]
  unfold dramBlank
  rw [ha]

theorem State.Kept.dramRenew {s t : State} {base len : Nat} (h : s.Kept t) : s.Kept (State.dramRenew t base len) := by
  unfold State.dramRenew
  split
  · exact h
  refine ⟨h.1, fun j => ?_⟩
  have i := h.2 j
  refine ⟨i.1, i.2.1, i.2.2.1, i.2.2.2.1, ?_, i.2.2.2.2.2⟩
  refine Store.wf_filter_of (q := fun a => !(decide (base ≤ a) && decide (a < base + len))) i.2.2.2.2.1 (fun a ha => ?_) (fun _ => rfl)
  exact dramBlank_renew _ (by simp only [Bool.not_eq_true', Bool.and_eq_false_iff, decide_eq_false_iff_not] at ha; omega)

theorem State.Kept.writeOut {s t : State} {part : Nat} {dev : Bool} {addr : Nat} {bytes : List Byte} (h : s.Kept t) : s.Kept (State.writeOut t part dev addr bytes) := by
  unfold State.writeOut
  with_reducible repeat' (first | assumption | refine .ite ?_ ?_ | refine .dramWrite ?_ | refine .hostWrite ?_)

theorem State.Kept.traceIn {s t : State} {part : Nat} {dev : Bool} {addr : Nat} {bytes : List Byte} (h : s.Kept t) : s.Kept (State.traceIn t part dev addr bytes) := by
  unfold State.traceIn
  with_reducible repeat' (first | assumption | refine .ite ?_ ?_ | refine .traceAccess ?_)

theorem State.Kept.setCap {s t : State} {g : Capture → Capture} (h : s.Kept t) : s.Kept (State.setCap t g) := by
  unfold State.setCap
  with_reducible repeat' (first | assumption | refine .withCap ?_)

theorem State.Kept.mapRec {s t : State} {id : Nat} {g : Rec → Rec} (h : s.Kept t) : s.Kept (State.mapRec t id g) := by
  unfold State.mapRec
  with_reducible repeat' (first | assumption | refine .ite ?_ ?_ | refine .setCap ?_)

theorem State.Kept.showReserved {s t : State} {stream : Nat} (h : s.Kept t) : s.Kept (State.showReserved t stream) := by
  unfold State.showReserved
  with_reducible repeat' (first | assumption | refine .put ?_)

theorem State.Kept.release {s t : State} {stream : Nat} (h : s.Kept t) : s.Kept (State.release t stream) := by
  unfold State.release
  with_reducible repeat' (first | assumption | refine .setCap ?_ | refine .showReserved ?_)

theorem State.Kept.finishRec {s t : State} {id : Nat} (h : s.Kept t) : s.Kept (State.finishRec t id) := by
  unfold State.finishRec
  with_reducible repeat' (first | assumption | refine .mapRec ?_ | refine .release ?_ | intro _ | split | (dsimp only; split))

theorem State.Kept.setEgress {s t : State} {p : Nat} {q : List EgressPkt} (h : s.Kept t) : s.Kept (State.setEgress t p q) := by
  unfold State.setEgress
  with_reducible repeat' (first | assumption | refine .setCap ?_)

theorem State.Kept.sendPacket {s t : State} {p : Nat} {b : List Byte} {since : Nat} (h : s.Kept t) : s.Kept (State.sendPacket t p b since) := by
  unfold State.sendPacket
  with_reducible repeat' (first | assumption | refine .setCap ?_ | refine .bump ?_ | intro _ | split | (dsimp only; split))

theorem State.Kept.egressPacket {s t : State} {p : Nat} {b : List Byte} (h : s.Kept t) : s.Kept (State.egressPacket t p b) := by
  unfold State.egressPacket
  with_reducible repeat' (first | assumption | refine .ite ?_ ?_ | refine .sendPacket ?_ | refine .bump ?_ | refine .setEgress ?_ | intro _ | split | (dsimp only; split))

theorem State.Kept.contextPacket {s t : State} {r : Rec} {x : Entry} (h : s.Kept t) : s.Kept (State.contextPacket t r x) := by
  unfold State.contextPacket
  with_reducible repeat' (first | assumption | refine .ite ?_ ?_ | refine .egressPacket ?_ | refine .withFresh ?_ | refine .put ?_ | refine .setCap ?_ | intro _ | split | (dsimp only; split))

theorem State.Kept.recWritten {s t : State} {id : Nat} {x : Entry} (h : s.Kept t) : s.Kept (State.recWritten t id x) := by
  unfold State.recWritten
  with_reducible repeat' (first | assumption | refine .contextPacket ?_ | refine .finishRec ?_ | split)

theorem State.Kept.setRules {s t : State} {b : Nat} {x : Store Byte} (h : s.Kept t) : s.Kept (State.setRules t b x) := by
  unfold State.setRules
  with_reducible repeat' (first | assumption | refine .ite ?_ ?_ | refine .setCap ?_)

theorem State.Kept.buildShadow {s t : State}  (h : s.Kept t) : s.Kept (State.buildShadow t) := by
  unfold State.buildShadow
  with_reducible repeat' (first | assumption | refine .setCap ?_ | refine .put ?_ | refine .putFlag ?_ | intro _ | split | (dsimp only; split))

theorem State.Kept.shadowTouched {s t : State}  (h : s.Kept t) : s.Kept (State.shadowTouched t) := by
  unfold State.shadowTouched
  with_reducible repeat' (first | assumption | refine .put ?_ | refine .setCap ?_)

theorem State.Kept.shadowData {s t : State} {v : Nat} (h : s.Kept t) : s.Kept (State.shadowData t v) := by
  unfold State.shadowData
  with_reducible repeat' (first | assumption | refine .ite ?_ ?_ | refine .put ?_ | refine .setRules ?_ | refine .shadowTouched ?_)

theorem State.Kept.shadowCtrl {s t : State} {clear build : Bool} (h : s.Kept t) : s.Kept (State.shadowCtrl t clear build) := by
  unfold State.shadowCtrl
  with_reducible repeat' (first | assumption | refine .ite ?_ ?_ | refine .put ?_ | refine .when_ ?_ ?_ | refine .setRules ?_ | refine .shadowTouched ?_ | refine .setCap ?_ | intro _)

theorem State.Kept.flipRules {s t : State} {flight : Nat} (h : s.Kept t) : s.Kept (State.flipRules t flight) := by
  unfold State.flipRules
  with_reducible repeat' (first | assumption | refine .put ?_ | refine .putFlag ?_ | refine .setCap ?_ | intro _ | split | (dsimp only; split))

theorem State.Kept.showFlights {s t : State} {sq : Nat} (h : s.Kept t) : s.Kept (State.showFlights t sq) := by
  unfold State.showFlights
  with_reducible repeat' (first | assumption | refine .put ?_ | refine .putFlag ?_)

theorem State.Kept.showPublish {s t : State}  (h : s.Kept t) : s.Kept (State.showPublish t) := by
  unfold State.showPublish
  with_reducible repeat' (first | assumption | refine .putFlag ?_)

theorem State.Kept.mapFlight {s t : State} {id : Nat} {g : Flight → Flight} (h : s.Kept t) : s.Kept (State.mapFlight t id g) := by
  unfold State.mapFlight
  with_reducible repeat' (first | assumption | refine .ite ?_ ?_ | refine .withHost ?_)

theorem State.Kept.raiseRing {s t : State} {owner : Option Nat} {detail : Nat} (h : s.Kept t) : s.Kept (State.raiseRing t owner detail) := by
  unfold State.raiseRing
  with_reducible repeat' (first | assumption | refine .ite ?_ ?_ | refine .raiseAll ?_)

theorem State.Kept.sqError {s t : State} {n code : Nat} (h : s.Kept t) : s.Kept (State.sqError t n code) := by
  unfold State.sqError
  with_reducible repeat' (first | assumption | refine .put ?_ | refine .withHost ?_ | refine .raiseRing ?_)

theorem State.Kept.cqError {s t : State} {n : Nat} {stop : Bool} (h : s.Kept t) : s.Kept (State.cqError t n stop) := by
  unfold State.cqError
  with_reducible repeat' (first | assumption | refine .put ?_ | refine .withHost ?_ | refine .raiseRing ?_)

theorem State.Kept.finishWith {s t : State} {id status r0 r1 : Nat} {info : Info} (h : s.Kept t) : s.Kept (State.finishWith t id status r0 r1 info) := by
  unfold State.finishWith
  with_reducible repeat' (first | assumption | refine .ite ?_ ?_ | refine .mapFlight ?_ | refine .hold ?_ | refine .showPublish ?_ | intro _ | split | (dsimp only; split))

theorem State.Kept.finish {s t : State} {id status r0 r1 : Nat} (h : s.Kept t) : s.Kept (State.finish t id status r0 r1) := by
  unfold State.finish
  with_reducible repeat' (first | assumption | refine .finishWith ?_)

theorem State.Kept.runFlight {s t : State} {id : Nat} (h : s.Kept t) : s.Kept (State.runFlight t id) := by
  unfold State.runFlight
  with_reducible repeat' (first | assumption | refine .mapFlight ?_)

theorem State.Kept.chainAborts {s t : State}  (h : s.Kept t) : s.Kept (State.chainAborts t) := by
  unfold State.chainAborts
  with_reducible repeat' (first | assumption | refine .each ?_ ?_ | refine .finish ?_ | intro _)

theorem State.Kept.complete {s t : State} {id : Nat} (h : s.Kept t) : s.Kept (State.complete t id) := by
  unfold State.complete
  with_reducible repeat' (first | assumption | refine .ite ?_ ?_ | refine .withHost ?_ | refine .showFlights ?_ | refine .chainAborts ?_ | intro _ | split | (dsimp only; split))

theorem State.Kept.signalCq {s t : State} {n : Nat} (h : s.Kept t) : s.Kept (State.signalCq t n) := by
  unfold State.signalCq
  with_reducible repeat' (first | assumption | refine .withHost ?_ | refine .sendVec ?_)

theorem State.Kept.moderate {s t : State} {n : Nat} {h_1 : Held} (h : s.Kept t) : s.Kept (State.moderate t n h_1) := by
  unfold State.moderate
  with_reducible repeat' (first | assumption | refine .ite ?_ ?_ | refine .withHost ?_ | refine .signalCq ?_)

theorem State.Kept.measureP7 {s t : State} {h_1 : Held} (h : s.Kept t) : s.Kept (State.measureP7 t h_1) := by
  unfold State.measureP7
  with_reducible repeat' (first | assumption | refine .ite ?_ ?_ | refine .put ?_ | refine .when_ ?_ ?_ | refine .bump ?_ | intro _)

theorem State.Kept.writeEntry {s t : State} {n : Nat} {h_1 : Held} (h : s.Kept t) : s.Kept (State.writeEntry t n h_1) := by
  unfold State.writeEntry
  with_reducible repeat' (first | assumption | refine .ite ?_ ?_ | refine .put ?_ | refine .post ?_ | refine .traceAccess ?_ | refine .putFlag ?_)

theorem State.Kept.completionWrite {s t : State} {n : Nat} {parityOk : Bool} (h : s.Kept t) : s.Kept (State.completionWrite t n parityOk) := by
  unfold State.completionWrite
  with_reducible repeat' (first | assumption | refine .ite ?_ ?_ | refine .cqError ?_ | refine .writeEntry ?_ | refine .measureP7 ?_ | refine .withHost ?_ | refine .complete ?_ | refine .recWritten ?_ | refine .moderate ?_ | intro _ | split | (dsimp only; split))

theorem State.Kept.dropVerdict {s t : State} {n part : Nat} (h : s.Kept t) : s.Kept (State.dropVerdict t n part) := by
  unfold State.dropVerdict
  with_reducible repeat' (first | assumption | refine .ite ?_ ?_ | refine .put ?_ | refine .bump ?_ | refine .raiseAll ?_)

theorem State.Kept.sqCfgWrite {s t : State} {n : Nat} {v : Word} (h : s.Kept t) : s.Kept (State.sqCfgWrite t n v) := by
  unfold State.sqCfgWrite
  with_reducible repeat' (first | assumption | refine .ite ?_ ?_ | refine .put ?_ | refine .setWord ?_ | refine .withHost ?_)

theorem State.Kept.cqCfgWrite {s t : State} {n : Nat} {v : Word} (h : s.Kept t) : s.Kept (State.cqCfgWrite t n v) := by
  unfold State.cqCfgWrite
  with_reducible repeat' (first | assumption | refine .ite ?_ ?_ | refine .put ?_ | refine .setWord ?_ | refine .withHost ?_)

theorem State.Kept.baseWrite {s t : State} {off : Nat} {v : Word} (h : s.Kept t) : s.Kept (State.baseWrite t off v) := by
  unfold State.baseWrite
  with_reducible repeat' (first | assumption | refine .ite ?_ ?_ | refine .setWord ?_ | refine .stageHi ?_ | refine .stageTaken ?_)

theorem State.Kept.sqErrorClear {s t : State} {n : Nat} (h : s.Kept t) : s.Kept (State.sqErrorClear t n) := by
  unfold State.sqErrorClear
  with_reducible repeat' (first | assumption | refine .put ?_)

theorem State.Kept.cqErrorClear {s t : State} {n : Nat} (h : s.Kept t) : s.Kept (State.cqErrorClear t n) := by
  unfold State.cqErrorClear
  with_reducible repeat' (first | assumption | refine .put ?_ | refine .withHost ?_)

theorem State.Kept.sqTail {s t : State} {n v : Nat} (h : s.Kept t) : s.Kept (State.sqTail t n v) := by
  unfold State.sqTail
  with_reducible repeat' (first | assumption | refine .ite ?_ ?_ | refine .sqError ?_ | refine .put ?_ | intro _ | split | (dsimp only; split))

theorem State.Kept.cqHead {s t : State} {n v : Nat} (h : s.Kept t) : s.Kept (State.cqHead t n v) := by
  unfold State.cqHead
  with_reducible repeat' (first | assumption | refine .ite ?_ ?_ | refine .put ?_ | refine .cqError ?_)

theorem State.Kept.misdirected {s t : State}  (h : s.Kept t) : s.Kept (State.misdirected t) := by
  unfold State.misdirected
  with_reducible repeat' (first | assumption | refine .bump ?_)

theorem State.Kept.releaseHeld {s t : State} {fn : Nat} (h : s.Kept t) : s.Kept (State.releaseHeld t fn) := by
  unfold State.releaseHeld
  with_reducible repeat' (first | assumption | refine .ite ?_ ?_ | refine .each ?_ ?_ | refine .sendVec ?_ | intro _)

theorem State.Kept.cfgSet {s t : State} {fn : Nat} {f : CfgField} (h : s.Kept t) : s.Kept (State.cfgSet t fn f) := by
  unfold State.cfgSet
  with_reducible repeat' (first | assumption | refine .ite ?_ ?_ | refine .withHost ?_ | refine .releaseHeld ?_ | intro _ | split | (dsimp only; split))

theorem State.Kept.maskVec {s t : State} {fn v : Nat} {on : Bool} (h : s.Kept t) : s.Kept (State.maskVec t fn v on) := by
  unfold State.maskVec
  with_reducible repeat' (first | assumption | refine .withHost ?_ | refine .releaseHeld ?_)

theorem State.Kept.hifProfileWrite {s t : State} {p : Nat} (h : s.Kept t) : s.Kept (State.hifProfileWrite t p) := by
  unfold State.hifProfileWrite
  with_reducible repeat' (first | assumption | refine .ite ?_ ?_ | refine .put ?_ | refine .leaveExpert ?_ | refine .each ?_ ?_ | intro _)

theorem State.Kept.onLive {s t : State} {f : Live → Live} (h : s.Kept t) : s.Kept (State.onLive t f) := by
  unfold State.onLive
  with_reducible repeat' (first | assumption | refine .ite ?_ ?_ | refine .withCard ?_)

theorem State.Kept.pshSample {s t : State} {h_1 : Nat} {num : Int} {den : Nat} {lo hi : Int} (h : s.Kept t) : s.Kept (State.pshSample t h_1 num den lo hi) := by
  unfold State.pshSample
  with_reducible repeat' (first | assumption | refine .onLive ?_)

theorem State.Kept.gldSample {s t : State} {h_1 : Nat} {num : Int} {den : Nat} {ext : Int} (h : s.Kept t) : s.Kept (State.gldSample t h_1 num den ext) := by
  unfold State.gldSample
  with_reducible repeat' (first | assumption | refine .withCard ?_)

theorem State.Kept.norProgram {s t : State} {a : Nat} {bytes : List Byte} (h : s.Kept t) : s.Kept (State.norProgram t a bytes) := by
  unfold State.norProgram
  with_reducible repeat' (first | assumption | refine .withNor ?_ ?_ | with_unfolding_all exact Store.wf_writeList)

theorem State.Kept.norErase {s t : State} {a n : Nat} (h : s.Kept t) : s.Kept (State.norErase t a n) := by
  unfold State.norErase
  with_reducible repeat' (first | assumption | refine .ite ?_ ?_ | refine .withNor ?_ ?_ | with_unfolding_all exact Store.wf_writeList | with_unfolding_all exact Store.wf_clear)

theorem State.Kept.showVisible {s t : State}  (h : s.Kept t) : s.Kept (State.showVisible t) := by
  unfold State.showVisible
  with_reducible repeat' (first | assumption | refine .put ?_)

theorem State.Kept.issueErase {s t : State} {addr : Nat} {p : ErasePurpose} (h : s.Kept t) : s.Kept (State.issueErase t addr p) := by
  unfold State.issueErase
  with_reducible repeat' (first | assumption | refine .norProgram ?_ | refine .withCard ?_)

theorem State.Kept.pumpErase {s t : State}  (h : s.Kept t) : s.Kept (State.pumpErase t) := by
  unfold State.pumpErase
  with_reducible repeat' (first | assumption | refine .ite ?_ ?_ | refine .issueErase ?_ | refine .withCard ?_ | split)

theorem State.Kept.wantErase {s t : State} {addr : Nat} {p : ErasePurpose} (h : s.Kept t) : s.Kept (State.wantErase t addr p) := by
  unfold State.wantErase
  with_reducible repeat' (first | assumption | refine .withCard ?_ | refine .pumpErase ?_)

theorem State.Kept.checkReserve {s t : State}  (h : s.Kept t) : s.Kept (State.checkReserve t) := by
  unfold State.checkReserve
  with_reducible repeat' (first | assumption | refine .ite ?_ ?_ | refine .put ?_)

theorem State.Kept.eraseDone {s t : State}  (h : s.Kept t) : s.Kept (State.eraseDone t) := by
  unfold State.eraseDone
  with_reducible repeat' (first | assumption | refine .ite ?_ ?_ | refine .norErase ?_ | refine .norProgram ?_ | refine .withCard ?_ | refine .pumpErase ?_ | refine .checkReserve ?_ | split)

theorem State.Kept.rotateSlots {s t : State}  (h : s.Kept t) : s.Kept (State.rotateSlots t) := by
  unfold State.rotateSlots
  with_reducible repeat' (first | assumption | refine .withCard ?_ | refine .wantErase ?_)

theorem State.Kept.writeBlock {s t : State} {slot bits : Nat} {c : Live} (h : s.Kept t) : s.Kept (State.writeBlock t slot bits c) := by
  unfold State.writeBlock
  with_reducible repeat' (first | assumption | refine .put ?_ | refine .norProgram ?_ | refine .withCard ?_)

theorem State.Kept.runFlush {s t : State} {programOk : Bool} (h : s.Kept t) : s.Kept (State.runFlush t programOk) := by
  unfold State.runFlush
  with_reducible repeat' (first | assumption | refine .ite ?_ ?_ | refine .put ?_ | refine .withCard ?_ | refine .writeBlock ?_ | refine .rotateSlots ?_ | refine .showVisible ?_ | refine .norProgram ?_ | refine .pshCount ?_ | refine .raise ?_)

theorem State.Kept.trigger {s t : State} {bit : Nat} {spaced : Bool} (h : s.Kept t) : s.Kept (State.trigger t bit spaced) := by
  unfold State.trigger
  with_reducible repeat' (first | assumption | refine .ite ?_ ?_ | refine .flushDue ?_ | refine .withCard ?_)

theorem State.Kept.powerFailBlock {s t : State}  (h : s.Kept t) : s.Kept (State.powerFailBlock t) := by
  unfold State.powerFailBlock
  with_reducible repeat' (first | assumption | refine .ite ?_ ?_ | refine .put ?_ | refine .withCard ?_ | refine .hold ?_ | refine .writeBlock ?_ | refine .showVisible ?_)

theorem State.Kept.applyClear {s t : State} {t_1 : List Byte} (h : s.Kept t) : s.Kept (State.applyClear t t_1) := by
  unfold State.applyClear
  with_reducible repeat' (first | assumption | refine .ite ?_ ?_ | refine .put ?_ | refine .norProgram ?_ | refine .withCard ?_ | refine .pshCount ?_ | refine .showVisible ?_ | refine .raise ?_ | refine .trigger ?_)

theorem State.Kept.freeze {s t : State} {p : MgmtPath} (h : s.Kept t) : s.Kept (State.freeze t p) := by
  unfold State.freeze
  with_reducible repeat' (first | assumption | refine .put ?_ | refine .withCard ?_)

theorem State.Kept.endFreeze {s t : State}  (h : s.Kept t) : s.Kept (State.endFreeze t) := by
  unfold State.endFreeze
  with_reducible repeat' (first | assumption | refine .put ?_ | refine .withCard ?_ | refine .hold ?_ | refine .applyClear ?_ | split | (dsimp only; split))

theorem State.Kept.thaw {s t : State} {p : MgmtPath} (h : s.Kept t) : s.Kept (State.thaw t p) := by
  unfold State.thaw
  with_reducible repeat' (first | assumption | refine .ite ?_ ?_ | refine .withCard ?_ | refine .endFreeze ?_)

theorem State.Kept.drawNonce {s t : State}  (h : s.Kept t) : s.Kept (State.drawNonce t) := by
  unfold State.drawNonce
  with_reducible repeat' (first | assumption | refine .put ?_ | refine .withFresh ?_ | refine .withCard ?_)

theorem State.Kept.submitToken {s t : State} {t_1 : List Byte} (h : s.Kept t) : s.Kept (State.submitToken t t_1) := by
  unfold State.submitToken
  with_reducible repeat' (first | assumption | refine .ite ?_ ?_ | refine .put ?_ | refine .withCard ?_)

theorem State.Kept.rcdCtrl {s t : State} {p : MgmtPath} {v : Nat} (h : s.Kept t) : s.Kept (State.rcdCtrl t p v) := by
  unfold State.rcdCtrl
  with_reducible repeat' (first | assumption | refine .when_ ?_ ?_ | refine .freeze ?_ | refine .thaw ?_ | refine .trigger ?_ | refine .drawNonce ?_ | refine .submitToken ?_ | intro _)

theorem State.Kept.rcdProfileWrite {s t : State} {v : Nat} (h : s.Kept t) : s.Kept (State.rcdProfileWrite t v) := by
  unfold State.rcdProfileWrite
  with_reducible repeat' (first | assumption | refine .ite ?_ ?_ | refine .put ?_ | refine .leaveExpert ?_)

theorem State.Kept.rcdSelect {s t : State} {v : Nat} (h : s.Kept t) : s.Kept (State.rcdSelect t v) := by
  unfold State.rcdSelect
  with_reducible repeat' (first | assumption | refine .put ?_ | refine .withCard ?_)

theorem State.Kept.recorderStart {s t : State}  (h : s.Kept t) : s.Kept (State.recorderStart t) := by
  unfold State.recorderStart
  with_reducible repeat' (first | assumption | refine .ite ?_ ?_ | refine .put ?_ | refine .norProgram ?_ | refine .withCard ?_ | refine .hold ?_ | refine .showVisible ?_ | refine .pumpErase ?_ | refine .checkReserve ?_)

theorem State.Kept.showLedger {s t : State} {u : Nat} (h : s.Kept t) : s.Kept (State.showLedger t u) := by
  unfold State.showLedger
  with_reducible repeat' (first | assumption | refine .put ?_ | refine .putFlag ?_)

theorem State.Kept.setData {s t : State} {u d : Nat} (h : s.Kept t) : s.Kept (State.setData t u d) := by
  unfold State.setData
  with_reducible repeat' (first | assumption | refine .put ?_ | refine .showLedger ?_)

theorem State.Kept.setMgmt {s t : State} {u v : Nat} {lock : Bool} (h : s.Kept t) : s.Kept (State.setMgmt t u v lock) := by
  unfold State.setMgmt
  with_reducible repeat' (first | assumption | refine .ite ?_ ?_ | refine .withMgmt ?_ | refine .toGld ?_)

theorem State.Kept.setPgood {s t : State} {u : Nat} {b : Bool} (h : s.Kept t) : s.Kept (State.setPgood t u b) := by
  unfold State.setPgood
  with_reducible repeat' (first | assumption | refine .withMgmt ?_ | refine .toGld ?_)

theorem State.Kept.railFault {s t : State} {r : Nat} (h : s.Kept t) : s.Kept (State.railFault t r) := by
  unfold State.railFault
  with_reducible repeat' (first | assumption | refine .each ?_ ?_ | refine .setMgmt ?_ | refine .setPgood ?_ | intro _)

theorem State.Kept.setDepth {s t : State} {d : Nat} (h : s.Kept t) : s.Kept (State.setDepth t d) := by
  unfold State.setDepth
  with_reducible repeat' (first | assumption | refine .ite ?_ ?_ | refine .put ?_ | refine .bump ?_ | refine .gldCount ?_ | refine .raise ?_)

theorem State.Kept.releaseDepth {s t : State}  (h : s.Kept t) : s.Kept (State.releaseDepth t) := by
  unfold State.releaseDepth
  with_reducible repeat' (first | assumption | refine .ite ?_ ?_ | refine .withThermal ?_ | refine .setDepth ?_)

theorem State.Kept.setAkg {s t : State} {g : Akgal → Akgal} (h : s.Kept t) : s.Kept (State.setAkg t g) := by
  unfold State.setAkg
  with_reducible repeat' (first | assumption | refine .withAkg ?_)

theorem State.Kept.mapPort {s t : State} {p : Nat} {g : AkPort → AkPort} (h : s.Kept t) : s.Kept (State.mapPort t p g) := by
  unfold State.mapPort
  with_reducible repeat' (first | assumption | refine .setAkg ?_)

theorem State.Kept.showFill {s t : State} {p : Nat} (h : s.Kept t) : s.Kept (State.showFill t p) := by
  unfold State.showFill
  with_reducible repeat' (first | assumption | refine .put ?_)

theorem State.Kept.drainPort {s t : State} {p : Nat} (h : s.Kept t) : s.Kept (State.drainPort t p) := by
  unfold State.drainPort
  with_reducible repeat' (first | assumption | refine .ite ?_ ?_ | refine .foldl ?_ ?_ | refine .put ?_ | refine .mapPort ?_ | refine .withFresh ?_ | refine .showFill ?_ | intro _)

theorem State.Kept.sendOn {s t : State} {p : Nat} {f : AkFrame} (h : s.Kept t) : s.Kept (State.sendOn t p f) := by
  unfold State.sendOn
  with_reducible repeat' (first | assumption | refine .mapPort ?_ | refine .drainPort ?_)

theorem State.Kept.replayPort {s t : State} {p : Nat} (h : s.Kept t) : s.Kept (State.replayPort t p) := by
  unfold State.replayPort
  with_reducible repeat' (first | assumption | refine .mapPort ?_ | refine .bump ?_)

theorem State.Kept.sendSystem {s t : State} {cls dst context : Nat} {m : AkMsg} (h : s.Kept t) : s.Kept (State.sendSystem t cls dst context m) := by
  unfold State.sendSystem
  with_reducible repeat' (first | assumption | refine .sendOn ?_ | refine .setAkg ?_ | intro _ | split | (dsimp only; split))

theorem State.Kept.sendPair {s t : State} {cls : Nat} {m : AkMsg} (h : s.Kept t) : s.Kept (State.sendPair t cls m) := by
  unfold State.sendPair
  with_reducible repeat' (first | assumption | refine .sendOn ?_ | intro _ | split | (dsimp only; split))

theorem State.Kept.mirrorMsg {s t : State} {m : AkMsg} (h : s.Kept t) : s.Kept (State.mirrorMsg t m) := by
  unfold State.mirrorMsg
  with_reducible repeat' (first | assumption | refine .when_ ?_ ?_ | refine .sendPair ?_ | intro _)

theorem State.Kept.mirrorWrite {s t : State} {off v : Nat} {expert : Bool} (h : s.Kept t) : s.Kept (State.mirrorWrite t off v expert) := by
  unfold State.mirrorWrite
  with_reducible repeat' (first | assumption | refine .when_ ?_ ?_ | refine .mirrorMsg ?_ | intro _)

theorem State.Kept.cfgWrite {s t : State} {off v : Nat} {f : State → State} (hf : ∀ u, s.Kept u → s.Kept (f u)) (h : s.Kept t) : s.Kept (State.cfgWrite t off v f) := by
  unfold State.cfgWrite
  with_reducible repeat' (first | assumption | refine hf _ ?_ | refine .mirrorWrite ?_)

theorem State.Kept.hostCfg {s t : State} {off v : Nat} {f : State → State} (hf : ∀ u, s.Kept u → s.Kept (f u)) (h : s.Kept t) : s.Kept (State.hostCfg t off v f) := by
  unfold State.hostCfg
  with_reducible repeat' (first | assumption | refine hf _ ?_ | refine .viaHost ?_ ?_ | refine .cfgWrite ?_ ?_ | intro _)

theorem State.Kept.finishMirrored {s t : State} {id status r0 r1 : Nat} {m : AkMsg} (h : s.Kept t) : s.Kept (State.finishMirrored t id status r0 r1 m) := by
  unfold State.finishMirrored
  with_reducible repeat' (first | assumption | refine .ite ?_ ?_ | refine .setAkg ?_ | refine .sendPair ?_ | refine .mirrorMsg ?_ | refine .finish ?_)

theorem State.Kept.settleWaits {s t : State}  (h : s.Kept t) : s.Kept (State.settleWaits t) := by
  unfold State.settleWaits
  with_reducible repeat' (first | assumption | refine .setAkg ?_ | refine .each ?_ ?_ | refine .finish ?_ | intro _)

theorem State.Kept.claimDone {s t : State}  (h : s.Kept t) : s.Kept (State.claimDone t) := by
  unfold State.claimDone
  with_reducible repeat' (first | assumption | refine .setAkg ?_ | refine .finish ?_ | intro _ | split | (dsimp only; split))

theorem State.Kept.endHolds {s t : State}  (h : s.Kept t) : s.Kept (State.endHolds t) := by
  unfold State.endHolds
  with_reducible repeat' (first | assumption | refine .ite ?_ ?_ | refine .withFab ?_ | intro _ | split | (dsimp only; split))

theorem State.Kept.raisePair {s t : State}  (h : s.Kept t) : s.Kept (State.raisePair t) := by
  unfold State.raisePair
  with_reducible repeat' (first | assumption | refine .raise ?_)

theorem State.Kept.setRole {s t : State} {r : Nat} (h : s.Kept t) : s.Kept (State.setRole t r) := by
  unfold State.setRole
  with_reducible repeat' (first | assumption | refine .ite ?_ ?_ | refine .put ?_ | refine .raisePair ?_)

theorem State.Kept.doorbell {s t : State} {cq : Bool} {fn n v : Nat} (h : s.Kept t) : s.Kept (State.doorbell t cq fn n v) := by
  unfold State.doorbell
  with_reducible repeat' (first | assumption | refine .ite ?_ ?_ | refine .misdirected ?_ | refine .sendPair ?_ | refine .cqHead ?_ | refine .sqTail ?_)

theorem State.Kept.raiseAkgal {s t : State} {p : Nat} (h : s.Kept t) : s.Kept (State.raiseAkgal t p) := by
  unfold State.raiseAkgal
  with_reducible repeat' (first | assumption | refine .raise ?_)

theorem State.Kept.linkDown {s t : State} {p phase : Nat} (h : s.Kept t) : s.Kept (State.linkDown t p phase) := by
  unfold State.linkDown
  with_reducible repeat' (first | assumption | refine .ite ?_ ?_ | refine .put ?_ | refine .bump ?_ | refine .raiseAkgal ?_ | refine .mapPort ?_ | refine .setAkg ?_ | refine .endHolds ?_ | refine .settleWaits ?_ | refine .claimDone ?_ | intro _ | split | (dsimp only; split))

theorem State.Kept.setPass {s t : State} {g : HallPass → HallPass} (h : s.Kept t) : s.Kept (State.setPass t g) := by
  unfold State.setPass
  with_reducible repeat' (first | assumption | refine .withPass ?_)

theorem State.Kept.setBank {s t : State} {b : Nat} {x : Store Nat} (h : s.Kept t) : s.Kept (State.setBank t b x) := by
  unfold State.setBank
  with_reducible repeat' (first | assumption | refine .ite ?_ ?_ | refine .setPass ?_)

theorem State.Kept.showQueue {s t : State}  (h : s.Kept t) : s.Kept (State.showQueue t) := by
  unfold State.showQueue
  with_reducible repeat' (first | assumption | refine .put ?_)

theorem State.Kept.shadowPut {s t : State} {w : PassWrite} (h : s.Kept t) : s.Kept (State.shadowPut t w) := by
  unfold State.shadowPut
  with_reducible repeat' (first | assumption | refine .setBank ?_ | refine .when_ ?_ ?_ | refine .refresh ?_ | refine .bump ?_ | with_unfolding_all exact Store.wf_write | intro _)

theorem State.Kept.shadowWrite {s t : State} {w : PassWrite} (h : s.Kept t) : s.Kept (State.shadowWrite t w) := by
  unfold State.shadowWrite
  with_reducible repeat' (first | assumption | refine .ite ?_ ?_ | refine .put ?_ | refine .shadowPut ?_ | refine .setPass ?_ | refine .showQueue ?_ | refine .refresh ?_ | refine .bump ?_)

theorem State.Kept.shadowDrain {s t : State}  (h : s.Kept t) : s.Kept (State.shadowDrain t) := by
  unfold State.shadowDrain
  with_reducible repeat' (first | assumption | refine .setPass ?_ | refine .each ?_ ?_ | refine .shadowPut ?_ | refine .setBank ?_ | refine .showQueue ?_ | intro _ | split | (dsimp only; split))

theorem State.Kept.refresh {s t : State} {stream sig cls anomaly : Nat} (h : s.Kept t) : s.Kept (State.refresh t stream sig cls anomaly) := by
  unfold State.refresh
  with_reducible repeat' (first | assumption | refine .ite ?_ ?_ | refine .shadowWrite ?_ | refine .when_ ?_ ?_ | refine .setAkg ?_ | intro _ | split | (dsimp only; split))

theorem State.Kept.copyBank {s t : State}  (h : s.Kept t) : s.Kept (State.copyBank t) := by
  unfold State.copyBank
  with_reducible repeat' (first | assumption | refine .put ?_ | refine .setBank ?_ | refine .shadowDrain ?_)

theorem State.Kept.loadClassMap {s t : State} {p : Nat} (h : s.Kept t) : s.Kept (State.loadClassMap t p) := by
  unfold State.loadClassMap
  with_reducible repeat' (first | assumption | refine .put ?_ | refine .each ?_ ?_ | intro _)

theorem State.Kept.hpsProfileWrite {s t : State} {p : Nat} (h : s.Kept t) : s.Kept (State.hpsProfileWrite t p) := by
  unfold State.hpsProfileWrite
  with_reducible repeat' (first | assumption | refine .ite ?_ ?_ | refine .put ?_ | refine .leaveExpert ?_ | refine .loadClassMap ?_)

theorem State.Kept.hpsDataWrite {s t : State} {v : Nat} (h : s.Kept t) : s.Kept (State.hpsDataWrite t v) := by
  unfold State.hpsDataWrite
  with_reducible repeat' (first | assumption | refine .ite ?_ ?_ | refine .put ?_ | refine .shadowWrite ?_)

theorem State.Kept.hpsFill {s t : State}  (h : s.Kept t) : s.Kept (State.hpsFill t) := by
  unfold State.hpsFill
  with_reducible repeat' (first | assumption | refine .ite ?_ ?_ | refine .put ?_ | refine .setPass ?_ | refine .setBank ?_ | intro _ | split | (dsimp only; split))

theorem State.Kept.showCapacity {s t : State}  (h : s.Kept t) : s.Kept (State.showCapacity t) := by
  unfold State.showCapacity
  with_reducible repeat' (first | assumption | refine .put ?_ | refine .each ?_ ?_ | refine .putFlag ?_ | intro _)

theorem State.Kept.cfgRefused {s t : State}  (h : s.Kept t) : s.Kept (State.cfgRefused t) := by
  unfold State.cfgRefused
  with_reducible repeat' (first | assumption | refine .put ?_)

theorem State.Kept.gangCfgWrite {s t : State} {v : Nat} (h : s.Kept t) : s.Kept (State.gangCfgWrite t v) := by
  unfold State.gangCfgWrite
  with_reducible repeat' (first | assumption | refine .ite ?_ ?_ | refine .put ?_ | refine .cfgRefused ?_)

theorem State.Kept.fabProfileWrite {s t : State} {p : Nat} (h : s.Kept t) : s.Kept (State.fabProfileWrite t p) := by
  unfold State.fabProfileWrite
  with_reducible repeat' (first | assumption | refine .ite ?_ ?_ | refine .put ?_ | refine .leaveExpert ?_ | refine .showCapacity ?_ | refine .cfgRefused ?_)

theorem State.Kept.spareWrite {s t : State} {q : Nat} (h : s.Kept t) : s.Kept (State.spareWrite t q) := by
  unfold State.spareWrite
  with_reducible repeat' (first | assumption | refine .ite ?_ ?_ | refine .put ?_ | refine .showCapacity ?_ | refine .cfgRefused ?_)

theorem State.Kept.setFab {s t : State} {g : Fabric → Fabric} (h : s.Kept t) : s.Kept (State.setFab t g) := by
  unfold State.setFab
  with_reducible repeat' (first | assumption | refine .withFab ?_)

theorem State.Kept.showModel {s t : State} {slot : Nat} {m : Model} (h : s.Kept t) : s.Kept (State.showModel t slot m) := by
  unfold State.showModel
  with_reducible repeat' (first | assumption | refine .ite ?_ ?_ | refine .put ?_ | refine .putFlag ?_)

theorem State.Kept.setModel {s t : State} {slot : Nat} {m : Model} (h : s.Kept t) : s.Kept (State.setModel t slot m) := by
  unfold State.setModel
  with_reducible repeat' (first | assumption | refine .setFab ?_ | refine .showModel ?_)

theorem State.Kept.setAccs {s t : State} {r : Run} {m : Model} {x : Nat → Nat → Int} (h : s.Kept t) : s.Kept (State.setAccs t r m x) := by
  unfold State.setAccs
  with_reducible repeat' (first | assumption | refine .setFab ?_ | refine .foldl ?_ ?_ | intro _ | split | (dsimp only; split))

theorem State.Kept.mapRun {s t : State} {id : Nat} {g : Run → Run} (h : s.Kept t) : s.Kept (State.mapRun t id g) := by
  unfold State.mapRun
  with_reducible repeat' (first | assumption | refine .ite ?_ ?_ | refine .setFab ?_)

theorem State.Kept.tileMode {s t : State} {r : Run} {mode : Nat} {busy : Bool} (h : s.Kept t) : s.Kept (State.tileMode t r mode busy) := by
  unfold State.tileMode
  with_reducible repeat' (first | assumption | refine .put ?_ | refine .each ?_ ?_ | refine .putFlag ?_ | intro _)

theorem State.Kept.showModes {s t : State}  (h : s.Kept t) : s.Kept (State.showModes t) := by
  unfold State.showModes
  with_reducible repeat' (first | assumption | refine .each ?_ ?_ | refine .tileMode ?_ | intro _ | split | (dsimp only; split))

theorem State.Kept.passStart {s t : State} {id : Nat} (h : s.Kept t) : s.Kept (State.passStart t id) := by
  unfold State.passStart
  with_reducible repeat' (first | assumption | refine .mapRun ?_ | intro _ | split | (dsimp only; split))

theorem State.Kept.startRun {s t : State} {id : Nat} (h : s.Kept t) : s.Kept (State.startRun t id) := by
  unfold State.startRun
  with_reducible repeat' (first | assumption | refine .ite ?_ ?_ | refine .mapRun ?_ | refine .passStart ?_ | refine .tileMode ?_ | intro _ | split | (dsimp only; split))

theorem State.Kept.showReplicas {s t : State}  (h : s.Kept t) : s.Kept (State.showReplicas t) := by
  unfold State.showReplicas
  with_reducible repeat' (first | assumption | refine .put ?_)

theorem State.Kept.grant {s t : State} {id : Nat} (h : s.Kept t) : s.Kept (State.grant t id) := by
  unfold State.grant
  with_reducible repeat' (first | assumption | refine .ite ?_ ?_ | refine .mapRun ?_ | refine .showReplicas ?_ | refine .sendNotice ?_ | refine .startRun ?_ | intro _ | split | (dsimp only; split))

theorem State.Kept.schedule {s t : State}  (h : s.Kept t) : s.Kept (State.schedule t) := by
  unfold State.schedule
  with_reducible repeat' (first | assumption | refine .each ?_ ?_ | refine .grant ?_ | intro _)

theorem State.Kept.submit {s t : State} {r : Run} (h : s.Kept t) : s.Kept (State.submit t r) := by
  unfold State.submit
  with_reducible repeat' (first | assumption | refine .setFab ?_ | refine .schedule ?_)

theorem State.Kept.idleTiles {s t : State} {r : Run} (h : s.Kept t) : s.Kept (State.idleTiles t r) := by
  unfold State.idleTiles
  with_reducible repeat' (first | assumption | refine .put ?_ | refine .each ?_ ?_ | intro _)

theorem State.Kept.returnSpares {s t : State}  (h : s.Kept t) : s.Kept (State.returnSpares t) := by
  unfold State.returnSpares
  with_reducible repeat' (first | assumption | refine .ite ?_ ?_ | refine .put ?_ | refine .each ?_ ?_ | refine .showCapacity ?_ | intro _)

theorem State.Kept.dropNotices {s t : State} {id : Nat} (h : s.Kept t) : s.Kept (State.dropNotices t id) := by
  unfold State.dropNotices
  with_reducible repeat' (first | assumption | refine .withSvc ?_)

theorem State.Kept.endRun {s t : State} {id : Nat} (h : s.Kept t) : s.Kept (State.endRun t id) := by
  unfold State.endRun
  with_reducible repeat' (first | assumption | refine .setFab ?_ | refine .idleTiles ?_ | refine .dropNotices ?_ | refine .showReplicas ?_ | refine .returnSpares ?_ | refine .schedule ?_ | intro _ | split | (dsimp only; split))

theorem State.Kept.yieldGangs {s t : State} {id : Nat} (h : s.Kept t) : s.Kept (State.yieldGangs t id) := by
  unfold State.yieldGangs
  with_reducible repeat' (first | assumption | refine .mapRun ?_ | refine .idleTiles ?_ | refine .schedule ?_ | intro _ | split | (dsimp only; split))

theorem State.Kept.failRun {s t : State} {id status : Nat} (h : s.Kept t) : s.Kept (State.failRun t id status) := by
  unfold State.failRun
  with_reducible repeat' (first | assumption | refine .mapRun ?_ | refine .idleTiles ?_ | refine .dropNotices ?_ | refine .schedule ?_ | refine .finishWith ?_ | refine .endRun ?_ | intro _ | split | (dsimp only; split))

theorem State.Kept.countExchanges {s t : State} {l : List (Nat × Bool)} (h : s.Kept t) : s.Kept (State.countExchanges t l) := by
  unfold State.countExchanges
  with_reducible repeat' (first | assumption | refine .each ?_ ?_ | refine .bump ?_ | refine .when_ ?_ ?_ | intro _)

theorem State.Kept.drawSeed {s t : State}  (h : s.Kept t) : s.Kept ((State.drawSeed t).2) := by
  unfold State.drawSeed
  with_reducible repeat' (first | assumption | refine .withFresh ?_ | refine .bump ?_)

theorem State.Kept.wholeSweep {s t : State} {id : Nat} (h : s.Kept t) : s.Kept (State.wholeSweep t id) := by
  unfold State.wholeSweep
  with_reducible repeat' (first | assumption | refine .ite ?_ ?_ | refine .countExchanges ?_ | refine .mapRun ?_ | intro _ | split | (dsimp only; split))

theorem State.Kept.loadFails {s t : State} {f : Flight} {code status image : Nat} {x : Option (Model × List Grade)} (h : s.Kept t) : s.Kept (State.loadFails t f code status image x) := by
  unfold State.loadFails
  with_reducible repeat' (first | assumption | refine .ite ?_ ?_ | refine .writeOut ?_ | refine .finish ?_ | intro _ | split | (dsimp only; split))

theorem State.Kept.unmarkTiles {s t : State} {slot : Nat} (h : s.Kept t) : s.Kept (State.unmarkTiles t slot) := by
  unfold State.unmarkTiles
  with_reducible repeat' (first | assumption | refine .ite ?_ ?_ | refine .put ?_ | refine .each ?_ ?_ | intro _)

theorem State.Kept.markTiles {s t : State} {slot : Nat} {tiles : List Nat} (h : s.Kept t) : s.Kept (State.markTiles t slot tiles) := by
  unfold State.markTiles
  with_reducible repeat' (first | assumption | refine .put ?_ | refine .each ?_ ?_ | intro _)

theorem State.Kept.loadDone {s t : State} {f : Flight} {m : Model} {gs : List Grade} (h : s.Kept t) : s.Kept (State.loadDone t f m gs) := by
  unfold State.loadDone
  with_reducible repeat' (first | assumption | refine .ite ?_ ?_ | refine .dramRenew ?_ | refine .unmarkTiles ?_ | refine .markTiles ?_ | refine .setModel ?_ | refine .setFab ?_ | refine .writeOut ?_ | refine .finishMirrored ?_ | intro _ | split | (dsimp only; split))

theorem State.Kept.loadModel {s t : State} {f : Flight} {b : List Byte} (h : s.Kept t) : s.Kept (State.loadModel t f b) := by
  unfold State.loadModel
  with_reducible repeat' (first | assumption | refine .ite ?_ ?_ | refine .loadFails ?_ | refine .loadDone ?_ | intro _ | split | (dsimp only; split))

theorem State.Kept.loadCoeff {s t : State} {f : Flight} {b : List Byte} (h : s.Kept t) : s.Kept (State.loadCoeff t f b) := by
  unfold State.loadCoeff
  with_reducible repeat' (first | assumption | refine .ite ?_ ?_ | refine .finish ?_ | refine .setModel ?_ | refine .writeOut ?_ | refine .finishMirrored ?_ | intro _ | split | (dsimp only; split))

theorem State.Kept.trainStep {s t : State} {f : Flight} {m : Model} {seed : Nat} {data : List Byte} (h : s.Kept t) : s.Kept (State.trainStep t f m seed data) := by
  unfold State.trainStep
  with_reducible repeat' (first | assumption | refine .ite ?_ ?_ | refine .foldl ?_ ?_ | refine .dramRenew ?_ | refine .setModel ?_ | refine .writeOut ?_ | refine .finishMirrored ?_ | intro _ | split | (dsimp only; split))

theorem State.Kept.takeDesc {s t : State} {n : Nat} {d : Desc} (h : s.Kept t) : s.Kept (State.takeDesc t n d) := by
  unfold State.takeDesc
  with_reducible repeat' (first | assumption | refine .ite ?_ ?_ | refine .withHost ?_ | refine .put ?_ | refine .showFlights ?_ | refine .bump ?_ | intro _ | split | (dsimp only; split))

theorem State.Kept.fetchDesc {s t : State} {n : Nat} {d : Desc} (h : s.Kept t) : s.Kept (State.fetchDesc t n d) := by
  unfold State.fetchDesc
  with_reducible repeat' (first | assumption | refine .ite ?_ ?_ | refine .traceAccess ?_ | refine .takeDesc ?_ | refine .finish ?_ | refine .chainAborts ?_ | refine .showPublish ?_ | intro _ | split | (dsimp only; split))

theorem State.Kept.partCommit {s t : State}  (h : s.Kept t) : s.Kept (State.partCommit t) := by
  unfold State.partCommit
  with_reducible repeat' (first | assumption | refine .ite ?_ ?_ | refine .foldl ?_ ?_ | refine .put ?_ | refine .withHost ?_)

theorem State.Kept.setShare {s t : State} {x : Share} (h : s.Kept t) : s.Kept (State.setShare t x) := by
  unfold State.setShare
  with_reducible repeat' (first | assumption | refine .setAkg ?_)

theorem State.Kept.tellMembers {s t : State} {slot cls : Nat} {m : AkMsg} (h : s.Kept t) : s.Kept (State.tellMembers t slot cls m) := by
  unfold State.tellMembers
  with_reducible repeat' (first | assumption | refine .each ?_ ?_ | refine .sendSystem ?_ | intro _)

theorem State.Kept.clearModel {s t : State} {slot : Nat} (h : s.Kept t) : s.Kept (State.clearModel t slot) := by
  unfold State.clearModel
  with_reducible repeat' (first | assumption | refine .setWord ?_ | refine .unmarkTiles ?_ | refine .setFab ?_)

theorem State.Kept.shareLoadCheck {s t : State} {slot : Nat} (h : s.Kept t) : s.Kept (State.shareLoadCheck t slot) := by
  unfold State.shareLoadCheck
  with_reducible repeat' (first | assumption | refine .ite ?_ ?_ | refine .setShare ?_ | refine .finish ?_ | intro _ | split | (dsimp only; split))

theorem State.Kept.withdrawLoad {s t : State} {slot : Nat} (h : s.Kept t) : s.Kept (State.withdrawLoad t slot) := by
  unfold State.withdrawLoad
  with_reducible repeat' (first | assumption | refine .ite ?_ ?_ | refine .setShare ?_ | refine .tellMembers ?_ | intro _ | split | (dsimp only; split))

theorem State.Kept.shareLoad {s t : State} {f : Flight} {b : List Byte} (h : s.Kept t) : s.Kept (State.shareLoad t f b) := by
  unfold State.shareLoad
  with_reducible repeat' (first | assumption | refine .ite ?_ ?_ | refine .loadFails ?_ | refine .withdrawLoad ?_ | refine .loadModel ?_ | refine .withHost ?_ | refine .mapFlight ?_ | refine .setShare ?_ | refine .tellMembers ?_ | refine .shareLoadCheck ?_ | intro _ | split | (dsimp only; split))

theorem State.Kept.shareStart {s t : State} {slot : Nat} (h : s.Kept t) : s.Kept (State.shareStart t slot) := by
  unfold State.shareStart
  with_reducible repeat' (first | assumption | refine .ite ?_ ?_ | refine .setShare ?_ | refine .submit ?_ | intro _ | split | (dsimp only; split))

theorem State.Kept.submitShared {s t : State} {f : Flight} {r : Run} (h : s.Kept t) : s.Kept (State.submitShared t f r) := by
  unfold State.submitShared
  with_reducible repeat' (first | assumption | refine .ite ?_ ?_ | refine .setShare ?_ | refine .tellMembers ?_ | refine .shareStart ?_ | refine .submit ?_ | intro _ | split | (dsimp only; split))

theorem State.Kept.sendPartials {s t : State} {slot replica : Nat} {m : Model} {old new : List Nat} (h : s.Kept t) : s.Kept (State.sendPartials t slot replica m old new) := by
  unfold State.sendPartials
  with_reducible repeat' (first | assumption | refine .ite ?_ ?_ | refine .each ?_ ?_ | refine .sendSystem ?_ | intro _ | split | (dsimp only; split))

theorem State.Kept.shareDecided {s t : State} {slot : Nat} {energy : Int} {visit place : Option Nat} (h : s.Kept t) : s.Kept (State.shareDecided t slot energy visit place) := by
  unfold State.shareDecided
  with_reducible repeat' (first | assumption | refine .setShare ?_ | refine .mapRun ?_ | intro _ | split | (dsimp only; split))

theorem State.Kept.shareLead {s t : State} {slot : Nat} (h : s.Kept t) : s.Kept (State.shareLead t slot) := by
  unfold State.shareLead
  with_reducible repeat' (first | assumption | refine .ite ?_ ?_ | refine .setShare ?_ | refine .tellMembers ?_ | refine .shareDecided ?_ | intro _ | split | (dsimp only; split))

theorem State.Kept.shareOffers {s t : State} {r : Run} {packed rung : Nat} {energy : Int} (h : s.Kept t) : s.Kept (State.shareOffers t r packed rung energy) := by
  unfold State.shareOffers
  with_reducible repeat' (first | assumption | refine .ite ?_ ?_ | refine .setShare ?_ | refine .shareLead ?_ | refine .sendSystem ?_ | intro _ | split | (dsimp only; split))

theorem State.Kept.shareSweep {s t : State} {r : Run} {m : Model} (h : s.Kept t) : s.Kept (State.shareSweep t r m) := by
  unfold State.shareSweep
  with_reducible repeat' (first | assumption | refine .ite ?_ ?_ | refine .setShare ?_ | refine .mapRun ?_ | refine .sendPartials ?_ | refine .tellMembers ?_ | refine .shareOffers ?_ | intro _ | split | (dsimp only; split))

theorem State.Kept.writeShared {s t : State} {f : Flight} {r : Run} {m : Model} {header : List Byte} (h : s.Kept t) : s.Kept (State.writeShared t f r m header) := by
  unfold State.writeShared
  with_reducible repeat' (first | assumption | refine .ite ?_ ?_ | refine .writeOut ?_ | refine .each ?_ ?_ | intro _)

theorem State.Kept.shareFails {s t : State} {slot : Nat} (h : s.Kept t) : s.Kept (State.shareFails t slot) := by
  unfold State.shareFails
  with_reducible repeat' (first | assumption | refine .withdrawLoad ?_ | refine .clearModel ?_ | refine .finish ?_ | refine .setShare ?_ | refine .when_ ?_ ?_ | refine .tellMembers ?_ | refine .each ?_ ?_ | refine .failRun ?_ | intro _ | split | (dsimp only; split))

theorem State.Kept.follow {s t : State} {r : Rec} {id : Option Nat} (h : s.Kept t) : s.Kept (State.follow t r id) := by
  unfold State.follow
  with_reducible repeat' (first | assumption | refine .ite ?_ ?_ | refine .setCap ?_ | intro _ | split | (dsimp only; split))

theorem State.Kept.takeRec {s t : State} {r : Rec} (h : s.Kept t) : s.Kept (State.takeRec t r) := by
  unfold State.takeRec
  with_reducible repeat' (first | assumption | refine .ite ?_ ?_ | refine .bump ?_ | refine .put ?_ | refine .follow ?_ | refine .withHost ?_ | refine .setCap ?_ | refine .showReserved ?_ | intro _ | split | (dsimp only; split))

theorem State.Kept.vitaRecord {s t : State} {stream : Nat} {inExp : Int} {sid : Nat} {fields : List (Nat × Nat)} {presence : Nat} {data : List Byte} {fragment truncated : Bool} (h : s.Kept t) : s.Kept (State.vitaRecord t stream inExp sid fields presence data fragment truncated) := by
  unfold State.vitaRecord
  with_reducible repeat' (first | assumption | refine .setCap ?_ | refine .when_ ?_ ?_ | refine .bump ?_ | refine .takeRec ?_ | intro _)

theorem State.Kept.frame {s t : State} {p : Nat} {b : List Byte} (h : s.Kept t) : s.Kept (State.frame t p b) := by
  unfold State.frame
  with_reducible repeat' (first | assumption | refine .ite ?_ ?_ | refine .bump ?_ | refine .vitaRecord ?_ | split)

theorem State.Kept.mapStanding {s t : State} {flight : Nat} {g : Standing → Standing} (h : s.Kept t) : s.Kept (State.mapStanding t flight g) := by
  unfold State.mapStanding
  with_reducible repeat' (first | assumption | refine .ite ?_ ?_ | refine .setCap ?_)

theorem State.Kept.endStanding {s t : State} {x : Standing} {status : Nat} (h : s.Kept t) : s.Kept (State.endStanding t x status) := by
  unfold State.endStanding
  with_reducible repeat' (first | assumption | refine .ite ?_ ?_ | refine .setCap ?_ | refine .finish ?_ | refine .setFab ?_ | refine .showReplicas ?_)

theorem State.Kept.checkStanding {s t : State} {flight : Nat} (h : s.Kept t) : s.Kept (State.checkStanding t flight) := by
  unfold State.checkStanding
  with_reducible repeat' (first | assumption | refine .ite ?_ ?_ | refine .endStanding ?_ | intro _ | split | (dsimp only; split))

theorem State.Kept.discardRec {s t : State} {id : Nat} (h : s.Kept t) : s.Kept (State.discardRec t id) := by
  unfold State.discardRec
  with_reducible repeat' (first | assumption | refine .endRun ?_ | refine .finishRec ?_ | refine .mapStanding ?_ | refine .checkStanding ?_ | intro _ | split | (dsimp only; split))

theorem State.Kept.startRec {s t : State} {id : Nat} (h : s.Kept t) : s.Kept (State.startRec t id) := by
  unfold State.startRec
  with_reducible repeat' (first | assumption | refine .ite ?_ ?_ | refine .bump ?_ | refine .finishRec ?_ | refine .endStanding ?_ | refine .mapRec ?_ | refine .mapStanding ?_ | refine .when_ ?_ ?_ | refine .submit ?_ | intro _ | split | (dsimp only; split))

theorem State.Kept.startRecs {s t : State} {stream : Nat} (h : s.Kept t) : s.Kept (State.startRecs t stream) := by
  unfold State.startRecs
  with_reducible repeat' (first | assumption | refine .each ?_ ?_ | refine .startRec ?_ | intro _)

theorem State.Kept.takeBack {s t : State} {flight : Nat} {all : Bool} (h : s.Kept t) : s.Kept (State.takeBack t flight all) := by
  unfold State.takeBack
  with_reducible repeat' (first | assumption | refine .each ?_ ?_ | refine .endRun ?_ | refine .mapRec ?_ | refine .mapStanding ?_ | intro _)

theorem State.Kept.mirrorTrace {s t : State} {r : Rec} (h : s.Kept t) : s.Kept (State.mirrorTrace t r) := by
  unfold State.mirrorTrace
  with_reducible repeat' (first | assumption | refine .when_ ?_ ?_ | refine .bump ?_ | refine .traceOffer ?_ | intro _ | split | (dsimp only; split))

theorem State.Kept.classifyEnd {s t : State} {id : Nat} (h : s.Kept t) : s.Kept (State.classifyEnd t id) := by
  unfold State.classifyEnd
  with_reducible repeat' (first | assumption | refine .ite ?_ ?_ | refine .withHost ?_ | refine .mapRec ?_ | refine .when_ ?_ ?_ | refine .mirrorTrace ?_ | refine .bump ?_ | refine .finishRec ?_ | refine .startRec ?_ | intro _ | split | (dsimp only; split))

theorem State.Kept.sylPass {s t : State} {id : Nat} (h : s.Kept t) : s.Kept (State.sylPass t id) := by
  unfold State.sylPass
  with_reducible repeat' (first | assumption | refine .ite ?_ ?_ | refine .mapRec ?_ | refine .classifyEnd ?_ | refine .bump ?_ | intro _ | split | (dsimp only; split))

theorem State.Kept.capProfileWrite {s t : State} {p : Nat} (h : s.Kept t) : s.Kept (State.capProfileWrite t p) := by
  unfold State.capProfileWrite
  with_reducible repeat' (first | assumption | refine .ite ?_ ?_ | refine .put ?_ | refine .leaveExpert ?_ | refine .each ?_ ?_ | intro _)

theorem State.Kept.sylProfileWrite {s t : State} {p : Nat} (h : s.Kept t) : s.Kept (State.sylProfileWrite t p) := by
  unfold State.sylProfileWrite
  with_reducible repeat' (first | assumption | refine .ite ?_ ?_ | refine .put ?_ | refine .leaveExpert ?_)

theorem State.Kept.land {s t : State} {b : List Byte} (h : s.Kept t) : s.Kept (State.land t b) := by
  unfold State.land
  with_reducible repeat' (first | assumption | refine .ite ?_ ?_ | refine .setCap ?_ | refine .mapRec ?_ | intro _ | split | (dsimp only; split))

theorem State.Kept.endRec {s t : State} {id : Nat} {cut : Bool} (h : s.Kept t) : s.Kept (State.endRec t id cut) := by
  unfold State.endRec
  with_reducible repeat' (first | assumption | refine .ite ?_ ?_ | refine .mapRec ?_ | intro _ | split | (dsimp only; split))

theorem State.Kept.endLink {s t : State} {cut : Bool} (h : s.Kept t) : s.Kept (State.endLink t cut) := by
  unfold State.endLink
  with_reducible repeat' (first | assumption | refine .setCap ?_ | refine .when_ ?_ ?_ | refine .bump ?_ | refine .endRec ?_ | intro _ | split | (dsimp only; split))

theorem State.Kept.endGood {s t : State} {crc : Nat} (h : s.Kept t) : s.Kept (State.endGood t crc) := by
  unfold State.endGood
  with_reducible repeat' (first | assumption | refine .ite ?_ ?_ | refine .endLink ?_ | refine .bump ?_ | refine .setCap ?_ | refine .discardRec ?_ | intro _ | split | (dsimp only; split))

theorem State.Kept.burstLoad {s t : State} {id : Nat} (h : s.Kept t) : s.Kept (State.burstLoad t id) := by
  unfold State.burstLoad
  with_reducible repeat' (first | assumption | refine .ite ?_ ?_ | refine .mapRun ?_ | refine .mapRec ?_ | refine .when_ ?_ ?_ | refine .bump ?_ | intro _ | split | (dsimp only; split))

theorem State.Kept.underrun {s t : State} {id : Nat} (h : s.Kept t) : s.Kept (State.underrun t id) := by
  unfold State.underrun
  with_reducible repeat' (first | assumption | refine .ite ?_ ?_ | refine .bump ?_ | refine .takeBack ?_ | refine .endStanding ?_ | split)

theorem State.Kept.featurePass {s t : State} {id : Nat} (h : s.Kept t) : s.Kept (State.featurePass t id) := by
  unfold State.featurePass
  with_reducible repeat' (first | assumption | refine .ite ?_ ?_ | refine .mapRun ?_ | refine .setAccs ?_ | refine .passStart ?_ | refine .tileMode ?_ | intro _ | split | (dsimp only; split))

theorem State.Kept.setHold {s t : State} {h_1 : StreamHold} (h : s.Kept t) : s.Kept (State.setHold t h_1) := by
  unfold State.setHold
  with_reducible repeat' (first | assumption | refine .setFab ?_)

theorem State.Kept.beginRecord {s t : State} {id : Nat} (h : s.Kept t) : s.Kept (State.beginRecord t id) := by
  unfold State.beginRecord
  with_reducible repeat' (first | assumption | refine .ite ?_ ?_ | refine .drawSeed ?_ | refine .setHold ?_ | refine .showReplicas ?_ | refine .mapRun ?_ | intro _ | split | (dsimp only; split))

theorem State.Kept.budgetEnd {s t : State} {id : Nat} (h : s.Kept t) : s.Kept (State.budgetEnd t id) := by
  unfold State.budgetEnd
  with_reducible repeat' (first | assumption | refine .setHold ?_ | refine .yieldGangs ?_ | split)

theorem State.Kept.verdictStates {s t : State} {d : Desc} {m : Model} {q : Run} {i : Nat} {part : Nat} (h : s.Kept t) : s.Kept ((State.verdictStates t d m q i part).2) := by
  unfold State.verdictStates
  with_reducible repeat' (first | assumption | refine .ite ?_ ?_ | refine .writeOut ?_)

theorem State.Kept.verdict {s t : State} {id : Nat} (h : s.Kept t) : s.Kept (State.verdict t id) := by
  unfold State.verdict
  with_reducible repeat' (first | assumption | refine .ite ?_ ?_ | refine .refresh ?_ | refine .verdictStates ?_ | refine .endRun ?_ | refine .dropVerdict ?_ | refine .finishRec ?_ | refine .hold ?_ | refine .mapStanding ?_ | refine .checkStanding ?_ | intro _ | split | (dsimp only; split))

theorem State.Kept.macRun {s t : State} {f : Flight} (h : s.Kept t) : s.Kept (State.macRun t f) := by
  unfold State.macRun
  with_reducible repeat' (first | assumption | refine .ite ?_ ?_ | refine .finish ?_ | refine .runFlight ?_ | refine .submitShared ?_ | split)

theorem State.Kept.sampleRun {s t : State} {f : Flight} {m : Model} {kind : RunKind} {table : Option TimeTable} {points : Option (List (Dy × Nat × Bool))} (h : s.Kept t) : s.Kept (State.sampleRun t f m kind table points) := by
  unfold State.sampleRun
  with_reducible repeat' (first | assumption | refine .ite ?_ ?_ | refine .finish ?_ | refine .drawSeed ?_ | refine .runFlight ?_ | refine .submitShared ?_ | intro _ | split | (dsimp only; split))

theorem State.Kept.macPass {s t : State} {r : Run} {f : Flight} {m : Model} {data : Option (List Byte)} (h : s.Kept t) : s.Kept (State.macPass t r f m data) := by
  unfold State.macPass
  with_reducible repeat' (first | assumption | refine .ite ?_ ?_ | refine .failRun ?_ | refine .traceIn ?_ | refine .writeOut ?_ | refine .setAccs ?_ | refine .mapRun ?_ | refine .passStart ?_ | refine .finishWith ?_ | refine .endRun ?_ | intro _ | split | (dsimp only; split))

theorem State.Kept.mirrorSnapshot {s t : State} {id : Nat} (h : s.Kept t) : s.Kept (State.mirrorSnapshot t id) := by
  unfold State.mirrorSnapshot
  with_reducible repeat' (first | assumption | refine .ite ?_ ?_ | refine .put ?_ | refine .bump ?_ | refine .when_ ?_ ?_ | refine .mapRun ?_ | refine .sendPair ?_ | refine .setAkg ?_ | intro _ | split | (dsimp only; split))

theorem State.Kept.finishSample {s t : State} {id : Nat} (h : s.Kept t) : s.Kept (State.finishSample t id) := by
  unfold State.finishSample
  with_reducible repeat' (first | assumption | refine .ite ?_ ?_ | refine .failRun ?_ | refine .setModel ?_ | refine .writeShared ?_ | refine .writeOut ?_ | refine .finishWith ?_ | refine .endRun ?_ | intro _ | split | (dsimp only; split))

theorem State.Kept.readStates {s t : State} {f : Flight} (h : s.Kept t) : s.Kept (State.readStates t f) := by
  unfold State.readStates
  with_reducible repeat' (first | assumption | refine .ite ?_ ?_ | refine .finish ?_ | refine .when_ ?_ ?_ | refine .writeOut ?_ | intro _ | split | (dsimp only; split))

theorem State.Kept.sweepDone {s t : State} {id : Nat} (h : s.Kept t) : s.Kept (State.sweepDone t id) := by
  unfold State.sweepDone
  with_reducible repeat' (first | assumption | refine .ite ?_ ?_ | refine .wholeSweep ?_ | split)

theorem State.Kept.replicaSweep {s t : State} {id : Nat} (h : s.Kept t) : s.Kept (State.replicaSweep t id) := by
  unfold State.replicaSweep
  with_reducible repeat' (first | assumption | refine .ite ?_ ?_ | refine .when_ ?_ ?_ | refine .dramRenew ?_ | refine .shareSweep ?_ | refine .mapRun ?_ | refine .setAccs ?_ | refine .passStart ?_ | refine .sweepDone ?_ | intro _ | split | (dsimp only; split))

theorem State.Kept.epochEnd {s t : State} {id : Nat} (h : s.Kept t) : s.Kept (State.epochEnd t id) := by
  unfold State.epochEnd
  with_reducible repeat' (first | assumption | refine .ite ?_ ?_ | refine .mapRun ?_ | refine .budgetEnd ?_ | refine .finishSample ?_ | refine .mirrorSnapshot ?_ | refine .yieldGangs ?_ | intro _ | split | (dsimp only; split))

theorem State.Kept.pointEnd {s t : State} {id : Nat} (h : s.Kept t) : s.Kept (State.pointEnd t id) := by
  unfold State.pointEnd
  with_reducible repeat' (first | assumption | refine .ite ?_ ?_ | refine .mapRun ?_ | intro _ | split | (dsimp only; split))

theorem State.Kept.reroute {s t : State}  (h : s.Kept t) : s.Kept (State.reroute t) := by
  unfold State.reroute
  with_reducible repeat' (first | assumption | refine .each ?_ ?_ | refine .takeBack ?_ | refine .when_ ?_ ?_ | refine .startRecs ?_ | intro _)

theorem State.Kept.captureAcc {s t : State}  (h : s.Kept t) : s.Kept (State.captureAcc t) := by
  unfold State.captureAcc
  with_reducible repeat' (first | assumption | refine .put ?_ | refine .setFab ?_)

theorem State.Kept.accSelWrite {s t : State} {tile row col : Nat} {latch : Bool} (h : s.Kept t) : s.Kept (State.accSelWrite t tile row col latch) := by
  unfold State.accSelWrite
  with_reducible repeat' (first | assumption | refine .ite ?_ ?_ | refine .put ?_ | refine .setFab ?_ | refine .captureAcc ?_ | intro _ | split | (dsimp only; split))

theorem State.Kept.spareWord {s t : State} {q : Nat} (h : s.Kept t) : s.Kept (State.spareWord t q) := by
  unfold State.spareWord
  with_reducible repeat' (first | assumption | refine .cfgWrite ?_ ?_ | refine .spareWrite ?_ | intro _)

theorem State.Kept.smpProfileWrite {s t : State} {p : Nat} (h : s.Kept t) : s.Kept (State.smpProfileWrite t p) := by
  unfold State.smpProfileWrite
  with_reducible repeat' (first | assumption | refine .ite ?_ ?_ | refine .put ?_ | refine .leaveExpert ?_)

end Sys2Proof.Machine
end

