-- ==== Sys2Proof/Laws/KeptPower.lean ====
section
/-!
SUPPORT. Laws/KeptPower.lean: each shared operation of metering, resets, firmware, the breaker, the ledger and service keeps the canonical form and the queue.
-/
namespace Sys2Proof.Machine

open Sys2Proof

theorem State.Kept.setConv {s t : State} {c : Nat} {v : Conv} (h : s.Kept t) : s.Kept (State.setConv t c v) := by
  unfold State.setConv
  with_reducible repeat' (first | assumption | refine .ite ?_ ?_ | refine .withMeter ?_)

theorem State.Kept.kick {s t : State} {c : Nat} (h : s.Kept t) : s.Kept (State.kick t c) := by
  unfold State.kick
  with_reducible repeat' (first | assumption | refine .ite ?_ ?_ | refine .setConv ?_ | split)

theorem State.Kept.kickBoth {s t : State}  (h : s.Kept t) : s.Kept (State.kickBoth t) := by
  unfold State.kickBoth
  with_reducible repeat' (first | assumption | refine .kick ?_)

theorem State.Kept.restartSeq {s t : State}  (h : s.Kept t) : s.Kept (State.restartSeq t) := by
  unfold State.restartSeq
  with_reducible repeat' (first | assumption | refine .ite ?_ ?_ | refine .withMeter ?_ | refine .kickBoth ?_)

theorem State.Kept.stopConvs {s t : State}  (h : s.Kept t) : s.Kept (State.stopConvs t) := by
  unfold State.stopConvs
  with_reducible repeat' (first | assumption | refine .withMeter ?_ | refine .kickBoth ?_)

theorem State.Kept.lpChange {s t : State}  (h : s.Kept t) : s.Kept (State.lpChange t) := by
  unfold State.lpChange
  with_reducible repeat' (first | assumption | refine .ite ?_ ?_ | refine .putFlag ?_ | refine .stopConvs ?_)

theorem State.Kept.emptyTracker {s t : State} {c e : Nat} (h : s.Kept t) : s.Kept (State.emptyTracker t c e) := by
  unfold State.emptyTracker
  with_reducible repeat' (first | assumption | refine .put ?_)

theorem State.Kept.takeCollected {s t : State}  (h : s.Kept t) : s.Kept (State.takeCollected t) := by
  unfold State.takeCollected
  with_reducible repeat' (first | assumption | refine .ite ?_ ?_ | refine .foldl ?_ ?_ | refine .put ?_ | refine .setWord ?_ | refine .withMeter ?_ | refine .each ?_ ?_ | refine .emptyTracker ?_ | with_unfolding_all exact Store.wf_write | intro _)

theorem State.Kept.beginPass {s t : State} {all : Bool} (h : s.Kept t) : s.Kept (State.beginPass t all) := by
  unfold State.beginPass
  with_reducible repeat' (first | assumption | refine .ite ?_ ?_ | refine .takeCollected ?_ | refine .withMeter ?_ | refine .kickBoth ?_)

theorem State.Kept.setReading {s t : State} {n : Nat} {v : Int} (h : s.Kept t) : s.Kept (State.setReading t n v) := by
  unfold State.setReading
  with_reducible repeat' (first | assumption | refine .ite ?_ ?_ | refine .put ?_)

theorem State.Kept.windowResult {s t : State} {n : Nat} (h : s.Kept t) : s.Kept (State.windowResult t n) := by
  unfold State.windowResult
  with_reducible repeat' (first | assumption | refine .ite ?_ ?_ | refine .withThermal ?_)

theorem State.Kept.dieWarning {s t : State} {n : Nat} {v : Int} (h : s.Kept t) : s.Kept (State.dieWarning t n v) := by
  unfold State.dieWarning
  with_reducible repeat' (first | assumption | refine .ite ?_ ?_ | refine .withThermal ?_ | refine .when_ ?_ ?_ | refine .raise ?_ | intro _)

theorem State.Kept.tempResult {s t : State} {input : Nat} {c : Int} (h : s.Kept t) : s.Kept (State.tempResult t input c) := by
  unfold State.tempResult
  with_reducible repeat' (first | assumption | refine .ite ?_ ?_ | refine .put ?_ | refine .setReading ?_ | refine .pshSample ?_ | refine .dieWarning ?_ | refine .windowResult ?_ | split)

theorem State.Kept.railResult {s t : State} {input : Nat} {c : Int} (h : s.Kept t) : s.Kept (State.railResult t input c) := by
  unfold State.railResult
  with_reducible repeat' (first | assumption | refine .ite ?_ ?_ | refine .withMeter ?_ | refine .railFault ?_)

theorem State.Kept.inputResult {s t : State} {input : Nat} {c : Int} (h : s.Kept t) : s.Kept (State.inputResult t input c) := by
  unfold State.inputResult
  with_reducible repeat' (first | assumption | refine .ite ?_ ?_ | refine .withMeter ?_ | refine .tempResult ?_ | refine .railResult ?_)

theorem State.Kept.entryResult {s t : State} {c e : Nat} {raw : Int} (h : s.Kept t) : s.Kept (State.entryResult t c e raw) := by
  unfold State.entryResult
  with_reducible repeat' (first | assumption | refine .ite ?_ ?_ | refine .put ?_ | refine .putFlag ?_ | refine .inputResult ?_)

theorem State.Kept.urgentResult {s t : State} {c : Nat} {raw : Int} (h : s.Kept t) : s.Kept (State.urgentResult t c raw) := by
  unfold State.urgentResult
  with_reducible repeat' (first | assumption | refine .ite ?_ ?_ | refine .put ?_ | refine .setConv ?_ | refine .inputResult ?_ | split | (dsimp only; split))

theorem State.Kept.powerResult {s t : State} {time : Int} {p : Int} (h : s.Kept t) : s.Kept (State.powerResult t time p) := by
  unfold State.powerResult
  with_reducible repeat' (first | assumption | refine .withMeter ?_ | intro _ | split | (dsimp only; split))

theorem State.Kept.pairTime {s t : State} {dt : Nat} (h : s.Kept t) : s.Kept (State.pairTime t dt) := by
  unfold State.pairTime
  with_reducible repeat' (first | assumption | refine .withMeter ?_ | intro _ | split | (dsimp only; split))

theorem State.Kept.accumulate {s t : State} {v i : Int} {dt : Nat} (h : s.Kept t) : s.Kept (State.accumulate t v i dt) := by
  unfold State.accumulate
  with_reducible repeat' (first | assumption | refine .withMeter ?_)

theorem State.Kept.pairResult {s t : State} {e : Nat} {v i : Int} {dt : Nat} (h : s.Kept t) : s.Kept (State.pairResult t e v i dt) := by
  unfold State.pairResult
  with_reducible repeat' (first | assumption | refine .ite ?_ ?_ | refine .pairTime ?_ | refine .powerResult ?_ | refine .accumulate ?_ | refine .withMeter ?_ | intro _ | split | (dsimp only; split))

theorem State.Kept.meterBit {s t : State} {f : Fld} (h : s.Kept t) : s.Kept (State.meterBit t f) := by
  unfold State.meterBit
  with_reducible repeat' (first | assumption | refine .ite ?_ ?_ | refine .put ?_ | refine .raise ?_)

theorem State.Kept.plausFail {s t : State}  (h : s.Kept t) : s.Kept (State.plausFail t) := by
  unfold State.plausFail
  with_reducible repeat' (first | assumption | refine .ite ?_ ?_ | refine .put ?_ | refine .bump ?_ | refine .meterBit ?_ | refine .alertOn ?_ | refine .withPmb ?_ | refine .withMeter ?_ | refine .failRun ?_ | refine .pshCount ?_ | refine .trigger ?_ | refine .when_ ?_ ?_ | intro _)

theorem State.Kept.plausPass {s t : State}  (h : s.Kept t) : s.Kept (State.plausPass t) := by
  unfold State.plausPass
  with_reducible repeat' (first | assumption | refine .put ?_ | refine .withMeter ?_ | refine .failRun ?_ | refine .when_ ?_ ?_ | intro _)

theorem State.Kept.plausCheck {s t : State} {a b : Int} (h : s.Kept t) : s.Kept (State.plausCheck t a b) := by
  unfold State.plausCheck
  with_reducible repeat' (first | assumption | refine .ite ?_ ?_ | refine .put ?_ | refine .bump ?_ | refine .plausFail ?_ | refine .plausPass ?_)

theorem State.Kept.calRefuse {s t : State}  (h : s.Kept t) : s.Kept (State.calRefuse t) := by
  unfold State.calRefuse
  with_reducible repeat' (first | assumption | refine .meterBit ?_)

theorem State.Kept.calStop {s t : State}  (h : s.Kept t) : s.Kept (State.calStop t) := by
  unfold State.calStop
  with_reducible repeat' (first | assumption | refine .ite ?_ ?_ | refine .put ?_ | refine .calRefuse ?_ | refine .stopConvs ?_)

theorem State.Kept.calStart {s t : State}  (h : s.Kept t) : s.Kept (State.calStart t) := by
  unfold State.calStart
  with_reducible repeat' (first | assumption | refine .ite ?_ ?_ | refine .calRefuse ?_ | refine .withMeter ?_ | refine .put ?_ | intro _ | split | (dsimp only; split))

theorem State.Kept.adcProfileWrite {s t : State} {v : Nat} (h : s.Kept t) : s.Kept (State.adcProfileWrite t v) := by
  unfold State.adcProfileWrite
  with_reducible repeat' (first | assumption | refine .ite ?_ ?_ | refine .foldl ?_ ?_ | refine .put ?_ | refine .setWord ?_ | refine .leaveExpert ?_ | refine .each ?_ ?_ | refine .withMeter ?_ | refine .restartSeq ?_ | refine .lpChange ?_ | with_unfolding_all exact Store.wf_write | intro _)

theorem State.Kept.urgentWrite {s t : State} {c v : Nat} (h : s.Kept t) : s.Kept (State.urgentWrite t c v) := by
  unfold State.urgentWrite
  with_reducible repeat' (first | assumption | refine .ite ?_ ?_ | refine .put ?_ | refine .setConv ?_ | refine .kick ?_)

theorem State.Kept.accSnap {s t : State}  (h : s.Kept t) : s.Kept (State.accSnap t) := by
  unfold State.accSnap
  with_reducible repeat' (first | assumption | refine .setWord ?_)

theorem State.Kept.accClear {s t : State}  (h : s.Kept t) : s.Kept (State.accClear t) := by
  unfold State.accClear
  with_reducible repeat' (first | assumption | refine .withMeter ?_)

theorem State.Kept.minmaxClear {s t : State}  (h : s.Kept t) : s.Kept (State.minmaxClear t) := by
  unfold State.minmaxClear
  with_reducible repeat' (first | assumption | refine .each ?_ ?_ | refine .emptyTracker ?_ | intro _)

theorem State.Kept.refEnable {s t : State}  (h : s.Kept t) : s.Kept (State.refEnable t) := by
  unfold State.refEnable
  with_reducible repeat' (first | assumption | refine .ite ?_ ?_ | refine .put ?_ | refine .withMeter ?_)

theorem State.Kept.refClear {s t : State}  (h : s.Kept t) : s.Kept (State.refClear t) := by
  unfold State.refClear
  with_reducible repeat' (first | assumption | refine .ite ?_ ?_ | refine .put ?_ | refine .withMeter ?_ | intro _ | split | (dsimp only; split))

theorem State.Kept.coldGld {s t : State} (h : s.Kept t) : s.Kept (State.coldGld t) := by
  unfold State.coldGld
  have h0 : ∀ u : State, s.Kept u → s.Kept ((u.each [19, 20, 21] (fun x n => x.setWord (Reg.THM_SENSOR.reading n).off (t.word (Reg.THM_SENSOR.reading n).off))).put
      Reg.THM_BANDS.flash_open (t.get Reg.THM_BANDS.flash_open)) := fun u hu =>
    State.Kept.put (State.Kept.each (fun _ _ hv => State.Kept.setWord hv) hu)
  dsimp only
  split
  · refine State.Kept.put (State.Kept.put (State.Kept.withFab (h0 _ (State.Kept.put (State.Kept.put (State.Kept.put ?_))))))
    exact State.Kept.cold h rfl Store.wf_filter rfl rfl rfl rfl rfl
  · refine h0 _ (State.Kept.put (State.Kept.put (State.Kept.put ?_)))
    exact State.Kept.cold h rfl Store.wf_filter rfl rfl rfl rfl rfl

theorem State.Kept.setImage {s t : State} {i : Nat} {v : FwImage} (h : s.Kept t) : s.Kept (State.setImage t i v) := by
  unfold State.setImage
  with_reducible repeat' (first | assumption | refine .ite ?_ ?_ | refine .withSec ?_)

theorem State.Kept.showFw {s t : State}  (h : s.Kept t) : s.Kept (State.showFw t) := by
  unfold State.showFw
  with_reducible repeat' (first | assumption | refine .ite ?_ ?_ | refine .put ?_ | refine .putFlag ?_)

theorem State.Kept.fwResult {s t : State} {r : Nat} (h : s.Kept t) : s.Kept (State.fwResult t r) := by
  unfold State.fwResult
  with_reducible repeat' (first | assumption | refine .put ?_ | refine .withSec ?_)

theorem State.Kept.bootWrite {s t : State}  (h : s.Kept t) : s.Kept (State.bootWrite t) := by
  unfold State.bootWrite
  with_reducible repeat' (first | assumption | refine .withSec ?_)

theorem State.Kept.abandon {s t : State} {i : Nat} (h : s.Kept t) : s.Kept (State.abandon t i) := by
  unfold State.abandon
  with_reducible repeat' (first | assumption | refine .ite ?_ ?_ | refine .setImage ?_ | refine .withSec ?_ | refine .bootWrite ?_)

theorem State.Kept.activate {s t : State} {i : Nat} (h : s.Kept t) : s.Kept (State.activate t i) := by
  unfold State.activate
  with_reducible repeat' (first | assumption | refine .ite ?_ ?_ | refine .setImage ?_ | refine .withSec ?_ | refine .bootWrite ?_)

theorem State.Kept.pshRestart {s t : State}  (h : s.Kept t) : s.Kept (State.pshRestart t) := by
  unfold State.pshRestart
  with_reducible repeat' (first | assumption | refine .trigger ?_ | refine .runFlush ?_ | refine .withSvc ?_ | refine .withGpPsh ?_ | refine .withSec ?_)

theorem State.Kept.pshStarts {s t : State}  (h : s.Kept t) : s.Kept (State.pshStarts t) := by
  unfold State.pshStarts
  with_reducible repeat' (first | assumption | refine .setImage ?_)

theorem State.Kept.coldFw {s t : State}  (h : s.Kept t) : s.Kept (State.coldFw t) := by
  unfold State.coldFw
  with_reducible repeat' (first | assumption | refine .ite ?_ ?_ | refine .abandon ?_ | refine .pshRestart ?_ | refine .activate ?_ | refine .withSec ?_)

theorem State.Kept.coldTail {s t : State}  (h : s.Kept t) : s.Kept (State.coldTail t) := by
  unfold State.coldTail
  with_reducible repeat' (first | assumption | refine .coldGld ?_ | refine .withSec ?_ | refine .showFw ?_)

theorem State.Kept.coldReset {s t : State}  (h : s.Kept t) : s.Kept (State.coldReset t) := by
  unfold State.coldReset
  with_reducible repeat' (first | assumption | refine .coldFw ?_ | refine .coldTail ?_)

theorem State.Kept.lamp {s t : State}  (h : s.Kept t) : s.Kept (State.lamp t) := by
  unfold State.lamp
  with_reducible repeat' (first | assumption | refine .putFlag ?_)

theorem State.Kept.setBk {s t : State} {st : Nat} (h : s.Kept t) : s.Kept (State.setBk t st) := by
  unfold State.setBk
  with_reducible repeat' (first | assumption | refine .put ?_ | refine .lamp ?_)

theorem State.Kept.setTimer {s t : State} {n : Nat} {t_1 : RuleTimer} (h : s.Kept t) : s.Kept (State.setTimer t n t_1) := by
  unfold State.setTimer
  with_reducible repeat' (first | assumption | refine .withBrk ?_)

theorem State.Kept.driveOff {s t : State}  (h : s.Kept t) : s.Kept (State.driveOff t) := by
  unfold State.driveOff
  with_reducible repeat' (first | assumption | refine .calStop ?_ | refine .put ?_ | refine .lpChange ?_ | intro _ | split | (dsimp only; split))

theorem State.Kept.railsOff {s t : State}  (h : s.Kept t) : s.Kept (State.railsOff t) := by
  unfold State.railsOff
  with_reducible repeat' (first | assumption | refine .withBrk ?_ | refine .coldGld ?_ | refine .showFw ?_ | intro _ | split | (dsimp only; split))

theorem State.Kept.gateOff {s t : State}  (h : s.Kept t) : s.Kept (State.gateOff t) := by
  unfold State.gateOff
  with_reducible repeat' (first | assumption | refine .ite ?_ ?_ | refine .driveOff ?_ | refine .railsOff ?_ | refine .trigger ?_ | intro _ | split | (dsimp only; split))

theorem State.Kept.quiesceGld {s t : State}  (h : s.Kept t) : s.Kept (State.quiesceGld t) := by
  unfold State.quiesceGld
  with_reducible repeat' (first | assumption | refine .ite ?_ ?_ | refine .put ?_ | refine .withHost ?_ | refine .each ?_ ?_ | refine .mapCore ?_ | refine .resume ?_ | intro _ | split | (dsimp only; split))

theorem State.Kept.regulatorsDown {s t : State}  (h : s.Kept t) : s.Kept (State.regulatorsDown t) := by
  unfold State.regulatorsDown
  with_reducible repeat' (first | assumption | refine .each ?_ ?_ | refine .withBrk ?_ | intro _ | split | (dsimp only; split))

theorem State.Kept.tripStatus {s t : State} {overcurrent overvoltage : Bool} (h : s.Kept t) : s.Kept (State.tripStatus t overcurrent overvoltage) := by
  unfold State.tripStatus
  with_reducible repeat' (first | assumption | refine .withPmb ?_)

theorem State.Kept.recordTrip {s t : State} {c : TripCause} (h : s.Kept t) : s.Kept (State.recordTrip t c) := by
  unfold State.recordTrip
  with_reducible repeat' (first | assumption | refine .setWord ?_ | refine .tripStatus ?_ | intro _ | split | (dsimp only; split))

theorem State.Kept.trip {s t : State} {causes : List TripCause} (h : s.Kept t) : s.Kept (State.trip t causes) := by
  unfold State.trip
  with_reducible repeat' (first | assumption | refine .ite ?_ ?_ | refine .each ?_ ?_ | refine .recordTrip ?_ | refine .driveOff ?_ | refine .foldl ?_ ?_ | refine .put ?_ | refine .pshCount ?_ | refine .when_ ?_ ?_ | refine .raise ?_ | refine .trigger ?_ | refine .gateOff ?_ | refine .setBk ?_ | refine .withBrk ?_ | intro _ | split | (dsimp only; split))

theorem State.Kept.settle {s t : State} {code : Nat} {hold minOff : Bool} (h : s.Kept t) : s.Kept (State.settle t code hold minOff) := by
  unfold State.settle
  with_reducible repeat' (first | assumption | refine .put ?_ | refine .putFlag ?_ | refine .withBrk ?_ | refine .withDbg ?_ | refine .setBk ?_ | intro _ | split | (dsimp only; split))

theorem State.Kept.sampleSlot {s t : State}  (h : s.Kept t) : s.Kept (State.sampleSlot t) := by
  unfold State.sampleSlot
  with_reducible repeat' (first | assumption | refine .put ?_ | refine .withPmb ?_)

theorem State.Kept.slotDiffer {s t : State}  (h : s.Kept t) : s.Kept (State.slotDiffer t) := by
  unfold State.slotDiffer
  with_reducible repeat' (first | assumption | refine .ite ?_ ?_ | refine .put ?_ | refine .alertOn ?_ | refine .raise ?_ | refine .putFlag ?_ | refine .alertRefresh ?_)

theorem State.Kept.softStart {s t : State}  (h : s.Kept t) : s.Kept (State.softStart t) := by
  unfold State.softStart
  with_reducible repeat' (first | assumption | refine .put ?_ | refine .setBk ?_ | refine .withBrk ?_ | refine .lpChange ?_ | refine .coldReset ?_)

theorem State.Kept.tryStart {s t : State}  (h : s.Kept t) : s.Kept (State.tryStart t) := by
  unfold State.tryStart
  with_reducible repeat' (first | assumption | refine .ite ?_ ?_ | refine .softStart ?_)

theorem State.Kept.qualify {s t : State}  (h : s.Kept t) : s.Kept (State.qualify t) := by
  unfold State.qualify
  with_reducible repeat' (first | assumption | refine .ite ?_ ?_ | refine .setBk ?_ | refine .tryStart ?_ | intro _ | split | (dsimp only; split))

theorem State.Kept.orderlyOff {s t : State}  (h : s.Kept t) : s.Kept (State.orderlyOff t) := by
  unfold State.orderlyOff
  with_reducible repeat' (first | assumption | refine .ite ?_ ?_ | refine .quiesceGld ?_ | refine .regulatorsDown ?_ | refine .gateOff ?_ | refine .settle ?_ | refine .put ?_ | refine .trigger ?_ | refine .withBrk ?_ | intro _ | split | (dsimp only; split))

theorem State.Kept.immediateOff {s t : State}  (h : s.Kept t) : s.Kept (State.immediateOff t) := by
  unfold State.immediateOff
  with_reducible repeat' (first | assumption | refine .ite ?_ ?_ | refine .quiesceGld ?_ | refine .gateOff ?_ | refine .settle ?_ | refine .put ?_ | refine .trigger ?_ | refine .withBrk ?_ | intro _ | split | (dsimp only; split))

theorem State.Kept.clearLatch {s t : State}  (h : s.Kept t) : s.Kept (State.clearLatch t) := by
  unfold State.clearLatch
  with_reducible repeat' (first | assumption | refine .ite ?_ ?_ | refine .put ?_ | refine .withBrk ?_ | refine .settle ?_ | refine .qualify ?_ | split)

theorem State.Kept.powerFail {s t : State} {code : Nat} (h : s.Kept t) : s.Kept (State.powerFail t code) := by
  unfold State.powerFail
  with_reducible repeat' (first | assumption | refine .ite ?_ ?_ | refine .mapCore ?_ | refine .resume ?_ | refine .withPmb ?_ | refine .put ?_ | refine .when_ ?_ ?_ | refine .pshCount ?_ | refine .withBrk ?_ | refine .setBk ?_ | refine .driveOff ?_ | refine .raise ?_ | refine .calStop ?_ | refine .quiesceGld ?_ | refine .powerFailBlock ?_ | refine .railsOff ?_ | refine .settle ?_ | refine .withDbg ?_ | intro _ | split | (dsimp only; split))

theorem State.Kept.assertShed {s t : State} {n : Nat} (h : s.Kept t) : s.Kept (State.assertShed t n) := by
  unfold State.assertShed
  with_reducible repeat' (first | assumption | refine .ite ?_ ?_ | refine .put ?_ | refine .withBrk ?_ | refine .pshCount ?_ | refine .raise ?_ | refine .calStop ?_)

theorem State.Kept.nearMiss {s t : State} {n : Nat} (h : s.Kept t) : s.Kept (State.nearMiss t n) := by
  unfold State.nearMiss
  with_reducible repeat' (first | assumption | refine .ite ?_ ?_ | refine .bump ?_ | refine .pshCount ?_)

theorem State.Kept.evalRule {s t : State} {n : Nat} {holds : Bool} {since : Nat} (h : s.Kept t) : s.Kept (State.evalRule t n holds since) := by
  unfold State.evalRule
  with_reducible repeat' (first | assumption | refine .ite ?_ ?_ | refine .setTimer ?_ | refine .nearMiss ?_)

theorem State.Kept.supplyBack {s t : State}  (h : s.Kept t) : s.Kept (State.supplyBack t) := by
  unfold State.supplyBack
  with_reducible repeat' (first | assumption | refine .ite ?_ ?_ | refine .withBrk ?_ | refine .qualify ?_ | intro _ | split | (dsimp only; split))

theorem State.Kept.fastTick {s t : State} {iin vin : Nat} (h : s.Kept t) : s.Kept (State.fastTick t iin vin) := by
  unfold State.fastTick
  with_reducible repeat' (first | assumption | refine .ite ?_ ?_ | refine .withBrk ?_ | refine .withCard ?_ | refine .putFlag ?_ | refine .withPmb ?_ | refine .withMeter ?_ | refine .powerResult ?_ | refine .each ?_ ?_ | refine .evalRule ?_ | refine .supplyBack ?_ | intro _ | split | (dsimp only; split))

theorem State.Kept.powerTick {s t : State} {since period : Nat} (h : s.Kept t) : s.Kept (State.powerTick t since period) := by
  unfold State.powerTick
  with_reducible repeat' (first | assumption | refine .ite ?_ ?_ | refine .each ?_ ?_ | refine .evalRule ?_ | intro _)

theorem State.Kept.tempTick {s t : State}  (h : s.Kept t) : s.Kept (State.tempTick t) := by
  unfold State.tempTick
  with_reducible repeat' (first | assumption | refine .ite ?_ ?_ | refine .each ?_ ?_ | refine .evalRule ?_ | intro _)

theorem State.Kept.markFired {s t : State} {n : Nat} (h : s.Kept t) : s.Kept (State.markFired t n) := by
  unfold State.markFired
  with_reducible repeat' (first | assumption | refine .setTimer ?_)

theorem State.Kept.ruleAction {s t : State} {n : Nat} (h : s.Kept t) : s.Kept (State.ruleAction t n) := by
  unfold State.ruleAction
  with_reducible repeat' (first | assumption | refine .ite ?_ ?_ | refine .withBrk ?_ | refine .assertShed ?_ | refine .powerFail ?_ | refine .setTimer ?_ | split)

theorem State.Kept.fireRules {s t : State} {rules : List Nat} (h : s.Kept t) : s.Kept (State.fireRules t rules) := by
  unfold State.fireRules
  with_reducible repeat' (first | assumption | refine .each ?_ ?_ | refine .markFired ?_ | refine .trip ?_ | refine .ruleAction ?_ | intro _)

theorem State.Kept.confirmEnd {s t : State} {rules : List Nat} (h : s.Kept t) : s.Kept (State.confirmEnd t rules) := by
  unfold State.confirmEnd
  with_reducible repeat' (first | assumption | refine .each ?_ ?_ | refine .setTimer ?_ | refine .nearMiss ?_ | refine .trip ?_ | intro _)

theorem State.Kept.judgeNotice {s t : State} {n : Notice} (h : s.Kept t) : s.Kept (State.judgeNotice t n) := by
  unfold State.judgeNotice
  with_reducible repeat' (first | assumption | refine .ite ?_ ?_ | refine .bump ?_ | refine .pshCount ?_ | refine .toGld ?_ | refine .answer ?_ | refine .withBrk ?_)

theorem State.Kept.takeAnswer {s t : State} {id : Nat} {accepted : Bool} (h : s.Kept t) : s.Kept (State.takeAnswer t id accepted) := by
  unfold State.takeAnswer
  with_reducible repeat' (first | assumption | refine .ite ?_ ?_ | refine .withSvc ?_)

theorem State.Kept.setStaging {s t : State} {p : MgmtPath} {off : Nat} {w : Word} (h : s.Kept t) : s.Kept (State.setStaging t p off w) := by
  unfold State.setStaging
  with_reducible repeat' (first | assumption | refine .setWord ?_ | refine .withBrk ?_ | with_unfolding_all exact Store.wf_write | intro _ | split | (dsimp only; split))

theorem State.Kept.setStale {s t : State} {p : MgmtPath} {b : Bool} (h : s.Kept t) : s.Kept (State.setStale t p b) := by
  unfold State.setStale
  with_reducible repeat' (first | assumption | refine .putFlag ?_ | refine .withBrk ?_ | split)

theorem State.Kept.setResult {s t : State} {p : MgmtPath} {r : Nat} (h : s.Kept t) : s.Kept (State.setResult t p r) := by
  unfold State.setResult
  with_reducible repeat' (first | assumption | refine .put ?_ | refine .withBrk ?_ | split)

theorem State.Kept.setLive {s t : State} {w : Nat → Word} (h : s.Kept t) : s.Kept (State.setLive t w) := by
  unfold State.setLive
  with_reducible repeat' (first | assumption | refine .foldl ?_ ?_ | refine .put ?_ | refine .setWord ?_ | refine .withBrk ?_)

theorem State.Kept.commitRules {s t : State} {p : MgmtPath} (h : s.Kept t) : s.Kept (State.commitRules t p) := by
  unfold State.commitRules
  with_reducible repeat' (first | assumption | refine .ite ?_ ?_ | refine .setResult ?_ | refine .setLive ?_ | refine .setStale ?_)

theorem State.Kept.reloadRules {s t : State} {p : MgmtPath} (h : s.Kept t) : s.Kept (State.reloadRules t p) := by
  unfold State.reloadRules
  with_reducible repeat' (first | assumption | refine .setWord ?_ | refine .each ?_ ?_ | refine .setStaging ?_ | refine .setStale ?_ | intro _)

theorem State.Kept.loadBreaker {s t : State} {v : Nat} (h : s.Kept t) : s.Kept (State.loadBreaker t v) := by
  unfold State.loadBreaker
  with_reducible repeat' (first | assumption | refine .ite ?_ ?_ | refine .put ?_ | refine .setWord ?_ | refine .each ?_ ?_ | refine .setLive ?_ | refine .setStaging ?_ | refine .setStale ?_ | intro _)

theorem State.Kept.pwrProfileWrite {s t : State} {v : Nat} (h : s.Kept t) : s.Kept (State.pwrProfileWrite t v) := by
  unfold State.pwrProfileWrite
  with_reducible repeat' (first | assumption | refine .ite ?_ ?_ | refine .put ?_ | refine .leaveExpert ?_ | refine .loadBreaker ?_)

theorem State.Kept.slotProfileWrite {s t : State} {v : Nat} (h : s.Kept t) : s.Kept (State.slotProfileWrite t v) := by
  unfold State.slotProfileWrite
  with_reducible repeat' (first | assumption | refine .ite ?_ ?_ | refine .put ?_ | refine .leaveExpert ?_)

theorem State.Kept.sendIncrements {s t : State}  (h : s.Kept t) : s.Kept (State.sendIncrements t) := by
  unfold State.sendIncrements
  with_reducible repeat' (first | assumption | refine .onLive ?_ | refine .withCard ?_)

theorem State.Kept.offend {s t : State} {p : MgmtPath} {bad : Bool} (h : s.Kept t) : s.Kept (State.offend t p bad) := by
  unfold State.offend
  with_reducible repeat' (first | assumption | refine .ite ?_ ?_ | refine .cml6 ?_ | split)

theorem State.Kept.plainWrite {s t : State} {p : MgmtPath} {off : Nat} {x : Bool} {v : Word} (h : s.Kept t) : s.Kept (State.plainWrite t p off x v) := by
  unfold State.plainWrite
  with_reducible repeat' (first | assumption | refine .setWord ?_ | refine .offend ?_)

theorem State.Kept.soaWrite {s t : State} {p : MgmtPath} {off : Nat} {x : Bool} {v : Word} (h : s.Kept t) : s.Kept (State.soaWrite t p off x v) := by
  unfold State.soaWrite
  with_reducible repeat' (first | assumption | refine .ite ?_ ?_ | refine .setWord ?_ | refine .put ?_ | refine .offend ?_ | intro _ | split | (dsimp only; split))

theorem State.Kept.ruleWrite {s t : State} {p : MgmtPath} {off : Nat} {x : Bool} {v : Word} (h : s.Kept t) : s.Kept (State.ruleWrite t p off x v) := by
  unfold State.ruleWrite
  with_reducible repeat' (first | assumption | refine .ite ?_ ?_ | refine .setStaging ?_ | refine .offend ?_)

theorem State.Kept.commitWrite {s t : State} {p : MgmtPath} {v : Word} (h : s.Kept t) : s.Kept (State.commitWrite t p v) := by
  unfold State.commitWrite
  with_reducible repeat' (first | assumption | refine .when_ ?_ ?_ | refine .commitRules ?_ | refine .reloadRules ?_ | intro _)

theorem State.Kept.slotCtrlWrite {s t : State} {p : MgmtPath} {x : Bool} {v : Word} (h : s.Kept t) : s.Kept (State.slotCtrlWrite t p x v) := by
  unfold State.slotCtrlWrite
  with_reducible repeat' (first | assumption | refine .ite ?_ ?_ | refine .put ?_ | refine .slotProfileWrite ?_ | refine .plainWrite ?_ | refine .when_ ?_ ?_ | refine .orderlyOff ?_ | intro _)

theorem State.Kept.adcCtrlWrite {s t : State} {x : Bool} {v : Word} (h : s.Kept t) : s.Kept (State.adcCtrlWrite t x v) := by
  unfold State.adcCtrlWrite
  with_reducible repeat' (first | assumption | refine .ite ?_ ?_ | refine .put ?_ | refine .when_ ?_ ?_ | refine .refEnable ?_ | refine .refClear ?_ | refine .lpChange ?_ | refine .accSnap ?_ | refine .accClear ?_ | refine .minmaxClear ?_ | refine .calStart ?_ | intro _)

theorem State.Kept.collectWrite {s t : State} {p : MgmtPath} {off : Nat} {x : Bool} {v : Word} (h : s.Kept t) : s.Kept (State.collectWrite t p off x v) := by
  unfold State.collectWrite
  with_reducible repeat' (first | assumption | refine .ite ?_ ?_ | refine .setWord ?_ | refine .offend ?_ | refine .withMeter ?_)

theorem State.Kept.calWrite {s t : State} {p : MgmtPath} {off : Nat} {x : Bool} {v : Word} (h : s.Kept t) : s.Kept (State.calWrite t p off x v) := by
  unfold State.calWrite
  with_reducible repeat' (first | assumption | refine .ite ?_ ?_ | refine .put ?_ | refine .plainWrite ?_ | refine .when_ ?_ ?_ | intro _)

theorem State.Kept.pwrWrite {s t : State} {p : MgmtPath} {off : Nat} {v : Word} (h : s.Kept t) : s.Kept (State.pwrWrite t p off v) := by
  unfold State.pwrWrite
  with_reducible repeat' (first | assumption | refine .ite ?_ ?_ | refine .pwrProfileWrite ?_ | refine .offend ?_ | refine .unlockKey ?_ | refine .when_ ?_ ?_ | refine .clearLatch ?_ | refine .soaWrite ?_ | refine .ruleWrite ?_ | refine .commitWrite ?_ | refine .adcProfileWrite ?_ | refine .adcCtrlWrite ?_ | refine .collectWrite ?_ | refine .calWrite ?_ | refine .urgentWrite ?_ | refine .plainWrite ?_ | refine .alertRefresh ?_ | refine .slotCtrlWrite ?_ | intro _)

theorem State.Kept.rcdWrite {s t : State} {p : MgmtPath} {off : Nat} {v : Word} (h : s.Kept t) : s.Kept (State.rcdWrite t p off v) := by
  unfold State.rcdWrite
  with_reducible repeat' (first | assumption | refine .ite ?_ ?_ | refine .rcdProfileWrite ?_ | refine .offend ?_ | refine .unlockKey ?_ | refine .rcdCtrl ?_ | refine .rcdSelect ?_ | refine .plainWrite ?_)

theorem State.Kept.pshWrite {s t : State} {p : MgmtPath} {off : Nat} {v : Word} (h : s.Kept t) : s.Kept (State.pshWrite t p off v) := by
  unfold State.pshWrite
  with_reducible repeat' (first | assumption | refine .ite ?_ ?_ | refine .pwrWrite ?_ | refine .rcdWrite ?_)

theorem State.Kept.pmbWordRead {s t : State} {off : Nat} (h : s.Kept t) : s.Kept ((State.pmbWordRead t off).2) := by
  unfold State.pmbWordRead
  with_reducible repeat' (first | assumption | refine .ite ?_ ?_ | refine .setWord ?_ | split)

theorem State.Kept.raiseThermal {s t : State}  (h : s.Kept t) : s.Kept (State.raiseThermal t) := by
  unfold State.raiseThermal
  with_reducible repeat' (first | assumption | refine .raise ?_)

theorem State.Kept.tellRecorder {s t : State}  (h : s.Kept t) : s.Kept (State.tellRecorder t) := by
  unfold State.tellRecorder
  with_reducible repeat' (first | assumption | refine .when_ ?_ ?_ | refine .trigger ?_ | intro _)

theorem State.Kept.failWork {s t : State} {r : Run} {status : Nat} (h : s.Kept t) : s.Kept (State.failWork t r status) := by
  unfold State.failWork
  with_reducible repeat' (first | assumption | refine .failRun ?_ | refine .verdict ?_ | split)

theorem State.Kept.failStanding {s t : State} {x : Standing} {status : Nat} (h : s.Kept t) : s.Kept (State.failStanding t x status) := by
  unfold State.failStanding
  with_reducible repeat' (first | assumption | refine .takeBack ?_ | refine .endStanding ?_ | split)

theorem State.Kept.endUnitWork {s t : State} {u_1 : Nat} (h : s.Kept t) : s.Kept (State.endUnitWork t u_1) := by
  unfold State.endUnitWork
  with_reducible repeat' (first | assumption | refine .ite ?_ ?_ | refine .each ?_ ?_ | refine .failWork ?_ | refine .failStanding ?_ | refine .finish ?_ | refine .setPass ?_ | refine .showPublish ?_ | refine .when_ ?_ ?_ | refine .shadowDrain ?_ | intro _ | split | (dsimp only; split))

theorem State.Kept.drained {s t : State} {u : Nat} (h : s.Kept t) : s.Kept (State.drained t u) := by
  unfold State.drained
  with_reducible repeat' (first | assumption | refine .ite ?_ ?_ | refine .setData ?_ | refine .showCapacity ?_)

theorem State.Kept.applyMgmt {s t : State} {u v : Nat} (h : s.Kept t) : s.Kept (State.applyMgmt t u v) := by
  unfold State.applyMgmt
  with_reducible repeat' (first | assumption | refine .ite ?_ ?_ | refine .put ?_ | refine .showLedger ?_ | refine .setData ?_ | refine .drained ?_ | refine .showCapacity ?_)

theorem State.Kept.applyPgood {s t : State} {u : Nat} {good : Bool} (h : s.Kept t) : s.Kept (State.applyPgood t u good) := by
  unfold State.applyPgood
  with_reducible repeat' (first | assumption | refine .ite ?_ ?_ | refine .putFlag ?_ | refine .endUnitWork ?_)

theorem State.Kept.orderMgmt {s t : State} {u v : Nat} {lock : Bool} (h : s.Kept t) : s.Kept (State.orderMgmt t u v lock) := by
  unfold State.orderMgmt
  with_reducible repeat' (first | assumption | refine .setMgmt ?_ | refine .when_ ?_ ?_ | refine .setPgood ?_ | intro _)

theorem State.Kept.fenceUnit {s t : State} {u : Nat} (h : s.Kept t) : s.Kept (State.fenceUnit t u) := by
  unfold State.fenceUnit
  with_reducible repeat' (first | assumption | refine .put ?_ | refine .setData ?_ | refine .bump ?_ | refine .when_ ?_ ?_ | refine .endUnitWork ?_ | refine .showCapacity ?_ | refine .gldCount ?_ | refine .tellRecorder ?_ | refine .raiseAll ?_ | intro _)

theorem State.Kept.unpower {s t : State} {u : Nat} (h : s.Kept t) : s.Kept (State.unpower t u) := by
  unfold State.unpower
  with_reducible repeat' (first | assumption | refine .ite ?_ ?_ | refine .put ?_ | refine .each ?_ ?_ | refine .linkDown ?_ | refine .dramLose ?_ | refine .setPass ?_ | refine .verdict ?_ | intro _)

theorem State.Kept.makeReady {s t : State} {u : Nat} (h : s.Kept t) : s.Kept (State.makeReady t u) := by
  unfold State.makeReady
  with_reducible repeat' (first | assumption | refine .ite ?_ ?_ | refine .put ?_ | refine .bump ?_ | refine .setData ?_ | refine .showCapacity ?_ | refine .schedule ?_)

theorem State.Kept.reconciled {s t : State} {id u : Nat} (h : s.Kept t) : s.Kept (State.reconciled t id u) := by
  unfold State.reconciled
  with_reducible repeat' (first | assumption | refine .finish ?_)

theorem State.Kept.adopt {s t : State} {u : Nat} (h : s.Kept t) : s.Kept (State.adopt t u) := by
  unfold State.adopt
  with_reducible repeat' (first | assumption | refine .ite ?_ ?_ | refine .setData ?_ | refine .showCapacity ?_ | refine .schedule ?_)

theorem State.Kept.markFenced {s t : State} {t_1 : Nat} {on : Bool} (h : s.Kept t) : s.Kept (State.markFenced t t_1 on) := by
  unfold State.markFenced
  with_reducible repeat' (first | assumption | refine .ite ?_ ?_ | refine .put ?_ | refine .putFlag ?_)

theorem State.Kept.retested {s t : State} {u : Nat} {pass : Bool} (h : s.Kept t) : s.Kept (State.retested t u pass) := by
  unfold State.retested
  with_reducible repeat' (first | assumption | refine .ite ?_ ?_ | refine .markFenced ?_ | refine .makeReady ?_ | refine .returnSpares ?_ | refine .setData ?_ | refine .showCapacity ?_)

theorem State.Kept.setCover {s t : State} {t_1 : Nat} {c : Bool × Nat} (h : s.Kept t) : s.Kept (State.setCover t t_1 c) := by
  unfold State.setCover
  with_reducible repeat' (first | assumption | refine .ite ?_ ?_ | refine .put ?_ | refine .setFab ?_ | refine .bump ?_)

theorem State.Kept.fenceTile {s t : State} {t_1 : Nat} (h : s.Kept t) : s.Kept (State.fenceTile t t_1) := by
  unfold State.fenceTile
  with_reducible repeat' (first | assumption | refine .put ?_ | refine .markFenced ?_ | refine .setData ?_ | refine .setFab ?_ | refine .showCapacity ?_ | refine .gldCount ?_ | refine .tellRecorder ?_ | refine .raiseAll ?_)

theorem State.Kept.loseWork {s t : State} {t_1 : Nat} (h : s.Kept t) : s.Kept (State.loseWork t t_1) := by
  unfold State.loseWork
  with_reducible repeat' (first | assumption | refine .ite ?_ ?_ | refine .setData ?_ | refine .each ?_ ?_ | refine .failWork ?_ | refine .showCapacity ?_ | intro _ | split | (dsimp only; split))

theorem State.Kept.fenceWork {s t : State} {t_1 : Nat} (h : s.Kept t) : s.Kept (State.fenceWork t t_1) := by
  unfold State.fenceWork
  with_reducible repeat' (first | assumption | refine .ite ?_ ?_ | refine .fenceTile ?_ | refine .each ?_ ?_ | refine .loseWork ?_ | refine .setFab ?_ | intro _ | split | (dsimp only; split))

theorem State.Kept.tileFault {s t : State} {t_1 : Nat} {residue : Bool} (h : s.Kept t) : s.Kept (State.tileFault t t_1 residue) := by
  unfold State.tileFault
  with_reducible repeat' (first | assumption | refine .ite ?_ ?_ | refine .bump ?_ | refine .fenceWork ?_ | intro _ | split | (dsimp only; split))

theorem State.Kept.repeatEpoch {s t : State} {r : Run} (h : s.Kept t) : s.Kept (State.repeatEpoch t r) := by
  unfold State.repeatEpoch
  with_reducible repeat' (first | assumption | refine .mapRun ?_ | refine .bump ?_ | refine .gldCount ?_)

theorem State.Kept.standInFor {s t : State} {t_1 : Nat} (h : s.Kept t) : s.Kept (State.standInFor t t_1) := by
  unfold State.standInFor
  with_reducible repeat' (first | assumption | refine .ite ?_ ?_ | refine .loseWork ?_ | refine .setCover ?_ | refine .showCapacity ?_ | refine .each ?_ ?_ | refine .tileMode ?_ | refine .repeatEpoch ?_ | refine .schedule ?_ | intro _ | split | (dsimp only; split))

theorem State.Kept.takeReading {s t : State} {n : Nat} {v : Int} (h : s.Kept t) : s.Kept (State.takeReading t n v) := by
  unfold State.takeReading
  with_reducible repeat' (first | assumption | refine .put ?_ | refine .when_ ?_ ?_ | intro _)

theorem State.Kept.sampleSensor {s t : State} {codes : List (Option Int)} {n : Nat} (h : s.Kept t) : s.Kept (State.sampleSensor t codes n) := by
  unfold State.sampleSensor
  with_reducible repeat' (first | assumption | refine .ite ?_ ?_ | refine .takeReading ?_ | refine .withThermal ?_ | split)

theorem State.Kept.sampleNear {s t : State} {q : Nat} (h : s.Kept t) : s.Kept (State.sampleNear t q) := by
  unfold State.sampleNear
  with_reducible repeat' (first | assumption | refine .ite ?_ ?_ | refine .withThermal ?_)

theorem State.Kept.hotspot {s t : State} {activity : List (Nat × Nat)} (h : s.Kept t) : s.Kept (State.hotspot t activity) := by
  unfold State.hotspot
  with_reducible repeat' (first | assumption | refine .ite ?_ ?_ | refine .foldl ?_ ?_ | refine .takeReading ?_ | intro _ | split | (dsimp only; split))

theorem State.Kept.judgeWarning {s t : State} {hot : Int} (h : s.Kept t) : s.Kept (State.judgeWarning t hot) := by
  unfold State.judgeWarning
  with_reducible repeat' (first | assumption | refine .ite ?_ ?_ | refine .put ?_ | refine .withThermal ?_ | refine .gldCount ?_ | refine .raiseThermal ?_)

theorem State.Kept.dropRelease {s t : State}  (h : s.Kept t) : s.Kept (State.dropRelease t) := by
  unfold State.dropRelease
  with_reducible repeat' (first | assumption | refine .withThermal ?_ | refine .withSvc ?_)

theorem State.Kept.judgeThrottle {s t : State} {hot : Int} (h : s.Kept t) : s.Kept (State.judgeThrottle t hot) := by
  unfold State.judgeThrottle
  with_reducible repeat' (first | assumption | refine .ite ?_ ?_ | refine .withThermal ?_ | refine .putFlag ?_ | refine .dropRelease ?_ | refine .setDepth ?_)

theorem State.Kept.judgeBands {s t : State} {mr4 : List (Option Int)} (h : s.Kept t) : s.Kept (State.judgeBands t mr4) := by
  unfold State.judgeBands
  with_reducible repeat' (first | assumption | refine .ite ?_ ?_ | refine .foldl ?_ ?_ | refine .put ?_ | refine .each ?_ ?_ | intro _)

theorem State.Kept.dropModels {s t : State}  (h : s.Kept t) : s.Kept (State.dropModels t) := by
  unfold State.dropModels
  with_reducible repeat' (first | assumption | refine .each ?_ ?_ | refine .clearModel ?_ | refine .setFab ?_ | refine .showReplicas ?_ | intro _)

theorem State.Kept.endFabricWork {s t : State} {status : Nat} (h : s.Kept t) : s.Kept (State.endFabricWork t status) := by
  unfold State.endFabricWork
  with_reducible repeat' (first | assumption | refine .each ?_ ?_ | refine .failWork ?_ | refine .failStanding ?_ | intro _)

theorem State.Kept.thermalShutdown {s t : State}  (h : s.Kept t) : s.Kept (State.thermalShutdown t) := by
  unfold State.thermalShutdown
  with_reducible repeat' (first | assumption | refine .ite ?_ ?_ | refine .put ?_ | refine .withFab ?_ | refine .endFabricWork ?_ | refine .dropModels ?_ | refine .each ?_ ?_ | refine .setData ?_ | refine .dramLose ?_ | refine .bump ?_ | refine .showCapacity ?_ | refine .setService ?_ | refine .withSvc ?_ | refine .raiseThermal ?_ | refine .gldCount ?_ | refine .tellRecorder ?_ | intro _)

theorem State.Kept.judgeShutdown {s t : State}  (h : s.Kept t) : s.Kept (State.judgeShutdown t) := by
  unfold State.judgeShutdown
  with_reducible repeat' (first | assumption | refine .ite ?_ ?_ | refine .put ?_ | refine .withThermal ?_ | refine .when_ ?_ ?_ | refine .thermalShutdown ?_ | intro _)

theorem State.Kept.thermalSample {s t : State} {codes : List (Option Int)} {activity : List (Nat × Nat)} {mr4 : List (Option Int)} (h : s.Kept t) : s.Kept (State.thermalSample t codes activity mr4) := by
  unfold State.thermalSample
  with_reducible repeat' (first | assumption | refine .put ?_ | refine .each ?_ ?_ | refine .sampleSensor ?_ | refine .sampleNear ?_ | refine .hotspot ?_ | refine .judgeWarning ?_ | refine .judgeThrottle ?_ | refine .judgeBands ?_ | refine .judgeShutdown ?_ | refine .withThermal ?_ | intro _ | split | (dsimp only; split))

theorem State.Kept.flagSensor {s t : State} {n kind : Nat} (h : s.Kept t) : s.Kept (State.flagSensor t n kind) := by
  unfold State.flagSensor
  with_reducible repeat' (first | assumption | refine .ite ?_ ?_ | refine .put ?_ | refine .raiseThermal ?_ | refine .gldCount ?_ | refine .when_ ?_ ?_ | refine .setDepth ?_ | refine .judgeBands ?_ | refine .judgeShutdown ?_ | intro _)

theorem State.Kept.modeChange {s t : State}  (h : s.Kept t) : s.Kept (State.modeChange t) := by
  unfold State.modeChange
  with_reducible repeat' (first | assumption | refine .ite ?_ ?_ | refine .dropRelease ?_ | refine .withThermal ?_ | refine .setDepth ?_)

theorem State.Kept.levelsWrite {s t : State} {v : Word} (h : s.Kept t) : s.Kept (State.levelsWrite t v) := by
  unfold State.levelsWrite
  with_reducible repeat' (first | assumption | refine .ite ?_ ?_ | refine .setWord ?_)

theorem State.Kept.thmCtrlWrite {s t : State} {v : Word} (h : s.Kept t) : s.Kept (State.thmCtrlWrite t v) := by
  unfold State.thmCtrlWrite
  with_reducible repeat' (first | assumption | refine .ite ?_ ?_ | refine .setWord ?_ | refine .modeChange ?_)

theorem State.Kept.thmProfileWrite {s t : State} {p : Nat} (h : s.Kept t) : s.Kept (State.thmProfileWrite t p) := by
  unfold State.thmProfileWrite
  with_reducible repeat' (first | assumption | refine .ite ?_ ?_ | refine .put ?_ | refine .setWord ?_ | refine .leaveExpert ?_ | refine .modeChange ?_)

theorem State.Kept.gldTakes {s t : State} {m : GpMsg} (h : s.Kept t) : s.Kept (State.gldTakes t m) := by
  unfold State.gldTakes
  with_reducible repeat' (first | assumption | refine .ite ?_ ?_ | refine .applyMgmt ?_ | refine .applyPgood ?_ | refine .withMirror ?_ ?_ | refine .answer ?_ | refine .takeAnswer ?_ | refine .withSvc ?_ | refine .idle ?_ | with_unfolding_all exact Store.wf_write | with_unfolding_all exact Store.wf_writeList | with_unfolding_all exact Store.wf_clear | intro _ | split | (dsimp only; split))

theorem State.Kept.pshTakes {s t : State} {m : GpMsg} (h : s.Kept t) : s.Kept (State.pshTakes t m) := by
  unfold State.pshTakes
  with_reducible repeat' (first | assumption | refine .ite ?_ ?_ | refine .judgeNotice ?_ | refine .pshWrite ?_ | refine .put ?_ | refine .calStart ?_ | refine .orderMgmt ?_ | refine .idle ?_ | refine .answer ?_ | intro _ | split | (dsimp only; split))

theorem State.Kept.gpExchange {s t : State} {toGld : Bool} {seq : Nat} {crcOk : Bool} {m : GpMsg} (h : s.Kept t) : s.Kept ((State.gpExchange t toGld seq crcOk m).1) := by
  unfold State.gpExchange
  with_reducible repeat' (first | assumption | refine .ite ?_ ?_ | refine .toGld ?_ | refine .withGpPsh ?_ | refine .withGpGld ?_ | split)

theorem State.Kept.gpFrame {s t : State} {toGld : Bool} {seq : Nat} {crcOk : Bool} {m : GpMsg} (h : s.Kept t) : s.Kept (State.gpFrame t toGld seq crcOk m) := by
  unfold State.gpFrame
  with_reducible repeat' (first | assumption | refine .ite ?_ ?_ | refine .toGld ?_ | refine .gpExchange ?_ | refine .gldTakes ?_ | refine .pshTakes ?_)

theorem State.Kept.gpRefusal {s t : State} {toGld : Bool} {expected : Nat} (h : s.Kept t) : s.Kept (State.gpRefusal t toGld expected) := by
  unfold State.gpRefusal
  with_reducible repeat' (first | assumption | refine .ite ?_ ?_ | refine .toGld ?_ | refine .withGpGld ?_ | refine .withGpPsh ?_ | refine .add ?_)

theorem State.Kept.raiseGpLink {s t : State}  (h : s.Kept t) : s.Kept (State.raiseGpLink t) := by
  unfold State.raiseGpLink
  with_reducible repeat' (first | assumption | refine .raise ?_)

theorem State.Kept.gpLose {s t : State}  (h : s.Kept t) : s.Kept (State.gpLose t) := by
  unfold State.gpLose
  with_reducible repeat' (first | assumption | refine .put ?_ | refine .withGpPsh ?_ | refine .withGpGld ?_ | refine .raiseGpLink ?_ | refine .gldCount ?_ | refine .when_ ?_ ?_ | refine .trigger ?_ | intro _)

theorem State.Kept.raiseFw {s t : State}  (h : s.Kept t) : s.Kept (State.raiseFw t) := by
  unfold State.raiseFw
  with_reducible repeat' (first | assumption | refine .raise ?_)

theorem State.Kept.measurePsh {s t : State}  (h : s.Kept t) : s.Kept (State.measurePsh t) := by
  unfold State.measurePsh
  with_reducible repeat' (first | assumption | refine .setImage ?_)

theorem State.Kept.pairAccepted {s t : State}  (h : s.Kept t) : s.Kept (State.pairAccepted t) := by
  unfold State.pairAccepted
  with_reducible repeat' (first | assumption | refine .put ?_ | refine .withSec ?_ | refine .measurePsh ?_ | refine .fwResult ?_ | refine .putFlag ?_ | refine .when_ ?_ ?_ | refine .raiseFw ?_ | intro _)

theorem State.Kept.pairRolledBack {s t : State}  (h : s.Kept t) : s.Kept (State.pairRolledBack t) := by
  unfold State.pairRolledBack
  with_reducible repeat' (first | assumption | refine .ite ?_ ?_ | refine .abandon ?_ | refine .when_ ?_ ?_ | refine .pshRestart ?_ | refine .coldTail ?_ | refine .showFw ?_ | intro _)

theorem State.Kept.linksDown {s t : State}  (h : s.Kept t) : s.Kept (State.linksDown t) := by
  unfold State.linksDown
  with_reducible repeat' (first | assumption | refine .ite ?_ ?_ | refine .each ?_ ?_ | refine .put ?_ | refine .linkDown ?_ | intro _ | split | (dsimp only; split))

theorem State.Kept.pairRefused {s t : State}  (h : s.Kept t) : s.Kept (State.pairRefused t) := by
  unfold State.pairRefused
  with_reducible repeat' (first | assumption | refine .ite ?_ ?_ | refine .when_ ?_ ?_ | refine .measurePsh ?_ | refine .withSec ?_ | refine .put ?_ | refine .loadBreaker ?_ | refine .raiseFw ?_ | refine .linksDown ?_ | refine .setService ?_ | intro _ | split | (dsimp only; split))

theorem State.Kept.interfaceCheck {s t : State}  (h : s.Kept t) : s.Kept (State.interfaceCheck t) := by
  unfold State.interfaceCheck
  with_reducible repeat' (first | assumption | refine .ite ?_ ?_ | refine .fwResult ?_ | refine .pairAccepted ?_ | refine .pairRolledBack ?_ | refine .pairRefused ?_)

theorem State.Kept.gpRestore {s t : State}  (h : s.Kept t) : s.Kept (State.gpRestore t) := by
  unfold State.gpRestore
  with_reducible repeat' (first | assumption | refine .ite ?_ ?_ | refine .put ?_ | refine .withGpPsh ?_ | refine .withGpGld ?_ | refine .each ?_ ?_ | refine .toGld ?_ | refine .sendIncrements ?_ | refine .withSec ?_ | refine .interfaceCheck ?_ | intro _)

theorem State.Kept.holdCrossings {s t : State} {c : WatchedClock} {held : Bool} (h : s.Kept t) : s.Kept (State.holdCrossings t c held) := by
  unfold State.holdCrossings
  with_reducible repeat' (first | assumption | refine .withCrossHeld ?_)

theorem State.Kept.releaseCounts {s t : State}  (h : s.Kept t) : s.Kept (State.releaseCounts t) := by
  unfold State.releaseCounts
  with_reducible repeat' (first | assumption | refine .add ?_ | refine .setPass ?_ | intro _ | split | (dsimp only; split))

theorem State.Kept.clockGone {s t : State} {c : WatchedClock} (h : s.Kept t) : s.Kept (State.clockGone t c) := by
  unfold State.clockGone
  with_reducible repeat' (first | assumption | refine .ite ?_ ?_ | refine .endLink ?_ | refine .linkDown ?_ | intro _ | split | (dsimp only; split))

theorem State.Kept.openUnits {s t : State} {l : List Nat} (h : s.Kept t) : s.Kept (State.openUnits t l) := by
  unfold State.openUnits
  with_reducible repeat' (first | assumption | refine .ite ?_ ?_ | refine .each ?_ ?_ | refine .setData ?_ | refine .showCapacity ?_ | intro _)

theorem State.Kept.failTiles {s t : State} {l : List Nat} (h : s.Kept t) : s.Kept (State.failTiles t l) := by
  unfold State.failTiles
  with_reducible repeat' (first | assumption | refine .ite ?_ ?_ | refine .each ?_ ?_ | refine .fenceWork ?_ | refine .bump ?_ | intro _ | split | (dsimp only; split))

theorem State.Kept.coverTiles {s t : State} {l : List Nat} (h : s.Kept t) : s.Kept (State.coverTiles t l) := by
  unfold State.coverTiles
  with_reducible repeat' (first | assumption | refine .ite ?_ ?_ | refine .each ?_ ?_ | refine .setCover ?_ | refine .showCapacity ?_ | intro _ | split | (dsimp only; split))

theorem State.Kept.startStage {s t : State} {n : Nat} (h : s.Kept t) : s.Kept (State.startStage t n) := by
  unfold State.startStage
  with_reducible repeat' (first | assumption | refine .ite ?_ ?_ | refine .put ?_ | refine .withSvc ?_ | refine .interfaceCheck ?_ | refine .toPsh ?_ | refine .each ?_ ?_ | intro _ | split | (dsimp only; split))

theorem State.Kept.gldStarts {s t : State}  (h : s.Kept t) : s.Kept (State.gldStarts t) := by
  unfold State.gldStarts
  with_reducible repeat' (first | assumption | refine .setImage ?_ | refine .showFw ?_)

theorem State.Kept.verifyEnd {s t : State}  (h : s.Kept t) : s.Kept (State.verifyEnd t) := by
  unfold State.verifyEnd
  with_reducible repeat' (first | assumption | refine .ite ?_ ?_ | refine .gldStarts ?_ | refine .startStage ?_ | refine .fwResult ?_ | refine .setService ?_ | refine .withSec ?_ | refine .abandon ?_ | refine .setImage ?_ | refine .showFw ?_)

theorem State.Kept.openHomeroom {s t : State} {failed : List Nat} (h : s.Kept t) : s.Kept (State.openHomeroom t failed) := by
  unfold State.openHomeroom
  with_reducible repeat' (first | assumption | refine .failTiles ?_ | refine .openUnits ?_ | refine .setService ?_)

theorem State.Kept.entryEnd {s t : State} {failed : List Nat} (h : s.Kept t) : s.Kept (State.entryEnd t failed) := by
  unfold State.entryEnd
  with_reducible repeat' (first | assumption | refine .ite ?_ ?_ | refine .setService ?_ | refine .openHomeroom ?_ | refine .startStage ?_)

theorem State.Kept.memoryEnd {s t : State} {failed : List Nat} (h : s.Kept t) : s.Kept (State.memoryEnd t failed) := by
  unfold State.memoryEnd
  with_reducible repeat' (first | assumption | refine .ite ?_ ?_ | refine .put ?_ | refine .each ?_ ?_ | refine .setData ?_ | refine .openUnits ?_ | refine .startStage ?_ | intro _)

theorem State.Kept.fabricEnd {s t : State} {failed : List Nat} (h : s.Kept t) : s.Kept (State.fabricEnd t failed) := by
  unfold State.fabricEnd
  with_reducible repeat' (first | assumption | refine .ite ?_ ?_ | refine .put ?_ | refine .failTiles ?_ | refine .openUnits ?_ | refine .coverTiles ?_ | refine .startStage ?_)

theorem State.Kept.calibrateEnd {s t : State} {refused : Bool} (h : s.Kept t) : s.Kept (State.calibrateEnd t refused) := by
  unfold State.calibrateEnd
  with_reducible repeat' (first | assumption | refine .ite ?_ ?_ | refine .put ?_ | refine .startStage ?_ | refine .withSvc ?_)

theorem State.Kept.fullService {s t : State}  (h : s.Kept t) : s.Kept (State.fullService t) := by
  unfold State.fullService
  with_reducible repeat' (first | assumption | refine .withSvc ?_ | refine .withHost ?_ | refine .put ?_ | refine .when_ ?_ ?_ | refine .setService ?_ | refine .openUnits ?_ | refine .reroute ?_ | refine .schedule ?_ | intro _ | split | (dsimp only; split))

theorem State.Kept.stageEnd {s t : State} {failed : List Nat} (h : s.Kept t) : s.Kept (State.stageEnd t failed) := by
  unfold State.stageEnd
  with_reducible repeat' (first | assumption | refine .ite ?_ ?_ | refine .put ?_ | refine .startStage ?_ | refine .verifyEnd ?_ | refine .entryEnd ?_ | refine .openHomeroom ?_ | refine .memoryEnd ?_ | refine .fabricEnd ?_ | refine .calibrateEnd ?_ | refine .fullService ?_)

theorem State.Kept.traceOrphan {s t : State}  (h : s.Kept t) : s.Kept (State.traceOrphan t) := by
  unfold State.traceOrphan
  with_reducible repeat' (first | assumption | refine .put ?_ | refine .each ?_ ?_ | refine .traceDrain ?_ | refine .traceWp ?_ | intro _)

theorem State.Kept.commitWhole {s t : State}  (h : s.Kept t) : s.Kept (State.commitWhole t) := by
  unfold State.commitWhole
  with_reducible repeat' (first | assumption | refine .ite ?_ ?_ | refine .partCommit ?_ | refine .traceOrphan ?_)

theorem State.Kept.warmFields {s t : State} {linkUp : Bool} (h : s.Kept t) : s.Kept (State.warmFields t linkUp) := by
  have h1 : s.Kept (t.withRegs (warmRegs (t.flag Reg.THM_STATUS.restart_wait) t.regs)) :=
    h.withRegs (fun _ => Store.wf_foldl (fun _ _ hc => Store.wf_write hc) rfl)
  have h2 : s.Kept (((t.withRegs (warmRegs (t.flag Reg.THM_STATUS.restart_wait) t.regs)).withLatch []).withHiStage []) :=
    (h1.withLatch (fun _ => rfl)).withHiStage (fun _ => rfl)
  exact h2.raw rfl rfl rfl rfl rfl rfl rfl rfl

theorem State.Kept.warmGld {s t : State} {linkUp : Bool} (h : s.Kept t) : s.Kept (State.warmGld t linkUp) := by
  unfold State.warmGld
  with_reducible repeat' (first | assumption | refine .ite ?_ ?_ | refine .when_ ?_ ?_ | refine .traceOrphan ?_ | refine .sendPair ?_ | refine .warmFields ?_ | refine .showCores ?_ | refine .each ?_ ?_ | refine .showFill ?_ | refine .showLedger ?_ | refine .openUnits ?_ | refine .put ?_ | refine .setService ?_ | intro _ | split | (dsimp only; split))

theorem State.Kept.endpointReset {s t : State} {linkUp : Bool} (h : s.Kept t) : s.Kept (State.endpointReset t linkUp) := by
  unfold State.endpointReset
  with_reducible repeat' (first | assumption | refine .withHost ?_ | intro _ | split | (dsimp only; split))

theorem State.Kept.warmReset {s t : State} {linkUp perst : Bool} (h : s.Kept t) : s.Kept (State.warmReset t linkUp perst) := by
  unfold State.warmReset
  with_reducible repeat' (first | assumption | refine .ite ?_ ?_ | refine .warmGld ?_ | refine .endpointReset ?_ | refine .wakeEvent ?_ | refine .withSvc ?_ | intro _ | split | (dsimp only; split))

theorem State.Kept.askCold {s t : State}  (h : s.Kept t) : s.Kept (State.askCold t) := by
  unfold State.askCold
  with_reducible repeat' (first | assumption | refine .ite ?_ ?_ | refine .activate ?_ | refine .withSec ?_ | refine .pshRestart ?_ | refine .showFw ?_ | refine .coldReset ?_)

theorem State.Kept.dropFlights {s t : State} {p : Nat} (h : s.Kept t) : s.Kept (State.dropFlights t p) := by
  unfold State.dropFlights
  with_reducible repeat' (first | assumption | refine .ite ?_ ?_ | refine .put ?_ | refine .each ?_ ?_ | refine .endRun ?_ | refine .takeBack ?_ | refine .withHost ?_ | refine .withCap ?_ | refine .withPass ?_ | refine .withAkg ?_ | refine .showPublish ?_ | refine .when_ ?_ ?_ | refine .shadowDrain ?_ | intro _)

theorem State.Kept.clearRing {s t : State} {base n : Nat} (h : s.Kept t) : s.Kept (State.clearRing t base n) := by
  unfold State.clearRing
  with_reducible repeat' (first | assumption | refine .withRegs ?_ ?_ | refine .withHiStage ?_ ?_ | with_unfolding_all exact Store.wf_clear)

theorem State.Kept.vfReset {s t : State} {p : Nat} (h : s.Kept t) : s.Kept (State.vfReset t p) := by
  unfold State.vfReset
  with_reducible repeat' (first | assumption | refine .ite ?_ ?_ | refine .when_ ?_ ?_ | refine .traceOrphan ?_ | refine .dropFlights ?_ | refine .each ?_ ?_ | refine .clearRing ?_ | refine .put ?_ | refine .withHost ?_ | refine .reroute ?_ | intro _ | split | (dsimp only; split))

theorem State.Kept.fabReset {s t : State}  (h : s.Kept t) : s.Kept (State.fabReset t) := by
  unfold State.fabReset
  with_reducible repeat' (first | assumption | refine .endFabricWork ?_ | refine .each ?_ ?_ | refine .finish ?_ | refine .dropModels ?_ | refine .setFab ?_ | refine .foldl ?_ ?_ | refine .put ?_ | intro _ | split | (dsimp only; split))

theorem State.Kept.receiversOff {s t : State}  (h : s.Kept t) : s.Kept (State.receiversOff t) := by
  unfold State.receiversOff
  with_reducible repeat' (first | assumption | refine .endLink ?_ | refine .put ?_ | intro _ | split | (dsimp only; split))

theorem State.Kept.linksIdle {s t : State}  (h : s.Kept t) : s.Kept (State.linksIdle t) := by
  unfold State.linksIdle
  with_reducible repeat' (first | assumption | refine .ite ?_ ?_ | refine .each ?_ ?_ | refine .put ?_ | intro _ | split | (dsimp only; split))

theorem State.Kept.selfRefresh {s t : State}  (h : s.Kept t) : s.Kept (State.selfRefresh t) := by
  unfold State.selfRefresh
  with_reducible repeat' (first | assumption | refine .ite ?_ ?_ | refine .each ?_ ?_ | refine .put ?_ | intro _ | split | (dsimp only; split))

theorem State.Kept.gateTiles {s t : State}  (h : s.Kept t) : s.Kept (State.gateTiles t) := by
  unfold State.gateTiles
  with_reducible repeat' (first | assumption | refine .each ?_ ?_ | refine .put ?_ | intro _ | split | (dsimp only; split))

theorem State.Kept.enterRecess {s t : State}  (h : s.Kept t) : s.Kept (State.enterRecess t) := by
  unfold State.enterRecess
  with_reducible repeat' (first | assumption | refine .withSvc ?_ | refine .withFresh ?_ | refine .receiversOff ?_ | refine .setService ?_ | intro _ | split | (dsimp only; split))

theorem State.Kept.recessCommit {s t : State}  (h : s.Kept t) : s.Kept (State.recessCommit t) := by
  unfold State.recessCommit
  with_reducible repeat' (first | assumption | refine .ite ?_ ?_ | refine .withFab ?_ | refine .gateTiles ?_ | refine .linksIdle ?_ | intro _ | split | (dsimp only; split))

theorem State.Kept.requestRecess {s t : State}  (h : s.Kept t) : s.Kept (State.requestRecess t) := by
  unfold State.requestRecess
  with_reducible repeat' (first | assumption | refine .ite ?_ ?_ | refine .put ?_ | refine .withSvc ?_ | refine .enterRecess ?_ | refine .raiseService ?_)

theorem State.Kept.recessEntered {s t : State}  (h : s.Kept t) : s.Kept (State.recessEntered t) := by
  unfold State.recessEntered
  with_reducible repeat' (first | assumption | refine .ite ?_ ?_ | refine .recessCommit ?_ | refine .linksIdle ?_ | refine .selfRefresh ?_ | refine .withHost ?_ | refine .put ?_ | refine .setService ?_ | refine .withSvc ?_ | refine .wakeEvent ?_ | intro _ | split | (dsimp only; split))

theorem State.Kept.wakeDone {s t : State}  (h : s.Kept t) : s.Kept (State.wakeDone t) := by
  unfold State.wakeDone
  with_reducible repeat' (first | assumption | refine .when_ ?_ ?_ | refine .put ?_ | refine .each ?_ ?_ | refine .withFab ?_ | refine .withSvc ?_ | refine .setService ?_ | refine .schedule ?_ | refine .warmReset ?_ | refine .vfReset ?_ | intro _ | split | (dsimp only; split))

theorem State.Kept.recessProfileWrite {s t : State} {p : Nat} (h : s.Kept t) : s.Kept (State.recessProfileWrite t p) := by
  unfold State.recessProfileWrite
  with_reducible repeat' (first | assumption | refine .ite ?_ ?_ | refine .put ?_ | refine .leaveExpert ?_)

end Sys2Proof.Machine
end

