-- ==== Sys2Proof/Laws/KeptBus.lean ====
section
/-!
SUPPORT. Laws/KeptBus.lean: each shared operation of security, debug, Akgal, pairs and register accesses keeps the canonical form and the queue.
-/
namespace Sys2Proof.Machine

open Sys2Proof

theorem State.Kept.gldSamples {s t : State} {instants : Nat} (h : s.Kept t) : s.Kept (State.gldSamples t instants) := by
  unfold State.gldSamples
  with_reducible repeat' (first | assumption | refine .gldSample ?_ | refine .each ?_ ?_ | intro _ | split | (dsimp only; split))

theorem State.Kept.raiseSlot {s t : State}  (h : s.Kept t) : s.Kept (State.raiseSlot t) := by
  unfold State.raiseSlot
  with_reducible repeat' (first | assumption | refine .raise ?_)

theorem State.Kept.slotEvent {s t : State} {f : Fld} (h : s.Kept t) : s.Kept (State.slotEvent t f) := by
  unfold State.slotEvent
  with_reducible repeat' (first | assumption | refine .ite ?_ ?_ | refine .put ?_ | refine .alertOn ?_ | refine .raiseSlot ?_)

theorem State.Kept.darkTray {s t : State} {power : Bool} (h : s.Kept t) : s.Kept (State.darkTray t power) := by
  unfold State.darkTray
  exact State.Kept.put (State.Kept.put (State.Kept.putFlag (State.Kept.cold h rfl (fun _ => rfl) rfl rfl rfl rfl rfl)))

theorem State.Kept.bootPsh {s t : State}  (h : s.Kept t) : s.Kept (State.bootPsh t) := by
  unfold State.bootPsh
  with_reducible repeat' (first | assumption | refine .ite ?_ ?_ | refine .setImage ?_ | refine .withSvc ?_ | refine .fwResult ?_ | refine .sampleSlot ?_)

theorem State.Kept.dropStaged {s t : State}  (h : s.Kept t) : s.Kept (State.dropStaged t) := by
  unfold State.dropStaged
  with_reducible repeat' (first | assumption | refine .withSec ?_)

theorem State.Kept.endConv {s t : State} {c : Nat} {raw : Option Int} (h : s.Kept t) : s.Kept (State.endConv t c raw) := by
  unfold State.endConv
  with_reducible repeat' (first | assumption | refine .entryResult ?_ | refine .setConv ?_ | refine .urgentResult ?_ | intro _ | split | (dsimp only; split))

theorem State.Kept.tenth {s t : State}  (h : s.Kept t) : s.Kept (State.tenth t) := by
  unfold State.tenth
  with_reducible repeat' (first | assumption | refine .ite ?_ ?_ | refine .put ?_ | refine .withCard ?_)

theorem State.Kept.meterSamples {s t : State} {n : Nat} {v i vi : Int} (h : s.Kept t) : s.Kept (State.meterSamples t n v i vi) := by
  unfold State.meterSamples
  with_reducible repeat' (first | assumption | refine .ite ?_ ?_ | refine .pshSample ?_ | refine .withCard ?_)

theorem State.Kept.ringReg {s t : State} {owner : Option Nat} {fn : Nat} {f : State → State} (hf : ∀ u, s.Kept u → s.Kept (f u)) (h : s.Kept t) : s.Kept (State.ringReg t owner fn f) := by
  unfold State.ringReg
  with_reducible repeat' (first | assumption | refine hf _ ?_ | refine .ite ?_ ?_ | refine .viaHost ?_ ?_ | intro _)

theorem State.Kept.setWindow {s t : State} {isOpen : Bool} (h : s.Kept t) : s.Kept (State.setWindow t isOpen) := by
  unfold State.setWindow
  with_reducible repeat' (first | assumption | refine .putFlag ?_)

theorem State.Kept.journalRoom {s t : State}  (h : s.Kept t) : s.Kept (State.journalRoom t) := by
  unfold State.journalRoom
  with_reducible repeat' (first | assumption | refine .ite ?_ ?_ | refine .pumpErase ?_ | refine .eraseDone ?_)

theorem State.Kept.eraseStaging {s t : State} {addr : Nat} (h : s.Kept t) : s.Kept (State.eraseStaging t addr) := by
  unfold State.eraseStaging
  with_reducible repeat' (first | assumption | refine .journalRoom ?_ | refine .issueErase ?_ | refine .norErase ?_ | refine .norProgram ?_ | refine .withCard ?_)

theorem State.Kept.programChunk {s t : State} {addr : Nat} {chunk : List Byte} (h : s.Kept t) : s.Kept (State.programChunk t addr chunk) := by
  unfold State.programChunk
  with_reducible repeat' (first | assumption | refine .each ?_ ?_ | refine .eraseStaging ?_ | refine .norProgram ?_ | intro _)

theorem State.Kept.measureOther {s t : State} {i : Nat} (h : s.Kept t) : s.Kept (State.measureOther t i) := by
  unfold State.measureOther
  with_reducible repeat' (first | assumption | refine .setImage ?_)

theorem State.Kept.fwAborts {s t : State} {id r : Nat} (h : s.Kept t) : s.Kept (State.fwAborts t id r) := by
  unfold State.fwAborts
  with_reducible repeat' (first | assumption | refine .fwResult ?_ | refine .finish ?_)

theorem State.Kept.stageChunk {s t : State} {f : Flight} {chunk : List Byte} (h : s.Kept t) : s.Kept (State.stageChunk t f chunk) := by
  unfold State.stageChunk
  with_reducible repeat' (first | assumption | refine .setImage ?_ | refine .programChunk ?_ | refine .measureOther ?_ | refine .showFw ?_ | refine .finish ?_)

theorem State.Kept.stageVerify {s t : State} {f : Flight} (h : s.Kept t) : s.Kept (State.stageVerify t f) := by
  unfold State.stageVerify
  with_reducible repeat' (first | assumption | refine .ite ?_ ?_ | refine .measureOther ?_ | refine .setImage ?_ | refine .fwResult ?_ | refine .showFw ?_ | refine .raiseFw ?_ | refine .finish ?_ | refine .fwAborts ?_)

theorem State.Kept.makePending {s t : State} {f : Flight} {i : Nat} {joint : Bool} (h : s.Kept t) : s.Kept (State.makePending t f i joint) := by
  unfold State.makePending
  with_reducible repeat' (first | assumption | refine .setImage ?_ | refine .when_ ?_ ?_ | refine .withSec ?_ | refine .bootWrite ?_ | refine .fwResult ?_ | refine .showFw ?_ | refine .finish ?_ | intro _)

theorem State.Kept.stageActivate {s t : State} {f : Flight} (h : s.Kept t) : s.Kept (State.stageActivate t f) := by
  unfold State.stageActivate
  with_reducible repeat' (first | assumption | refine .ite ?_ ?_ | refine .fwAborts ?_ | refine .makePending ?_)

theorem State.Kept.raiseFloor {s t : State} {i : Nat} (h : s.Kept t) : s.Kept (State.raiseFloor t i) := by
  unfold State.raiseFloor
  with_reducible repeat' (first | assumption | refine .ite ?_ ?_ | refine .fwResult ?_ | refine .setImage ?_)

theorem State.Kept.confirmTrials {s t : State} {raise : Bool} (h : s.Kept t) : s.Kept (State.confirmTrials t raise) := by
  unfold State.confirmTrials
  with_reducible repeat' (first | assumption | refine .withSec ?_ | refine .when_ ?_ ?_ | refine .bootWrite ?_ | refine .raise ?_ | refine .raiseFloor ?_ | refine .showFw ?_ | intro _)

theorem State.Kept.cancelPending {s t : State}  (h : s.Kept t) : s.Kept (State.cancelPending t) := by
  unfold State.cancelPending
  with_reducible repeat' (first | assumption | refine .ite ?_ ?_ | refine .withSec ?_ | refine .bootWrite ?_ | refine .showFw ?_)

theorem State.Kept.strictSet {s t : State}  (h : s.Kept t) : s.Kept (State.strictSet t) := by
  unfold State.strictSet
  with_reducible repeat' (first | assumption | refine .withSec ?_ | refine .showFw ?_)

theorem State.Kept.secCtrl {s t : State} {v : Nat} (h : s.Kept t) : s.Kept (State.secCtrl t v) := by
  unfold State.secCtrl
  with_reducible repeat' (first | assumption | refine .ite ?_ ?_ | refine .when_ ?_ ?_ | refine .confirmTrials ?_ | refine .cancelPending ?_ | refine .strictSet ?_ | intro _ | split | (dsimp only; split))

theorem State.Kept.secProfileWrite {s t : State} {p : Nat} (h : s.Kept t) : s.Kept (State.secProfileWrite t p) := by
  unfold State.secProfileWrite
  with_reducible repeat' (first | assumption | refine .ite ?_ ?_ | refine .put ?_ | refine .leaveExpert ?_)

theorem State.Kept.rolledBackClear {s t : State} {v : Word} (h : s.Kept t) : s.Kept (State.rolledBackClear t v) := by
  unfold State.rolledBackClear
  with_reducible repeat' (first | assumption | refine .ite ?_ ?_ | refine .withSec ?_ | refine .bootWrite ?_ | refine .showFw ?_ | intro _ | split | (dsimp only; split))

theorem State.Kept.spdm {s t : State} {f : State → State} (hf : ∀ u, s.Kept u → s.Kept (f u)) (h : s.Kept t) : s.Kept (State.spdm t f) := by
  unfold State.spdm
  with_reducible repeat' (first | assumption | refine hf _ ?_ | refine .ite ?_ ?_ | refine .wakeEvent ?_)

theorem State.Kept.spdmReply {s t : State} {r : SpdmReply} (h : s.Kept t) : s.Kept (State.spdmReply t r) := by
  unfold State.spdmReply
  with_reducible repeat' (first | assumption | refine .withSec ?_)

theorem State.Kept.askVault {s t : State} {j : VaultJob} (h : s.Kept t) : s.Kept (State.askVault t j) := by
  unfold State.askVault
  with_reducible repeat' (first | assumption | refine .withSec ?_)

theorem State.Kept.recoveryWrite {s t : State} {fin : PmbEnd} {act : State → State} (hact : ∀ u, s.Kept u → s.Kept (act u)) (h : s.Kept t) : s.Kept (State.recoveryWrite t fin act) := by
  unfold State.recoveryWrite
  with_reducible repeat' (first | assumption | refine hact _ ?_ | refine .ite ?_ ?_ | refine .ack ?_ | refine .cml5 ?_ | refine .cml6 ?_ | refine .pmbWrite ?_ ?_ | refine .nack ?_ | intro _ | split | (dsimp only; split))

theorem State.Kept.coreRan {s t : State} {c : Nat} (h : s.Kept t) : s.Kept (State.coreRan t c) := by
  unfold State.coreRan
  with_reducible repeat' (first | assumption | refine .ite ?_ ?_ | refine .mapCore ?_ | refine .withFresh ?_ | refine .withDbg ?_)

theorem State.Kept.haltCore {s t : State} {c cause : Nat} (h : s.Kept t) : s.Kept (State.haltCore t c cause) := by
  unfold State.haltCore
  with_reducible repeat' (first | assumption | refine .coreRan ?_ | refine .mapCore ?_ | refine .when_ ?_ ?_ | refine .showModes ?_ | intro _ | split | (dsimp only; split))

theorem State.Kept.haltOrDefer {s t : State} {c cause : Nat} {lock : Option LockSeq} (h : s.Kept t) : s.Kept (State.haltOrDefer t c cause lock) := by
  unfold State.haltOrDefer
  with_reducible repeat' (first | assumption | refine .ite ?_ ?_ | refine .mapCore ?_ | refine .haltCore ?_ | intro _ | split | (dsimp only; split))

theorem State.Kept.haltRequest {s t : State} {c : Nat} {lock : Option LockSeq} (h : s.Kept t) : s.Kept (State.haltRequest t c lock) := by
  unfold State.haltRequest
  with_reducible repeat' (first | assumption | refine .ite ?_ ?_ | refine .mapCore ?_ | refine .haltOrDefer ?_ | intro _ | split | (dsimp only; split))

theorem State.Kept.coreResume {s t : State} {c : Nat} (h : s.Kept t) : s.Kept (State.coreResume t c) := by
  unfold State.coreResume
  with_reducible repeat' (first | assumption | refine .ite ?_ ?_ | refine .mapCore ?_ | refine .resume ?_ | refine .when_ ?_ ?_ | refine .showModes ?_ | intro _ | split | (dsimp only; split))

theorem State.Kept.coreStep {s t : State} {c : Nat} {lock : Option LockSeq} (h : s.Kept t) : s.Kept (State.coreStep t c lock) := by
  unfold State.coreStep
  with_reducible repeat' (first | assumption | refine .ite ?_ ?_ | refine .haltOrDefer ?_)

theorem State.Kept.lockEnd {s t : State} {c : Nat} (h : s.Kept t) : s.Kept (State.lockEnd t c) := by
  unfold State.lockEnd
  with_reducible repeat' (first | assumption | refine .ite ?_ ?_ | refine .haltCore ?_)

theorem State.Kept.breakCommit {s t : State} {c id : Nat} (h : s.Kept t) : s.Kept (State.breakCommit t c id) := by
  unfold State.breakCommit
  with_reducible repeat' (first | assumption | refine .ite ?_ ?_ | refine .setAkg ?_ | refine .finish ?_ | refine .shadowDrain ?_)

theorem State.Kept.breakLock {s t : State} {c id : Nat} {q : LockSeq} (h : s.Kept t) : s.Kept (State.breakLock t c id q) := by
  unfold State.breakLock
  with_reducible repeat' (first | assumption | refine .breakCommit ?_ | refine .withHost ?_ | intro _ | split | (dsimp only; split))

theorem State.Kept.haltForced {s t : State} {c id : Nat} (h : s.Kept t) : s.Kept (State.haltForced t c id) := by
  unfold State.haltForced
  with_reducible repeat' (first | assumption | refine .ite ?_ ?_ | refine .put ?_ | refine .breakLock ?_ | refine .haltCore ?_ | refine .mapCore ?_ | refine .bump ?_ | refine .raise ?_ | intro _ | split | (dsimp only; split))

theorem State.Kept.debugLeave {s t : State}  (h : s.Kept t) : s.Kept (State.debugLeave t) := by
  unfold State.debugLeave
  with_reducible repeat' (first | assumption | refine .ite ?_ ?_ | refine .withDbg ?_ | refine .showCores ?_ | refine .showModes ?_ | refine .put ?_ | refine .withSvc ?_ | refine .requestRecess ?_ | intro _ | split | (dsimp only; split))

theorem State.Kept.dbgCtrl {s t : State} {v : Nat} (h : s.Kept t) : s.Kept (State.dbgCtrl t v) := by
  unfold State.dbgCtrl
  with_reducible repeat' (first | assumption | refine .ite ?_ ?_ | refine .put ?_ | refine .debugLeave ?_)

theorem State.Kept.traceClear {s t : State}  (h : s.Kept t) : s.Kept (State.traceClear t) := by
  unfold State.traceClear
  with_reducible repeat' (first | assumption | refine .put ?_ | refine .withDbg ?_)

theorem State.Kept.traceRead {s t : State}  (h : s.Kept t) : s.Kept (State.traceRead t) := by
  unfold State.traceRead
  with_reducible repeat' (first | assumption | refine .put ?_ | refine .withLastRead ?_)

theorem State.Kept.traceWhole {s t : State} {space sources : Nat} (h : s.Kept t) : s.Kept (State.traceWhole t space sources) := by
  unfold State.traceWhole
  with_reducible repeat' (first | assumption | refine .setWord ?_)

theorem State.Kept.dbgProfileWrite {s t : State} {p : Nat} (h : s.Kept t) : s.Kept (State.dbgProfileWrite t p) := by
  unfold State.dbgProfileWrite
  with_reducible repeat' (first | assumption | refine .ite ?_ ?_ | refine .put ?_ | refine .leaveExpert ?_ | refine .each ?_ ?_ | refine .traceWhole ?_ | intro _)

theorem State.Kept.dbgWrite {s t : State} {off : Nat} {v : Word} (h : s.Kept t) : s.Kept (State.dbgWrite t off v) := by
  unfold State.dbgWrite
  with_reducible repeat' (first | assumption | refine .ite ?_ ?_ | refine .setWord ?_ | refine .when_ ?_ ?_ | refine .traceClear ?_ | intro _)

theorem State.Kept.coreWrite {s t u : State} {c off : Nat} {v : Word} (e : t.coreWrite c off v = some u) (h : s.Kept t) : s.Kept u := by
  unfold State.coreWrite at e
  dsimp only at e
  repeat' (first
    | (split at e)
    | (injection e with e; subst e)
    | cases e)
  all_goals (repeat' (first
    | with_reducible assumption
    | with_reducible refine State.Kept.when_ ?_ ?_
    | with_reducible refine State.Kept.mapCore ?_
    | with_reducible refine State.Kept.haltRequest ?_
    | with_reducible refine State.Kept.coreResume ?_
    | with_reducible refine State.Kept.coreStep ?_
    | intro _))

theorem State.Kept.coreMemWrite {s t u : State} {wa : Nat} {v : Word} (e : t.coreMemWrite wa v = some u) (h : s.Kept t) : s.Kept u := by
  unfold State.coreMemWrite at e
  repeat' (first
    | (split at e)
    | (injection e with e; subst e))
  all_goals first | exact h | exact h.withDbg | cases e

theorem State.Kept.emptyPort {s t : State} {p : Nat} (h : s.Kept t) : s.Kept (State.emptyPort t p) := by
  unfold State.emptyPort
  with_reducible repeat' (first | assumption | refine .ite ?_ ?_ | refine .put ?_ | refine .mapPort ?_ | refine .showFill ?_ | refine .each ?_ ?_ | refine .shareFails ?_ | refine .setAkg ?_ | refine .settleWaits ?_ | intro _)

theorem State.Kept.trainPort {s t : State} {p : Nat} (h : s.Kept t) : s.Kept (State.trainPort t p) := by
  unfold State.trainPort
  with_reducible repeat' (first | assumption | refine .ite ?_ ?_ | refine .put ?_ | refine .linkDown ?_)

theorem State.Kept.disablePort {s t : State} {p : Nat} (h : s.Kept t) : s.Kept (State.disablePort t p) := by
  unfold State.disablePort
  with_reducible repeat' (first | assumption | refine .put ?_ | refine .when_ ?_ ?_ | refine .linkDown ?_ | refine .emptyPort ?_ | intro _)

theorem State.Kept.enablePort {s t : State} {p : Nat} (h : s.Kept t) : s.Kept (State.enablePort t p) := by
  unfold State.enablePort
  with_reducible repeat' (first | assumption | refine .ite ?_ ?_ | refine .put ?_ | refine .trainPort ?_)

theorem State.Kept.portCtrl {s t : State} {p v : Nat} (h : s.Kept t) : s.Kept (State.portCtrl t p v) := by
  unfold State.portCtrl
  with_reducible repeat' (first | assumption | refine .ite ?_ ?_ | refine .enablePort ?_ | refine .disablePort ?_ | refine .when_ ?_ ?_ | refine .trainPort ?_ | intro _)

theorem State.Kept.sendIdent {s t : State} {p : Nat} (h : s.Kept t) : s.Kept (State.sendIdent t p) := by
  unfold State.sendIdent
  with_reducible repeat' (first | assumption | refine .mapPort ?_)

theorem State.Kept.phaseEnd {s t : State} {p : Nat} {ok : Bool} {lanes : Nat} (h : s.Kept t) : s.Kept (State.phaseEnd t p ok lanes) := by
  unfold State.phaseEnd
  with_reducible repeat' (first | assumption | refine .ite ?_ ?_ | refine .put ?_ | refine .sendIdent ?_ | intro _ | split | (dsimp only; split))

theorem State.Kept.portUp {s t : State} {p : Nat} {r : IdRecord} {last : Nat} (h : s.Kept t) : s.Kept (State.portUp t p r last) := by
  unfold State.portUp
  with_reducible repeat' (first | assumption | refine .ite ?_ ?_ | refine .put ?_ | refine .mapPort ?_ | refine .when_ ?_ ?_ | refine .openUnits ?_ | refine .raiseAkgal ?_ | refine .drainPort ?_ | intro _)

theorem State.Kept.sysCfgWrite {s t : State} {v : Word} (h : s.Kept t) : s.Kept (State.sysCfgWrite t v) := by
  unfold State.sysCfgWrite
  with_reducible repeat' (first | assumption | refine .ite ?_ ?_ | refine .setWord ?_ | refine .each ?_ ?_ | refine .emptyPort ?_ | refine .trainPort ?_ | intro _)

theorem State.Kept.akgProfileWrite {s t : State} {p : Nat} (h : s.Kept t) : s.Kept (State.akgProfileWrite t p) := by
  unfold State.akgProfileWrite
  with_reducible repeat' (first | assumption | refine .ite ?_ ?_ | refine .put ?_ | refine .setWord ?_ | refine .leaveExpert ?_)

theorem State.Kept.startCopy {s t : State}  (h : s.Kept t) : s.Kept (State.startCopy t) := by
  unfold State.startCopy
  with_reducible repeat' (first | assumption | refine .put ?_ | refine .setAkg ?_ | refine .sendPair ?_ | refine .when_ ?_ ?_ | refine .each ?_ ?_ | intro _)

theorem State.Kept.unpaired {s t : State}  (h : s.Kept t) : s.Kept (State.unpaired t) := by
  unfold State.unpaired
  with_reducible repeat' (first | assumption | refine .setAkg ?_ | refine .put ?_ | refine .setRole ?_ | refine .settleWaits ?_ | refine .claimDone ?_ | intro _ | split | (dsimp only; split))

theorem State.Kept.letGo {s t : State} {r : Nat} (h : s.Kept t) : s.Kept (State.letGo t r) := by
  unfold State.letGo
  with_reducible repeat' (first | assumption | refine .each ?_ ?_ | refine .mapRun ?_ | refine .setAkg ?_ | refine .finish ?_ | refine .settleWaits ?_ | intro _ | split | (dsimp only; split))

theorem State.Kept.dropRuns {s t : State}  (h : s.Kept t) : s.Kept (State.dropRuns t) := by
  unfold State.dropRuns
  with_reducible repeat' (first | assumption | refine .each ?_ ?_ | refine .endRun ?_ | refine .withHost ?_ | refine .withCap ?_ | refine .withPass ?_ | refine .put ?_ | refine .showFlights ?_ | refine .showPublish ?_ | intro _ | split | (dsimp only; split))

theorem State.Kept.becomeDeputy {s t : State} {r : Nat} (h : s.Kept t) : s.Kept (State.becomeDeputy t r) := by
  unfold State.becomeDeputy
  with_reducible repeat' (first | assumption | refine .ite ?_ ?_ | refine .put ?_ | refine .dropRuns ?_ | refine .setAkg ?_ | refine .setRole ?_)

theorem State.Kept.leavePair {s t : State}  (h : s.Kept t) : s.Kept (State.leavePair t) := by
  unfold State.leavePair
  with_reducible repeat' (first | assumption | refine .ite ?_ ?_ | refine .letGo ?_ | refine .each ?_ ?_ | refine .clearModel ?_ | refine .setCap ?_ | refine .setRules ?_ | refine .setBank ?_ | refine .foldl ?_ ?_ | refine .showReserved ?_ | refine .unpaired ?_ | intro _ | split | (dsimp only; split))

theorem State.Kept.takeMirror {s t : State} {claimed : Bool} (h : s.Kept t) : s.Kept (State.takeMirror t claimed) := by
  unfold State.takeMirror
  with_reducible repeat' (first | assumption | refine .ite ?_ ?_ | refine .withHost ?_ | refine .withFab ?_ | refine .withCap ?_ | refine .each ?_ ?_ | refine .put ?_ | refine .setAkg ?_ | intro _ | split | (dsimp only; split))

theorem State.Kept.publishShadow {s t : State}  (h : s.Kept t) : s.Kept (State.publishShadow t) := by
  unfold State.publishShadow
  with_reducible repeat' (first | assumption | refine .ite ?_ ?_ | refine .put ?_ | refine .bump ?_ | refine .setPass ?_)

theorem State.Kept.takeLead {s t : State} {claimed : Bool} (h : s.Kept t) : s.Kept (State.takeLead t claimed) := by
  unfold State.takeLead
  with_reducible repeat' (first | assumption | refine .takeMirror ?_ | refine .publishShadow ?_ | refine .setRole ?_ | refine .schedule ?_)

theorem State.Kept.claim {s t : State} {by_ : Option Nat} (h : s.Kept t) : s.Kept (State.claim t by_) := by
  unfold State.claim
  with_reducible repeat' (first | assumption | refine .ite ?_ ?_ | refine .letGo ?_ | refine .takeLead ?_ | refine .put ?_ | refine .bump ?_ | refine .setAkg ?_ | refine .sendPair ?_ | refine .claim ?_ | refine .claimDone ?_ | intro _ | split | (dsimp only; split))

theorem State.Kept.yieldLead {s t : State}  (h : s.Kept t) : s.Kept (State.yieldLead t) := by
  unfold State.yieldLead
  with_reducible repeat' (first | assumption | refine .ite ?_ ?_ | refine .letGo ?_ | refine .becomeDeputy ?_ | refine .claimDone ?_ | refine .put ?_ | refine .gldCount ?_ | refine .withHost ?_ | refine .raisePair ?_ | refine .sendPair ?_ | intro _ | split | (dsimp only; split))

theorem State.Kept.peerClaim {s t : State} {cut : Bool} (h : s.Kept t) : s.Kept (State.peerClaim t cut) := by
  unfold State.peerClaim
  with_reducible repeat' (first | assumption | refine .ite ?_ ?_ | refine .when_ ?_ ?_ | refine .sendPair ?_ | refine .claim ?_ | refine .setAkg ?_ | refine .claimDone ?_ | refine .yieldLead ?_ | refine .letGo ?_ | refine .becomeDeputy ?_ | intro _ | split | (dsimp only; split))

theorem State.Kept.trySwap {s t : State}  (h : s.Kept t) : s.Kept (State.trySwap t) := by
  unfold State.trySwap
  with_reducible repeat' (first | assumption | refine .ite ?_ ?_ | refine .setAkg ?_ | refine .sendPair ?_ | intro _ | split | (dsimp only; split))

theorem State.Kept.swapEnds {s t : State}  (h : s.Kept t) : s.Kept (State.swapEnds t) := by
  unfold State.swapEnds
  with_reducible repeat' (first | assumption | refine .finish ?_ | refine .setAkg ?_ | refine .when_ ?_ ?_ | refine .sendPair ?_ | refine .trySwap ?_ | intro _ | split | (dsimp only; split))

theorem State.Kept.swapDown {s t : State}  (h : s.Kept t) : s.Kept (State.swapDown t) := by
  unfold State.swapDown
  with_reducible repeat' (first | assumption | refine .becomeDeputy ?_ | refine .sendPair ?_ | refine .setAkg ?_ | refine .swapEnds ?_)

theorem State.Kept.swapUp {s t : State}  (h : s.Kept t) : s.Kept (State.swapUp t) := by
  unfold State.swapUp
  with_reducible repeat' (first | assumption | refine .ite ?_ ?_ | refine .takeLead ?_ | refine .setAkg ?_ | refine .swapEnds ?_ | refine .doorbell ?_ | refine .each ?_ ?_ | refine .cqHead ?_ | refine .sqTail ?_ | intro _)

theorem State.Kept.peerSwap {s t : State}  (h : s.Kept t) : s.Kept (State.peerSwap t) := by
  unfold State.peerSwap
  with_reducible repeat' (first | assumption | refine .ite ?_ ?_ | refine .setAkg ?_ | refine .trySwap ?_ | intro _ | split | (dsimp only; split))

theorem State.Kept.pairFails {s t : State} {code : Nat} (h : s.Kept t) : s.Kept (State.pairFails t code) := by
  unfold State.pairFails
  with_reducible repeat' (first | assumption | refine .put ?_ | refine .setAkg ?_ | refine .finish ?_ | intro _ | split | (dsimp only; split))

theorem State.Kept.pairFailsBoth {s t : State} {code : Nat} (h : s.Kept t) : s.Kept (State.pairFailsBoth t code) := by
  unfold State.pairFailsBoth
  with_reducible repeat' (first | assumption | refine .pairFails ?_ | refine .when_ ?_ ?_ | refine .sendPair ?_ | intro _ | split | (dsimp only; split))

theorem State.Kept.peerFails {s t : State} {code : Nat} (h : s.Kept t) : s.Kept (State.peerFails t code) := by
  unfold State.peerFails
  with_reducible repeat' (first | assumption | refine .setAkg ?_ | refine .when_ ?_ ?_ | refine .leavePair ?_ | refine .pairFails ?_ | intro _ | split | (dsimp only; split))

theorem State.Kept.mapPairing {s t : State} {g : Pairing → Pairing} (h : s.Kept t) : s.Kept (State.mapPairing t g) := by
  unfold State.mapPairing
  with_reducible repeat' (first | assumption | refine .setAkg ?_)

theorem State.Kept.tryAuth {s t : State}  (h : s.Kept t) : s.Kept (State.tryAuth t) := by
  unfold State.tryAuth
  with_reducible repeat' (first | assumption | refine .ite ?_ ?_ | refine .pairFails ?_ | refine .sendPair ?_ | refine .pairFailsBoth ?_ | split)

theorem State.Kept.authDone {s t : State}  (h : s.Kept t) : s.Kept (State.authDone t) := by
  unfold State.authDone
  with_reducible repeat' (first | assumption | refine .ite ?_ ?_ | refine .put ?_ | refine .pairFailsBoth ?_ | refine .mapPairing ?_ | refine .setRole ?_ | refine .startCopy ?_ | refine .becomeDeputy ?_ | intro _ | split | (dsimp only; split))

theorem State.Kept.authFrame {s t : State} {m : AkMsg} (h : s.Kept t) : s.Kept (State.authFrame t m) := by
  unfold State.authFrame
  with_reducible repeat' (first | assumption | refine .ite ?_ ?_ | refine .pairFailsBoth ?_ | refine .withFresh ?_ | refine .mapPairing ?_ | refine .sendPair ?_ | refine .askVault ?_ | refine .authDone ?_ | intro _ | split | (dsimp only; split))

theorem State.Kept.pairSigned {s t : State} {g : List Byte} (h : s.Kept t) : s.Kept (State.pairSigned t g) := by
  unfold State.pairSigned
  with_reducible repeat' (first | assumption | refine .ite ?_ ?_ | refine .mapPairing ?_ | refine .sendPair ?_ | refine .authDone ?_)

theorem State.Kept.pairReply {s t : State} {id status : Nat} (h : s.Kept t) : s.Kept (State.pairReply t id status) := by
  unfold State.pairReply
  with_reducible repeat' (first | assumption | refine .finish ?_)

theorem State.Kept.askPair {s t : State} {f : Flight} {role : Nat} (h : s.Kept t) : s.Kept (State.askPair t f role) := by
  unfold State.askPair
  with_reducible repeat' (first | assumption | refine .ite ?_ ?_ | refine .put ?_ | refine .finish ?_ | refine .pairReply ?_ | refine .runFlight ?_ | refine .setAkg ?_ | refine .sendPair ?_ | refine .tryAuth ?_)

theorem State.Kept.peerWants {s t : State} {r : Nat} (h : s.Kept t) : s.Kept (State.peerWants t r) := by
  unfold State.peerWants
  with_reducible repeat' (first | assumption | refine .ite ?_ ?_ | refine .setAkg ?_ | refine .claimDone ?_ | refine .startCopy ?_ | refine .put ?_ | refine .setRole ?_ | refine .pairFails ?_ | refine .mapPairing ?_ | refine .tryAuth ?_ | intro _ | split | (dsimp only; split))

theorem State.Kept.copyEnds {s t : State} {role : Nat} (h : s.Kept t) : s.Kept (State.copyEnds t role) := by
  unfold State.copyEnds
  with_reducible repeat' (first | assumption | refine .put ?_ | refine .setAkg ?_ | refine .setRole ?_ | refine .finish ?_ | intro _ | split | (dsimp only; split))

theorem State.Kept.pairUp {s t : State}  (h : s.Kept t) : s.Kept (State.pairUp t) := by
  unfold State.pairUp
  with_reducible repeat' (first | assumption | refine .ite ?_ ?_ | refine .put ?_ | refine .leavePair ?_ | refine .sendPair ?_ | refine .claim ?_ | refine .each ?_ ?_ | refine .when_ ?_ ?_ | refine .setAkg ?_ | refine .startCopy ?_ | intro _)

theorem State.Kept.takeIdent {s t : State} {p : Nat} {r : IdRecord} {last : Nat} (h : s.Kept t) : s.Kept (State.takeIdent t p r last) := by
  unfold State.takeIdent
  with_reducible repeat' (first | assumption | refine .ite ?_ ?_ | refine .put ?_ | refine .portUp ?_ | refine .when_ ?_ ?_ | refine .pairUp ?_ | intro _)

theorem State.Kept.plainReg {s t : State} {off : Nat} {v : Word} (h : s.Kept t) : s.Kept (State.plainReg t off v) := by
  unfold State.plainReg
  with_reducible repeat' (first | assumption | refine .setWord ?_)

theorem State.Kept.profileWord {s t : State} {off width : Nat} {v : Word} {load : State → Nat → State} {fields : State → State} (hload : ∀ u a0, s.Kept u → s.Kept (load u a0)) (hfields : ∀ u, s.Kept u → s.Kept (fields u)) (h : s.Kept t) : s.Kept (State.profileWord t off width v load fields) := by
  unfold State.profileWord
  with_reducible repeat' (first | assumption | refine hload _ _ ?_ | refine hfields _ ?_ | refine .ite ?_ ?_ | intro _ | split | (dsimp only; split))

theorem State.Kept.resetWrite {s t : State} {v : Word} (h : s.Kept t) : s.Kept (State.resetWrite t v) := by
  unfold State.resetWrite
  with_reducible repeat' (first | assumption | refine .ite ?_ ?_ | refine .askCold ?_ | refine .warmReset ?_ | refine .fabReset ?_ | intro _ | split | (dsimp only; split))

theorem State.Kept.glbWrite {s t : State} {off : Nat} {v : Word} (h : s.Kept t) : s.Kept (State.glbWrite t off v) := by
  unfold State.glbWrite
  with_reducible repeat' (first | assumption | refine .ite ?_ ?_ | refine .resetWrite ?_ | refine .profileWord ?_ ?_ ?_ | refine .recessProfileWrite ?_ | refine .plainReg ?_ | refine .when_ ?_ ?_ | refine .requestRecess ?_ | refine .unlockKey ?_ | intro _)

theorem State.Kept.ringWrite {s t : State} {off : Nat} {v : Word} (h : s.Kept t) : s.Kept (State.ringWrite t off v) := by
  unfold State.ringWrite
  with_reducible repeat' (first | assumption | refine .ite ?_ ?_ | refine .baseWrite ?_ | refine .sqCfgWrite ?_ | refine .when_ ?_ ?_ | refine .sqErrorClear ?_ | refine .cqCfgWrite ?_ | refine .plainReg ?_ | refine .cqErrorClear ?_ | intro _)

theorem State.Kept.msixWrite {s t : State} {fn vec k : Nat} {v : Word} (h : s.Kept t) : s.Kept (State.msixWrite t fn vec k v) := by
  unfold State.msixWrite
  with_reducible repeat' (first | assumption | refine .ite ?_ ?_ | refine .withHost ?_ | refine .stageTaken ?_ | refine .stageHi ?_ | refine .maskVec ?_ | intro _ | split | (dsimp only; split))

theorem State.Kept.hifWrite {s t : State} {off : Nat} {v : Word} (h : s.Kept t) : s.Kept (State.hifWrite t off v) := by
  unfold State.hifWrite
  with_reducible repeat' (first | assumption | refine .ite ?_ ?_ | refine .hifProfileWrite ?_ | refine .unlockKey ?_ | refine .when_ ?_ ?_ | refine .commitWhole ?_ | refine .ringWrite ?_ | refine .msixWrite ?_ | refine .stageHi ?_ | refine .stageTaken ?_ | refine .plainReg ?_ | intro _ | split | (dsimp only; split))

theorem State.Kept.fabWrite {s t : State} {off : Nat} {v : Word} (h : s.Kept t) : s.Kept (State.fabWrite t off v) := by
  unfold State.fabWrite
  with_reducible repeat' (first | assumption | refine .ite ?_ ?_ | refine .put ?_ | refine .profileWord ?_ ?_ ?_ | refine .fabProfileWrite ?_ | refine .plainReg ?_ | refine .spareWrite ?_ | refine .showCapacity ?_ | refine .unlockKey ?_ | refine .gangCfgWrite ?_ | refine .accSelWrite ?_ | intro _)

theorem State.Kept.smpWrite {s t : State} {off : Nat} {v : Word} (h : s.Kept t) : s.Kept (State.smpWrite t off v) := by
  unfold State.smpWrite
  with_reducible repeat' (first | assumption | refine .ite ?_ ?_ | refine .smpProfileWrite ?_ | refine .unlockKey ?_ | refine .plainReg ?_)

theorem State.Kept.sylWrite {s t : State} {off : Nat} {v : Word} (h : s.Kept t) : s.Kept (State.sylWrite t off v) := by
  unfold State.sylWrite
  with_reducible repeat' (first | assumption | refine .ite ?_ ?_ | refine .sylProfileWrite ?_ | refine .unlockKey ?_ | refine .shadowData ?_ | refine .shadowCtrl ?_ | refine .plainReg ?_)

theorem State.Kept.capWrite {s t : State} {off : Nat} {v : Word} (h : s.Kept t) : s.Kept (State.capWrite t off v) := by
  unfold State.capWrite
  with_reducible repeat' (first | assumption | refine .ite ?_ ?_ | refine .capProfileWrite ?_ | refine .unlockKey ?_ | refine .plainReg ?_)

theorem State.Kept.hpsWrite {s t : State} {off : Nat} {v : Word} (h : s.Kept t) : s.Kept (State.hpsWrite t off v) := by
  unfold State.hpsWrite
  with_reducible repeat' (first | assumption | refine .ite ?_ ?_ | refine .hpsProfileWrite ?_ | refine .unlockKey ?_ | refine .when_ ?_ ?_ | refine .hpsFill ?_ | refine .hpsDataWrite ?_ | refine .plainReg ?_ | intro _)

theorem State.Kept.resume {s t : State}  (h : s.Kept t) : s.Kept (State.resume t) := by
  unfold State.resume
  with_reducible repeat' (first | assumption | refine .ite ?_ ?_ | refine .put ?_ | refine .each ?_ ?_ | intro _)

theorem State.Kept.akgWrite {s t : State} {off : Nat} {v : Word} (h : s.Kept t) : s.Kept (State.akgWrite t off v) := by
  unfold State.akgWrite
  with_reducible repeat' (first | assumption | refine .ite ?_ ?_ | refine .akgProfileWrite ?_ | refine .unlockKey ?_ | refine .sysCfgWrite ?_ | refine .when_ ?_ ?_ | refine .resume ?_ | refine .portCtrl ?_ | refine .plainReg ?_ | intro _)

theorem State.Kept.thmWrite {s t : State} {off : Nat} {v : Word} (h : s.Kept t) : s.Kept (State.thmWrite t off v) := by
  unfold State.thmWrite
  with_reducible repeat' (first | assumption | refine .ite ?_ ?_ | refine .thmProfileWrite ?_ | refine .unlockKey ?_ | refine .levelsWrite ?_ | refine .thmCtrlWrite ?_ | refine .plainReg ?_)

theorem State.Kept.secWrite {s t : State} {off : Nat} {v : Word} (h : s.Kept t) : s.Kept (State.secWrite t off v) := by
  unfold State.secWrite
  with_reducible repeat' (first | assumption | refine .ite ?_ ?_ | refine .secProfileWrite ?_ | refine .unlockKey ?_ | refine .secCtrl ?_ | refine .rolledBackClear ?_ | refine .plainReg ?_)

theorem State.Kept.dbgPairWrite {s t : State} {off lo : Nat} {v : Word} (h : s.Kept t) : s.Kept (State.dbgPairWrite t off lo v) := by
  unfold State.dbgPairWrite
  with_reducible repeat' (first | assumption | refine .ite ?_ ?_ | refine .stageHi ?_ | refine .stageTaken ?_ | refine .dbgWrite ?_)

theorem State.Kept.dbgBlockWrite {s t : State} {off : Nat} {v : Word} {tap : Bool} (h : s.Kept t) : s.Kept (State.dbgBlockWrite t off v tap) := by
  unfold State.dbgBlockWrite
  with_reducible repeat' (first | assumption | refine .ite ?_ ?_ | refine .dbgProfileWrite ?_ | refine .unlockKey ?_ | refine .dbgCtrl ?_ | refine .dbgPairWrite ?_ | refine .dbgWrite ?_ | split)

theorem State.Kept.regWrite {s t : State} {off : Nat} {v : Word} {tap : Bool} (h : s.Kept t) : s.Kept (State.regWrite t off v tap) := by
  unfold State.regWrite
  with_reducible repeat' (first | assumption | refine .glbWrite ?_ | refine .hifWrite ?_ | refine .fabWrite ?_ | refine .smpWrite ?_ | refine .sylWrite ?_ | refine .capWrite ?_ | refine .hpsWrite ?_ | refine .akgWrite ?_ | refine .thmWrite ?_ | refine .overPsh ?_ ?_ | refine .pshWrite ?_ | refine .secWrite ?_ | refine .dbgBlockWrite ?_ | intro _ | split | (dsimp only; split))

theorem State.Kept.pfWrite {s t : State} {off : Nat} {v : Word} {tap : Bool} (h : s.Kept t) : s.Kept (State.pfWrite t off v tap) := by
  unfold State.pfWrite
  with_reducible repeat' (first | assumption | refine .cfgWrite ?_ ?_ | refine .regWrite ?_ | intro _)

theorem State.Kept.mirroredWrite {s t : State} {off : Nat} {v : Word} {expert : Bool} (h : s.Kept t) : s.Kept (State.mirroredWrite t off v expert) := by
  unfold State.mirroredWrite
  with_reducible repeat' (first | assumption | refine .ite ?_ ?_ | refine .put ?_ | refine .regWrite ?_)

theorem State.Kept.vfWrite {s t : State} {fn off : Nat} {v : Word} (h : s.Kept t) : s.Kept (State.vfWrite t fn off v) := by
  unfold State.vfWrite
  with_reducible repeat' (first | assumption | refine .ite ?_ ?_ | refine .setCauses ?_ | refine .withHost ?_ | refine .msixWrite ?_ | refine .pfWrite ?_ | split)

theorem State.Kept.barWrite {s t : State} {fn off size : Nat} {v : Word} (h : s.Kept t) : s.Kept (State.barWrite t fn off size v) := by
  unfold State.barWrite
  with_reducible repeat' (first | assumption | refine .ite ?_ ?_ | refine .pfWrite ?_ | refine .vfWrite ?_)

theorem State.Kept.clearMirrored {s t : State} {off : Nat} (h : s.Kept t) : s.Kept (State.clearMirrored t off) := by
  unfold State.clearMirrored
  with_reducible repeat' (first | assumption | refine .ite ?_ ?_ | refine .foldl ?_ ?_ | refine .setWord ?_ | refine .withMirror ?_ ?_ | with_unfolding_all exact Store.wf_write)

theorem State.Kept.readClears {s t : State} {off : Nat} (h : s.Kept t) : s.Kept (State.readClears t off) := by
  unfold State.readClears
  with_reducible repeat' (first | assumption | refine .ite ?_ ?_ | refine .setWord ?_ | refine .clearMirrored ?_ | refine .traceRead ?_ | refine .withFresh ?_)

theorem State.Kept.latchRead {s t : State} {off : Nat} (h : s.Kept t) : s.Kept ((State.latchRead t off).2) := by
  unfold State.latchRead
  with_reducible repeat' (first | assumption | refine .ite ?_ ?_ | refine .withLatch ?_ ?_ | with_unfolding_all exact Store.wf_write | intro _ | split | (dsimp only; split))

theorem State.Kept.pfRead {s t : State} {off : Nat} (h : s.Kept t) : s.Kept ((State.pfRead t off).2) := by
  unfold State.pfRead
  with_reducible repeat' (first | assumption | refine .latchRead ?_ | refine .readClears ?_)

theorem State.Kept.vfRead {s t : State} {fn off : Nat} (h : s.Kept t) : s.Kept ((State.vfRead t fn off).2) := by
  unfold State.vfRead
  with_reducible repeat' (first | assumption | refine .ite ?_ ?_ | refine .pfRead ?_ | refine .withLatch ?_ ?_ | with_unfolding_all exact Store.wf_write | split | (dsimp only; split))

theorem State.Kept.barRead {s t : State} {fn off size : Nat} (h : s.Kept t) : s.Kept (State.barRead t fn off size) := by
  unfold State.barRead
  with_reducible repeat' (first | assumption | refine .ite ?_ ?_ | refine .pfRead ?_ | refine .vfRead ?_ | refine .withLastRead ?_ | split)

theorem State.Kept.barAccess {s t : State} {off : Nat} {f : State → State} (hf : ∀ u, s.Kept u → s.Kept (f u)) (h : s.Kept t) : s.Kept (State.barAccess t off f) := by
  unfold State.barAccess
  with_reducible repeat' (first | assumption | refine hf _ ?_ | refine .ite ?_ ?_ | refine .viaHost ?_ ?_)

theorem State.Kept.barReadBy {s t : State} {off : Nat} {f : State → State} (hf : ∀ u, s.Kept u → s.Kept (f u)) (h : s.Kept t) : s.Kept (State.barReadBy t off f) := by
  unfold State.barReadBy
  with_reducible repeat' (first | assumption | refine hf _ ?_ | refine .ite ?_ ?_ | refine .barAccess ?_ ?_ | intro _ | split | (dsimp only; split))

theorem State.Kept.readBy {s t : State} {r : Reader} {off size : Nat} (h : s.Kept t) : s.Kept (State.readBy t r off size) := by
  unfold State.readBy
  with_reducible repeat' (first | assumption | refine .ite ?_ ?_ | refine .barReadBy ?_ ?_ | refine .barRead ?_ | refine .viaHost ?_ ?_ | refine .withLastRead ?_ | intro _ | split | (dsimp only; split))

theorem State.Kept.freeBelow {s t : State} {stream point : Nat} (h : s.Kept t) : s.Kept (State.freeBelow t stream point) := by
  unfold State.freeBelow
  with_reducible repeat' (first | assumption | refine .ite ?_ ?_ | refine .setCap ?_ | refine .release ?_)

theorem State.Kept.takeConfig {s t : State} {words : List (Nat × Word)} {parts : List (List Nat)} (h : s.Kept t) : s.Kept (State.takeConfig t words parts) := by
  unfold State.takeConfig
  with_reducible repeat' (first | assumption | refine .setWord ?_ | refine .each ?_ ?_ | refine .withHost ?_ | refine .clearModel ?_ | refine .setAkg ?_ | refine .showCapacity ?_ | intro _ | split | (dsimp only; split))

theorem State.Kept.takeMemory {s t : State} {cells : List (Nat × Byte)} (h : s.Kept t) : s.Kept (State.takeMemory t cells) :=
  State.Kept.withDram h (Store.wf_foldl (fun _ _ hc => Store.wf_write hc))

theorem State.Kept.takeRings {s t : State} {flights : List Flight} {entries : List Held} {heads : List (Nat × Nat)} {tails : List (Nat × Nat × Nat)} {release : List Nat} {standing : List (List Nat)} (h : s.Kept t) : s.Kept (State.takeRings t flights entries heads tails release standing) := by
  unfold State.takeRings
  with_reducible repeat' (first | assumption | refine .setAkg ?_ | refine .each ?_ ?_ | refine .freeBelow ?_ | intro _ | split | (dsimp only; split))

theorem State.Kept.takeRules {s t : State} {image : List (Nat × Byte)} (h : s.Kept t) : s.Kept (State.takeRules t image) := by
  unfold State.takeRules
  with_reducible repeat' (first | assumption | refine .put ?_ | refine .setRules ?_)

theorem State.Kept.takeItem {s t : State} {m : AkMsg} (h : s.Kept t) : s.Kept (State.takeItem t m) := by
  unfold State.takeItem
  with_reducible repeat' (first | assumption | refine .when_ ?_ ?_ | refine .mirroredWrite ?_ | refine .takeRules ?_ | refine .setModel ?_ | refine .setBank ?_ | refine .foldl ?_ ?_ | refine .refresh ?_ | refine .setAkg ?_ | refine .takeRings ?_ | refine .takeConfig ?_ | refine .takeMemory ?_ | intro _ | split | (dsimp only; split))

theorem State.Kept.takeSwapState {s t : State} {tails : List (Nat × Nat)} (h : s.Kept t) : s.Kept (State.takeSwapState t tails) := by
  unfold State.takeSwapState
  with_reducible repeat' (first | assumption | refine .each ?_ ?_ | refine .put ?_ | refine .sendPair ?_ | intro _ | split | (dsimp only; split))

theorem State.Kept.pairMsg {s t : State} {m : AkMsg} (h : s.Kept t) : s.Kept (State.pairMsg t m) := by
  unfold State.pairMsg
  with_reducible repeat' (first | assumption | refine .ite ?_ ?_ | refine .doorbell ?_ | refine .cqHead ?_ | refine .sqTail ?_ | refine .when_ ?_ ?_ | refine .setAkg ?_ | refine .peerWants ?_ | refine .peerFails ?_ | refine .leavePair ?_ | refine .takeSwapState ?_ | refine .swapDown ?_ | refine .swapUp ?_ | refine .takeItem ?_ | intro _ | split | (dsimp only; split))

theorem State.Kept.takeInbox {s t : State}  (h : s.Kept t) : s.Kept (State.takeInbox t) := by
  unfold State.takeInbox
  with_reducible repeat' (first | assumption | refine .ite ?_ ?_ | refine .onCore ?_ ?_ | refine .setAkg ?_ | refine .each ?_ ?_ | refine .pairMsg ?_ | intro _)

theorem State.Kept.pairStep {s t : State} {f : State → State} (hf : ∀ u, s.Kept u → s.Kept (f u)) (h : s.Kept t) : s.Kept (State.pairStep t f) := by
  unfold State.pairStep
  with_reducible repeat' (first | assumption | refine hf _ ?_ | refine .onCore ?_ ?_ | refine .takeInbox ?_ | intro _)

theorem State.Kept.shareSwept {s t : State} {slot : Nat} (h : s.Kept t) : s.Kept (State.shareSwept t slot) := by
  unfold State.shareSwept
  with_reducible repeat' (first | assumption | refine .sweepDone ?_ | intro _ | split | (dsimp only; split))

theorem State.Kept.systemMsg {s t : State} {src : Nat} {m : AkMsg} (h : s.Kept t) : s.Kept (State.systemMsg t src m) := by
  unfold State.systemMsg
  with_reducible repeat' (first | assumption | refine .ite ?_ ?_ | refine .setShare ?_ | refine .shareLoadCheck ?_ | refine .shareStart ?_ | refine .shareLead ?_ | refine .shareSwept ?_ | refine .shareDecided ?_ | intro _ | split | (dsimp only; split))

theorem State.Kept.deliver {s t : State} {p seq : Nat} {f : AkFrame} (h : s.Kept t) : s.Kept (State.deliver t p seq f) := by
  unfold State.deliver
  with_reducible repeat' (first | assumption | refine .ite ?_ ?_ | refine .setAkg ?_ | refine .takeInbox ?_ | refine .systemMsg ?_ | refine .sendOn ?_ | intro _ | split | (dsimp only; split))

theorem State.Kept.takeAck {s t : State} {p n : Nat} (h : s.Kept t) : s.Kept (State.takeAck t p n) := by
  unfold State.takeAck
  with_reducible repeat' (first | assumption | refine .mapPort ?_ | refine .drainPort ?_ | refine .when_ ?_ ?_ | refine .settleWaits ?_ | intro _)

theorem State.Kept.refuseFrame {s t : State} {p : Nat} (h : s.Kept t) : s.Kept (State.refuseFrame t p) := by
  unfold State.refuseFrame
  with_reducible repeat' (first | assumption | refine .ite ?_ ?_ | refine .bump ?_ | refine .mapPort ?_)

theorem State.Kept.takeData {s t : State} {p seq ack : Nat} {crcOk : Bool} {f : AkFrame} (h : s.Kept t) : s.Kept (State.takeData t p seq ack crcOk f) := by
  unfold State.takeData
  with_reducible repeat' (first | assumption | refine .ite ?_ ?_ | refine .refuseFrame ?_ | refine .mapPort ?_ | refine .ack ?_ | refine .takeAck ?_ | refine .deliver ?_)

theorem State.Kept.replayTimer {s t : State} {p : Nat} (h : s.Kept t) : s.Kept (State.replayTimer t p) := by
  unfold State.replayTimer
  with_reducible repeat' (first | assumption | refine .ite ?_ ?_ | refine .linkDown ?_ | refine .mapPort ?_ | refine .replayPort ?_)

theorem State.Kept.applySnapshot {s t : State}  (h : s.Kept t) : s.Kept (State.applySnapshot t) := by
  unfold State.applySnapshot
  with_reducible repeat' (first | assumption | refine .setAkg ?_ | refine .sendPair ?_ | intro _ | split | (dsimp only; split))

theorem State.Kept.snapshotTaken {s t : State} {name : Option Nat × Nat} (h : s.Kept t) : s.Kept (State.snapshotTaken t name) := by
  unfold State.snapshotTaken
  with_reducible repeat' (first | assumption | refine .ite ?_ ?_ | refine .setAkg ?_ | refine .trySwap ?_ | refine .mapRun ?_ | intro _ | split | (dsimp only; split))

theorem State.Kept.fromInbox {α : Type} {s t u : State} {p : AkMsg → Option α} {x : α} (e : t.fromInbox p = some (x, u)) (h : s.Kept t) :
    s.Kept u := by
  unfold State.fromInbox at e
  split at e
  · cases e
  · injection e with e
    injection e with _ e
    subst e
    exact h.setAkg

theorem State.Kept.setTap {s t : State} {psh : Bool} {t_1 : Tap} (h : s.Kept t) : s.Kept (State.setTap t psh t_1) := by
  unfold State.setTap
  with_reducible repeat' (first | assumption | refine .ite ?_ ?_ | refine .withDbg ?_)

theorem State.Kept.tapRead {s t : State} {psh : Bool} {space addr : Nat} (h : s.Kept t) : s.Kept ((State.tapRead t psh space addr).2.2) := by
  unfold State.tapRead
  with_reducible repeat' (first | assumption | refine .ite ?_ ?_ | refine .setWord ?_ | refine .pfRead ?_ | intro _ | split | (dsimp only; split))

theorem State.Kept.tapWrite {s t : State} {psh : Bool} {space addr : Nat} {v : Word} (h : s.Kept t) : s.Kept (State.tapWrite t psh space addr v).2 := by
  unfold State.tapWrite
  dsimp only
  repeat' split
  all_goals first
    | exact h
    | exact State.Kept.pshWrite h
    | exact State.Kept.pfWrite h
    | (rename_i e
       obtain ⟨_, _, e⟩ := Option.bind_eq_some_iff.mp e
       exact State.Kept.coreWrite e h)
    | (rename_i e
       exact State.Kept.coreMemWrite e h)

theorem State.Kept.launched {s t : State} {psh : Bool} {status : Nat} {data : Word} (h : s.Kept t) : s.Kept (State.launched t psh status data) := by
  unfold State.launched
  with_reducible repeat' (first | assumption | refine .setTap ?_)

theorem State.Kept.refusedByte {s t : State}  (h : s.Kept t) : s.Kept (State.refusedByte t) := by
  unfold State.refusedByte
  with_reducible repeat' (first | assumption | refine .withPmb ?_)

theorem State.Kept.commitTick {s t : State}  (h : s.Kept t) : s.Kept (State.commitTick t) := by
  unfold State.commitTick
  with_reducible repeat' (first | assumption | refine .ite ?_ ?_ | refine .recessCommit ?_ | intro _ | split | (dsimp only; split))

theorem State.Kept.imageTick {s t : State}  (h : s.Kept t) : s.Kept (State.imageTick t) := by
  unfold State.imageTick
  with_reducible repeat' (first | assumption | refine .ite ?_ ?_ | refine .toGld ?_ | refine .withSvc ?_ | intro _ | split | (dsimp only; split))

theorem State.Kept.idle {s t : State}  (h : s.Kept t) : s.Kept (State.idle t) := by
  unfold State.idle
  with_reducible repeat' (first | assumption | refine .withNow ?_ | refine .traceDrain ?_ | refine .commitTick ?_ | refine .imageTick ?_ | refine .mirrorOut ?_ | intro _ | split | (dsimp only; split))

end Sys2Proof.Machine
end

