-- ==== Sys2Proof/Laws/KeptCommands.lean ====
section
/-!
SUPPORT. Laws/KeptCommands.lean: each command that answers a next state keeps the canonical form and the queue.
-/
namespace Sys2Proof.Machine

open Sys2Proof

theorem State.Kept.setOperation {s t : State} {v : Nat} (h : s.Kept t) : s.Kept (State.setOperation t v) := by
  unfold State.setOperation
  with_reducible repeat' (first | assumption | refine .withPmb ?_ | intro _ | split | (dsimp only; split))

theorem State.Kept.countTrigger {s t : State}  (h : s.Kept t) : s.Kept (State.countTrigger t) := by
  unfold State.countTrigger
  with_reducible repeat' (first | assumption | refine .ite ?_ ?_ | refine .setPass ?_ | refine .bump ?_ | intro _ | split | (dsimp only; split))

theorem State.Kept.countDefault {s t : State}  (h : s.Kept t) : s.Kept (State.countDefault t) := by
  unfold State.countDefault
  with_reducible repeat' (first | assumption | refine .ite ?_ ?_ | refine .setPass ?_ | refine .bump ?_ | intro _ | split | (dsimp only; split))

theorem Out.Kept.rcIncrement {instants : Nat} {s : State} : Out.Kept s (execRcIncrement instants s) := by
  unfold execRcIncrement
  have h : s.Kept s := .refl
  with_reducible repeat' (first | refine .next ?_ | assumption | refine .ite ?_ ?_ | refine .gldSamples ?_ | refine .sendIncrements ?_)

theorem Out.Kept.flushPeriod {s : State} : Out.Kept s (execFlushPeriod s) := by
  unfold execFlushPeriod
  have h : s.Kept s := .refl
  with_reducible repeat' (first | refine .next ?_ | assumption | refine .ite ?_ ?_ | refine .trigger ?_)

theorem Out.Kept.flush {programOk : Bool} {s : State} : Out.Kept s (execFlush programOk s) := by
  unfold execFlush
  have h : s.Kept s := .refl
  with_reducible repeat' (first | refine .next ?_ | assumption | refine .ite ?_ ?_ | refine .runFlush ?_)

theorem Out.Kept.eraseDone {s : State} : Out.Kept s (execEraseDone s) := by
  unfold execEraseDone
  have h : s.Kept s := .refl
  with_reducible repeat' (first | refine .next ?_ | assumption | refine .viaSupply ?_ ?_ | refine .onCore ?_ ?_ | refine .eraseDone ?_ | refine .tryStart ?_ | intro _)

theorem Out.Kept.windowRetry {s : State} : Out.Kept s (execWindowRetry s) := by
  unfold execWindowRetry
  have h : s.Kept s := .refl
  with_reducible repeat' (first | refine .next ?_ | assumption | refine .ite ?_ ?_ | refine .pumpErase ?_ | refine .runFlush ?_)

theorem Out.Kept.flushNow {s : State} : Out.Kept s (execFlushNow s) := by
  unfold execFlushNow
  have h : s.Kept s := .refl
  with_reducible repeat' (first | refine .next ?_ | assumption | refine .viaPsh ?_ ?_ | refine .trigger ?_ | intro _)

theorem Out.Kept.freeze {s : State} : Out.Kept s (execFreeze s) := by
  unfold execFreeze
  have h : s.Kept s := .refl
  with_reducible repeat' (first | refine .next ?_ | assumption | refine .viaPsh ?_ ?_ | refine .freeze ?_ | intro _)

theorem Out.Kept.thaw {s : State} : Out.Kept s (execThaw s) := by
  unfold execThaw
  have h : s.Kept s := .refl
  with_reducible repeat' (first | refine .next ?_ | assumption | refine .viaPsh ?_ ?_ | refine .thaw ?_ | intro _)

theorem Out.Kept.freezeExpiry {s : State} : Out.Kept s (execFreezeExpiry s) := by
  unfold execFreezeExpiry
  have h : s.Kept s := .refl
  with_reducible repeat' (first | refine .next ?_ | assumption | refine .ite ?_ ?_ | refine .put ?_ | refine .endFreeze ?_)

theorem Out.Kept.nonceReq {s : State} : Out.Kept s (execNonceReq s) := by
  unfold execNonceReq
  have h : s.Kept s := .refl
  with_reducible repeat' (first | refine .next ?_ | assumption | refine .viaPsh ?_ ?_ | refine .drawNonce ?_ | intro _)

theorem Out.Kept.nonceExpiry {s : State} : Out.Kept s (execNonceExpiry s) := by
  unfold execNonceExpiry
  have h : s.Kept s := .refl
  with_reducible repeat' (first | refine .next ?_ | assumption | refine .put ?_ | refine .withCard ?_)

theorem Out.Kept.apply {s : State} : Out.Kept s (execApply s) := by
  unfold execApply
  have h : s.Kept s := .refl
  with_reducible repeat' (first | refine .next ?_ | assumption | refine .viaPsh ?_ ?_ | refine .submitToken ?_ | intro _)

theorem Out.Kept.tokenVerified {s : State} : Out.Kept s (execTokenVerified s) := by
  have h : s.Kept s := State.Kept.refl
  unfold execTokenVerified
  split
  · exact Out.Kept.next h
  · exact Out.Kept.ite
      (Out.Kept.ite (Out.Kept.next h.withCard.withCard) (Out.Kept.next (State.Kept.applyClear h.withCard)))
      (Out.Kept.next h.withCard.put)

theorem Out.Kept.rcSelect {value : Nat} {s : State} : Out.Kept s (execRcSelect value s) := by
  unfold execRcSelect
  have h : s.Kept s := .refl
  with_reducible repeat' (first | refine .next ?_ | assumption | refine .viaPsh ?_ ?_ | refine .rcdSelect ?_ | intro _)

theorem Out.Kept.rcdProfile {value : Nat} {s : State} : Out.Kept s (execRcdProfile value s) := by
  unfold execRcdProfile
  have h : s.Kept s := .refl
  with_reducible repeat' (first | refine .next ?_ | assumption | refine .viaPsh ?_ ?_ | refine .rcdProfileWrite ?_ | intro _)

theorem Out.Kept.mfrRcCtrl {fin : PmbEnd} {value : Nat} {s : State} : Out.Kept s (execMfrRcCtrl fin value s) := by
  unfold execMfrRcCtrl
  have h : s.Kept s := .refl
  with_reducible repeat' (first | refine .next ?_ | assumption | refine .pmbWrite ?_ ?_ | refine .rcdCtrl ?_ | intro _)

theorem Out.Kept.mfrRcStatus {x : PmbAcc} {s : State} : Out.Kept s (execMfrRcStatus x s) := by
  unfold execMfrRcStatus
  have h : s.Kept s := .refl
  with_reducible repeat' (first | refine .next ?_ | assumption | refine .setWord ?_ | refine .pmbAcc ?_ ?_ ?_ | refine .answer ?_ | intro _)

theorem Out.Kept.mfrRcSelect {x : PmbAcc} {s : State} : Out.Kept s (execMfrRcSelect x s) := by
  unfold execMfrRcSelect
  have h : s.Kept s := .refl
  with_reducible repeat' (first | refine .next ?_ | assumption | refine .ite ?_ ?_ | refine .pmbAcc ?_ ?_ ?_ | refine .answer ?_ | refine .withCard ?_ | refine .withPmb ?_ | intro _)

theorem Out.Kept.mfrRcRead {s : State} : Out.Kept s (execMfrRcRead s) := by
  unfold execMfrRcRead
  have h : s.Kept s := .refl
  with_reducible repeat' (first | refine .next ?_ | assumption | refine .pmbRead ?_ ?_ | refine .answer ?_ | refine .withPmb ?_ | intro _)

theorem Out.Kept.mfrRcOffset {x : PmbAcc} {s : State} : Out.Kept s (execMfrRcOffset x s) := by
  unfold execMfrRcOffset
  have h : s.Kept s := .refl
  with_reducible repeat' (first | refine .next ?_ | assumption | refine .ite ?_ ?_ | refine .pmbAcc ?_ ?_ ?_ | refine .answer ?_ | refine .withPmb ?_ | refine .nack ?_ | intro _)

theorem Out.Kept.mfrRcNonce {s : State} : Out.Kept s (execMfrRcNonce s) := by
  unfold execMfrRcNonce
  have h : s.Kept s := .refl
  with_reducible repeat' (first | refine .next ?_ | assumption | refine .pmbRead ?_ ?_ | refine .answer ?_ | intro _)

theorem Out.Kept.mfrRcClear {fin : PmbEnd} {token : List Byte} {s : State} : Out.Kept s (execMfrRcClear fin token s) := by
  unfold execMfrRcClear
  have h : s.Kept s := .refl
  with_reducible repeat' (first | refine .next ?_ | assumption | refine .ite ?_ ?_ | refine .pmbWrite ?_ ?_ | refine .submitToken ?_ | intro _)

theorem Out.Kept.mfrRcOpkey {fin : PmbEnd} {key : List Byte} {s : State} : Out.Kept s (execMfrRcOpkey fin key s) := by
  unfold execMfrRcOpkey
  have h : s.Kept s := .refl
  with_reducible repeat' (first | refine .next ?_ | assumption | refine .ite ?_ ?_ | refine .put ?_ | refine .pmbWrite ?_ ?_ | refine .cml6 ?_ | refine .withCard ?_ | intro _)

theorem Out.Kept.leverOpen {s : State} : Out.Kept s (execLeverOpen s) := by
  unfold execLeverOpen
  have h : s.Kept s := .refl
  with_reducible repeat' (first | refine .next ?_ | assumption | refine .ite ?_ ?_ | refine .put ?_ | refine .viaSupply ?_ ?_ | refine .slotEvent ?_ | refine .when_ ?_ ?_ | refine .withBrk ?_ | refine .setBk ?_ | intro _)

theorem Out.Kept.leverClose {s : State} : Out.Kept s (execLeverClose s) := by
  unfold execLeverClose
  have h : s.Kept s := .refl
  with_reducible repeat' (first | refine .next ?_ | assumption | refine .ite ?_ ?_ | refine .put ?_ | refine .viaSupply ?_ ?_ | refine .slotEvent ?_ | refine .withBrk ?_ | refine .qualify ?_ | intro _)

theorem Out.Kept.extractGraceEnd {s : State} : Out.Kept s (execExtractGraceEnd s) := by
  unfold execExtractGraceEnd
  have h : s.Kept s := .refl
  with_reducible repeat' (first | refine .next ?_ | assumption | refine .ite ?_ ?_ | refine .viaSupply ?_ ?_ | refine .withBrk ?_ | refine .orderlyOff ?_ | intro _)

theorem Out.Kept.powerOff {s : State} : Out.Kept s (execPowerOff s) := by
  unfold execPowerOff
  have h : s.Kept s := .refl
  with_reducible repeat' (first | refine .next ?_ | assumption | refine .viaPsh ?_ ?_ | refine .orderlyOff ?_ | intro _)

theorem Out.Kept.qualifyComplete {s : State} : Out.Kept s (execQualifyComplete s) := by
  unfold execQualifyComplete
  have h : s.Kept s := .refl
  with_reducible repeat' (first | refine .next ?_ | assumption | refine .ite ?_ ?_ | refine .viaImage ?_ ?_ | refine .sampleSlot ?_ | refine .slotDiffer ?_ | refine .withBrk ?_ | refine .qualify ?_ | refine .tryStart ?_ | intro _ | split | (dsimp only; split))

theorem Out.Kept.qualifyBreak {s : State} : Out.Kept s (execQualifyBreak s) := by
  unfold execQualifyBreak
  have h : s.Kept s := .refl
  with_reducible repeat' (first | refine .next ?_ | assumption | refine .ite ?_ ?_ | refine .viaSupply ?_ ?_ | refine .withBrk ?_ | refine .setBk ?_ | intro _ | split | (dsimp only; split))

theorem Out.Kept.psh2PowerOn {s : State} : Out.Kept s (execPsh2PowerOn s) := by
  unfold execPsh2PowerOn
  have h : s.Kept s := .refl
  with_reducible repeat' (first | refine .next ?_ | assumption | refine .darkTray ?_ | refine .abandon ?_ | refine .dropStaged ?_ | refine .recorderStart ?_ | refine .bootPsh ?_ | refine .showFw ?_)

theorem Out.Kept.psh2ImageRun {s : State} : Out.Kept s (execPsh2ImageRun s) := by
  unfold execPsh2ImageRun
  have h : s.Kept s := .refl
  with_reducible repeat' (first | refine .next ?_ | assumption | refine .ite ?_ ?_ | refine .withSvc ?_ | refine .pshStarts ?_ | refine .withSec ?_ | refine .restartSeq ?_ | refine .showFw ?_ | refine .activate ?_ | refine .coldTail ?_ | refine .sampleSlot ?_ | refine .slotDiffer ?_ | refine .qualify ?_)

theorem Out.Kept.psh2SupplyLoss {s : State} : Out.Kept s (execPsh2SupplyLoss s) := by
  unfold execPsh2SupplyLoss
  have h : s.Kept s := .refl
  with_reducible repeat' (first | refine .next ?_ | assumption | refine .ite ?_ ?_ | refine .darkTray ?_)

theorem Out.Kept.mfrSlotStatus {x : PmbAcc} {s : State} : Out.Kept s (execMfrSlotStatus x s) := by
  unfold execMfrSlotStatus
  have h : s.Kept s := .refl
  with_reducible repeat' (first | refine .next ?_ | assumption | refine .setWord ?_ | refine .pmbAcc ?_ ?_ ?_ | refine .answer ?_ | refine .alertRefresh ?_ | intro _)

theorem Out.Kept.plRegulatorUp {s : State} : Out.Kept s (execPlRegulatorUp s) := by
  unfold execPlRegulatorUp
  have h : s.Kept s := .refl
  with_reducible repeat' (first | refine .next ?_ | assumption | refine .ite ?_ ?_ | refine .withBrk ?_)

theorem Out.Kept.powerGood {s : State} : Out.Kept s (execPowerGood s) := by
  unfold execPowerGood
  have h : s.Kept s := .refl
  with_reducible repeat' (first | refine .next ?_ | assumption | refine .ite ?_ ?_ | refine .setBk ?_ | refine .trigger ?_ | refine .withSvc ?_)

theorem Out.Kept.dischargeComplete {s : State} : Out.Kept s (execDischargeComplete s) := by
  unfold execDischargeComplete
  have h : s.Kept s := .refl
  with_reducible repeat' (first | refine .next ?_ | assumption | refine .ite ?_ ?_ | refine .withBrk ?_ | refine .tryStart ?_)

theorem Out.Kept.soaInrush {s : State} : Out.Kept s (execSoaInrush s) := by
  unfold execSoaInrush
  have h : s.Kept s := .refl
  with_reducible repeat' (first | refine .next ?_ | assumption | refine .ite ?_ ?_ | refine .trip ?_)

theorem Out.Kept.soaLimit {s : State} : Out.Kept s (execSoaLimit s) := by
  unfold execSoaLimit
  have h : s.Kept s := .refl
  with_reducible repeat' (first | refine .next ?_ | assumption | refine .trip ?_)

theorem Out.Kept.fastTrip {rules : List Nat} {s : State} : Out.Kept s (execFastTrip rules s) := by
  unfold execFastTrip
  have h : s.Kept s := .refl
  with_reducible repeat' (first | refine .next ?_ | assumption | refine .ite ?_ ?_ | refine .each ?_ ?_ | refine .markFired ?_ | refine .put ?_ | refine .trip ?_ | refine .ruleAction ?_ | intro _ | split | (dsimp only; split))

theorem Out.Kept.reverseCurrent {s : State} : Out.Kept s (execReverseCurrent s) := by
  unfold execReverseCurrent
  have h : s.Kept s := .refl
  with_reducible repeat' (first | refine .next ?_ | assumption | refine .ite ?_ ?_ | refine .powerFail ?_)

theorem Out.Kept.ruleEvaluation {t : EvalTick} {s : State} : Out.Kept s (execRuleEvaluation t s) := by
  unfold execRuleEvaluation
  have h : s.Kept s := .refl
  with_reducible repeat' (first | refine .next ?_ | assumption | refine .viaSupply ?_ ?_ | refine .fastTick ?_ | refine .powerTick ?_ | refine .tempTick ?_ | intro _ | split | (dsimp only; split))

theorem Out.Kept.ruleFires {rules : List Nat} {s : State} : Out.Kept s (execRuleFires rules s) := by
  unfold execRuleFires
  have h : s.Kept s := .refl
  with_reducible repeat' (first | refine .next ?_ | assumption | refine .viaSupply ?_ ?_ | refine .fireRules ?_ | intro _)

theorem Out.Kept.confirmWindowEnd {rules : List Nat} {s : State} : Out.Kept s (execConfirmWindowEnd rules s) := by
  unfold execConfirmWindowEnd
  have h : s.Kept s := .refl
  with_reducible repeat' (first | refine .next ?_ | assumption | refine .viaSupply ?_ ?_ | refine .confirmEnd ?_ | intro _)

theorem Out.Kept.limitActionRelease {n : Nat} {s : State} : Out.Kept s (execLimitActionRelease n s) := by
  unfold execLimitActionRelease
  have h : s.Kept s := .refl
  with_reducible repeat' (first | refine .next ?_ | assumption | refine .ite ?_ ?_ | refine .withBrk ?_)

theorem Out.Kept.backoffEnd {s : State} : Out.Kept s (execBackoffEnd s) := by
  unfold execBackoffEnd
  have h : s.Kept s := .refl
  with_reducible repeat' (first | refine .next ?_ | assumption | refine .ite ?_ ?_ | refine .qualify ?_)

theorem Out.Kept.retryClear {s : State} : Out.Kept s (execRetryClear s) := by
  unfold execRetryClear
  have h : s.Kept s := .refl
  with_reducible repeat' (first | refine .next ?_ | assumption | refine .ite ?_ ?_ | refine .put ?_)

theorem Out.Kept.clearLatch {s : State} : Out.Kept s (execClearLatch s) := by
  unfold execClearLatch
  have h : s.Kept s := .refl
  with_reducible repeat' (first | refine .next ?_ | assumption | refine .viaPsh ?_ ?_ | refine .clearLatch ?_ | intro _)

theorem Out.Kept.clearFaults {fin : PmbEnd} {s : State} : Out.Kept s (execClearFaults fin s) := by
  unfold execClearFaults
  have h : s.Kept s := .refl
  with_reducible repeat' (first | refine .next ?_ | assumption | refine .pmbWrite ?_ ?_ | refine .withPmb ?_ | refine .cml7 ?_ | refine .cml6 ?_ | refine .cml5 ?_ | refine .alertRefresh ?_ | refine .clearLatch ?_ | intro _)

theorem Out.Kept.shedRequest {s : State} : Out.Kept s (execShedRequest s) := by
  unfold execShedRequest
  have h : s.Kept s := .refl
  with_reducible repeat' (first | refine .next ?_ | assumption | refine .ite ?_ ?_ | refine .withSvc ?_ | refine .calStop ?_)

theorem Out.Kept.shedRelease {s : State} : Out.Kept s (execShedRelease s) := by
  unfold execShedRelease
  have h : s.Kept s := .refl
  with_reducible repeat' (first | refine .next ?_ | assumption | refine .ite ?_ ?_ | refine .put ?_ | refine .withBrk ?_ | refine .sendNotice ?_)

theorem Out.Kept.stepNotice {id amplitude start duration : Nat} {s : State} : Out.Kept s (execStepNotice id amplitude start duration s) := by
  unfold execStepNotice
  have h : s.Kept s := .refl
  with_reducible repeat' (first | refine .next ?_ | assumption | refine .ite ?_ ?_ | refine .viaImage ?_ ?_ | refine .withGpGld ?_ | refine .judgeNotice ?_ | intro _ | split | (dsimp only; split))

theorem Out.Kept.stepNoticeAnswer {id : Nat} {accepted : Bool} {s : State} : Out.Kept s (execStepNoticeAnswer id accepted s) := by
  unfold execStepNoticeAnswer
  have h : s.Kept s := .refl
  with_reducible repeat' (first | refine .next ?_ | assumption | refine .ite ?_ ?_ | refine .withGpPsh ?_ | refine .answer ?_ | refine .takeAnswer ?_)

theorem Out.Kept.stepStart {id : Nat} {s : State} : Out.Kept s (execStepStart id s) := by
  unfold execStepStart
  have h : s.Kept s := .refl
  with_reducible repeat' (first | refine .next ?_ | assumption | refine .ite ?_ ?_ | refine .withSvc ?_ | refine .releaseDepth ?_ | refine .startRun ?_ | intro _ | split | (dsimp only; split))

theorem Out.Kept.stepNoticeRetry {id : Nat} {s : State} : Out.Kept s (execStepNoticeRetry id s) := by
  unfold execStepNoticeRetry
  have h : s.Kept s := .refl
  with_reducible repeat' (first | refine .next ?_ | assumption | refine .ite ?_ ?_ | refine .withSvc ?_ | refine .toPsh ?_ | intro _ | split | (dsimp only; split))

theorem Out.Kept.noticeClose {id : Nat} {s : State} : Out.Kept s (execNoticeClose id s) := by
  unfold execNoticeClose
  have h : s.Kept s := .refl
  with_reducible repeat' (first | refine .next ?_ | assumption | refine .withBrk ?_)

theorem Out.Kept.pwrProfile {value : Nat} {s : State} : Out.Kept s (execPwrProfile value s) := by
  unfold execPwrProfile
  have h : s.Kept s := .refl
  with_reducible repeat' (first | refine .next ?_ | assumption | refine .viaPsh ?_ ?_ | refine .pwrProfileWrite ?_ | intro _)

theorem Out.Kept.ruleCommit {path : MgmtPath} {alsoReload : Bool} {s : State} : Out.Kept s (execRuleCommit path alsoReload s) := by
  unfold execRuleCommit
  have h : s.Kept s := .refl
  with_reducible repeat' (first | refine .next ?_ | assumption | refine .commitRules ?_ | refine .when_ ?_ ?_ | refine .reloadRules ?_ | refine .viaPsh ?_ ?_ | refine .viaImage ?_ ?_ | intro _ | split | (dsimp only; split))

theorem Out.Kept.ruleReload {path : MgmtPath} {s : State} : Out.Kept s (execRuleReload path s) := by
  unfold execRuleReload
  have h : s.Kept s := .refl
  with_reducible repeat' (first | refine .next ?_ | assumption | refine .viaPsh ?_ ?_ | refine .reloadRules ?_ | refine .viaImage ?_ ?_ | intro _ | split | (dsimp only; split))

theorem Out.Kept.powerFail {s : State} : Out.Kept s (execPowerFail s) := by
  unfold execPowerFail
  have h : s.Kept s := .refl
  with_reducible repeat' (first | refine .next ?_ | assumption | refine .viaSupply ?_ ?_ | refine .powerFail ?_ | intro _ | split)

theorem Out.Kept.minOffEnd {s : State} : Out.Kept s (execMinOffEnd s) := by
  unfold execMinOffEnd
  have h : s.Kept s := .refl
  with_reducible repeat' (first | refine .next ?_ | assumption | refine .ite ?_ ?_ | refine .withBrk ?_ | refine .qualify ?_ | refine .tryStart ?_)

theorem Out.Kept.operationOn {fin : Option PmbEnd} {s : State} : Out.Kept s (execOperationOn fin s) := by
  unfold execOperationOn
  have h : s.Kept s := .refl
  with_reducible repeat' (first | refine .next ?_ | assumption | refine .ite ?_ ?_ | refine .pmbRead ?_ ?_ | refine .answer ?_ | refine .pmbWrite ?_ ?_ | refine .setOperation ?_ | refine .withBrk ?_ | refine .qualify ?_ | intro _ | split | (dsimp only; split))

theorem Out.Kept.operationSoftOff {fin : PmbEnd} {s : State} : Out.Kept s (execOperationSoftOff fin s) := by
  unfold execOperationSoftOff
  have h : s.Kept s := .refl
  with_reducible repeat' (first | refine .next ?_ | assumption | refine .pmbWrite ?_ ?_ | refine .setOperation ?_ | refine .orderlyOff ?_ | intro _ | split | (dsimp only; split))

theorem Out.Kept.operationImmediateOff {fin : PmbEnd} {s : State} : Out.Kept s (execOperationImmediateOff fin s) := by
  unfold execOperationImmediateOff
  have h : s.Kept s := .refl
  with_reducible repeat' (first | refine .next ?_ | assumption | refine .pmbWrite ?_ ?_ | refine .setOperation ?_ | refine .immediateOff ?_ | intro _ | split | (dsimp only; split))

theorem Out.Kept.statusWord {s : State} : Out.Kept s (execStatusWord s) := by
  unfold execStatusWord
  have h : s.Kept s := .refl
  with_reducible repeat' (first | refine .next ?_ | assumption | refine .ite ?_ ?_ | refine .answer ?_)

theorem Out.Kept.statusInput {s : State} : Out.Kept s (execStatusInput s) := by
  unfold execStatusInput
  have h : s.Kept s := .refl
  with_reducible repeat' (first | refine .next ?_ | assumption | refine .ite ?_ ?_ | refine .pmbRead ?_ ?_ | refine .answer ?_ | intro _)

theorem Out.Kept.statusCml {s : State} : Out.Kept s (execStatusCml s) := by
  unfold execStatusCml
  have h : s.Kept s := .refl
  with_reducible repeat' (first | refine .next ?_ | assumption | refine .ite ?_ ?_ | refine .pmbRead ?_ ?_ | refine .answer ?_ | refine .cml7 ?_ | refine .cml6 ?_ | refine .cml5 ?_ | intro _)

theorem Out.Kept.mfrPowerState {s : State} : Out.Kept s (execMfrPowerState s) := by
  unfold execMfrPowerState
  have h : s.Kept s := .refl
  with_reducible repeat' (first | refine .next ?_ | assumption | refine .pmbRead ?_ ?_ | refine .answer ?_ | intro _)

theorem Out.Kept.mfrBreakerProfile {x : PmbAcc} {s : State} : Out.Kept s (execMfrBreakerProfile x s) := by
  unfold execMfrBreakerProfile
  have h : s.Kept s := .refl
  with_reducible repeat' (first | refine .next ?_ | assumption | refine .pmbAcc ?_ ?_ ?_ | refine .answer ?_ | refine .pwrProfileWrite ?_ | refine .offend ?_ | intro _)

theorem Out.Kept.mfrExpertUnlock {fin : PmbEnd} {key : Nat} {s : State} : Out.Kept s (execMfrExpertUnlock fin key s) := by
  unfold execMfrExpertUnlock
  have h : s.Kept s := .refl
  with_reducible repeat' (first | refine .next ?_ | assumption | refine .ite ?_ ?_ | refine .pmbWrite ?_ ?_ | refine .unlockKey ?_ | intro _)

theorem Out.Kept.mfrRegAddr {x : PmbAcc} {s : State} : Out.Kept s (execMfrRegAddr x s) := by
  unfold execMfrRegAddr
  have h : s.Kept s := .refl
  with_reducible repeat' (first | refine .next ?_ | assumption | refine .ite ?_ ?_ | refine .pmbAcc ?_ ?_ ?_ | refine .answer ?_ | refine .withPmb ?_ | refine .nack ?_ | intro _)

theorem Out.Kept.mfrRegData {x : PmbAcc} {s : State} : Out.Kept s (execMfrRegData x s) := by
  unfold execMfrRegData
  have h : s.Kept s := .refl
  with_reducible repeat' (first | refine .next ?_ | assumption | refine .pmbAcc ?_ ?_ ?_ | refine .pmbWordRead ?_ | refine .answer ?_ | refine .pwrWrite ?_ | intro _)

theorem Out.Kept.psh2RegisterWrite {off value : Nat} {s : State} : Out.Kept s (execPsh2RegisterWrite off value s) := by
  unfold execPsh2RegisterWrite
  have h : s.Kept s := .refl
  with_reducible repeat' (first | refine .next ?_ | assumption | refine .ite ?_ ?_ | refine .viaPsh ?_ ?_ | refine .pshWrite ?_ | intro _)

theorem Out.Kept.readVin {s : State} : Out.Kept s (execReadVin s) := by
  unfold execReadVin
  have h : s.Kept s := .refl
  with_reducible repeat' (first | refine .next ?_ | assumption | refine .pmbRead ?_ ?_ | refine .answer ?_ | intro _)

theorem Out.Kept.readIin {s : State} : Out.Kept s (execReadIin s) := by
  unfold execReadIin
  have h : s.Kept s := .refl
  with_reducible repeat' (first | refine .next ?_ | assumption | refine .pmbRead ?_ ?_ | refine .answer ?_ | intro _)

theorem Out.Kept.readPin {s : State} : Out.Kept s (execReadPin s) := by
  unfold execReadPin
  have h : s.Kept s := .refl
  with_reducible repeat' (first | refine .next ?_ | assumption | refine .pmbRead ?_ ?_ | refine .answer ?_ | intro _)

theorem Out.Kept.conversionEnd {a b : Option Int} {dt : Nat} {s : State} : Out.Kept s (execConversionEnd a b dt s) := by
  unfold execConversionEnd
  have h : s.Kept s := .refl
  with_reducible repeat' (first | refine .next ?_ | assumption | refine .ite ?_ ?_ | refine .endConv ?_ | refine .plausCheck ?_ | refine .pairResult ?_ | refine .kickBoth ?_ | refine .mirrorOut ?_ | intro _ | split | (dsimp only; split))

theorem Out.Kept.passStart {s : State} : Out.Kept s (execPassStart s) := by
  unfold execPassStart
  have h : s.Kept s := .refl
  with_reducible repeat' (first | refine .next ?_ | assumption | refine .ite ?_ ?_ | refine .beginPass ?_)

theorem Out.Kept.pairTrigger {s : State} : Out.Kept s (execPairTrigger s) := by
  unfold execPairTrigger
  have h : s.Kept s := .refl
  with_reducible repeat' (first | refine .next ?_ | assumption | refine .ite ?_ ?_ | refine .withMeter ?_ | split)

theorem Out.Kept.meterInterval {s : State} : Out.Kept s (execMeterInterval s) := by
  unfold execMeterInterval
  have h : s.Kept s := .refl
  with_reducible repeat' (first | refine .next ?_ | assumption | refine .ite ?_ ?_ | refine .viaSupply ?_ ?_ | refine .tenth ?_ | refine .withMeter ?_ | refine .meterSamples ?_ | intro _ | split | (dsimp only; split))

theorem Out.Kept.accSnap {alsoClear : Bool} {s : State} : Out.Kept s (execAccSnap alsoClear s) := by
  unfold execAccSnap
  have h : s.Kept s := .refl
  with_reducible repeat' (first | refine .next ?_ | assumption | refine .viaPsh ?_ ?_ | refine .accSnap ?_ | refine .when_ ?_ ?_ | refine .accClear ?_ | intro _)

theorem Out.Kept.accClear {s : State} : Out.Kept s (execAccClear s) := by
  unfold execAccClear
  have h : s.Kept s := .refl
  with_reducible repeat' (first | refine .next ?_ | assumption | refine .viaPsh ?_ ?_ | refine .accClear ?_ | intro _)

theorem Out.Kept.minmaxClear {s : State} : Out.Kept s (execMinmaxClear s) := by
  unfold execMinmaxClear
  have h : s.Kept s := .refl
  with_reducible repeat' (first | refine .next ?_ | assumption | refine .viaPsh ?_ ?_ | refine .minmaxClear ?_ | intro _)

theorem Out.Kept.calStart {s : State} : Out.Kept s (execCalStart s) := by
  unfold execCalStart
  have h : s.Kept s := .refl
  with_reducible repeat' (first | refine .next ?_ | assumption | refine .viaPsh ?_ ?_ | refine .calStart ?_ | intro _)

theorem Out.Kept.mfrAdcCal {fin : PmbEnd} {s : State} : Out.Kept s (execMfrAdcCal fin s) := by
  unfold execMfrAdcCal
  have h : s.Kept s := .refl
  with_reducible repeat' (first | refine .next ?_ | assumption | refine .pmbWrite ?_ ?_ | refine .calStart ?_ | intro _)

theorem Out.Kept.calibrationEnd {offA gainA offB gainB : Int} {s : State} : Out.Kept s (execCalibrationEnd offA gainA offB gainB s) := by
  unfold execCalibrationEnd
  have h : s.Kept s := .refl
  with_reducible repeat' (first | refine .next ?_ | assumption | refine .ite ?_ ?_ | refine .put ?_ | refine .stopConvs ?_ | refine .calRefuse ?_)

theorem Out.Kept.calValueWrite {conv : Nat} {isGain : Bool} {value : Nat} {s : State} : Out.Kept s (execCalValueWrite conv isGain value s) := by
  unfold execCalValueWrite
  have h : s.Kept s := .refl
  with_reducible repeat' (first | refine .next ?_ | exact .fault | assumption | refine .ite ?_ ?_ | refine .viaPsh ?_ ?_ | refine .pshWrite ?_ | intro _)

theorem Out.Kept.refBufEnable {s : State} : Out.Kept s (execRefBufEnable s) := by
  unfold execRefBufEnable
  have h : s.Kept s := .refl
  with_reducible repeat' (first | refine .next ?_ | assumption | refine .viaPsh ?_ ?_ | refine .when_ ?_ ?_ | refine .refEnable ?_ | intro _)

theorem Out.Kept.refReady {s : State} : Out.Kept s (execRefReady s) := by
  unfold execRefReady
  have h : s.Kept s := .refl
  with_reducible repeat' (first | refine .next ?_ | assumption | refine .ite ?_ ?_ | refine .withMeter ?_ | refine .put ?_ | refine .when_ ?_ ?_ | refine .calStart ?_ | refine .kickBoth ?_ | intro _ | split | (dsimp only; split))

theorem Out.Kept.refBufClear {s : State} : Out.Kept s (execRefBufClear s) := by
  unfold execRefBufClear
  have h : s.Kept s := .refl
  with_reducible repeat' (first | refine .next ?_ | assumption | refine .viaPsh ?_ ?_ | refine .when_ ?_ ?_ | refine .refClear ?_ | intro _)

theorem Out.Kept.lpPassInterval {s : State} : Out.Kept s (execLpPassInterval s) := by
  unfold execLpPassInterval
  have h : s.Kept s := .refl
  with_reducible repeat' (first | refine .next ?_ | assumption | refine .ite ?_ ?_ | refine .beginPass ?_)

theorem Out.Kept.lpGateOffWrite {on : Bool} {s : State} : Out.Kept s (execLpGateOffWrite on s) := by
  unfold execLpGateOffWrite
  have h : s.Kept s := .refl
  with_reducible repeat' (first | refine .next ?_ | assumption | refine .viaPsh ?_ ?_ | refine .when_ ?_ ?_ | refine .putFlag ?_ | refine .lpChange ?_ | intro _)

theorem Out.Kept.pwrAdcProfile {value : Nat} {s : State} : Out.Kept s (execPwrAdcProfile value s) := by
  unfold execPwrAdcProfile
  have h : s.Kept s := .refl
  with_reducible repeat' (first | refine .next ?_ | assumption | refine .viaPsh ?_ ?_ | refine .adcProfileWrite ?_ | intro _)

theorem Out.Kept.mfrAdcProfile {x : PmbAcc} {s : State} : Out.Kept s (execMfrAdcProfile x s) := by
  unfold execMfrAdcProfile
  have h : s.Kept s := .refl
  with_reducible repeat' (first | refine .next ?_ | assumption | refine .pmbAcc ?_ ?_ ?_ | refine .answer ?_ | refine .adcProfileWrite ?_ | refine .offend ?_ | intro _)

theorem Out.Kept.pwrAdcUrgent {conv value : Nat} {s : State} : Out.Kept s (execPwrAdcUrgent conv value s) := by
  unfold execPwrAdcUrgent
  have h : s.Kept s := .refl
  with_reducible repeat' (first | refine .next ?_ | exact .fault | assumption | refine .ite ?_ ?_ | refine .viaPsh ?_ ?_ | refine .urgentWrite ?_ | intro _)

theorem Out.Kept.mfrMeterAddr {x : PmbAcc} {s : State} : Out.Kept s (execMfrMeterAddr x s) := by
  unfold execMfrMeterAddr
  have h : s.Kept s := .refl
  with_reducible repeat' (first | refine .next ?_ | assumption | refine .ite ?_ ?_ | refine .pmbAcc ?_ ?_ ?_ | refine .answer ?_ | refine .withPmb ?_ | refine .nack ?_ | intro _)

theorem Out.Kept.mfrMeterData {x : PmbAcc} {s : State} : Out.Kept s (execMfrMeterData x s) := by
  unfold execMfrMeterData
  have h : s.Kept s := .refl
  with_reducible repeat' (first | refine .next ?_ | assumption | refine .pmbAcc ?_ ?_ ?_ | refine .pmbWordRead ?_ | refine .answer ?_ | refine .pwrWrite ?_ | intro _)

theorem Out.Kept.mfrReadTemps {s : State} : Out.Kept s (execMfrReadTemps s) := by
  unfold execMfrReadTemps
  have h : s.Kept s := .refl
  with_reducible repeat' (first | refine .next ?_ | assumption | refine .pmbRead ?_ ?_ | refine .answer ?_ | intro _)

theorem Out.Kept.mfrReadEnergy {s : State} : Out.Kept s (execMfrReadEnergy s) := by
  unfold execMfrReadEnergy
  have h : s.Kept s := .refl
  with_reducible repeat' (first | refine .next ?_ | assumption | refine .pmbRead ?_ ?_ | refine .accSnap ?_ | refine .answer ?_ | intro _)

theorem Out.Kept.sqDoorbell {fn n value : Nat} {s : State} : Out.Kept s (execSqDoorbell fn n value s) := by
  unfold execSqDoorbell
  have h : s.Kept s := .refl
  with_reducible repeat' (first | refine .next ?_ | refine .need ?_ | assumption | refine .viaHost ?_ ?_ | refine .doorbell ?_ | intro _)

theorem Out.Kept.cqDoorbell {fn n value : Nat} {s : State} : Out.Kept s (execCqDoorbell fn n value s) := by
  unfold execCqDoorbell
  have h : s.Kept s := .refl
  with_reducible repeat' (first | refine .next ?_ | refine .need ?_ | assumption | refine .viaHost ?_ ?_ | refine .doorbell ?_ | intro _)

theorem Out.Kept.descriptorFetch {data : Option (List Byte)} {s : State} : Out.Kept s (execDescriptorFetch data s) := by
  unfold execDescriptorFetch
  have h : s.Kept s := .refl
  with_reducible repeat' (first | refine .next ?_ | assumption | refine .ite ?_ ?_ | refine .when_ ?_ ?_ | refine .bump ?_ | refine .sqError ?_ | refine .fetchDesc ?_ | intro _ | split | (dsimp only; split))

theorem Out.Kept.fence {id : Nat} {s : State} : Out.Kept s (execFence id s) := by
  unfold execFence
  have h : s.Kept s := .refl
  with_reducible repeat' (first | refine .next ?_ | assumption | refine .ite ?_ ?_ | refine .finish ?_ | intro _ | split | (dsimp only; split))

theorem Out.Kept.nop {id : Nat} {s : State} : Out.Kept s (execNop id s) := by
  unfold execNop
  have h : s.Kept s := .refl
  with_reducible repeat' (first | refine .next ?_ | assumption | refine .finish ?_ | split)

theorem Out.Kept.completionWrite {cq : Nat} {parityOk : Bool} {s : State} : Out.Kept s (execCompletionWrite cq parityOk s) := by
  unfold execCompletionWrite
  have h : s.Kept s := .refl
  with_reducible repeat' (first | refine .next ?_ | refine .need ?_ | assumption | refine .ite ?_ ?_ | refine .onCore ?_ ?_ | refine .completionWrite ?_ | intro _ | split | (dsimp only; split))

theorem Out.Kept.coalesceTimer {cq : Nat} {s : State} : Out.Kept s (execCoalesceTimer cq s) := by
  unfold execCoalesceTimer
  have h : s.Kept s := .refl
  with_reducible repeat' (first | refine .next ?_ | refine .need ?_ | assumption | refine .ite ?_ ?_ | refine .signalCq ?_)

theorem Out.Kept.msixUnmask {fn : Nat} {change : MsixChange} {s : State} : Out.Kept s (execMsixUnmask fn change s) := by
  unfold execMsixUnmask
  have h : s.Kept s := .refl
  with_reducible repeat' (first | refine .next ?_ | refine .need ?_ | assumption | refine .ite ?_ ?_ | refine .viaHost ?_ ?_ | refine .maskVec ?_ | refine .cfgSet ?_ | intro _ | split | (dsimp only; split))

theorem Out.Kept.sqCfgWrite {fn n value : Nat} {s : State} : Out.Kept s (execSqCfgWrite fn n value s) := by
  unfold execSqCfgWrite
  have h : s.Kept s := .refl
  with_reducible repeat' (first | refine .next ?_ | refine .need ?_ | assumption | refine .ringReg ?_ ?_ | refine .cfgWrite ?_ ?_ | refine .sqCfgWrite ?_ | intro _)

theorem Out.Kept.cqCfgWrite {fn n value : Nat} {s : State} : Out.Kept s (execCqCfgWrite fn n value s) := by
  unfold execCqCfgWrite
  have h : s.Kept s := .refl
  with_reducible repeat' (first | refine .next ?_ | refine .need ?_ | assumption | refine .ringReg ?_ ?_ | refine .cfgWrite ?_ ?_ | refine .cqCfgWrite ?_ | intro _)

theorem Out.Kept.sqErrorClear {fn n : Nat} {s : State} : Out.Kept s (execSqErrorClear fn n s) := by
  unfold execSqErrorClear
  have h : s.Kept s := .refl
  with_reducible repeat' (first | refine .next ?_ | refine .need ?_ | assumption | refine .ringReg ?_ ?_ | refine .sqErrorClear ?_ | intro _)

theorem Out.Kept.cqErrorClear {fn n : Nat} {s : State} : Out.Kept s (execCqErrorClear fn n s) := by
  unfold execCqErrorClear
  have h : s.Kept s := .refl
  with_reducible repeat' (first | refine .next ?_ | refine .need ?_ | assumption | refine .ringReg ?_ ?_ | refine .cqErrorClear ?_ | intro _)

theorem Out.Kept.partCommit {s : State} : Out.Kept s (execPartCommit s) := by
  unfold execPartCommit
  have h : s.Kept s := .refl
  with_reducible repeat' (first | refine .next ?_ | assumption | refine .hostCfg ?_ ?_ | refine .commitWhole ?_ | intro _)

theorem Out.Kept.expertUnlock {block key : Nat} {s : State} : Out.Kept s (execExpertUnlock block key s) := by
  unfold execExpertUnlock
  have h : s.Kept s := .refl
  with_reducible repeat' (first | refine .next ?_ | refine .need ?_ | assumption | refine .ite ?_ ?_ | refine .viaPsh ?_ ?_ | refine .unlockKey ?_ | refine .viaHost ?_ ?_ | intro _)

theorem Out.Kept.hifProfile {value : Nat} {s : State} : Out.Kept s (execHifProfile value s) := by
  unfold execHifProfile
  have h : s.Kept s := .refl
  with_reducible repeat' (first | refine .next ?_ | assumption | refine .hostCfg ?_ ?_ | refine .hifProfileWrite ?_ | intro _)

theorem Out.Kept.hpsTablePublish {id : Nat} {data : Option (List Byte)} {s : State} : Out.Kept s (execHpsTablePublish id data s) := by
  unfold execHpsTablePublish
  have h : s.Kept s := .refl
  with_reducible repeat' (first | refine .next ?_ | assumption | refine .ite ?_ ?_ | refine .runFlight ?_ | refine .setPass ?_ | refine .showPublish ?_ | refine .traceIn ?_ | refine .setBank ?_ | refine .finish ?_ | refine .shadowDrain ?_ | intro _ | split | (dsimp only; split))

theorem Out.Kept.publishFlip {s : State} : Out.Kept s (execPublishFlip s) := by
  unfold execPublishFlip
  have h : s.Kept s := .refl
  with_reducible repeat' (first | refine .next ?_ | assumption | refine .ite ?_ ?_ | refine .put ?_ | refine .bump ?_ | refine .setPass ?_ | refine .showPublish ?_ | intro _ | split | (dsimp only; split))

theorem Out.Kept.publishDone {s : State} : Out.Kept s (execPublishDone s) := by
  unfold execPublishDone
  have h : s.Kept s := .refl
  with_reducible repeat' (first | refine .next ?_ | assumption | refine .setPass ?_ | refine .finishMirrored ?_ | intro _ | split | (dsimp only; split))

theorem Out.Kept.publishCopyEnd {s : State} : Out.Kept s (execPublishCopyEnd s) := by
  unfold execPublishCopyEnd
  have h : s.Kept s := .refl
  with_reducible repeat' (first | refine .next ?_ | assumption | refine .ite ?_ ?_ | refine .copyBank ?_)

theorem Out.Kept.hpTrigger {valid : Bool} {sig : Nat} {s : State} : Out.Kept s (execHpTrigger valid sig s) := by
  unfold execHpTrigger
  have h : s.Kept s := .refl
  with_reducible repeat' (first | refine .next ?_ | assumption | refine .ite ?_ ?_ | refine .setPass ?_ | refine .countTrigger ?_ | refine .countDefault ?_ | intro _ | split | (dsimp only; split))

theorem Out.Kept.trimBandChange {s : State} : Out.Kept s (execTrimBandChange s) := by
  unfold execTrimBandChange
  have h : s.Kept s := .refl
  with_reducible repeat' (first | refine .next ?_ | assumption | refine .ite ?_ ?_ | refine .put ?_ | split)

theorem Out.Kept.hpsShadowData {value : Nat} {s : State} : Out.Kept s (execHpsShadowData value s) := by
  unfold execHpsShadowData
  have h : s.Kept s := .refl
  with_reducible repeat' (first | refine .next ?_ | assumption | refine .viaHost ?_ ?_ | refine .hpsDataWrite ?_ | intro _)

theorem Out.Kept.shadowFill {s : State} : Out.Kept s (execShadowFill s) := by
  unfold execShadowFill
  have h : s.Kept s := .refl
  with_reducible repeat' (first | refine .next ?_ | assumption | refine .viaHost ?_ ?_ | refine .hpsFill ?_ | intro _)

theorem Out.Kept.hpClkReturn {s : State} : Out.Kept s (execHpClkReturn s) := by
  unfold execHpClkReturn
  have h : s.Kept s := .refl
  with_reducible repeat' (first | refine .next ?_ | assumption | refine .ite ?_ ?_ | refine .put ?_ | refine .setPass ?_)

theorem Out.Kept.hpsProfile {value : Nat} {s : State} : Out.Kept s (execHpsProfile value s) := by
  unfold execHpsProfile
  have h : s.Kept s := .refl
  with_reducible repeat' (first | refine .next ?_ | assumption | refine .hostCfg ?_ ?_ | refine .hpsProfileWrite ?_ | intro _)

theorem Out.Kept.captureLinkUp {skew : Nat} {s : State} : Out.Kept s (execCaptureLinkUp skew s) := by
  unfold execCaptureLinkUp
  have h : s.Kept s := .refl
  with_reducible repeat' (first | refine .next ?_ | assumption | refine .ite ?_ ?_ | refine .put ?_)

theorem Out.Kept.captureLinkDown {locked : Nat} {inHeader : Bool} {s : State} : Out.Kept s (execCaptureLinkDown locked inHeader s) := by
  unfold execCaptureLinkDown
  have h : s.Kept s := .refl
  with_reducible repeat' (first | refine .next ?_ | assumption | refine .ite ?_ ?_ | refine .put ?_ | refine .bump ?_ | refine .when_ ?_ ?_ | refine .endLink ?_ | intro _ | split | (dsimp only; split))

theorem Out.Kept.recordHeader {stream : Nat} {header : List Byte} {s : State} : Out.Kept s (execRecordHeader stream header s) := by
  unfold execRecordHeader
  have h : s.Kept s := .refl
  with_reducible repeat' (first | refine .next ?_ | refine .need ?_ | assumption | refine .ite ?_ ?_ | refine .takeRec ?_ | refine .setCap ?_ | refine .when_ ?_ ?_ | refine .bump ?_ | refine .endLink ?_ | intro _ | split | (dsimp only; split))

theorem Out.Kept.endOfRecord {rest : List Byte} {surplus : Nat} {fin : RecEnd} {s : State} : Out.Kept s (execEndOfRecord rest surplus fin s) := by
  unfold execEndOfRecord
  have h : s.Kept s := .refl
  with_reducible repeat' (first | refine .next ?_ | assumption | refine .ite ?_ ?_ | refine .land ?_ | refine .add ?_ | refine .endGood ?_ | refine .endLink ?_ | intro _ | split | (dsimp only; split))

theorem Out.Kept.ethFrame {port : Nat} {bytes : List Byte} {s : State} : Out.Kept s (execEthFrame port bytes s) := by
  unfold execEthFrame
  have h : s.Kept s := .refl
  with_reducible repeat' (first | refine .next ?_ | refine .need ?_ | assumption | refine .ite ?_ ?_ | refine .frame ?_ | intro _ | split | (dsimp only; split))

theorem Out.Kept.syllabusPass {rec_ : Nat} {s : State} : Out.Kept s (execSyllabusPass rec_ s) := by
  unfold execSyllabusPass
  have h : s.Kept s := .refl
  with_reducible repeat' (first | refine .next ?_ | assumption | refine .sylPass ?_)

theorem Out.Kept.burstLoad {rec_ : Nat} {more : List Byte} {s : State} : Out.Kept s (execBurstLoad rec_ more s) := by
  unfold execBurstLoad
  have h : s.Kept s := .refl
  with_reducible repeat' (first | refine .next ?_ | assumption | refine .ite ?_ ?_ | refine .land ?_ | refine .burstLoad ?_ | intro _ | split | (dsimp only; split))

theorem Out.Kept.loadTimeout {rec_ : Nat} {s : State} : Out.Kept s (execLoadTimeout rec_ s) := by
  unfold execLoadTimeout
  have h : s.Kept s := .refl
  with_reducible repeat' (first | refine .next ?_ | assumption | refine .underrun ?_)

theorem Out.Kept.recordVerdict {rec_ : Nat} {s : State} : Out.Kept s (execRecordVerdict rec_ s) := by
  unfold execRecordVerdict
  have h : s.Kept s := .refl
  with_reducible repeat' (first | refine .next ?_ | assumption | refine .verdict ?_)

theorem Out.Kept.classifyStream {id : Nat} {s : State} : Out.Kept s (execClassifyStream id s) := by
  unfold execClassifyStream
  have h : s.Kept s := .refl
  with_reducible repeat' (first | refine .next ?_ | assumption | refine .ite ?_ ?_ | refine .finish ?_ | refine .mapStanding ?_ | refine .takeBack ?_ | refine .mapFlight ?_ | refine .setCap ?_ | refine .checkStanding ?_ | refine .startRecs ?_ | intro _ | split | (dsimp only; split))

theorem Out.Kept.ethLinkUp {port : Nat} {s : State} : Out.Kept s (execEthLinkUp port s) := by
  unfold execEthLinkUp
  have h : s.Kept s := .refl
  with_reducible repeat' (first | refine .next ?_ | refine .need ?_ | assumption | refine .ite ?_ ?_ | refine .put ?_ | refine .setEgress ?_ | refine .each ?_ ?_ | refine .sendPacket ?_ | intro _ | split | (dsimp only; split))

theorem Out.Kept.ethLinkDown {port : Nat} {cut : Bool} {s : State} : Out.Kept s (execEthLinkDown port cut s) := by
  unfold execEthLinkDown
  have h : s.Kept s := .refl
  with_reducible repeat' (first | refine .next ?_ | refine .need ?_ | assumption | refine .ite ?_ ?_ | refine .put ?_ | refine .setCap ?_ | refine .setEgress ?_ | refine .add ?_ | intro _ | split | (dsimp only; split))

theorem Out.Kept.egressHoldExpiry {port : Nat} {s : State} : Out.Kept s (execEgressHoldExpiry port s) := by
  unfold execEgressHoldExpiry
  have h : s.Kept s := .refl
  with_reducible repeat' (first | refine .next ?_ | refine .need ?_ | assumption | refine .ite ?_ ?_ | refine .setEgress ?_ | refine .bump ?_ | split)

theorem Out.Kept.sylBankSwap {id : Nat} {data : Option (List Byte)} {s : State} : Out.Kept s (execSylBankSwap id data s) := by
  unfold execSylBankSwap
  have h : s.Kept s := .refl
  with_reducible repeat' (first | refine .next ?_ | assumption | refine .ite ?_ ?_ | refine .buildShadow ?_ | refine .runFlight ?_ | refine .flipRules ?_ | refine .finish ?_ | refine .traceIn ?_ | refine .setRules ?_ | refine .shadowTouched ?_ | with_unfolding_all exact Store.wf_writeList | intro _ | split | (dsimp only; split))

theorem Out.Kept.sylSwapDone {s : State} : Out.Kept s (execSylSwapDone s) := by
  unfold execSylSwapDone
  have h : s.Kept s := .refl
  with_reducible repeat' (first | refine .next ?_ | assumption | refine .ite ?_ ?_ | refine .put ?_ | refine .setCap ?_ | refine .finishMirrored ?_ | intro _ | split | (dsimp only; split))

theorem Out.Kept.shadowDataWrite {value : Nat} {s : State} : Out.Kept s (execShadowDataWrite value s) := by
  unfold execShadowDataWrite
  have h : s.Kept s := .refl
  with_reducible repeat' (first | refine .next ?_ | assumption | refine .viaHost ?_ ?_ | refine .shadowData ?_ | intro _)

theorem Out.Kept.shadowClear {s : State} : Out.Kept s (execShadowClear s) := by
  unfold execShadowClear
  have h : s.Kept s := .refl
  with_reducible repeat' (first | refine .next ?_ | assumption | refine .viaHost ?_ ?_ | refine .shadowCtrl ?_ | intro _)

theorem Out.Kept.shadowBuild {s : State} : Out.Kept s (execShadowBuild s) := by
  unfold execShadowBuild
  have h : s.Kept s := .refl
  with_reducible repeat' (first | refine .next ?_ | assumption | refine .viaHost ?_ ?_ | refine .shadowCtrl ?_ | intro _)

theorem Out.Kept.shadowBuildEnd {s : State} : Out.Kept s (execShadowBuildEnd s) := by
  unfold execShadowBuildEnd
  have h : s.Kept s := .refl
  with_reducible repeat' (first | refine .next ?_ | assumption | refine .ite ?_ ?_ | refine .buildShadow ?_)

theorem Out.Kept.capProfile {value : Nat} {s : State} : Out.Kept s (execCapProfile value s) := by
  unfold execCapProfile
  have h : s.Kept s := .refl
  with_reducible repeat' (first | refine .next ?_ | assumption | refine .hostCfg ?_ ?_ | refine .capProfileWrite ?_ | intro _)

theorem Out.Kept.sylProfile {value : Nat} {s : State} : Out.Kept s (execSylProfile value s) := by
  unfold execSylProfile
  have h : s.Kept s := .refl
  with_reducible repeat' (first | refine .next ?_ | assumption | refine .hostCfg ?_ ?_ | refine .sylProfileWrite ?_ | intro _)

theorem Out.Kept.loadModel {id : Nat} {image : Option (List Byte)} {s : State} : Out.Kept s (execLoadModel id image s) := by
  unfold execLoadModel
  have h : s.Kept s := .refl
  with_reducible repeat' (first | refine .next ?_ | assumption | refine .ite ?_ ?_ | refine .finish ?_ | refine .traceIn ?_ | refine .shareLoad ?_ | refine .loadModel ?_ | refine .reroute ?_ | split)

theorem Out.Kept.loadCoeff {id : Nat} {data : Option (List Byte)} {s : State} : Out.Kept s (execLoadCoeff id data s) := by
  unfold execLoadCoeff
  have h : s.Kept s := .refl
  with_reducible repeat' (first | refine .next ?_ | assumption | refine .finish ?_ | refine .traceIn ?_ | refine .loadCoeff ?_ | refine .reroute ?_ | split)

theorem Out.Kept.runMac {id : Nat} {s : State} : Out.Kept s (execRunMac id s) := by
  unfold execRunMac
  have h : s.Kept s := .refl
  with_reducible repeat' (first | refine .next ?_ | assumption | refine .macRun ?_ | split)

theorem Out.Kept.macPassEnd {id : Nat} {data : Option (List Byte)} {s : State} : Out.Kept s (execMacPassEnd id data s) := by
  unfold execMacPassEnd
  have h : s.Kept s := .refl
  with_reducible repeat' (first | refine .next ?_ | assumption | refine .ite ?_ ?_ | refine .macPass ?_ | refine .featurePass ?_ | split)

theorem Out.Kept.fabGangCfg {value : Nat} {s : State} : Out.Kept s (execFabGangCfg value s) := by
  unfold execFabGangCfg
  have h : s.Kept s := .refl
  with_reducible repeat' (first | refine .next ?_ | assumption | refine .hostCfg ?_ ?_ | refine .gangCfgWrite ?_ | intro _)

theorem Out.Kept.fabProfile {value : Nat} {s : State} : Out.Kept s (execFabProfile value s) := by
  unfold execFabProfile
  have h : s.Kept s := .refl
  with_reducible repeat' (first | refine .next ?_ | assumption | refine .hostCfg ?_ ?_ | refine .fabProfileWrite ?_ | intro _)

theorem Out.Kept.spareQuadWrite {value : Nat} {s : State} : Out.Kept s (execSpareQuadWrite value s) := by
  unfold execSpareQuadWrite
  have h : s.Kept s := .refl
  with_reducible repeat' (first | refine .next ?_ | assumption | refine .viaHost ?_ ?_ | refine .spareWord ?_ | intro _)

theorem Out.Kept.accLatch {tile row col : Nat} {s : State} : Out.Kept s (execAccLatch tile row col s) := by
  unfold execAccLatch
  have h : s.Kept s := .refl
  with_reducible repeat' (first | refine .next ?_ | assumption | refine .viaHost ?_ ?_ | refine .accSelWrite ?_ | intro _)

theorem Out.Kept.accCapture {s : State} : Out.Kept s (execAccCapture s) := by
  unfold execAccCapture
  have h : s.Kept s := .refl
  with_reducible repeat' (first | refine .next ?_ | assumption | refine .ite ?_ ?_ | refine .captureAcc ?_)

theorem Out.Kept.runSample {id : Nat} {table : Option (List Byte)} {s : State} : Out.Kept s (execRunSample id table s) := by
  unfold execRunSample
  have h : s.Kept s := .refl
  with_reducible repeat' (first | refine .next ?_ | assumption | refine .ite ?_ ?_ | refine .finish ?_ | refine .sampleRun ?_ | refine .traceIn ?_ | intro _ | split | (dsimp only; split))

theorem Out.Kept.runAnneal {id : Nat} {schedule : Option (List Byte)} {s : State} : Out.Kept s (execRunAnneal id schedule s) := by
  unfold execRunAnneal
  have h : s.Kept s := .refl
  with_reducible repeat' (first | refine .next ?_ | assumption | refine .ite ?_ ?_ | refine .finish ?_ | refine .traceIn ?_ | refine .sampleRun ?_ | intro _ | split | (dsimp only; split))

theorem Out.Kept.trainStep {id : Nat} {batch : Option (List Byte)} {s : State} : Out.Kept s (execTrainStep id batch s) := by
  unfold execTrainStep
  have h : s.Kept s := .refl
  with_reducible repeat' (first | refine .next ?_ | assumption | refine .ite ?_ ?_ | refine .finish ?_ | refine .drawSeed ?_ | refine .traceIn ?_ | refine .trainStep ?_ | split)

theorem Out.Kept.readStates {id : Nat} {s : State} : Out.Kept s (execReadStates id s) := by
  unfold execReadStates
  have h : s.Kept s := .refl
  with_reducible repeat' (first | refine .next ?_ | assumption | refine .readStates ?_ | split)

theorem Out.Kept.sweepEnd {id : Nat} {s : State} : Out.Kept s (execSweepEnd id s) := by
  unfold execSweepEnd
  have h : s.Kept s := .refl
  with_reducible repeat' (first | refine .next ?_ | assumption | refine .onCore ?_ ?_ | refine .beginRecord ?_ | refine .replicaSweep ?_ | intro _)

theorem Out.Kept.epochBoundary {id : Nat} {s : State} : Out.Kept s (execEpochBoundary id s) := by
  unfold execEpochBoundary
  have h : s.Kept s := .refl
  with_reducible repeat' (first | refine .next ?_ | assumption | refine .onCore ?_ ?_ | refine .epochEnd ?_ | intro _)

theorem Out.Kept.annealPointEnd {id : Nat} {s : State} : Out.Kept s (execAnnealPointEnd id s) := by
  unfold execAnnealPointEnd
  have h : s.Kept s := .refl
  with_reducible repeat' (first | refine .next ?_ | assumption | refine .onCore ?_ ?_ | refine .pointEnd ?_ | intro _)

theorem Out.Kept.entropyTestFail {s : State} : Out.Kept s (execEntropyTestFail s) := by
  unfold execEntropyTestFail
  have h : s.Kept s := .refl
  with_reducible repeat' (first | refine .next ?_ | assumption | refine .ite ?_ ?_ | refine .put ?_)

theorem Out.Kept.entropyTestPass {s : State} : Out.Kept s (execEntropyTestPass s) := by
  unfold execEntropyTestPass
  have h : s.Kept s := .refl
  with_reducible repeat' (first | refine .next ?_ | assumption | refine .ite ?_ ?_ | refine .put ?_)

theorem Out.Kept.smpProfile {value : Nat} {s : State} : Out.Kept s (execSmpProfile value s) := by
  unfold execSmpProfile
  have h : s.Kept s := .refl
  with_reducible repeat' (first | refine .next ?_ | assumption | refine .hostCfg ?_ ?_ | refine .smpProfileWrite ?_ | intro _)

theorem Out.Kept.adopt {id : Nat} {s : State} : Out.Kept s (execAdopt id s) := by
  unfold execAdopt
  have h : s.Kept s := .refl
  with_reducible repeat' (first | refine .next ?_ | assumption | refine .adopt ?_ | refine .reconciled ?_ | split)

theorem Out.Kept.retest {id : Nat} {pass : Bool} {s : State} : Out.Kept s (execRetest id pass s) := by
  unfold execRetest
  have h : s.Kept s := .refl
  with_reducible repeat' (first | refine .next ?_ | assumption | refine .retested ?_ | refine .reconciled ?_ | split)

theorem Out.Kept.request {id : Nat} {s : State} : Out.Kept s (execRequest id s) := by
  unfold execRequest
  have h : s.Kept s := .refl
  with_reducible repeat' (first | refine .next ?_ | assumption | refine .ite ?_ ?_ | refine .orderMgmt ?_ | refine .applyMgmt ?_ | refine .applyPgood ?_ | refine .adopt ?_ | refine .reconciled ?_ | split)

theorem Out.Kept.thermalSample {codes : List (Option Int)} {activity : List (Nat × Nat)} {mr4 : List (Option Int)} {s : State} : Out.Kept s (execThermalSample codes activity mr4 s) := by
  unfold execThermalSample
  have h : s.Kept s := .refl
  with_reducible repeat' (first | refine .next ?_ | assumption | refine .ite ?_ ?_ | refine .thermalSample ?_)

theorem Out.Kept.throttleStep {s : State} : Out.Kept s (execThrottleStep s) := by
  unfold execThrottleStep
  have h : s.Kept s := .refl
  with_reducible repeat' (first | refine .next ?_ | assumption | refine .ite ?_ ?_ | refine .setDepth ?_)

theorem Out.Kept.throttleRelease {s : State} : Out.Kept s (execThrottleRelease s) := by
  unfold execThrottleRelease
  have h : s.Kept s := .refl
  with_reducible repeat' (first | refine .next ?_ | assumption | refine .ite ?_ ?_ | refine .withThermal ?_ | refine .sendNotice ?_)

theorem Out.Kept.thermalRestart {s : State} : Out.Kept s (execThermalRestart s) := by
  unfold execThermalRestart
  have h : s.Kept s := .refl
  with_reducible repeat' (first | refine .next ?_ | assumption | refine .ite ?_ ?_ | refine .withFab ?_ | refine .put ?_ | refine .withSvc ?_ | intro _ | split | (dsimp only; split))

theorem Out.Kept.sensorFlagged {n kind : Nat} {s : State} : Out.Kept s (execSensorFlagged n kind s) := by
  unfold execSensorFlagged
  have h : s.Kept s := .refl
  with_reducible repeat' (first | refine .next ?_ | assumption | refine .ite ?_ ?_ | refine .flagSensor ?_)

theorem Out.Kept.psh2SensorFlagged {n kind : Nat} {s : State} : Out.Kept s (execPsh2SensorFlagged n kind s) := by
  unfold execPsh2SensorFlagged
  have h : s.Kept s := .refl
  with_reducible repeat' (first | refine .next ?_ | assumption | refine .ite ?_ ?_ | refine .put ?_ | refine .withThermal ?_ | refine .raiseThermal ?_ | refine .pshCount ?_ | refine .when_ ?_ ?_ | refine .setWindow ?_ | intro _)

theorem Out.Kept.flashWindowClose {s : State} : Out.Kept s (execFlashWindowClose s) := by
  unfold execFlashWindowClose
  have h : s.Kept s := .refl
  with_reducible repeat' (first | refine .next ?_ | assumption | refine .ite ?_ ?_ | refine .setWindow ?_ | refine .tryStart ?_)

theorem Out.Kept.flashWindowOpen {s : State} : Out.Kept s (execFlashWindowOpen s) := by
  unfold execFlashWindowOpen
  have h : s.Kept s := .refl
  with_reducible repeat' (first | refine .next ?_ | assumption | refine .ite ?_ ?_ | refine .setWindow ?_ | refine .pumpErase ?_ | refine .runFlush ?_)

theorem Out.Kept.thmProfile {value : Nat} {s : State} : Out.Kept s (execThmProfile value s) := by
  unfold execThmProfile
  have h : s.Kept s := .refl
  with_reducible repeat' (first | refine .next ?_ | assumption | refine .hostCfg ?_ ?_ | refine .thmProfileWrite ?_ | intro _)

theorem Out.Kept.mfrUnitIndex {x : PmbAcc} {s : State} : Out.Kept s (execMfrUnitIndex x s) := by
  unfold execMfrUnitIndex
  have h : s.Kept s := .refl
  with_reducible repeat' (first | refine .next ?_ | assumption | refine .ite ?_ ?_ | refine .pmbAcc ?_ ?_ ?_ | refine .answer ?_ | refine .withPmb ?_ | refine .nack ?_ | intro _)

theorem Out.Kept.mfrUnitState {x : PmbAcc} {s : State} : Out.Kept s (execMfrUnitState x s) := by
  unfold execMfrUnitState
  have h : s.Kept s := .refl
  with_reducible repeat' (first | refine .next ?_ | assumption | refine .ite ?_ ?_ | refine .pmbAcc ?_ ?_ ?_ | refine .answer ?_ | refine .orderMgmt ?_ | refine .setMgmt ?_ | refine .cml6 ?_ | intro _)

theorem Out.Kept.mfrThermal {s : State} : Out.Kept s (execMfrThermal s) := by
  unfold execMfrThermal
  have h : s.Kept s := .refl
  with_reducible repeat' (first | refine .next ?_ | assumption | refine .pmbRead ?_ ?_ | refine .answer ?_ | intro _)

theorem Out.Kept.unitReady {u : Nat} {s : State} : Out.Kept s (execUnitReady u s) := by
  unfold execUnitReady
  have h : s.Kept s := .refl
  with_reducible repeat' (first | refine .next ?_ | refine .need ?_ | assumption | refine .ite ?_ ?_ | refine .makeReady ?_)

theorem Out.Kept.unitDrained {u : Nat} {s : State} : Out.Kept s (execUnitDrained u s) := by
  unfold execUnitDrained
  have h : s.Kept s := .refl
  with_reducible repeat' (first | refine .next ?_ | refine .need ?_ | assumption | refine .drained ?_)

theorem Out.Kept.ledgerDisagreement {u : Nat} {s : State} : Out.Kept s (execLedgerDisagreement u s) := by
  unfold execLedgerDisagreement
  have h : s.Kept s := .refl
  with_reducible repeat' (first | refine .next ?_ | refine .need ?_ | assumption | refine .ite ?_ ?_ | refine .fenceUnit ?_)

theorem Out.Kept.unitPowerOff {u : Nat} {s : State} : Out.Kept s (execUnitPowerOff u s) := by
  unfold execUnitPowerOff
  have h : s.Kept s := .refl
  with_reducible repeat' (first | refine .next ?_ | refine .need ?_ | assumption | refine .ite ?_ ?_ | refine .setPgood ?_ | refine .unpower ?_)

theorem Out.Kept.tileFault {tile : Nat} {residue : Bool} {s : State} : Out.Kept s (execTileFault tile residue s) := by
  unfold execTileFault
  have h : s.Kept s := .refl
  with_reducible repeat' (first | refine .next ?_ | refine .need ?_ | assumption | refine .ite ?_ ?_ | refine .tileFault ?_)

theorem Out.Kept.spareStandIn {tile : Nat} {s : State} : Out.Kept s (execSpareStandIn tile s) := by
  unfold execSpareStandIn
  have h : s.Kept s := .refl
  with_reducible repeat' (first | refine .next ?_ | refine .need ?_ | assumption | refine .ite ?_ ?_ | refine .standInFor ?_)

theorem Out.Kept.gpLinkFrame {toGld : Bool} {seq : Nat} {crcOk : Bool} {msg : GpMsg} {s : State} : Out.Kept s (execGpLinkFrame toGld seq crcOk msg s) := by
  unfold execGpLinkFrame
  have h : s.Kept s := .refl
  with_reducible repeat' (first | refine .next ?_ | assumption | refine .gpFrame ?_)

theorem Out.Kept.gpLinkRefusal {toGld : Bool} {expected : Nat} {s : State} : Out.Kept s (execGpLinkRefusal toGld expected s) := by
  unfold execGpLinkRefusal
  have h : s.Kept s := .refl
  with_reducible repeat' (first | refine .next ?_ | assumption | refine .gpRefusal ?_)

theorem Out.Kept.gpLinkIdle {toGld : Bool} {s : State} : Out.Kept s (execGpLinkIdle toGld s) := by
  unfold execGpLinkIdle
  have h : s.Kept s := .refl
  with_reducible repeat' (first | refine .next ?_ | assumption | refine .ite ?_ ?_ | refine .toGld ?_ | refine .when_ ?_ ?_ | refine .idle ?_ | refine .toPsh ?_ | intro _)

theorem Out.Kept.gpLinkLost {s : State} : Out.Kept s (execGpLinkLost s) := by
  unfold execGpLinkLost
  have h : s.Kept s := .refl
  with_reducible repeat' (first | refine .next ?_ | assumption | refine .ite ?_ ?_ | refine .gpLose ?_)

theorem Out.Kept.gpLinkRestored {s : State} : Out.Kept s (execGpLinkRestored s) := by
  unfold execGpLinkRestored
  have h : s.Kept s := .refl
  with_reducible repeat' (first | refine .next ?_ | assumption | refine .ite ?_ ?_ | refine .gpRestore ?_)

theorem Out.Kept.clockLost {c : WatchedClock} {s : State} : Out.Kept s (execClockLost c s) := by
  unfold execClockLost
  have h : s.Kept s := .refl
  with_reducible repeat' (first | refine .next ?_ | refine .need ?_ | assumption | refine .ite ?_ ?_ | refine .put ?_ | refine .holdCrossings ?_ | refine .raise ?_ | refine .clockGone ?_)

theorem Out.Kept.clockPresent {c : WatchedClock} {s : State} : Out.Kept s (execClockPresent c s) := by
  unfold execClockPresent
  have h : s.Kept s := .refl
  with_reducible repeat' (first | refine .next ?_ | refine .need ?_ | assumption | refine .ite ?_ ?_ | refine .put ?_ | refine .holdCrossings ?_ | refine .when_ ?_ ?_ | refine .releaseCounts ?_ | intro _ | split | (dsimp only; split))

theorem Out.Kept.gpRstRelease {s : State} : Out.Kept s (execGpRstRelease s) := by
  unfold execGpRstRelease
  have h : s.Kept s := .refl
  with_reducible repeat' (first | refine .next ?_ | assumption | refine .ite ?_ ?_ | refine .withSvc ?_ | refine .put ?_ | refine .startStage ?_ | refine .slotDiffer ?_ | intro _ | split | (dsimp only; split))

theorem Out.Kept.stageComplete {failed : List Nat} {s : State} : Out.Kept s (execStageComplete failed s) := by
  unfold execStageComplete
  have h : s.Kept s := .refl
  with_reducible repeat' (first | refine .next ?_ | assumption | refine .ite ?_ ?_ | refine .stageEnd ?_)

theorem Out.Kept.handoverStart {s : State} : Out.Kept s (execHandoverStart s) := by
  unfold execHandoverStart
  have h : s.Kept s := .refl
  with_reducible repeat' (first | refine .next ?_ | assumption | refine .ite ?_ ?_ | refine .withSvc ?_)

theorem Out.Kept.pcieLinkTrained {s : State} : Out.Kept s (execPcieLinkTrained s) := by
  unfold execPcieLinkTrained
  have h : s.Kept s := .refl
  with_reducible repeat' (first | refine .next ?_ | assumption | refine .ite ?_ ?_ | refine .withHost ?_)

theorem Out.Kept.perstNAssert {s : State} : Out.Kept s (execPerstNAssert s) := by
  unfold execPerstNAssert
  have h : s.Kept s := .refl
  with_reducible repeat' (first | refine .next ?_ | assumption | refine .ite ?_ ?_ | refine .withHost ?_ | refine .warmReset ?_ | intro _ | split | (dsimp only; split))

theorem Out.Kept.perstNDeassert {s : State} : Out.Kept s (execPerstNDeassert s) := by
  unfold execPerstNDeassert
  have h : s.Kept s := .refl
  with_reducible repeat' (first | refine .next ?_ | assumption | refine .withHost ?_)

theorem Out.Kept.warmReset {cause : WarmCause} {s : State} : Out.Kept s (execWarmReset cause s) := by
  unfold execWarmReset
  have h : s.Kept s := .refl
  with_reducible repeat' (first | refine .next ?_ | assumption | refine .ite ?_ ?_ | refine .linkDown ?_ | refine .warmReset ?_ | intro _ | split | (dsimp only; split))

theorem Out.Kept.vfFlr {vf : Nat} {s : State} : Out.Kept s (execVfFlr vf s) := by
  unfold execVfFlr
  have h : s.Kept s := .refl
  with_reducible repeat' (first | refine .next ?_ | refine .need ?_ | assumption | refine .ite ?_ ?_ | refine .wakeEvent ?_ | refine .withSvc ?_ | refine .vfReset ?_ | intro _ | split | (dsimp only; split))

theorem Out.Kept.fabricReset {s : State} : Out.Kept s (execFabricReset s) := by
  unfold execFabricReset
  have h : s.Kept s := .refl
  with_reducible repeat' (first | refine .next ?_ | assumption | refine .viaHost ?_ ?_ | refine .fabReset ?_ | intro _)

theorem Out.Kept.coldReset {s : State} : Out.Kept s (execColdReset s) := by
  unfold execColdReset
  have h : s.Kept s := .refl
  with_reducible repeat' (first | refine .next ?_ | assumption | refine .viaHost ?_ ?_ | refine .askCold ?_ | intro _)

theorem Out.Kept.recessEnter {s : State} : Out.Kept s (execRecessEnter s) := by
  unfold execRecessEnter
  have h : s.Kept s := .refl
  with_reducible repeat' (first | refine .next ?_ | assumption | refine .viaHost ?_ ?_ | refine .requestRecess ?_ | intro _)

theorem Out.Kept.idleAuto {s : State} : Out.Kept s (execIdleAuto s) := by
  unfold execIdleAuto
  have h : s.Kept s := .refl
  with_reducible repeat' (first | refine .next ?_ | assumption | refine .ite ?_ ?_ | refine .enterRecess ?_)

theorem Out.Kept.recessEntryDone {s : State} : Out.Kept s (execRecessEntryDone s) := by
  unfold execRecessEntryDone
  have h : s.Kept s := .refl
  with_reducible repeat' (first | refine .next ?_ | assumption | refine .ite ?_ ?_ | refine .recessEntered ?_)

theorem Out.Kept.wakeN {s : State} : Out.Kept s (execWakeN s) := by
  unfold execWakeN
  have h : s.Kept s := .refl
  with_reducible repeat' (first | refine .next ?_ | assumption | refine .ite ?_ ?_ | refine .wakeEvent ?_)

theorem Out.Kept.recessBar0Wake {fn off : Nat} {s : State} : Out.Kept s (execRecessBar0Wake fn off s) := by
  unfold execRecessBar0Wake
  have h : s.Kept s := .refl
  with_reducible repeat' (first | refine .next ?_ | refine .need ?_ | assumption | refine .ite ?_ ?_ | refine .viaHost ?_ ?_ | intro _)

theorem Out.Kept.wakeComplete {s : State} : Out.Kept s (execWakeComplete s) := by
  unfold execWakeComplete
  have h : s.Kept s := .refl
  with_reducible repeat' (first | refine .next ?_ | assumption | refine .ite ?_ ?_ | refine .wakeDone ?_)

theorem Out.Kept.recessProfile {value : Nat} {s : State} : Out.Kept s (execRecessProfile value s) := by
  unfold execRecessProfile
  have h : s.Kept s := .refl
  with_reducible repeat' (first | refine .next ?_ | assumption | refine .hostCfg ?_ ?_ | refine .recessProfileWrite ?_ | intro _)

theorem Out.Kept.fwStageWriteChunk {id : Nat} {data : Option (List Byte)} {timedOut : Bool} {s : State} : Out.Kept s (execFwStageWriteChunk id data timedOut s) := by
  unfold execFwStageWriteChunk
  have h : s.Kept s := .refl
  with_reducible repeat' (first | refine .next ?_ | assumption | refine .ite ?_ ?_ | refine .fwAborts ?_ | refine .setImage ?_ | refine .showFw ?_ | refine .finish ?_ | refine .traceIn ?_ | refine .stageChunk ?_ | split)

theorem Out.Kept.fwStageVerify {id : Nat} {s : State} : Out.Kept s (execFwStageVerify id s) := by
  unfold execFwStageVerify
  have h : s.Kept s := .refl
  with_reducible repeat' (first | refine .next ?_ | assumption | refine .stageVerify ?_ | split)

theorem Out.Kept.fwStageActivate {id : Nat} {s : State} : Out.Kept s (execFwStageActivate id s) := by
  unfold execFwStageActivate
  have h : s.Kept s := .refl
  with_reducible repeat' (first | refine .next ?_ | assumption | refine .ite ?_ ?_ | refine .stageActivate ?_ | split)

theorem Out.Kept.liveRestart {s : State} : Out.Kept s (execLiveRestart s) := by
  unfold execLiveRestart
  have h : s.Kept s := .refl
  with_reducible repeat' (first | refine .next ?_ | assumption | refine .ite ?_ ?_ | refine .activate ?_ | refine .pshRestart ?_ | refine .showFw ?_)

theorem Out.Kept.confirm {raiseFloor : Bool} {key : Nat} {s : State} : Out.Kept s (execConfirm raiseFloor key s) := by
  unfold execConfirm
  have h : s.Kept s := .refl
  with_reducible repeat' (first | refine .next ?_ | assumption | refine .ite ?_ ?_ | refine .viaHost ?_ ?_ | refine .secCtrl ?_ | refine .raiseFloor ?_ | intro _)

theorem Out.Kept.cancel {s : State} : Out.Kept s (execCancel s) := by
  unfold execCancel
  have h : s.Kept s := .refl
  with_reducible repeat' (first | refine .next ?_ | assumption | refine .viaHost ?_ ?_ | refine .secCtrl ?_ | intro _)

theorem Out.Kept.strictSet {key : Nat} {s : State} : Out.Kept s (execStrictSet key s) := by
  unfold execStrictSet
  have h : s.Kept s := .refl
  with_reducible repeat' (first | refine .next ?_ | assumption | refine .viaHost ?_ ?_ | refine .secCtrl ?_ | intro _)

theorem Out.Kept.autoConfirm {s : State} : Out.Kept s (execAutoConfirm s) := by
  unfold execAutoConfirm
  have h : s.Kept s := .refl
  with_reducible repeat' (first | refine .next ?_ | assumption | refine .ite ?_ ?_ | refine .confirmTrials ?_ | intro _ | split | (dsimp only; split))

theorem Out.Kept.secProfile {value : Nat} {s : State} : Out.Kept s (execSecProfile value s) := by
  unfold execSecProfile
  have h : s.Kept s := .refl
  with_reducible repeat' (first | refine .next ?_ | assumption | refine .viaHost ?_ ?_ | refine .secProfileWrite ?_ | intro _)

theorem Out.Kept.mfrFwStatus {s : State} : Out.Kept s (execMfrFwStatus s) := by
  unfold execMfrFwStatus
  have h : s.Kept s := .refl
  with_reducible repeat' (first | refine .next ?_ | assumption | refine .ite ?_ ?_ | refine .answer ?_ | refine .pmbRead ?_ ?_ | intro _)

theorem Out.Kept.mfrFwRecovery {fin : PmbEnd} {data : List Byte} {s : State} : Out.Kept s (execMfrFwRecovery fin data s) := by
  unfold execMfrFwRecovery
  have h : s.Kept s := .refl
  with_reducible repeat' (first | refine .next ?_ | assumption | refine .ite ?_ ?_ | refine .recoveryWrite ?_ ?_ | refine .nack ?_ | refine .when_ ?_ ?_ | refine .eraseStaging ?_ | refine .norProgram ?_ | intro _)

theorem Out.Kept.mfrFwRecoveryCtrl {fin : PmbEnd} {value : Nat} {s : State} : Out.Kept s (execMfrFwRecoveryCtrl fin value s) := by
  unfold execMfrFwRecoveryCtrl
  have h : s.Kept s := .refl
  with_reducible repeat' (first | refine .next ?_ | assumption | refine .ite ?_ ?_ | refine .recoveryWrite ?_ ?_ | refine .nack ?_ | refine .setImage ?_ | refine .withSvc ?_ | refine .bootWrite ?_ | refine .showFw ?_ | refine .fwResult ?_ | intro _)

theorem Out.Kept.getVersion {s : State} : Out.Kept s (execGetVersion s) := by
  unfold execGetVersion
  have h : s.Kept s := .refl
  with_reducible repeat' (first | refine .next ?_ | assumption | refine .spdm ?_ ?_ | refine .spdmReply ?_ | intro _)

theorem Out.Kept.getCapabilities {s : State} : Out.Kept s (execGetCapabilities s) := by
  unfold execGetCapabilities
  have h : s.Kept s := .refl
  with_reducible repeat' (first | refine .next ?_ | assumption | refine .spdm ?_ ?_ | refine .spdmReply ?_ | intro _)

theorem Out.Kept.negotiateAlgorithms {s : State} : Out.Kept s (execNegotiateAlgorithms s) := by
  unfold execNegotiateAlgorithms
  have h : s.Kept s := .refl
  with_reducible repeat' (first | refine .next ?_ | assumption | refine .spdm ?_ ?_ | refine .spdmReply ?_ | intro _)

theorem Out.Kept.getDigests {s : State} : Out.Kept s (execGetDigests s) := by
  unfold execGetDigests
  have h : s.Kept s := .refl
  with_reducible repeat' (first | refine .next ?_ | assumption | refine .spdm ?_ ?_ | refine .spdmReply ?_ | intro _)

theorem Out.Kept.getCertificate {offset length : Nat} {s : State} : Out.Kept s (execGetCertificate offset length s) := by
  unfold execGetCertificate
  have h : s.Kept s := .refl
  with_reducible repeat' (first | refine .next ?_ | assumption | refine .spdm ?_ ?_ | refine .spdmReply ?_ | intro _)

theorem Out.Kept.challenge {data : List Byte} {s : State} : Out.Kept s (execChallenge data s) := by
  unfold execChallenge
  have h : s.Kept s := .refl
  with_reducible repeat' (first | refine .next ?_ | assumption | refine .spdm ?_ ?_ | refine .askVault ?_ | intro _)

theorem Out.Kept.getMeasurements {signed : Bool} {index : Nat} {data : List Byte} {s : State} : Out.Kept s (execGetMeasurements signed index data s) := by
  unfold execGetMeasurements
  have h : s.Kept s := .refl
  with_reducible repeat' (first | refine .next ?_ | assumption | refine .ite ?_ ?_ | refine .spdm ?_ ?_ | refine .askVault ?_ | refine .spdmReply ?_ | intro _)

theorem Out.Kept.spdmUnsupportedRequest {s : State} : Out.Kept s (execSpdmUnsupportedRequest s) := by
  unfold execSpdmUnsupportedRequest
  have h : s.Kept s := .refl
  with_reducible repeat' (first | refine .next ?_ | assumption | refine .spdm ?_ ?_ | refine .spdmReply ?_ | refine .bump ?_ | intro _)

theorem Out.Kept.registerWrite {fn : Nat} {target : BusTarget} {size value : Nat} {s : State} : Out.Kept s (execRegisterWrite fn target size value s) := by
  unfold execRegisterWrite
  have h : s.Kept s := .refl
  with_reducible repeat' (first | refine .next ?_ | refine .need ?_ | assumption | refine .ite ?_ ?_ | refine .barAccess ?_ ?_ | refine .barWrite ?_ | refine .viaHost ?_ ?_ | refine .doorbell ?_ | refine .cfgSet ?_ | intro _ | split | (dsimp only; split))

theorem Out.Kept.rcRead {reader : Reader} {off size : Nat} {s : State} : Out.Kept s (execRcRead reader off size s) := by
  unfold execRcRead
  have h : s.Kept s := .refl
  with_reducible repeat' (first | refine .next ?_ | refine .need ?_ | assumption | refine .readBy ?_ | intro _ | split | (dsimp only; split))

theorem Out.Kept.lowHalfRead {reader : Reader} {off : Nat} {s : State} : Out.Kept s (execLowHalfRead reader off s) := by
  unfold execLowHalfRead
  have h : s.Kept s := .refl
  with_reducible repeat' (first | refine .next ?_ | refine .need ?_ | assumption | refine .readBy ?_ | intro _ | split | (dsimp only; split))

theorem Out.Kept.daccessRead {psh : Bool} {space addr : Nat} {s : State} : Out.Kept s (execDaccessRead psh space addr s) := by
  unfold execDaccessRead
  have h : s.Kept s := .refl
  with_reducible repeat' (first | refine .next ?_ | refine .need ?_ | assumption | refine .ite ?_ ?_ | refine .tapRead ?_ | refine .launched ?_)

theorem Out.Kept.daccessWrite {psh : Bool} {space addr value : Nat} {s : State} : Out.Kept s (execDaccessWrite psh space addr value s) := by
  unfold execDaccessWrite
  have h : s.Kept s := .refl
  with_reducible repeat' (first | refine .next ?_ | refine .need ?_ | assumption | refine .ite ?_ ?_ | refine .tapWrite ?_ | refine .launched ?_)

theorem Out.Kept.daccessDone {psh : Bool} {s : State} : Out.Kept s (execDaccessDone psh s) := by
  unfold execDaccessDone
  have h : s.Kept s := .refl
  with_reducible repeat' (first | refine .next ?_ | assumption | refine .ite ?_ ?_ | refine .setTap ?_)

theorem Out.Kept.trstN {low : Bool} {s : State} : Out.Kept s (execTrstN low s) := by
  unfold execTrstN
  have h : s.Kept s := .refl
  with_reducible repeat' (first | refine .next ?_ | assumption | refine .setTap ?_)

theorem Out.Kept.debugModeEnter {s : State} : Out.Kept s (execDebugModeEnter s) := by
  unfold execDebugModeEnter
  have h : s.Kept s := .refl
  with_reducible repeat' (first | refine .next ?_ | assumption | refine .ite ?_ ?_ | refine .dbgCtrl ?_)

theorem Out.Kept.debugModeExit {s : State} : Out.Kept s (execDebugModeExit s) := by
  unfold execDebugModeExit
  have h : s.Kept s := .refl
  with_reducible repeat' (first | refine .next ?_ | assumption | refine .ite ?_ ?_ | refine .dbgCtrl ?_)

theorem Out.Kept.haltReq {core : Nat} {lock : Option LockSeq} {s : State} : Out.Kept s (execHaltReq core lock s) := by
  unfold execHaltReq
  have h : s.Kept s := .refl
  with_reducible repeat' (first | refine .next ?_ | refine .need ?_ | assumption | refine .haltRequest ?_)

theorem Out.Kept.breakpoint {core b : Nat} {lock : Option LockSeq} {s : State} : Out.Kept s (execBreakpoint core b lock s) := by
  unfold execBreakpoint
  have h : s.Kept s := .refl
  with_reducible repeat' (first | refine .next ?_ | refine .need ?_ | assumption | refine .ite ?_ ?_ | refine .haltOrDefer ?_ | refine .when_ ?_ ?_ | refine .mapCore ?_ | intro _)

theorem Out.Kept.coreResume {core : Nat} {s : State} : Out.Kept s (execCoreResume core s) := by
  unfold execCoreResume
  have h : s.Kept s := .refl
  with_reducible repeat' (first | refine .next ?_ | refine .need ?_ | assumption | refine .coreResume ?_)

theorem Out.Kept.step {core : Nat} {lock : Option LockSeq} {s : State} : Out.Kept s (execStep core lock s) := by
  unfold execStep
  have h : s.Kept s := .refl
  with_reducible repeat' (first | refine .next ?_ | refine .need ?_ | assumption | refine .coreStep ?_)

theorem Out.Kept.lockEnd {core : Nat} {s : State} : Out.Kept s (execLockEnd core s) := by
  unfold execLockEnd
  have h : s.Kept s := .refl
  with_reducible repeat' (first | refine .next ?_ | refine .need ?_ | assumption | refine .lockEnd ?_)

theorem Out.Kept.haltForced {core id : Nat} {s : State} : Out.Kept s (execHaltForced core id s) := by
  unfold execHaltForced
  have h : s.Kept s := .refl
  with_reducible repeat' (first | refine .next ?_ | refine .need ?_ | assumption | refine .haltForced ?_)

theorem Out.Kept.traceWpWrite {s : State} : Out.Kept s (execTraceWpWrite s) := by
  unfold execTraceWpWrite
  have h : s.Kept s := .refl
  with_reducible repeat' (first | refine .next ?_ | assumption | refine .ite ?_ ?_ | refine .traceWp ?_)

theorem Out.Kept.traceBufRead {s : State} : Out.Kept s (execTraceBufRead s) := by
  unfold execTraceBufRead
  have h : s.Kept s := .refl
  with_reducible repeat' (first | refine .next ?_ | assumption | refine .viaHost ?_ ?_ | refine .traceRead ?_ | intro _)

theorem Out.Kept.traceClear {s : State} : Out.Kept s (execTraceClear s) := by
  unfold execTraceClear
  have h : s.Kept s := .refl
  with_reducible repeat' (first | refine .next ?_ | assumption | refine .viaHost ?_ ?_ | refine .traceClear ?_ | intro _)

theorem Out.Kept.dbgProfile {value : Nat} {s : State} : Out.Kept s (execDbgProfile value s) := by
  unfold execDbgProfile
  have h : s.Kept s := .refl
  with_reducible repeat' (first | refine .next ?_ | assumption | refine .viaHost ?_ ?_ | refine .dbgProfileWrite ?_ | intro _)

theorem Out.Kept.alertResponse {s : State} : Out.Kept s (execAlertResponse s) := by
  unfold execAlertResponse
  have h : s.Kept s := .refl
  with_reducible repeat' (first | refine .next ?_ | assumption | refine .ite ?_ ?_ | refine .withPmb ?_ | refine .answer ?_)

theorem Out.Kept.quickCommand {s : State} : Out.Kept s (execQuickCommand s) := by
  unfold execQuickCommand
  have h : s.Kept s := .refl
  with_reducible repeat' (first | refine .next ?_ | assumption | refine .ite ?_ ?_ | refine .ack ?_)

theorem Out.Kept.receiveByte {s : State} : Out.Kept s (execReceiveByte s) := by
  unfold execReceiveByte
  have h : s.Kept s := .refl
  with_reducible repeat' (first | refine .next ?_ | assumption | refine .ite ?_ ?_ | refine .answer ?_)

theorem Out.Kept.unsupportedCommand {u : Unsupported} {s : State} : Out.Kept s (execUnsupportedCommand u s) := by
  unfold execUnsupportedCommand
  have h : s.Kept s := .refl
  with_reducible repeat' (first | refine .next ?_ | assumption | refine .ite ?_ ?_ | refine .when_ ?_ ?_ | refine .refusedByte ?_ | refine .cml7 ?_ | refine .nack ?_ | intro _ | split | (dsimp only; split))

theorem Out.Kept.trainingPhaseEnd {port : Nat} {ok : Bool} {lanes : Nat} {s : State} : Out.Kept s (execTrainingPhaseEnd port ok lanes s) := by
  unfold execTrainingPhaseEnd
  have h : s.Kept s := .refl
  with_reducible repeat' (first | refine .next ?_ | refine .need ?_ | assumption | refine .ite ?_ ?_ | refine .phaseEnd ?_ | intro _ | split | (dsimp only; split))

theorem Out.Kept.ident {port : Nat} {rec : IdRecord} {last : Nat} {s : State} : Out.Kept s (execIdent port rec last s) := by
  unfold execIdent
  have h : s.Kept s := .refl
  with_reducible repeat' (first | refine .next ?_ | refine .need ?_ | assumption | refine .ite ?_ ?_ | refine .takeIdent ?_ | intro _ | split | (dsimp only; split))

theorem Out.Kept.noPeerRetry {port : Nat} {s : State} : Out.Kept s (execNoPeerRetry port s) := by
  unfold execNoPeerRetry
  have h : s.Kept s := .refl
  with_reducible repeat' (first | refine .next ?_ | refine .need ?_ | assumption | refine .ite ?_ ?_ | refine .trainPort ?_)

theorem Out.Kept.portRetrain {port : Nat} {s : State} : Out.Kept s (execPortRetrain port s) := by
  unfold execPortRetrain
  have h : s.Kept s := .refl
  with_reducible repeat' (first | refine .next ?_ | refine .need ?_ | assumption | refine .viaHost ?_ ?_ | refine .trainPort ?_ | intro _)

theorem Out.Kept.portDisable {port : Nat} {s : State} : Out.Kept s (execPortDisable port s) := by
  unfold execPortDisable
  have h : s.Kept s := .refl
  with_reducible repeat' (first | refine .next ?_ | refine .need ?_ | assumption | refine .viaHost ?_ ?_ | refine .when_ ?_ ?_ | refine .disablePort ?_ | intro _)

theorem Out.Kept.portEnable {port : Nat} {s : State} : Out.Kept s (execPortEnable port s) := by
  unfold execPortEnable
  have h : s.Kept s := .refl
  with_reducible repeat' (first | refine .next ?_ | refine .need ?_ | assumption | refine .viaHost ?_ ?_ | refine .enablePort ?_ | intro _)

theorem Out.Kept.akgalLinkDown {port : Nat} {s : State} : Out.Kept s (execAkgalLinkDown port s) := by
  unfold execAkgalLinkDown
  have h : s.Kept s := .refl
  with_reducible repeat' (first | refine .next ?_ | refine .need ?_ | assumption | refine .ite ?_ ?_ | refine .linkDown ?_)

theorem Out.Kept.data {port seq ack : Nat} {crcOk : Bool} {frame : AkFrame} {s : State} : Out.Kept s (execData port seq ack crcOk frame s) := by
  unfold execData
  have h : s.Kept s := .refl
  with_reducible repeat' (first | refine .next ?_ | refine .need ?_ | assumption | refine .takeData ?_)

theorem Out.Kept.ack {port ack : Nat} {s : State} : Out.Kept s (execAck port ack s) := by
  unfold execAck
  have h : s.Kept s := .refl
  with_reducible repeat' (first | refine .next ?_ | refine .need ?_ | assumption | refine .ite ?_ ?_ | refine .takeAck ?_)

theorem Out.Kept.nak {port ack : Nat} {s : State} : Out.Kept s (execNak port ack s) := by
  unfold execNak
  have h : s.Kept s := .refl
  with_reducible repeat' (first | refine .next ?_ | refine .need ?_ | assumption | refine .ite ?_ ?_ | refine .takeAck ?_ | refine .ack ?_ | refine .replayPort ?_)

theorem Out.Kept.replayTimeout {port : Nat} {s : State} : Out.Kept s (execReplayTimeout port s) := by
  unfold execReplayTimeout
  have h : s.Kept s := .refl
  with_reducible repeat' (first | refine .next ?_ | refine .need ?_ | assumption | refine .replayTimer ?_)

theorem Out.Kept.sysCfgWrite {value : Nat} {s : State} : Out.Kept s (execSysCfgWrite value s) := by
  unfold execSysCfgWrite
  have h : s.Kept s := .refl
  with_reducible repeat' (first | refine .next ?_ | assumption | refine .viaHost ?_ ?_ | refine .sysCfgWrite ?_ | intro _)

theorem Out.Kept.shareTimeout {slot : Nat} {s : State} : Out.Kept s (execShareTimeout slot s) := by
  unfold execShareTimeout
  have h : s.Kept s := .refl
  with_reducible repeat' (first | refine .next ?_ | refine .need ?_ | assumption | refine .ite ?_ ?_ | refine .shareFails ?_)

theorem Out.Kept.akgProfile {value : Nat} {s : State} : Out.Kept s (execAkgProfile value s) := by
  unfold execAkgProfile
  have h : s.Kept s := .refl
  with_reducible repeat' (first | refine .next ?_ | assumption | refine .viaHost ?_ ?_ | refine .akgProfileWrite ?_ | intro _)

theorem Out.Kept.status {id : Nat} {s : State} : Out.Kept s (execStatus id s) := by
  unfold execStatus
  have h : s.Kept s := .refl
  with_reducible repeat' (first | refine .next ?_ | assumption | refine .pairReply ?_ | split)

theorem Out.Kept.pairPrefect {id : Nat} {s : State} : Out.Kept s (execPairPrefect id s) := by
  unfold execPairPrefect
  have h : s.Kept s := .refl
  with_reducible repeat' (first | refine .next ?_ | assumption | refine .askPair ?_ | split)

theorem Out.Kept.pairDeputy {id : Nat} {s : State} : Out.Kept s (execPairDeputy id s) := by
  unfold execPairDeputy
  have h : s.Kept s := .refl
  with_reducible repeat' (first | refine .next ?_ | assumption | refine .askPair ?_ | split)

theorem Out.Kept.unpair {id : Nat} {s : State} : Out.Kept s (execUnpair id s) := by
  unfold execUnpair
  have h : s.Kept s := .refl
  with_reducible repeat' (first | refine .next ?_ | assumption | refine .when_ ?_ ?_ | refine .sendPair ?_ | refine .leavePair ?_ | refine .runFlight ?_ | refine .finish ?_ | intro _ | split | (dsimp only; split))

theorem Out.Kept.swap {id : Nat} {s : State} : Out.Kept s (execSwap id s) := by
  unfold execSwap
  have h : s.Kept s := .refl
  with_reducible repeat' (first | refine .next ?_ | assumption | refine .ite ?_ ?_ | refine .runFlight ?_ | refine .setAkg ?_ | refine .pairReply ?_ | refine .sendPair ?_ | refine .trySwap ?_ | intro _ | split | (dsimp only; split))

theorem Out.Kept.claim {id : Nat} {s : State} : Out.Kept s (execClaim id s) := by
  unfold execClaim
  have h : s.Kept s := .refl
  with_reducible repeat' (first | refine .next ?_ | assumption | refine .ite ?_ ?_ | refine .pairReply ?_ | refine .runFlight ?_ | refine .claim ?_ | intro _ | split | (dsimp only; split))

theorem Out.Kept.mirrorTick {s : State} : Out.Kept s (execMirrorTick s) := by
  unfold execMirrorTick
  have h : s.Kept s := .refl
  with_reducible repeat' (first | refine .next ?_ | assumption | refine .ite ?_ ?_ | refine .pairStep ?_ ?_ | refine .sendPair ?_ | refine .each ?_ ?_ | refine .refresh ?_ | refine .setAkg ?_ | refine .trySwap ?_ | intro _)

theorem Out.Kept.snapshotApply {s : State} : Out.Kept s (execSnapshotApply s) := by
  unfold execSnapshotApply
  have h : s.Kept s := .refl
  with_reducible repeat' (first | refine .next ?_ | assumption | refine .ite ?_ ?_ | refine .pairStep ?_ ?_ | refine .applySnapshot ?_ | intro _)

theorem Out.Kept.snapshotAck {s : State} : Out.Kept s (execSnapshotAck s) := by
  unfold execSnapshotAck
  have h : s.Kept s := .refl
  with_reducible repeat' (first | refine .next ?_ | assumption | refine .pairStep ?_ ?_ | refine .snapshotTaken ?_ | exact .fromInbox (by assumption) (by assumption) | intro _ | split | (dsimp only; split))

theorem Out.Kept.pairingTimeout {s : State} : Out.Kept s (execPairingTimeout s) := by
  unfold execPairingTimeout
  have h : s.Kept s := .refl
  with_reducible repeat' (first | refine .next ?_ | assumption | refine .ite ?_ ?_ | refine .pairStep ?_ ?_ | refine .pairFailsBoth ?_ | intro _ | split | (dsimp only; split))

theorem Out.Kept.pairAuthFrame {s : State} : Out.Kept s (execPairAuthFrame s) := by
  unfold execPairAuthFrame
  have h : s.Kept s := .refl
  with_reducible repeat' (first | refine .next ?_ | assumption | refine .pairStep ?_ ?_ | refine .authFrame ?_ | exact .fromInbox (by assumption) (by assumption) | intro _ | split | (dsimp only; split))

theorem Out.Kept.pairCopyDone {s : State} : Out.Kept s (execPairCopyDone s) := by
  unfold execPairCopyDone
  have h : s.Kept s := .refl
  with_reducible repeat' (first | refine .next ?_ | assumption | refine .ite ?_ ?_ | refine .pairStep ?_ ?_ | refine .copyEnds ?_ | refine .sendPair ?_ | exact .fromInbox (by assumption) (by assumption) | intro _ | split | (dsimp only; split))

theorem Out.Kept.peerSwap {s : State} : Out.Kept s (execPeerSwap s) := by
  unfold execPeerSwap
  have h : s.Kept s := .refl
  with_reducible repeat' (first | refine .next ?_ | assumption | refine .ite ?_ ?_ | refine .pairStep ?_ ?_ | refine .peerSwap ?_ | exact .fromInbox (by assumption) (by assumption) | intro _ | split | (dsimp only; split))

theorem Out.Kept.peerClaim {s : State} : Out.Kept s (execPeerClaim s) := by
  unfold execPeerClaim
  have h : s.Kept s := .refl
  with_reducible repeat' (first | refine .next ?_ | assumption | refine .pairStep ?_ ?_ | refine .claim ?_ | refine .peerClaim ?_ | exact .fromInbox (by assumption) (by assumption) | intro _ | split | (dsimp only; split))

theorem Out.Kept.claimTimeout {s : State} : Out.Kept s (execClaimTimeout s) := by
  unfold execClaimTimeout
  have h : s.Kept s := .refl
  with_reducible repeat' (first | refine .next ?_ | assumption | refine .ite ?_ ?_ | refine .pairStep ?_ ?_ | refine .claim ?_ | intro _ | split | (dsimp only; split))

theorem Out.Kept.resume {s : State} : Out.Kept s (execResume s) := by
  unfold execResume
  have h : s.Kept s := .refl
  with_reducible repeat' (first | refine .next ?_ | assumption | refine .viaHost ?_ ?_ | refine .resume ?_ | intro _)

theorem Out.Kept.vaultSignature {s : State} : Out.Kept s (execVaultSignature s) := by
  unfold execVaultSignature
  have h : s.Kept s := .refl
  with_reducible repeat' (first | refine .next ?_ | assumption | refine .ite ?_ ?_ | refine .withFresh ?_ | refine .withSec ?_ | refine .spdmReply ?_ | refine .bump ?_ | refine .pairSigned ?_ | intro _ | split | (dsimp only; split))

end Sys2Proof.Machine
end

