-- ==== Sys2Proof/Laws/Shared.lean ====
section
/-!
SUPPORT. Laws/Shared.lean: for each shared operation, its frame, the register fields it leaves alone and the components it leaves alone.
-/
namespace Sys2Proof.Machine

open Sys2Proof

variable (s : State)

/-- Nothing done yet. -/
theorem State.only.nil {s : State} {l : List Place} : s.only s l := (State.only.refl s).mono (by simp)

theorem State.only.put {s t : State} {l : List Place} {f : Fld} {v : Nat} (h : s.only t l) (hl : ∀ p ∈ ([.fld f] : List Place), p ∈ l) : s.only (t.put f v) l :=
  h.step (t.only_put f v) hl
theorem State.only.putFlag {s t : State} {l : List Place} {f : Fld} {b : Bool} (h : s.only t l) (hl : ∀ p ∈ ([.fld f] : List Place), p ∈ l) : s.only (t.putFlag f b) l :=
  h.step (t.only_putFlag f b) hl
theorem State.only.add {s t : State} {l : List Place} {f : Fld} {n : Nat} (h : s.only t l) (hl : ∀ p ∈ ([.fld f] : List Place), p ∈ l) : s.only (t.add f n) l :=
  h.step (t.only_add f n) hl
theorem State.only.bump {s t : State} {l : List Place} {f : Fld} (h : s.only t l) (hl : ∀ p ∈ ([.fld f] : List Place), p ∈ l) : s.only (t.bump f) l :=
  h.step (t.only_bump f) hl
theorem State.only.setWord {s t : State} {l : List Place} {off : Nat} {w : Word} (h : s.only t l) (hl : ∀ p ∈ ([.words off 4] : List Place), p ∈ l) : s.only (t.setWord off w) l :=
  h.step (t.only_setWord off w) hl
theorem State.only.withMirror {s t : State} {l : List Place} {v} (h : s.only t l) (hl : ∀ p ∈ ([.part .mirror] : List Place), p ∈ l) : s.only (t.withMirror v) l :=
  h.step (t.only_withMirror v) hl
theorem State.only.withLatch {s t : State} {l : List Place} {v} (h : s.only t l) (hl : ∀ p ∈ ([.part .latch] : List Place), p ∈ l) : s.only (t.withLatch v) l :=
  h.step (t.only_withLatch v) hl
theorem State.only.withHiStage {s t : State} {l : List Place} {v} (h : s.only t l) (hl : ∀ p ∈ ([.part .hiStage] : List Place), p ∈ l) : s.only (t.withHiStage v) l :=
  h.step (t.only_withHiStage v) hl
theorem State.only.withLastRead {s t : State} {l : List Place} {v} (h : s.only t l) (hl : ∀ p ∈ ([.part .lastRead] : List Place), p ∈ l) : s.only (t.withLastRead v) l :=
  h.step (t.only_withLastRead v) hl
theorem State.only.withNow {s t : State} {l : List Place} {v} (h : s.only t l) (hl : ∀ p ∈ ([.part .clock] : List Place), p ∈ l) : s.only (t.withNow v) l :=
  h.step (t.only_withNow v) hl
theorem State.only.withColdAt {s t : State} {l : List Place} {v} (h : s.only t l) (hl : ∀ p ∈ ([.part .clock] : List Place), p ∈ l) : s.only (t.withColdAt v) l :=
  h.step (t.only_withColdAt v) hl
theorem State.only.withFresh {s t : State} {l : List Place} {v} (h : s.only t l) (hl : ∀ p ∈ ([.part .fresh] : List Place), p ∈ l) : s.only (t.withFresh v) l :=
  h.step (t.only_withFresh v) hl
theorem State.only.withSlotStraps {s t : State} {l : List Place} {v} (h : s.only t l) (hl : ∀ p ∈ ([.part .slotStraps] : List Place), p ∈ l) : s.only (t.withSlotStraps v) l :=
  h.step (t.only_withSlotStraps v) hl
theorem State.only.withHost {s t : State} {l : List Place} {v} (h : s.only t l) (hl : ∀ p ∈ ([.part .host] : List Place), p ∈ l) : s.only (t.withHost v) l :=
  h.step (t.only_withHost v) hl
theorem State.only.withGpPsh {s t : State} {l : List Place} {v} (h : s.only t l) (hl : ∀ p ∈ ([.part .gpPsh] : List Place), p ∈ l) : s.only (t.withGpPsh v) l :=
  h.step (t.only_withGpPsh v) hl
theorem State.only.withGpGld {s t : State} {l : List Place} {v} (h : s.only t l) (hl : ∀ p ∈ ([.part .gpGld] : List Place), p ∈ l) : s.only (t.withGpGld v) l :=
  h.step (t.only_withGpGld v) hl
theorem State.only.withCrossHeld {s t : State} {l : List Place} {v} (h : s.only t l) (hl : ∀ p ∈ ([.part .crossHeld] : List Place), p ∈ l) : s.only (t.withCrossHeld v) l :=
  h.step (t.only_withCrossHeld v) hl
theorem State.only.withSvc {s t : State} {l : List Place} {v} (h : s.only t l) (hl : ∀ p ∈ ([.part .svc] : List Place), p ∈ l) : s.only (t.withSvc v) l :=
  h.step (t.only_withSvc v) hl
theorem State.only.withBrk {s t : State} {l : List Place} {v} (h : s.only t l) (hl : ∀ p ∈ ([.part .brk] : List Place), p ∈ l) : s.only (t.withBrk v) l :=
  h.step (t.only_withBrk v) hl
theorem State.only.withMeter {s t : State} {l : List Place} {v} (h : s.only t l) (hl : ∀ p ∈ ([.part .meter] : List Place), p ∈ l) : s.only (t.withMeter v) l :=
  h.step (t.only_withMeter v) hl
theorem State.only.withPmb {s t : State} {l : List Place} {v} (h : s.only t l) (hl : ∀ p ∈ ([.part .pmb] : List Place), p ∈ l) : s.only (t.withPmb v) l :=
  h.step (t.only_withPmb v) hl
theorem State.only.withCard {s t : State} {l : List Place} {v} (h : s.only t l) (hl : ∀ p ∈ ([.part .card] : List Place), p ∈ l) : s.only (t.withCard v) l :=
  h.step (t.only_withCard v) hl
theorem State.only.withMgmt {s t : State} {l : List Place} {v} (h : s.only t l) (hl : ∀ p ∈ ([.part .mgmt] : List Place), p ∈ l) : s.only (t.withMgmt v) l :=
  h.step (t.only_withMgmt v) hl
theorem State.only.withThermal {s t : State} {l : List Place} {v} (h : s.only t l) (hl : ∀ p ∈ ([.part .thermal] : List Place), p ∈ l) : s.only (t.withThermal v) l :=
  h.step (t.only_withThermal v) hl
theorem State.only.withSec {s t : State} {l : List Place} {v} (h : s.only t l) (hl : ∀ p ∈ ([.part .sec] : List Place), p ∈ l) : s.only (t.withSec v) l :=
  h.step (t.only_withSec v) hl
theorem State.only.withDbg {s t : State} {l : List Place} {v} (h : s.only t l) (hl : ∀ p ∈ ([.part .dbg] : List Place), p ∈ l) : s.only (t.withDbg v) l :=
  h.step (t.only_withDbg v) hl
theorem State.only.withFab {s t : State} {l : List Place} {v} (h : s.only t l) (hl : ∀ p ∈ ([.part .fab] : List Place), p ∈ l) : s.only (t.withFab v) l :=
  h.step (t.only_withFab v) hl
theorem State.only.withPass {s t : State} {l : List Place} {v} (h : s.only t l) (hl : ∀ p ∈ ([.part .pass] : List Place), p ∈ l) : s.only (t.withPass v) l :=
  h.step (t.only_withPass v) hl
theorem State.only.withCap {s t : State} {l : List Place} {v} (h : s.only t l) (hl : ∀ p ∈ ([.part .cap] : List Place), p ∈ l) : s.only (t.withCap v) l :=
  h.step (t.only_withCap v) hl
theorem State.only.withAkg {s t : State} {l : List Place} {v} (h : s.only t l) (hl : ∀ p ∈ ([.part .akg] : List Place), p ∈ l) : s.only (t.withAkg v) l :=
  h.step (t.only_withAkg v) hl
theorem State.only.withDram {s t : State} {l : List Place} {v} (h : s.only t l) (hl : ∀ p ∈ ([.part .dram] : List Place), p ∈ l) : s.only (t.withDram v) l :=
  h.step (t.only_withDram v) hl
theorem State.only.withDramEra {s t : State} {l : List Place} {v} (h : s.only t l) (hl : ∀ p ∈ ([.part .dramEra] : List Place), p ∈ l) : s.only (t.withDramEra v) l :=
  h.step (t.only_withDramEra v) hl
theorem State.only.withNor {s t : State} {l : List Place} {v} (h : s.only t l) (hl : ∀ p ∈ ([.part .nor] : List Place), p ∈ l) : s.only (t.withNor v) l :=
  h.step (t.only_withNor v) hl
theorem State.only.withPending {s t : State} {l : List Place} {v} (h : s.only t l) (hl : ∀ p ∈ ([.part .pending] : List Place), p ∈ l) : s.only (t.withPending v) l :=
  h.step (t.only_withPending v) hl

theorem State.only.alertOn {s t : State} {l : List Place} (h : s.only t l) (hl : ∀ p ∈ ([.part .pmb] : List Place), p ∈ l) : s.only (t.alertOn) l :=
  h.step (t.only_alertOn) hl
@[simp] theorem State.word_alertOn (off : Nat) : (s.alertOn).word off = s.word off :=
  (s.only_alertOn).word (by simp) off
@[simp] theorem State.get_alertOn (g : Fld) : (s.alertOn).get g = s.get g := by simp [State.get]

@[simp] theorem State.alertOn_mirror : (s.alertOn).mirror = s.mirror := (s.only_alertOn).part (p := .mirror) (by simp)
@[simp] theorem State.alertOn_latch : (s.alertOn).latch = s.latch := (s.only_alertOn).part (p := .latch) (by simp)
@[simp] theorem State.alertOn_hiStage : (s.alertOn).hiStage = s.hiStage := (s.only_alertOn).part (p := .hiStage) (by simp)
@[simp] theorem State.alertOn_lastRead : (s.alertOn).lastRead = s.lastRead := (s.only_alertOn).part (p := .lastRead) (by simp)
@[simp] theorem State.alertOn_now : (s.alertOn).now = s.now := ((s.only_alertOn).part (p := .clock) (by simp)).1
@[simp] theorem State.alertOn_coldAt : (s.alertOn).coldAt = s.coldAt := ((s.only_alertOn).part (p := .clock) (by simp)).2
@[simp] theorem State.alertOn_fresh : (s.alertOn).fresh = s.fresh := (s.only_alertOn).part (p := .fresh) (by simp)
@[simp] theorem State.alertOn_slotStraps : (s.alertOn).slotStraps = s.slotStraps := (s.only_alertOn).part (p := .slotStraps) (by simp)
@[simp] theorem State.alertOn_host : (s.alertOn).host = s.host := (s.only_alertOn).part (p := .host) (by simp)
@[simp] theorem State.alertOn_gpPsh : (s.alertOn).gpPsh = s.gpPsh := (s.only_alertOn).part (p := .gpPsh) (by simp)
@[simp] theorem State.alertOn_gpGld : (s.alertOn).gpGld = s.gpGld := (s.only_alertOn).part (p := .gpGld) (by simp)
@[simp] theorem State.alertOn_crossHeld : (s.alertOn).crossHeld = s.crossHeld := (s.only_alertOn).part (p := .crossHeld) (by simp)
@[simp] theorem State.alertOn_svc : (s.alertOn).svc = s.svc := (s.only_alertOn).part (p := .svc) (by simp)
@[simp] theorem State.alertOn_brk : (s.alertOn).brk = s.brk := (s.only_alertOn).part (p := .brk) (by simp)
@[simp] theorem State.alertOn_meter : (s.alertOn).meter = s.meter := (s.only_alertOn).part (p := .meter) (by simp)
@[simp] theorem State.alertOn_card : (s.alertOn).card = s.card := (s.only_alertOn).part (p := .card) (by simp)
@[simp] theorem State.alertOn_mgmt : (s.alertOn).mgmt = s.mgmt := (s.only_alertOn).part (p := .mgmt) (by simp)
@[simp] theorem State.alertOn_thermal : (s.alertOn).thermal = s.thermal := (s.only_alertOn).part (p := .thermal) (by simp)
@[simp] theorem State.alertOn_sec : (s.alertOn).sec = s.sec := (s.only_alertOn).part (p := .sec) (by simp)
@[simp] theorem State.alertOn_dbg : (s.alertOn).dbg = s.dbg := (s.only_alertOn).part (p := .dbg) (by simp)
@[simp] theorem State.alertOn_fab : (s.alertOn).fab = s.fab := (s.only_alertOn).part (p := .fab) (by simp)
@[simp] theorem State.alertOn_pass : (s.alertOn).pass = s.pass := (s.only_alertOn).part (p := .pass) (by simp)
@[simp] theorem State.alertOn_cap : (s.alertOn).cap = s.cap := (s.only_alertOn).part (p := .cap) (by simp)
@[simp] theorem State.alertOn_akg : (s.alertOn).akg = s.akg := (s.only_alertOn).part (p := .akg) (by simp)
@[simp] theorem State.alertOn_dram : (s.alertOn).dram = s.dram := (s.only_alertOn).part (p := .dram) (by simp)
@[simp] theorem State.alertOn_dramEra : (s.alertOn).dramEra = s.dramEra := (s.only_alertOn).part (p := .dramEra) (by simp)
@[simp] theorem State.alertOn_nor : (s.alertOn).nor = s.nor := (s.only_alertOn).part (p := .nor) (by simp)
@[simp] theorem State.alertOn_pending : (s.alertOn).pending = s.pending := (s.only_alertOn).part (p := .pending) (by simp)

theorem State.only.alertRefresh {s t : State} {l : List Place} (h : s.only t l) (hl : ∀ p ∈ ([.part .pmb] : List Place), p ∈ l) : s.only (t.alertRefresh) l :=
  h.step (t.only_alertRefresh) hl
@[simp] theorem State.word_alertRefresh (off : Nat) : (s.alertRefresh).word off = s.word off :=
  (s.only_alertRefresh).word (by simp) off
@[simp] theorem State.get_alertRefresh (g : Fld) : (s.alertRefresh).get g = s.get g := by simp [State.get]

@[simp] theorem State.alertRefresh_mirror : (s.alertRefresh).mirror = s.mirror := (s.only_alertRefresh).part (p := .mirror) (by simp)
@[simp] theorem State.alertRefresh_latch : (s.alertRefresh).latch = s.latch := (s.only_alertRefresh).part (p := .latch) (by simp)
@[simp] theorem State.alertRefresh_hiStage : (s.alertRefresh).hiStage = s.hiStage := (s.only_alertRefresh).part (p := .hiStage) (by simp)
@[simp] theorem State.alertRefresh_lastRead : (s.alertRefresh).lastRead = s.lastRead := (s.only_alertRefresh).part (p := .lastRead) (by simp)
@[simp] theorem State.alertRefresh_now : (s.alertRefresh).now = s.now := ((s.only_alertRefresh).part (p := .clock) (by simp)).1
@[simp] theorem State.alertRefresh_coldAt : (s.alertRefresh).coldAt = s.coldAt := ((s.only_alertRefresh).part (p := .clock) (by simp)).2
@[simp] theorem State.alertRefresh_fresh : (s.alertRefresh).fresh = s.fresh := (s.only_alertRefresh).part (p := .fresh) (by simp)
@[simp] theorem State.alertRefresh_slotStraps : (s.alertRefresh).slotStraps = s.slotStraps := (s.only_alertRefresh).part (p := .slotStraps) (by simp)
@[simp] theorem State.alertRefresh_host : (s.alertRefresh).host = s.host := (s.only_alertRefresh).part (p := .host) (by simp)
@[simp] theorem State.alertRefresh_gpPsh : (s.alertRefresh).gpPsh = s.gpPsh := (s.only_alertRefresh).part (p := .gpPsh) (by simp)
@[simp] theorem State.alertRefresh_gpGld : (s.alertRefresh).gpGld = s.gpGld := (s.only_alertRefresh).part (p := .gpGld) (by simp)
@[simp] theorem State.alertRefresh_crossHeld : (s.alertRefresh).crossHeld = s.crossHeld := (s.only_alertRefresh).part (p := .crossHeld) (by simp)
@[simp] theorem State.alertRefresh_svc : (s.alertRefresh).svc = s.svc := (s.only_alertRefresh).part (p := .svc) (by simp)
@[simp] theorem State.alertRefresh_brk : (s.alertRefresh).brk = s.brk := (s.only_alertRefresh).part (p := .brk) (by simp)
@[simp] theorem State.alertRefresh_meter : (s.alertRefresh).meter = s.meter := (s.only_alertRefresh).part (p := .meter) (by simp)
@[simp] theorem State.alertRefresh_card : (s.alertRefresh).card = s.card := (s.only_alertRefresh).part (p := .card) (by simp)
@[simp] theorem State.alertRefresh_mgmt : (s.alertRefresh).mgmt = s.mgmt := (s.only_alertRefresh).part (p := .mgmt) (by simp)
@[simp] theorem State.alertRefresh_thermal : (s.alertRefresh).thermal = s.thermal := (s.only_alertRefresh).part (p := .thermal) (by simp)
@[simp] theorem State.alertRefresh_sec : (s.alertRefresh).sec = s.sec := (s.only_alertRefresh).part (p := .sec) (by simp)
@[simp] theorem State.alertRefresh_dbg : (s.alertRefresh).dbg = s.dbg := (s.only_alertRefresh).part (p := .dbg) (by simp)
@[simp] theorem State.alertRefresh_fab : (s.alertRefresh).fab = s.fab := (s.only_alertRefresh).part (p := .fab) (by simp)
@[simp] theorem State.alertRefresh_pass : (s.alertRefresh).pass = s.pass := (s.only_alertRefresh).part (p := .pass) (by simp)
@[simp] theorem State.alertRefresh_cap : (s.alertRefresh).cap = s.cap := (s.only_alertRefresh).part (p := .cap) (by simp)
@[simp] theorem State.alertRefresh_akg : (s.alertRefresh).akg = s.akg := (s.only_alertRefresh).part (p := .akg) (by simp)
@[simp] theorem State.alertRefresh_dram : (s.alertRefresh).dram = s.dram := (s.only_alertRefresh).part (p := .dram) (by simp)
@[simp] theorem State.alertRefresh_dramEra : (s.alertRefresh).dramEra = s.dramEra := (s.only_alertRefresh).part (p := .dramEra) (by simp)
@[simp] theorem State.alertRefresh_nor : (s.alertRefresh).nor = s.nor := (s.only_alertRefresh).part (p := .nor) (by simp)
@[simp] theorem State.alertRefresh_pending : (s.alertRefresh).pending = s.pending := (s.only_alertRefresh).part (p := .pending) (by simp)

theorem State.only.post {s t : State} {l : List Place} {p : Posted} (h : s.only t l) (hl : ∀ p ∈ ([.part .host] : List Place), p ∈ l) : s.only (t.post p) l :=
  h.step (t.only_post p) hl
@[simp] theorem State.word_post (p : Posted) (off : Nat) : (s.post p).word off = s.word off :=
  (s.only_post p).word (by simp) off
@[simp] theorem State.get_post (p : Posted) (g : Fld) : (s.post p).get g = s.get g := by simp [State.get]

@[simp] theorem State.post_mirror (p : Posted) : (s.post p).mirror = s.mirror := (s.only_post p).part (p := .mirror) (by simp)
@[simp] theorem State.post_latch (p : Posted) : (s.post p).latch = s.latch := (s.only_post p).part (p := .latch) (by simp)
@[simp] theorem State.post_hiStage (p : Posted) : (s.post p).hiStage = s.hiStage := (s.only_post p).part (p := .hiStage) (by simp)
@[simp] theorem State.post_lastRead (p : Posted) : (s.post p).lastRead = s.lastRead := (s.only_post p).part (p := .lastRead) (by simp)
@[simp] theorem State.post_now (p : Posted) : (s.post p).now = s.now := ((s.only_post p).part (p := .clock) (by simp)).1
@[simp] theorem State.post_coldAt (p : Posted) : (s.post p).coldAt = s.coldAt := ((s.only_post p).part (p := .clock) (by simp)).2
@[simp] theorem State.post_fresh (p : Posted) : (s.post p).fresh = s.fresh := (s.only_post p).part (p := .fresh) (by simp)
@[simp] theorem State.post_slotStraps (p : Posted) : (s.post p).slotStraps = s.slotStraps := (s.only_post p).part (p := .slotStraps) (by simp)
@[simp] theorem State.post_gpPsh (p : Posted) : (s.post p).gpPsh = s.gpPsh := (s.only_post p).part (p := .gpPsh) (by simp)
@[simp] theorem State.post_gpGld (p : Posted) : (s.post p).gpGld = s.gpGld := (s.only_post p).part (p := .gpGld) (by simp)
@[simp] theorem State.post_crossHeld (p : Posted) : (s.post p).crossHeld = s.crossHeld := (s.only_post p).part (p := .crossHeld) (by simp)
@[simp] theorem State.post_svc (p : Posted) : (s.post p).svc = s.svc := (s.only_post p).part (p := .svc) (by simp)
@[simp] theorem State.post_brk (p : Posted) : (s.post p).brk = s.brk := (s.only_post p).part (p := .brk) (by simp)
@[simp] theorem State.post_meter (p : Posted) : (s.post p).meter = s.meter := (s.only_post p).part (p := .meter) (by simp)
@[simp] theorem State.post_pmb (p : Posted) : (s.post p).pmb = s.pmb := (s.only_post p).part (p := .pmb) (by simp)
@[simp] theorem State.post_card (p : Posted) : (s.post p).card = s.card := (s.only_post p).part (p := .card) (by simp)
@[simp] theorem State.post_mgmt (p : Posted) : (s.post p).mgmt = s.mgmt := (s.only_post p).part (p := .mgmt) (by simp)
@[simp] theorem State.post_thermal (p : Posted) : (s.post p).thermal = s.thermal := (s.only_post p).part (p := .thermal) (by simp)
@[simp] theorem State.post_sec (p : Posted) : (s.post p).sec = s.sec := (s.only_post p).part (p := .sec) (by simp)
@[simp] theorem State.post_dbg (p : Posted) : (s.post p).dbg = s.dbg := (s.only_post p).part (p := .dbg) (by simp)
@[simp] theorem State.post_fab (p : Posted) : (s.post p).fab = s.fab := (s.only_post p).part (p := .fab) (by simp)
@[simp] theorem State.post_pass (p : Posted) : (s.post p).pass = s.pass := (s.only_post p).part (p := .pass) (by simp)
@[simp] theorem State.post_cap (p : Posted) : (s.post p).cap = s.cap := (s.only_post p).part (p := .cap) (by simp)
@[simp] theorem State.post_akg (p : Posted) : (s.post p).akg = s.akg := (s.only_post p).part (p := .akg) (by simp)
@[simp] theorem State.post_dram (p : Posted) : (s.post p).dram = s.dram := (s.only_post p).part (p := .dram) (by simp)
@[simp] theorem State.post_dramEra (p : Posted) : (s.post p).dramEra = s.dramEra := (s.only_post p).part (p := .dramEra) (by simp)
@[simp] theorem State.post_nor (p : Posted) : (s.post p).nor = s.nor := (s.only_post p).part (p := .nor) (by simp)
@[simp] theorem State.post_pending (p : Posted) : (s.post p).pending = s.pending := (s.only_post p).part (p := .pending) (by simp)

theorem State.only.setPending {s t : State} {l : List Place} {a v : Nat} {b : Bool} (h : s.only t l) (hl : ∀ p ∈ ([.part .host] : List Place), p ∈ l) : s.only (t.setPending a v b) l :=
  h.step (t.only_setPending a v b) hl
@[simp] theorem State.word_setPending (a v : Nat) (b : Bool) (off : Nat) : (s.setPending a v b).word off = s.word off :=
  (s.only_setPending a v b).word (by simp) off
@[simp] theorem State.get_setPending (a v : Nat) (b : Bool) (g : Fld) : (s.setPending a v b).get g = s.get g := by simp [State.get]

@[simp] theorem State.setPending_mirror (a v : Nat) (b : Bool) : (s.setPending a v b).mirror = s.mirror := (s.only_setPending a v b).part (p := .mirror) (by simp)
@[simp] theorem State.setPending_latch (a v : Nat) (b : Bool) : (s.setPending a v b).latch = s.latch := (s.only_setPending a v b).part (p := .latch) (by simp)
@[simp] theorem State.setPending_hiStage (a v : Nat) (b : Bool) : (s.setPending a v b).hiStage = s.hiStage := (s.only_setPending a v b).part (p := .hiStage) (by simp)
@[simp] theorem State.setPending_lastRead (a v : Nat) (b : Bool) : (s.setPending a v b).lastRead = s.lastRead := (s.only_setPending a v b).part (p := .lastRead) (by simp)
@[simp] theorem State.setPending_now (a v : Nat) (b : Bool) : (s.setPending a v b).now = s.now := ((s.only_setPending a v b).part (p := .clock) (by simp)).1
@[simp] theorem State.setPending_coldAt (a v : Nat) (b : Bool) : (s.setPending a v b).coldAt = s.coldAt := ((s.only_setPending a v b).part (p := .clock) (by simp)).2
@[simp] theorem State.setPending_fresh (a v : Nat) (b : Bool) : (s.setPending a v b).fresh = s.fresh := (s.only_setPending a v b).part (p := .fresh) (by simp)
@[simp] theorem State.setPending_slotStraps (a v : Nat) (b : Bool) : (s.setPending a v b).slotStraps = s.slotStraps := (s.only_setPending a v b).part (p := .slotStraps) (by simp)
@[simp] theorem State.setPending_gpPsh (a v : Nat) (b : Bool) : (s.setPending a v b).gpPsh = s.gpPsh := (s.only_setPending a v b).part (p := .gpPsh) (by simp)
@[simp] theorem State.setPending_gpGld (a v : Nat) (b : Bool) : (s.setPending a v b).gpGld = s.gpGld := (s.only_setPending a v b).part (p := .gpGld) (by simp)
@[simp] theorem State.setPending_crossHeld (a v : Nat) (b : Bool) : (s.setPending a v b).crossHeld = s.crossHeld := (s.only_setPending a v b).part (p := .crossHeld) (by simp)
@[simp] theorem State.setPending_svc (a v : Nat) (b : Bool) : (s.setPending a v b).svc = s.svc := (s.only_setPending a v b).part (p := .svc) (by simp)
@[simp] theorem State.setPending_brk (a v : Nat) (b : Bool) : (s.setPending a v b).brk = s.brk := (s.only_setPending a v b).part (p := .brk) (by simp)
@[simp] theorem State.setPending_meter (a v : Nat) (b : Bool) : (s.setPending a v b).meter = s.meter := (s.only_setPending a v b).part (p := .meter) (by simp)
@[simp] theorem State.setPending_pmb (a v : Nat) (b : Bool) : (s.setPending a v b).pmb = s.pmb := (s.only_setPending a v b).part (p := .pmb) (by simp)
@[simp] theorem State.setPending_card (a v : Nat) (b : Bool) : (s.setPending a v b).card = s.card := (s.only_setPending a v b).part (p := .card) (by simp)
@[simp] theorem State.setPending_mgmt (a v : Nat) (b : Bool) : (s.setPending a v b).mgmt = s.mgmt := (s.only_setPending a v b).part (p := .mgmt) (by simp)
@[simp] theorem State.setPending_thermal (a v : Nat) (b : Bool) : (s.setPending a v b).thermal = s.thermal := (s.only_setPending a v b).part (p := .thermal) (by simp)
@[simp] theorem State.setPending_sec (a v : Nat) (b : Bool) : (s.setPending a v b).sec = s.sec := (s.only_setPending a v b).part (p := .sec) (by simp)
@[simp] theorem State.setPending_dbg (a v : Nat) (b : Bool) : (s.setPending a v b).dbg = s.dbg := (s.only_setPending a v b).part (p := .dbg) (by simp)
@[simp] theorem State.setPending_fab (a v : Nat) (b : Bool) : (s.setPending a v b).fab = s.fab := (s.only_setPending a v b).part (p := .fab) (by simp)
@[simp] theorem State.setPending_pass (a v : Nat) (b : Bool) : (s.setPending a v b).pass = s.pass := (s.only_setPending a v b).part (p := .pass) (by simp)
@[simp] theorem State.setPending_cap (a v : Nat) (b : Bool) : (s.setPending a v b).cap = s.cap := (s.only_setPending a v b).part (p := .cap) (by simp)
@[simp] theorem State.setPending_akg (a v : Nat) (b : Bool) : (s.setPending a v b).akg = s.akg := (s.only_setPending a v b).part (p := .akg) (by simp)
@[simp] theorem State.setPending_dram (a v : Nat) (b : Bool) : (s.setPending a v b).dram = s.dram := (s.only_setPending a v b).part (p := .dram) (by simp)
@[simp] theorem State.setPending_dramEra (a v : Nat) (b : Bool) : (s.setPending a v b).dramEra = s.dramEra := (s.only_setPending a v b).part (p := .dramEra) (by simp)
@[simp] theorem State.setPending_nor (a v : Nat) (b : Bool) : (s.setPending a v b).nor = s.nor := (s.only_setPending a v b).part (p := .nor) (by simp)
@[simp] theorem State.setPending_pending (a v : Nat) (b : Bool) : (s.setPending a v b).pending = s.pending := (s.only_setPending a v b).part (p := .pending) (by simp)

theorem State.only.hold {s t : State} {l : List Place} {x : Held} (h : s.only t l) (hl : ∀ p ∈ ([.part .host] : List Place), p ∈ l) : s.only (t.hold x) l :=
  h.step (t.only_hold x) hl
@[simp] theorem State.word_hold (x : Held) (off : Nat) : (s.hold x).word off = s.word off :=
  (s.only_hold x).word (by simp) off
@[simp] theorem State.get_hold (x : Held) (g : Fld) : (s.hold x).get g = s.get g := by simp [State.get]

@[simp] theorem State.hold_mirror (x : Held) : (s.hold x).mirror = s.mirror := (s.only_hold x).part (p := .mirror) (by simp)
@[simp] theorem State.hold_latch (x : Held) : (s.hold x).latch = s.latch := (s.only_hold x).part (p := .latch) (by simp)
@[simp] theorem State.hold_hiStage (x : Held) : (s.hold x).hiStage = s.hiStage := (s.only_hold x).part (p := .hiStage) (by simp)
@[simp] theorem State.hold_lastRead (x : Held) : (s.hold x).lastRead = s.lastRead := (s.only_hold x).part (p := .lastRead) (by simp)
@[simp] theorem State.hold_now (x : Held) : (s.hold x).now = s.now := ((s.only_hold x).part (p := .clock) (by simp)).1
@[simp] theorem State.hold_coldAt (x : Held) : (s.hold x).coldAt = s.coldAt := ((s.only_hold x).part (p := .clock) (by simp)).2
@[simp] theorem State.hold_fresh (x : Held) : (s.hold x).fresh = s.fresh := (s.only_hold x).part (p := .fresh) (by simp)
@[simp] theorem State.hold_slotStraps (x : Held) : (s.hold x).slotStraps = s.slotStraps := (s.only_hold x).part (p := .slotStraps) (by simp)
@[simp] theorem State.hold_gpPsh (x : Held) : (s.hold x).gpPsh = s.gpPsh := (s.only_hold x).part (p := .gpPsh) (by simp)
@[simp] theorem State.hold_gpGld (x : Held) : (s.hold x).gpGld = s.gpGld := (s.only_hold x).part (p := .gpGld) (by simp)
@[simp] theorem State.hold_crossHeld (x : Held) : (s.hold x).crossHeld = s.crossHeld := (s.only_hold x).part (p := .crossHeld) (by simp)
@[simp] theorem State.hold_svc (x : Held) : (s.hold x).svc = s.svc := (s.only_hold x).part (p := .svc) (by simp)
@[simp] theorem State.hold_brk (x : Held) : (s.hold x).brk = s.brk := (s.only_hold x).part (p := .brk) (by simp)
@[simp] theorem State.hold_meter (x : Held) : (s.hold x).meter = s.meter := (s.only_hold x).part (p := .meter) (by simp)
@[simp] theorem State.hold_pmb (x : Held) : (s.hold x).pmb = s.pmb := (s.only_hold x).part (p := .pmb) (by simp)
@[simp] theorem State.hold_card (x : Held) : (s.hold x).card = s.card := (s.only_hold x).part (p := .card) (by simp)
@[simp] theorem State.hold_mgmt (x : Held) : (s.hold x).mgmt = s.mgmt := (s.only_hold x).part (p := .mgmt) (by simp)
@[simp] theorem State.hold_thermal (x : Held) : (s.hold x).thermal = s.thermal := (s.only_hold x).part (p := .thermal) (by simp)
@[simp] theorem State.hold_sec (x : Held) : (s.hold x).sec = s.sec := (s.only_hold x).part (p := .sec) (by simp)
@[simp] theorem State.hold_dbg (x : Held) : (s.hold x).dbg = s.dbg := (s.only_hold x).part (p := .dbg) (by simp)
@[simp] theorem State.hold_fab (x : Held) : (s.hold x).fab = s.fab := (s.only_hold x).part (p := .fab) (by simp)
@[simp] theorem State.hold_pass (x : Held) : (s.hold x).pass = s.pass := (s.only_hold x).part (p := .pass) (by simp)
@[simp] theorem State.hold_cap (x : Held) : (s.hold x).cap = s.cap := (s.only_hold x).part (p := .cap) (by simp)
@[simp] theorem State.hold_akg (x : Held) : (s.hold x).akg = s.akg := (s.only_hold x).part (p := .akg) (by simp)
@[simp] theorem State.hold_dram (x : Held) : (s.hold x).dram = s.dram := (s.only_hold x).part (p := .dram) (by simp)
@[simp] theorem State.hold_dramEra (x : Held) : (s.hold x).dramEra = s.dramEra := (s.only_hold x).part (p := .dramEra) (by simp)
@[simp] theorem State.hold_nor (x : Held) : (s.hold x).nor = s.nor := (s.only_hold x).part (p := .nor) (by simp)
@[simp] theorem State.hold_pending (x : Held) : (s.hold x).pending = s.pending := (s.only_hold x).part (p := .pending) (by simp)

theorem State.only.sendVec {s t : State} {l : List Place} {a v : Nat} (h : s.only t l) (hl : ∀ p ∈ ([.part .host] : List Place), p ∈ l) : s.only (t.sendVec a v) l :=
  h.step (t.only_sendVec a v) hl
@[simp] theorem State.word_sendVec (a v : Nat) (off : Nat) : (s.sendVec a v).word off = s.word off :=
  (s.only_sendVec a v).word (by simp) off
@[simp] theorem State.get_sendVec (a v : Nat) (g : Fld) : (s.sendVec a v).get g = s.get g := by simp [State.get]

@[simp] theorem State.sendVec_mirror (a v : Nat) : (s.sendVec a v).mirror = s.mirror := (s.only_sendVec a v).part (p := .mirror) (by simp)
@[simp] theorem State.sendVec_latch (a v : Nat) : (s.sendVec a v).latch = s.latch := (s.only_sendVec a v).part (p := .latch) (by simp)
@[simp] theorem State.sendVec_hiStage (a v : Nat) : (s.sendVec a v).hiStage = s.hiStage := (s.only_sendVec a v).part (p := .hiStage) (by simp)
@[simp] theorem State.sendVec_lastRead (a v : Nat) : (s.sendVec a v).lastRead = s.lastRead := (s.only_sendVec a v).part (p := .lastRead) (by simp)
@[simp] theorem State.sendVec_now (a v : Nat) : (s.sendVec a v).now = s.now := ((s.only_sendVec a v).part (p := .clock) (by simp)).1
@[simp] theorem State.sendVec_coldAt (a v : Nat) : (s.sendVec a v).coldAt = s.coldAt := ((s.only_sendVec a v).part (p := .clock) (by simp)).2
@[simp] theorem State.sendVec_fresh (a v : Nat) : (s.sendVec a v).fresh = s.fresh := (s.only_sendVec a v).part (p := .fresh) (by simp)
@[simp] theorem State.sendVec_slotStraps (a v : Nat) : (s.sendVec a v).slotStraps = s.slotStraps := (s.only_sendVec a v).part (p := .slotStraps) (by simp)
@[simp] theorem State.sendVec_gpPsh (a v : Nat) : (s.sendVec a v).gpPsh = s.gpPsh := (s.only_sendVec a v).part (p := .gpPsh) (by simp)
@[simp] theorem State.sendVec_gpGld (a v : Nat) : (s.sendVec a v).gpGld = s.gpGld := (s.only_sendVec a v).part (p := .gpGld) (by simp)
@[simp] theorem State.sendVec_crossHeld (a v : Nat) : (s.sendVec a v).crossHeld = s.crossHeld := (s.only_sendVec a v).part (p := .crossHeld) (by simp)
@[simp] theorem State.sendVec_svc (a v : Nat) : (s.sendVec a v).svc = s.svc := (s.only_sendVec a v).part (p := .svc) (by simp)
@[simp] theorem State.sendVec_brk (a v : Nat) : (s.sendVec a v).brk = s.brk := (s.only_sendVec a v).part (p := .brk) (by simp)
@[simp] theorem State.sendVec_meter (a v : Nat) : (s.sendVec a v).meter = s.meter := (s.only_sendVec a v).part (p := .meter) (by simp)
@[simp] theorem State.sendVec_pmb (a v : Nat) : (s.sendVec a v).pmb = s.pmb := (s.only_sendVec a v).part (p := .pmb) (by simp)
@[simp] theorem State.sendVec_card (a v : Nat) : (s.sendVec a v).card = s.card := (s.only_sendVec a v).part (p := .card) (by simp)
@[simp] theorem State.sendVec_mgmt (a v : Nat) : (s.sendVec a v).mgmt = s.mgmt := (s.only_sendVec a v).part (p := .mgmt) (by simp)
@[simp] theorem State.sendVec_thermal (a v : Nat) : (s.sendVec a v).thermal = s.thermal := (s.only_sendVec a v).part (p := .thermal) (by simp)
@[simp] theorem State.sendVec_sec (a v : Nat) : (s.sendVec a v).sec = s.sec := (s.only_sendVec a v).part (p := .sec) (by simp)
@[simp] theorem State.sendVec_dbg (a v : Nat) : (s.sendVec a v).dbg = s.dbg := (s.only_sendVec a v).part (p := .dbg) (by simp)
@[simp] theorem State.sendVec_fab (a v : Nat) : (s.sendVec a v).fab = s.fab := (s.only_sendVec a v).part (p := .fab) (by simp)
@[simp] theorem State.sendVec_pass (a v : Nat) : (s.sendVec a v).pass = s.pass := (s.only_sendVec a v).part (p := .pass) (by simp)
@[simp] theorem State.sendVec_cap (a v : Nat) : (s.sendVec a v).cap = s.cap := (s.only_sendVec a v).part (p := .cap) (by simp)
@[simp] theorem State.sendVec_akg (a v : Nat) : (s.sendVec a v).akg = s.akg := (s.only_sendVec a v).part (p := .akg) (by simp)
@[simp] theorem State.sendVec_dram (a v : Nat) : (s.sendVec a v).dram = s.dram := (s.only_sendVec a v).part (p := .dram) (by simp)
@[simp] theorem State.sendVec_dramEra (a v : Nat) : (s.sendVec a v).dramEra = s.dramEra := (s.only_sendVec a v).part (p := .dramEra) (by simp)
@[simp] theorem State.sendVec_nor (a v : Nat) : (s.sendVec a v).nor = s.nor := (s.only_sendVec a v).part (p := .nor) (by simp)
@[simp] theorem State.sendVec_pending (a v : Nat) : (s.sendVec a v).pending = s.pending := (s.only_sendVec a v).part (p := .pending) (by simp)

theorem State.only.postEvent {s t : State} {l : List Place} {a b c d : Nat} (h : s.only t l) (hl : ∀ p ∈ ([.part .host] : List Place), p ∈ l) : s.only (t.postEvent a b c d) l :=
  h.step (t.only_postEvent a b c d) hl
@[simp] theorem State.word_postEvent (a b c d : Nat) (off : Nat) : (s.postEvent a b c d).word off = s.word off :=
  (s.only_postEvent a b c d).word (by simp) off
@[simp] theorem State.get_postEvent (a b c d : Nat) (g : Fld) : (s.postEvent a b c d).get g = s.get g := by simp [State.get]

@[simp] theorem State.postEvent_mirror (a b c d : Nat) : (s.postEvent a b c d).mirror = s.mirror := (s.only_postEvent a b c d).part (p := .mirror) (by simp)
@[simp] theorem State.postEvent_latch (a b c d : Nat) : (s.postEvent a b c d).latch = s.latch := (s.only_postEvent a b c d).part (p := .latch) (by simp)
@[simp] theorem State.postEvent_hiStage (a b c d : Nat) : (s.postEvent a b c d).hiStage = s.hiStage := (s.only_postEvent a b c d).part (p := .hiStage) (by simp)
@[simp] theorem State.postEvent_lastRead (a b c d : Nat) : (s.postEvent a b c d).lastRead = s.lastRead := (s.only_postEvent a b c d).part (p := .lastRead) (by simp)
@[simp] theorem State.postEvent_now (a b c d : Nat) : (s.postEvent a b c d).now = s.now := ((s.only_postEvent a b c d).part (p := .clock) (by simp)).1
@[simp] theorem State.postEvent_coldAt (a b c d : Nat) : (s.postEvent a b c d).coldAt = s.coldAt := ((s.only_postEvent a b c d).part (p := .clock) (by simp)).2
@[simp] theorem State.postEvent_fresh (a b c d : Nat) : (s.postEvent a b c d).fresh = s.fresh := (s.only_postEvent a b c d).part (p := .fresh) (by simp)
@[simp] theorem State.postEvent_slotStraps (a b c d : Nat) : (s.postEvent a b c d).slotStraps = s.slotStraps := (s.only_postEvent a b c d).part (p := .slotStraps) (by simp)
@[simp] theorem State.postEvent_gpPsh (a b c d : Nat) : (s.postEvent a b c d).gpPsh = s.gpPsh := (s.only_postEvent a b c d).part (p := .gpPsh) (by simp)
@[simp] theorem State.postEvent_gpGld (a b c d : Nat) : (s.postEvent a b c d).gpGld = s.gpGld := (s.only_postEvent a b c d).part (p := .gpGld) (by simp)
@[simp] theorem State.postEvent_crossHeld (a b c d : Nat) : (s.postEvent a b c d).crossHeld = s.crossHeld := (s.only_postEvent a b c d).part (p := .crossHeld) (by simp)
@[simp] theorem State.postEvent_svc (a b c d : Nat) : (s.postEvent a b c d).svc = s.svc := (s.only_postEvent a b c d).part (p := .svc) (by simp)
@[simp] theorem State.postEvent_brk (a b c d : Nat) : (s.postEvent a b c d).brk = s.brk := (s.only_postEvent a b c d).part (p := .brk) (by simp)
@[simp] theorem State.postEvent_meter (a b c d : Nat) : (s.postEvent a b c d).meter = s.meter := (s.only_postEvent a b c d).part (p := .meter) (by simp)
@[simp] theorem State.postEvent_pmb (a b c d : Nat) : (s.postEvent a b c d).pmb = s.pmb := (s.only_postEvent a b c d).part (p := .pmb) (by simp)
@[simp] theorem State.postEvent_card (a b c d : Nat) : (s.postEvent a b c d).card = s.card := (s.only_postEvent a b c d).part (p := .card) (by simp)
@[simp] theorem State.postEvent_mgmt (a b c d : Nat) : (s.postEvent a b c d).mgmt = s.mgmt := (s.only_postEvent a b c d).part (p := .mgmt) (by simp)
@[simp] theorem State.postEvent_thermal (a b c d : Nat) : (s.postEvent a b c d).thermal = s.thermal := (s.only_postEvent a b c d).part (p := .thermal) (by simp)
@[simp] theorem State.postEvent_sec (a b c d : Nat) : (s.postEvent a b c d).sec = s.sec := (s.only_postEvent a b c d).part (p := .sec) (by simp)
@[simp] theorem State.postEvent_dbg (a b c d : Nat) : (s.postEvent a b c d).dbg = s.dbg := (s.only_postEvent a b c d).part (p := .dbg) (by simp)
@[simp] theorem State.postEvent_fab (a b c d : Nat) : (s.postEvent a b c d).fab = s.fab := (s.only_postEvent a b c d).part (p := .fab) (by simp)
@[simp] theorem State.postEvent_pass (a b c d : Nat) : (s.postEvent a b c d).pass = s.pass := (s.only_postEvent a b c d).part (p := .pass) (by simp)
@[simp] theorem State.postEvent_cap (a b c d : Nat) : (s.postEvent a b c d).cap = s.cap := (s.only_postEvent a b c d).part (p := .cap) (by simp)
@[simp] theorem State.postEvent_akg (a b c d : Nat) : (s.postEvent a b c d).akg = s.akg := (s.only_postEvent a b c d).part (p := .akg) (by simp)
@[simp] theorem State.postEvent_dram (a b c d : Nat) : (s.postEvent a b c d).dram = s.dram := (s.only_postEvent a b c d).part (p := .dram) (by simp)
@[simp] theorem State.postEvent_dramEra (a b c d : Nat) : (s.postEvent a b c d).dramEra = s.dramEra := (s.only_postEvent a b c d).part (p := .dramEra) (by simp)
@[simp] theorem State.postEvent_nor (a b c d : Nat) : (s.postEvent a b c d).nor = s.nor := (s.only_postEvent a b c d).part (p := .nor) (by simp)
@[simp] theorem State.postEvent_pending (a b c d : Nat) : (s.postEvent a b c d).pending = s.pending := (s.only_postEvent a b c d).part (p := .pending) (by simp)

theorem State.only.setCauses {s t : State} {l : List Place} {a v : Nat} (h : s.only t l) (hl : ∀ p ∈ ([.fld Reg.GLB_INT_CAUSE.cause, .part .host] : List Place), p ∈ l) : s.only (t.setCauses a v) l :=
  h.step (t.only_setCauses a v) hl
theorem State.get_setCauses (a v : Nat) {g : Fld} (hg : g.lo + g.width ≤ 32)
    (ha : List.all [.fld Reg.GLB_INT_CAUSE.cause] (Place.apart g) = true) : (s.setCauses a v).get g = s.get g :=
  (s.only_setCauses a v).get hg (by simpa [Place.apart_part] using ha)

@[simp] theorem State.setCauses_mirror (a v : Nat) : (s.setCauses a v).mirror = s.mirror := (s.only_setCauses a v).part (p := .mirror) (by simp)
@[simp] theorem State.setCauses_latch (a v : Nat) : (s.setCauses a v).latch = s.latch := (s.only_setCauses a v).part (p := .latch) (by simp)
@[simp] theorem State.setCauses_hiStage (a v : Nat) : (s.setCauses a v).hiStage = s.hiStage := (s.only_setCauses a v).part (p := .hiStage) (by simp)
@[simp] theorem State.setCauses_lastRead (a v : Nat) : (s.setCauses a v).lastRead = s.lastRead := (s.only_setCauses a v).part (p := .lastRead) (by simp)
@[simp] theorem State.setCauses_now (a v : Nat) : (s.setCauses a v).now = s.now := ((s.only_setCauses a v).part (p := .clock) (by simp)).1
@[simp] theorem State.setCauses_coldAt (a v : Nat) : (s.setCauses a v).coldAt = s.coldAt := ((s.only_setCauses a v).part (p := .clock) (by simp)).2
@[simp] theorem State.setCauses_fresh (a v : Nat) : (s.setCauses a v).fresh = s.fresh := (s.only_setCauses a v).part (p := .fresh) (by simp)
@[simp] theorem State.setCauses_slotStraps (a v : Nat) : (s.setCauses a v).slotStraps = s.slotStraps := (s.only_setCauses a v).part (p := .slotStraps) (by simp)
@[simp] theorem State.setCauses_gpPsh (a v : Nat) : (s.setCauses a v).gpPsh = s.gpPsh := (s.only_setCauses a v).part (p := .gpPsh) (by simp)
@[simp] theorem State.setCauses_gpGld (a v : Nat) : (s.setCauses a v).gpGld = s.gpGld := (s.only_setCauses a v).part (p := .gpGld) (by simp)
@[simp] theorem State.setCauses_crossHeld (a v : Nat) : (s.setCauses a v).crossHeld = s.crossHeld := (s.only_setCauses a v).part (p := .crossHeld) (by simp)
@[simp] theorem State.setCauses_svc (a v : Nat) : (s.setCauses a v).svc = s.svc := (s.only_setCauses a v).part (p := .svc) (by simp)
@[simp] theorem State.setCauses_brk (a v : Nat) : (s.setCauses a v).brk = s.brk := (s.only_setCauses a v).part (p := .brk) (by simp)
@[simp] theorem State.setCauses_meter (a v : Nat) : (s.setCauses a v).meter = s.meter := (s.only_setCauses a v).part (p := .meter) (by simp)
@[simp] theorem State.setCauses_pmb (a v : Nat) : (s.setCauses a v).pmb = s.pmb := (s.only_setCauses a v).part (p := .pmb) (by simp)
@[simp] theorem State.setCauses_card (a v : Nat) : (s.setCauses a v).card = s.card := (s.only_setCauses a v).part (p := .card) (by simp)
@[simp] theorem State.setCauses_mgmt (a v : Nat) : (s.setCauses a v).mgmt = s.mgmt := (s.only_setCauses a v).part (p := .mgmt) (by simp)
@[simp] theorem State.setCauses_thermal (a v : Nat) : (s.setCauses a v).thermal = s.thermal := (s.only_setCauses a v).part (p := .thermal) (by simp)
@[simp] theorem State.setCauses_sec (a v : Nat) : (s.setCauses a v).sec = s.sec := (s.only_setCauses a v).part (p := .sec) (by simp)
@[simp] theorem State.setCauses_dbg (a v : Nat) : (s.setCauses a v).dbg = s.dbg := (s.only_setCauses a v).part (p := .dbg) (by simp)
@[simp] theorem State.setCauses_fab (a v : Nat) : (s.setCauses a v).fab = s.fab := (s.only_setCauses a v).part (p := .fab) (by simp)
@[simp] theorem State.setCauses_pass (a v : Nat) : (s.setCauses a v).pass = s.pass := (s.only_setCauses a v).part (p := .pass) (by simp)
@[simp] theorem State.setCauses_cap (a v : Nat) : (s.setCauses a v).cap = s.cap := (s.only_setCauses a v).part (p := .cap) (by simp)
@[simp] theorem State.setCauses_akg (a v : Nat) : (s.setCauses a v).akg = s.akg := (s.only_setCauses a v).part (p := .akg) (by simp)
@[simp] theorem State.setCauses_dram (a v : Nat) : (s.setCauses a v).dram = s.dram := (s.only_setCauses a v).part (p := .dram) (by simp)
@[simp] theorem State.setCauses_dramEra (a v : Nat) : (s.setCauses a v).dramEra = s.dramEra := (s.only_setCauses a v).part (p := .dramEra) (by simp)
@[simp] theorem State.setCauses_nor (a v : Nat) : (s.setCauses a v).nor = s.nor := (s.only_setCauses a v).part (p := .nor) (by simp)
@[simp] theorem State.setCauses_pending (a v : Nat) : (s.setCauses a v).pending = s.pending := (s.only_setCauses a v).part (p := .pending) (by simp)

theorem State.only.raiseTo {s t : State} {l : List Place} {a b c d : Nat} (h : s.only t l) (hl : ∀ p ∈ ([.fld Reg.GLB_INT_CAUSE.cause, .part .host] : List Place), p ∈ l) : s.only (t.raiseTo a b c d) l :=
  h.step (t.only_raiseTo a b c d) hl
theorem State.get_raiseTo (a b c d : Nat) {g : Fld} (hg : g.lo + g.width ≤ 32)
    (ha : List.all [.fld Reg.GLB_INT_CAUSE.cause] (Place.apart g) = true) : (s.raiseTo a b c d).get g = s.get g :=
  (s.only_raiseTo a b c d).get hg (by simpa [Place.apart_part] using ha)

@[simp] theorem State.raiseTo_mirror (a b c d : Nat) : (s.raiseTo a b c d).mirror = s.mirror := (s.only_raiseTo a b c d).part (p := .mirror) (by simp)
@[simp] theorem State.raiseTo_latch (a b c d : Nat) : (s.raiseTo a b c d).latch = s.latch := (s.only_raiseTo a b c d).part (p := .latch) (by simp)
@[simp] theorem State.raiseTo_hiStage (a b c d : Nat) : (s.raiseTo a b c d).hiStage = s.hiStage := (s.only_raiseTo a b c d).part (p := .hiStage) (by simp)
@[simp] theorem State.raiseTo_lastRead (a b c d : Nat) : (s.raiseTo a b c d).lastRead = s.lastRead := (s.only_raiseTo a b c d).part (p := .lastRead) (by simp)
@[simp] theorem State.raiseTo_now (a b c d : Nat) : (s.raiseTo a b c d).now = s.now := ((s.only_raiseTo a b c d).part (p := .clock) (by simp)).1
@[simp] theorem State.raiseTo_coldAt (a b c d : Nat) : (s.raiseTo a b c d).coldAt = s.coldAt := ((s.only_raiseTo a b c d).part (p := .clock) (by simp)).2
@[simp] theorem State.raiseTo_fresh (a b c d : Nat) : (s.raiseTo a b c d).fresh = s.fresh := (s.only_raiseTo a b c d).part (p := .fresh) (by simp)
@[simp] theorem State.raiseTo_slotStraps (a b c d : Nat) : (s.raiseTo a b c d).slotStraps = s.slotStraps := (s.only_raiseTo a b c d).part (p := .slotStraps) (by simp)
@[simp] theorem State.raiseTo_gpPsh (a b c d : Nat) : (s.raiseTo a b c d).gpPsh = s.gpPsh := (s.only_raiseTo a b c d).part (p := .gpPsh) (by simp)
@[simp] theorem State.raiseTo_gpGld (a b c d : Nat) : (s.raiseTo a b c d).gpGld = s.gpGld := (s.only_raiseTo a b c d).part (p := .gpGld) (by simp)
@[simp] theorem State.raiseTo_crossHeld (a b c d : Nat) : (s.raiseTo a b c d).crossHeld = s.crossHeld := (s.only_raiseTo a b c d).part (p := .crossHeld) (by simp)
@[simp] theorem State.raiseTo_svc (a b c d : Nat) : (s.raiseTo a b c d).svc = s.svc := (s.only_raiseTo a b c d).part (p := .svc) (by simp)
@[simp] theorem State.raiseTo_brk (a b c d : Nat) : (s.raiseTo a b c d).brk = s.brk := (s.only_raiseTo a b c d).part (p := .brk) (by simp)
@[simp] theorem State.raiseTo_meter (a b c d : Nat) : (s.raiseTo a b c d).meter = s.meter := (s.only_raiseTo a b c d).part (p := .meter) (by simp)
@[simp] theorem State.raiseTo_pmb (a b c d : Nat) : (s.raiseTo a b c d).pmb = s.pmb := (s.only_raiseTo a b c d).part (p := .pmb) (by simp)
@[simp] theorem State.raiseTo_card (a b c d : Nat) : (s.raiseTo a b c d).card = s.card := (s.only_raiseTo a b c d).part (p := .card) (by simp)
@[simp] theorem State.raiseTo_mgmt (a b c d : Nat) : (s.raiseTo a b c d).mgmt = s.mgmt := (s.only_raiseTo a b c d).part (p := .mgmt) (by simp)
@[simp] theorem State.raiseTo_thermal (a b c d : Nat) : (s.raiseTo a b c d).thermal = s.thermal := (s.only_raiseTo a b c d).part (p := .thermal) (by simp)
@[simp] theorem State.raiseTo_sec (a b c d : Nat) : (s.raiseTo a b c d).sec = s.sec := (s.only_raiseTo a b c d).part (p := .sec) (by simp)
@[simp] theorem State.raiseTo_dbg (a b c d : Nat) : (s.raiseTo a b c d).dbg = s.dbg := (s.only_raiseTo a b c d).part (p := .dbg) (by simp)
@[simp] theorem State.raiseTo_fab (a b c d : Nat) : (s.raiseTo a b c d).fab = s.fab := (s.only_raiseTo a b c d).part (p := .fab) (by simp)
@[simp] theorem State.raiseTo_pass (a b c d : Nat) : (s.raiseTo a b c d).pass = s.pass := (s.only_raiseTo a b c d).part (p := .pass) (by simp)
@[simp] theorem State.raiseTo_cap (a b c d : Nat) : (s.raiseTo a b c d).cap = s.cap := (s.only_raiseTo a b c d).part (p := .cap) (by simp)
@[simp] theorem State.raiseTo_akg (a b c d : Nat) : (s.raiseTo a b c d).akg = s.akg := (s.only_raiseTo a b c d).part (p := .akg) (by simp)
@[simp] theorem State.raiseTo_dram (a b c d : Nat) : (s.raiseTo a b c d).dram = s.dram := (s.only_raiseTo a b c d).part (p := .dram) (by simp)
@[simp] theorem State.raiseTo_dramEra (a b c d : Nat) : (s.raiseTo a b c d).dramEra = s.dramEra := (s.only_raiseTo a b c d).part (p := .dramEra) (by simp)
@[simp] theorem State.raiseTo_nor (a b c d : Nat) : (s.raiseTo a b c d).nor = s.nor := (s.only_raiseTo a b c d).part (p := .nor) (by simp)
@[simp] theorem State.raiseTo_pending (a b c d : Nat) : (s.raiseTo a b c d).pending = s.pending := (s.only_raiseTo a b c d).part (p := .pending) (by simp)

theorem State.only.raise {s t : State} {l : List Place} {b c d : Nat} (h : s.only t l) (hl : ∀ p ∈ ([.fld Reg.GLB_INT_CAUSE.cause, .part .host] : List Place), p ∈ l) : s.only (t.raise b c d) l :=
  h.step (t.only_raise b c d) hl
theorem State.get_raise (b c d : Nat) {g : Fld} (hg : g.lo + g.width ≤ 32)
    (ha : List.all [.fld Reg.GLB_INT_CAUSE.cause] (Place.apart g) = true) : (s.raise b c d).get g = s.get g :=
  (s.only_raise b c d).get hg (by simpa [Place.apart_part] using ha)

@[simp] theorem State.raise_mirror (b c d : Nat) : (s.raise b c d).mirror = s.mirror := (s.only_raise b c d).part (p := .mirror) (by simp)
@[simp] theorem State.raise_latch (b c d : Nat) : (s.raise b c d).latch = s.latch := (s.only_raise b c d).part (p := .latch) (by simp)
@[simp] theorem State.raise_hiStage (b c d : Nat) : (s.raise b c d).hiStage = s.hiStage := (s.only_raise b c d).part (p := .hiStage) (by simp)
@[simp] theorem State.raise_lastRead (b c d : Nat) : (s.raise b c d).lastRead = s.lastRead := (s.only_raise b c d).part (p := .lastRead) (by simp)
@[simp] theorem State.raise_now (b c d : Nat) : (s.raise b c d).now = s.now := ((s.only_raise b c d).part (p := .clock) (by simp)).1
@[simp] theorem State.raise_coldAt (b c d : Nat) : (s.raise b c d).coldAt = s.coldAt := ((s.only_raise b c d).part (p := .clock) (by simp)).2
@[simp] theorem State.raise_fresh (b c d : Nat) : (s.raise b c d).fresh = s.fresh := (s.only_raise b c d).part (p := .fresh) (by simp)
@[simp] theorem State.raise_slotStraps (b c d : Nat) : (s.raise b c d).slotStraps = s.slotStraps := (s.only_raise b c d).part (p := .slotStraps) (by simp)
@[simp] theorem State.raise_gpPsh (b c d : Nat) : (s.raise b c d).gpPsh = s.gpPsh := (s.only_raise b c d).part (p := .gpPsh) (by simp)
@[simp] theorem State.raise_gpGld (b c d : Nat) : (s.raise b c d).gpGld = s.gpGld := (s.only_raise b c d).part (p := .gpGld) (by simp)
@[simp] theorem State.raise_crossHeld (b c d : Nat) : (s.raise b c d).crossHeld = s.crossHeld := (s.only_raise b c d).part (p := .crossHeld) (by simp)
@[simp] theorem State.raise_svc (b c d : Nat) : (s.raise b c d).svc = s.svc := (s.only_raise b c d).part (p := .svc) (by simp)
@[simp] theorem State.raise_brk (b c d : Nat) : (s.raise b c d).brk = s.brk := (s.only_raise b c d).part (p := .brk) (by simp)
@[simp] theorem State.raise_meter (b c d : Nat) : (s.raise b c d).meter = s.meter := (s.only_raise b c d).part (p := .meter) (by simp)
@[simp] theorem State.raise_pmb (b c d : Nat) : (s.raise b c d).pmb = s.pmb := (s.only_raise b c d).part (p := .pmb) (by simp)
@[simp] theorem State.raise_card (b c d : Nat) : (s.raise b c d).card = s.card := (s.only_raise b c d).part (p := .card) (by simp)
@[simp] theorem State.raise_mgmt (b c d : Nat) : (s.raise b c d).mgmt = s.mgmt := (s.only_raise b c d).part (p := .mgmt) (by simp)
@[simp] theorem State.raise_thermal (b c d : Nat) : (s.raise b c d).thermal = s.thermal := (s.only_raise b c d).part (p := .thermal) (by simp)
@[simp] theorem State.raise_sec (b c d : Nat) : (s.raise b c d).sec = s.sec := (s.only_raise b c d).part (p := .sec) (by simp)
@[simp] theorem State.raise_dbg (b c d : Nat) : (s.raise b c d).dbg = s.dbg := (s.only_raise b c d).part (p := .dbg) (by simp)
@[simp] theorem State.raise_fab (b c d : Nat) : (s.raise b c d).fab = s.fab := (s.only_raise b c d).part (p := .fab) (by simp)
@[simp] theorem State.raise_pass (b c d : Nat) : (s.raise b c d).pass = s.pass := (s.only_raise b c d).part (p := .pass) (by simp)
@[simp] theorem State.raise_cap (b c d : Nat) : (s.raise b c d).cap = s.cap := (s.only_raise b c d).part (p := .cap) (by simp)
@[simp] theorem State.raise_akg (b c d : Nat) : (s.raise b c d).akg = s.akg := (s.only_raise b c d).part (p := .akg) (by simp)
@[simp] theorem State.raise_dram (b c d : Nat) : (s.raise b c d).dram = s.dram := (s.only_raise b c d).part (p := .dram) (by simp)
@[simp] theorem State.raise_dramEra (b c d : Nat) : (s.raise b c d).dramEra = s.dramEra := (s.only_raise b c d).part (p := .dramEra) (by simp)
@[simp] theorem State.raise_nor (b c d : Nat) : (s.raise b c d).nor = s.nor := (s.only_raise b c d).part (p := .nor) (by simp)
@[simp] theorem State.raise_pending (b c d : Nat) : (s.raise b c d).pending = s.pending := (s.only_raise b c d).part (p := .pending) (by simp)

theorem State.only.raiseAll {s t : State} {l : List Place} {b c d : Nat} {vfs : List Nat} (h : s.only t l) (hl : ∀ p ∈ ([.fld Reg.GLB_INT_CAUSE.cause, .part .host] : List Place), p ∈ l) : s.only (t.raiseAll b c d vfs) l :=
  h.step (t.only_raiseAll b c d vfs) hl
theorem State.get_raiseAll (b c d : Nat) (vfs : List Nat) {g : Fld} (hg : g.lo + g.width ≤ 32)
    (ha : List.all [.fld Reg.GLB_INT_CAUSE.cause] (Place.apart g) = true) : (s.raiseAll b c d vfs).get g = s.get g :=
  (s.only_raiseAll b c d vfs).get hg (by simpa [Place.apart_part] using ha)

@[simp] theorem State.raiseAll_mirror (b c d : Nat) (vfs : List Nat) : (s.raiseAll b c d vfs).mirror = s.mirror := (s.only_raiseAll b c d vfs).part (p := .mirror) (by simp)
@[simp] theorem State.raiseAll_latch (b c d : Nat) (vfs : List Nat) : (s.raiseAll b c d vfs).latch = s.latch := (s.only_raiseAll b c d vfs).part (p := .latch) (by simp)
@[simp] theorem State.raiseAll_hiStage (b c d : Nat) (vfs : List Nat) : (s.raiseAll b c d vfs).hiStage = s.hiStage := (s.only_raiseAll b c d vfs).part (p := .hiStage) (by simp)
@[simp] theorem State.raiseAll_lastRead (b c d : Nat) (vfs : List Nat) : (s.raiseAll b c d vfs).lastRead = s.lastRead := (s.only_raiseAll b c d vfs).part (p := .lastRead) (by simp)
@[simp] theorem State.raiseAll_now (b c d : Nat) (vfs : List Nat) : (s.raiseAll b c d vfs).now = s.now := ((s.only_raiseAll b c d vfs).part (p := .clock) (by simp)).1
@[simp] theorem State.raiseAll_coldAt (b c d : Nat) (vfs : List Nat) : (s.raiseAll b c d vfs).coldAt = s.coldAt := ((s.only_raiseAll b c d vfs).part (p := .clock) (by simp)).2
@[simp] theorem State.raiseAll_fresh (b c d : Nat) (vfs : List Nat) : (s.raiseAll b c d vfs).fresh = s.fresh := (s.only_raiseAll b c d vfs).part (p := .fresh) (by simp)
@[simp] theorem State.raiseAll_slotStraps (b c d : Nat) (vfs : List Nat) : (s.raiseAll b c d vfs).slotStraps = s.slotStraps := (s.only_raiseAll b c d vfs).part (p := .slotStraps) (by simp)
@[simp] theorem State.raiseAll_gpPsh (b c d : Nat) (vfs : List Nat) : (s.raiseAll b c d vfs).gpPsh = s.gpPsh := (s.only_raiseAll b c d vfs).part (p := .gpPsh) (by simp)
@[simp] theorem State.raiseAll_gpGld (b c d : Nat) (vfs : List Nat) : (s.raiseAll b c d vfs).gpGld = s.gpGld := (s.only_raiseAll b c d vfs).part (p := .gpGld) (by simp)
@[simp] theorem State.raiseAll_crossHeld (b c d : Nat) (vfs : List Nat) : (s.raiseAll b c d vfs).crossHeld = s.crossHeld := (s.only_raiseAll b c d vfs).part (p := .crossHeld) (by simp)
@[simp] theorem State.raiseAll_svc (b c d : Nat) (vfs : List Nat) : (s.raiseAll b c d vfs).svc = s.svc := (s.only_raiseAll b c d vfs).part (p := .svc) (by simp)
@[simp] theorem State.raiseAll_brk (b c d : Nat) (vfs : List Nat) : (s.raiseAll b c d vfs).brk = s.brk := (s.only_raiseAll b c d vfs).part (p := .brk) (by simp)
@[simp] theorem State.raiseAll_meter (b c d : Nat) (vfs : List Nat) : (s.raiseAll b c d vfs).meter = s.meter := (s.only_raiseAll b c d vfs).part (p := .meter) (by simp)
@[simp] theorem State.raiseAll_pmb (b c d : Nat) (vfs : List Nat) : (s.raiseAll b c d vfs).pmb = s.pmb := (s.only_raiseAll b c d vfs).part (p := .pmb) (by simp)
@[simp] theorem State.raiseAll_card (b c d : Nat) (vfs : List Nat) : (s.raiseAll b c d vfs).card = s.card := (s.only_raiseAll b c d vfs).part (p := .card) (by simp)
@[simp] theorem State.raiseAll_mgmt (b c d : Nat) (vfs : List Nat) : (s.raiseAll b c d vfs).mgmt = s.mgmt := (s.only_raiseAll b c d vfs).part (p := .mgmt) (by simp)
@[simp] theorem State.raiseAll_thermal (b c d : Nat) (vfs : List Nat) : (s.raiseAll b c d vfs).thermal = s.thermal := (s.only_raiseAll b c d vfs).part (p := .thermal) (by simp)
@[simp] theorem State.raiseAll_sec (b c d : Nat) (vfs : List Nat) : (s.raiseAll b c d vfs).sec = s.sec := (s.only_raiseAll b c d vfs).part (p := .sec) (by simp)
@[simp] theorem State.raiseAll_dbg (b c d : Nat) (vfs : List Nat) : (s.raiseAll b c d vfs).dbg = s.dbg := (s.only_raiseAll b c d vfs).part (p := .dbg) (by simp)
@[simp] theorem State.raiseAll_fab (b c d : Nat) (vfs : List Nat) : (s.raiseAll b c d vfs).fab = s.fab := (s.only_raiseAll b c d vfs).part (p := .fab) (by simp)
@[simp] theorem State.raiseAll_pass (b c d : Nat) (vfs : List Nat) : (s.raiseAll b c d vfs).pass = s.pass := (s.only_raiseAll b c d vfs).part (p := .pass) (by simp)
@[simp] theorem State.raiseAll_cap (b c d : Nat) (vfs : List Nat) : (s.raiseAll b c d vfs).cap = s.cap := (s.only_raiseAll b c d vfs).part (p := .cap) (by simp)
@[simp] theorem State.raiseAll_akg (b c d : Nat) (vfs : List Nat) : (s.raiseAll b c d vfs).akg = s.akg := (s.only_raiseAll b c d vfs).part (p := .akg) (by simp)
@[simp] theorem State.raiseAll_dram (b c d : Nat) (vfs : List Nat) : (s.raiseAll b c d vfs).dram = s.dram := (s.only_raiseAll b c d vfs).part (p := .dram) (by simp)
@[simp] theorem State.raiseAll_dramEra (b c d : Nat) (vfs : List Nat) : (s.raiseAll b c d vfs).dramEra = s.dramEra := (s.only_raiseAll b c d vfs).part (p := .dramEra) (by simp)
@[simp] theorem State.raiseAll_nor (b c d : Nat) (vfs : List Nat) : (s.raiseAll b c d vfs).nor = s.nor := (s.only_raiseAll b c d vfs).part (p := .nor) (by simp)
@[simp] theorem State.raiseAll_pending (b c d : Nat) (vfs : List Nat) : (s.raiseAll b c d vfs).pending = s.pending := (s.only_raiseAll b c d vfs).part (p := .pending) (by simp)

theorem State.only.raiseService {s t : State} {l : List Place} (h : s.only t l) (hl : ∀ p ∈ ([.fld Reg.GLB_INT_CAUSE.cause, .part .host] : List Place), p ∈ l) : s.only (t.raiseService) l :=
  h.step (t.only_raiseService) hl
theorem State.get_raiseService {g : Fld} (hg : g.lo + g.width ≤ 32)
    (ha : List.all [.fld Reg.GLB_INT_CAUSE.cause] (Place.apart g) = true) : (s.raiseService).get g = s.get g :=
  (s.only_raiseService).get hg (by simpa [Place.apart_part] using ha)

@[simp] theorem State.raiseService_mirror : (s.raiseService).mirror = s.mirror := (s.only_raiseService).part (p := .mirror) (by simp)
@[simp] theorem State.raiseService_latch : (s.raiseService).latch = s.latch := (s.only_raiseService).part (p := .latch) (by simp)
@[simp] theorem State.raiseService_hiStage : (s.raiseService).hiStage = s.hiStage := (s.only_raiseService).part (p := .hiStage) (by simp)
@[simp] theorem State.raiseService_lastRead : (s.raiseService).lastRead = s.lastRead := (s.only_raiseService).part (p := .lastRead) (by simp)
@[simp] theorem State.raiseService_now : (s.raiseService).now = s.now := ((s.only_raiseService).part (p := .clock) (by simp)).1
@[simp] theorem State.raiseService_coldAt : (s.raiseService).coldAt = s.coldAt := ((s.only_raiseService).part (p := .clock) (by simp)).2
@[simp] theorem State.raiseService_fresh : (s.raiseService).fresh = s.fresh := (s.only_raiseService).part (p := .fresh) (by simp)
@[simp] theorem State.raiseService_slotStraps : (s.raiseService).slotStraps = s.slotStraps := (s.only_raiseService).part (p := .slotStraps) (by simp)
@[simp] theorem State.raiseService_gpPsh : (s.raiseService).gpPsh = s.gpPsh := (s.only_raiseService).part (p := .gpPsh) (by simp)
@[simp] theorem State.raiseService_gpGld : (s.raiseService).gpGld = s.gpGld := (s.only_raiseService).part (p := .gpGld) (by simp)
@[simp] theorem State.raiseService_crossHeld : (s.raiseService).crossHeld = s.crossHeld := (s.only_raiseService).part (p := .crossHeld) (by simp)
@[simp] theorem State.raiseService_svc : (s.raiseService).svc = s.svc := (s.only_raiseService).part (p := .svc) (by simp)
@[simp] theorem State.raiseService_brk : (s.raiseService).brk = s.brk := (s.only_raiseService).part (p := .brk) (by simp)
@[simp] theorem State.raiseService_meter : (s.raiseService).meter = s.meter := (s.only_raiseService).part (p := .meter) (by simp)
@[simp] theorem State.raiseService_pmb : (s.raiseService).pmb = s.pmb := (s.only_raiseService).part (p := .pmb) (by simp)
@[simp] theorem State.raiseService_card : (s.raiseService).card = s.card := (s.only_raiseService).part (p := .card) (by simp)
@[simp] theorem State.raiseService_mgmt : (s.raiseService).mgmt = s.mgmt := (s.only_raiseService).part (p := .mgmt) (by simp)
@[simp] theorem State.raiseService_thermal : (s.raiseService).thermal = s.thermal := (s.only_raiseService).part (p := .thermal) (by simp)
@[simp] theorem State.raiseService_sec : (s.raiseService).sec = s.sec := (s.only_raiseService).part (p := .sec) (by simp)
@[simp] theorem State.raiseService_dbg : (s.raiseService).dbg = s.dbg := (s.only_raiseService).part (p := .dbg) (by simp)
@[simp] theorem State.raiseService_fab : (s.raiseService).fab = s.fab := (s.only_raiseService).part (p := .fab) (by simp)
@[simp] theorem State.raiseService_pass : (s.raiseService).pass = s.pass := (s.only_raiseService).part (p := .pass) (by simp)
@[simp] theorem State.raiseService_cap : (s.raiseService).cap = s.cap := (s.only_raiseService).part (p := .cap) (by simp)
@[simp] theorem State.raiseService_akg : (s.raiseService).akg = s.akg := (s.only_raiseService).part (p := .akg) (by simp)
@[simp] theorem State.raiseService_dram : (s.raiseService).dram = s.dram := (s.only_raiseService).part (p := .dram) (by simp)
@[simp] theorem State.raiseService_dramEra : (s.raiseService).dramEra = s.dramEra := (s.only_raiseService).part (p := .dramEra) (by simp)
@[simp] theorem State.raiseService_nor : (s.raiseService).nor = s.nor := (s.only_raiseService).part (p := .nor) (by simp)
@[simp] theorem State.raiseService_pending : (s.raiseService).pending = s.pending := (s.only_raiseService).part (p := .pending) (by simp)

theorem State.only.raiseSlot {s t : State} {l : List Place} (h : s.only t l) (hl : ∀ p ∈ ([.fld Reg.GLB_INT_CAUSE.cause, .part .host] : List Place), p ∈ l) : s.only (t.raiseSlot) l :=
  h.step (t.only_raiseSlot) hl
theorem State.get_raiseSlot {g : Fld} (hg : g.lo + g.width ≤ 32)
    (ha : List.all [.fld Reg.GLB_INT_CAUSE.cause] (Place.apart g) = true) : (s.raiseSlot).get g = s.get g :=
  (s.only_raiseSlot).get hg (by simpa [Place.apart_part] using ha)

@[simp] theorem State.raiseSlot_mirror : (s.raiseSlot).mirror = s.mirror := (s.only_raiseSlot).part (p := .mirror) (by simp)
@[simp] theorem State.raiseSlot_latch : (s.raiseSlot).latch = s.latch := (s.only_raiseSlot).part (p := .latch) (by simp)
@[simp] theorem State.raiseSlot_hiStage : (s.raiseSlot).hiStage = s.hiStage := (s.only_raiseSlot).part (p := .hiStage) (by simp)
@[simp] theorem State.raiseSlot_lastRead : (s.raiseSlot).lastRead = s.lastRead := (s.only_raiseSlot).part (p := .lastRead) (by simp)
@[simp] theorem State.raiseSlot_now : (s.raiseSlot).now = s.now := ((s.only_raiseSlot).part (p := .clock) (by simp)).1
@[simp] theorem State.raiseSlot_coldAt : (s.raiseSlot).coldAt = s.coldAt := ((s.only_raiseSlot).part (p := .clock) (by simp)).2
@[simp] theorem State.raiseSlot_fresh : (s.raiseSlot).fresh = s.fresh := (s.only_raiseSlot).part (p := .fresh) (by simp)
@[simp] theorem State.raiseSlot_slotStraps : (s.raiseSlot).slotStraps = s.slotStraps := (s.only_raiseSlot).part (p := .slotStraps) (by simp)
@[simp] theorem State.raiseSlot_gpPsh : (s.raiseSlot).gpPsh = s.gpPsh := (s.only_raiseSlot).part (p := .gpPsh) (by simp)
@[simp] theorem State.raiseSlot_gpGld : (s.raiseSlot).gpGld = s.gpGld := (s.only_raiseSlot).part (p := .gpGld) (by simp)
@[simp] theorem State.raiseSlot_crossHeld : (s.raiseSlot).crossHeld = s.crossHeld := (s.only_raiseSlot).part (p := .crossHeld) (by simp)
@[simp] theorem State.raiseSlot_svc : (s.raiseSlot).svc = s.svc := (s.only_raiseSlot).part (p := .svc) (by simp)
@[simp] theorem State.raiseSlot_brk : (s.raiseSlot).brk = s.brk := (s.only_raiseSlot).part (p := .brk) (by simp)
@[simp] theorem State.raiseSlot_meter : (s.raiseSlot).meter = s.meter := (s.only_raiseSlot).part (p := .meter) (by simp)
@[simp] theorem State.raiseSlot_pmb : (s.raiseSlot).pmb = s.pmb := (s.only_raiseSlot).part (p := .pmb) (by simp)
@[simp] theorem State.raiseSlot_card : (s.raiseSlot).card = s.card := (s.only_raiseSlot).part (p := .card) (by simp)
@[simp] theorem State.raiseSlot_mgmt : (s.raiseSlot).mgmt = s.mgmt := (s.only_raiseSlot).part (p := .mgmt) (by simp)
@[simp] theorem State.raiseSlot_thermal : (s.raiseSlot).thermal = s.thermal := (s.only_raiseSlot).part (p := .thermal) (by simp)
@[simp] theorem State.raiseSlot_sec : (s.raiseSlot).sec = s.sec := (s.only_raiseSlot).part (p := .sec) (by simp)
@[simp] theorem State.raiseSlot_dbg : (s.raiseSlot).dbg = s.dbg := (s.only_raiseSlot).part (p := .dbg) (by simp)
@[simp] theorem State.raiseSlot_fab : (s.raiseSlot).fab = s.fab := (s.only_raiseSlot).part (p := .fab) (by simp)
@[simp] theorem State.raiseSlot_pass : (s.raiseSlot).pass = s.pass := (s.only_raiseSlot).part (p := .pass) (by simp)
@[simp] theorem State.raiseSlot_cap : (s.raiseSlot).cap = s.cap := (s.only_raiseSlot).part (p := .cap) (by simp)
@[simp] theorem State.raiseSlot_akg : (s.raiseSlot).akg = s.akg := (s.only_raiseSlot).part (p := .akg) (by simp)
@[simp] theorem State.raiseSlot_dram : (s.raiseSlot).dram = s.dram := (s.only_raiseSlot).part (p := .dram) (by simp)
@[simp] theorem State.raiseSlot_dramEra : (s.raiseSlot).dramEra = s.dramEra := (s.only_raiseSlot).part (p := .dramEra) (by simp)
@[simp] theorem State.raiseSlot_nor : (s.raiseSlot).nor = s.nor := (s.only_raiseSlot).part (p := .nor) (by simp)
@[simp] theorem State.raiseSlot_pending : (s.raiseSlot).pending = s.pending := (s.only_raiseSlot).part (p := .pending) (by simp)

theorem State.only.toGld {s t : State} {l : List Place} {m : GpMsg} (h : s.only t l) (hl : ∀ p ∈ ([.part .gpPsh] : List Place), p ∈ l) : s.only (t.toGld m) l :=
  h.step (t.only_toGld m) hl
@[simp] theorem State.word_toGld (m : GpMsg) (off : Nat) : (s.toGld m).word off = s.word off :=
  (s.only_toGld m).word (by simp) off
@[simp] theorem State.get_toGld (m : GpMsg) (g : Fld) : (s.toGld m).get g = s.get g := by simp [State.get]

@[simp] theorem State.toGld_mirror (m : GpMsg) : (s.toGld m).mirror = s.mirror := (s.only_toGld m).part (p := .mirror) (by simp)
@[simp] theorem State.toGld_latch (m : GpMsg) : (s.toGld m).latch = s.latch := (s.only_toGld m).part (p := .latch) (by simp)
@[simp] theorem State.toGld_hiStage (m : GpMsg) : (s.toGld m).hiStage = s.hiStage := (s.only_toGld m).part (p := .hiStage) (by simp)
@[simp] theorem State.toGld_lastRead (m : GpMsg) : (s.toGld m).lastRead = s.lastRead := (s.only_toGld m).part (p := .lastRead) (by simp)
@[simp] theorem State.toGld_now (m : GpMsg) : (s.toGld m).now = s.now := ((s.only_toGld m).part (p := .clock) (by simp)).1
@[simp] theorem State.toGld_coldAt (m : GpMsg) : (s.toGld m).coldAt = s.coldAt := ((s.only_toGld m).part (p := .clock) (by simp)).2
@[simp] theorem State.toGld_fresh (m : GpMsg) : (s.toGld m).fresh = s.fresh := (s.only_toGld m).part (p := .fresh) (by simp)
@[simp] theorem State.toGld_slotStraps (m : GpMsg) : (s.toGld m).slotStraps = s.slotStraps := (s.only_toGld m).part (p := .slotStraps) (by simp)
@[simp] theorem State.toGld_host (m : GpMsg) : (s.toGld m).host = s.host := (s.only_toGld m).part (p := .host) (by simp)
@[simp] theorem State.toGld_gpGld (m : GpMsg) : (s.toGld m).gpGld = s.gpGld := (s.only_toGld m).part (p := .gpGld) (by simp)
@[simp] theorem State.toGld_crossHeld (m : GpMsg) : (s.toGld m).crossHeld = s.crossHeld := (s.only_toGld m).part (p := .crossHeld) (by simp)
@[simp] theorem State.toGld_svc (m : GpMsg) : (s.toGld m).svc = s.svc := (s.only_toGld m).part (p := .svc) (by simp)
@[simp] theorem State.toGld_brk (m : GpMsg) : (s.toGld m).brk = s.brk := (s.only_toGld m).part (p := .brk) (by simp)
@[simp] theorem State.toGld_meter (m : GpMsg) : (s.toGld m).meter = s.meter := (s.only_toGld m).part (p := .meter) (by simp)
@[simp] theorem State.toGld_pmb (m : GpMsg) : (s.toGld m).pmb = s.pmb := (s.only_toGld m).part (p := .pmb) (by simp)
@[simp] theorem State.toGld_card (m : GpMsg) : (s.toGld m).card = s.card := (s.only_toGld m).part (p := .card) (by simp)
@[simp] theorem State.toGld_mgmt (m : GpMsg) : (s.toGld m).mgmt = s.mgmt := (s.only_toGld m).part (p := .mgmt) (by simp)
@[simp] theorem State.toGld_thermal (m : GpMsg) : (s.toGld m).thermal = s.thermal := (s.only_toGld m).part (p := .thermal) (by simp)
@[simp] theorem State.toGld_sec (m : GpMsg) : (s.toGld m).sec = s.sec := (s.only_toGld m).part (p := .sec) (by simp)
@[simp] theorem State.toGld_dbg (m : GpMsg) : (s.toGld m).dbg = s.dbg := (s.only_toGld m).part (p := .dbg) (by simp)
@[simp] theorem State.toGld_fab (m : GpMsg) : (s.toGld m).fab = s.fab := (s.only_toGld m).part (p := .fab) (by simp)
@[simp] theorem State.toGld_pass (m : GpMsg) : (s.toGld m).pass = s.pass := (s.only_toGld m).part (p := .pass) (by simp)
@[simp] theorem State.toGld_cap (m : GpMsg) : (s.toGld m).cap = s.cap := (s.only_toGld m).part (p := .cap) (by simp)
@[simp] theorem State.toGld_akg (m : GpMsg) : (s.toGld m).akg = s.akg := (s.only_toGld m).part (p := .akg) (by simp)
@[simp] theorem State.toGld_dram (m : GpMsg) : (s.toGld m).dram = s.dram := (s.only_toGld m).part (p := .dram) (by simp)
@[simp] theorem State.toGld_dramEra (m : GpMsg) : (s.toGld m).dramEra = s.dramEra := (s.only_toGld m).part (p := .dramEra) (by simp)
@[simp] theorem State.toGld_nor (m : GpMsg) : (s.toGld m).nor = s.nor := (s.only_toGld m).part (p := .nor) (by simp)
@[simp] theorem State.toGld_pending (m : GpMsg) : (s.toGld m).pending = s.pending := (s.only_toGld m).part (p := .pending) (by simp)

theorem State.only.toPsh {s t : State} {l : List Place} {m : GpMsg} (h : s.only t l) (hl : ∀ p ∈ ([.part .gpGld] : List Place), p ∈ l) : s.only (t.toPsh m) l :=
  h.step (t.only_toPsh m) hl
@[simp] theorem State.word_toPsh (m : GpMsg) (off : Nat) : (s.toPsh m).word off = s.word off :=
  (s.only_toPsh m).word (by simp) off
@[simp] theorem State.get_toPsh (m : GpMsg) (g : Fld) : (s.toPsh m).get g = s.get g := by simp [State.get]

@[simp] theorem State.toPsh_mirror (m : GpMsg) : (s.toPsh m).mirror = s.mirror := (s.only_toPsh m).part (p := .mirror) (by simp)
@[simp] theorem State.toPsh_latch (m : GpMsg) : (s.toPsh m).latch = s.latch := (s.only_toPsh m).part (p := .latch) (by simp)
@[simp] theorem State.toPsh_hiStage (m : GpMsg) : (s.toPsh m).hiStage = s.hiStage := (s.only_toPsh m).part (p := .hiStage) (by simp)
@[simp] theorem State.toPsh_lastRead (m : GpMsg) : (s.toPsh m).lastRead = s.lastRead := (s.only_toPsh m).part (p := .lastRead) (by simp)
@[simp] theorem State.toPsh_now (m : GpMsg) : (s.toPsh m).now = s.now := ((s.only_toPsh m).part (p := .clock) (by simp)).1
@[simp] theorem State.toPsh_coldAt (m : GpMsg) : (s.toPsh m).coldAt = s.coldAt := ((s.only_toPsh m).part (p := .clock) (by simp)).2
@[simp] theorem State.toPsh_fresh (m : GpMsg) : (s.toPsh m).fresh = s.fresh := (s.only_toPsh m).part (p := .fresh) (by simp)
@[simp] theorem State.toPsh_slotStraps (m : GpMsg) : (s.toPsh m).slotStraps = s.slotStraps := (s.only_toPsh m).part (p := .slotStraps) (by simp)
@[simp] theorem State.toPsh_host (m : GpMsg) : (s.toPsh m).host = s.host := (s.only_toPsh m).part (p := .host) (by simp)
@[simp] theorem State.toPsh_gpPsh (m : GpMsg) : (s.toPsh m).gpPsh = s.gpPsh := (s.only_toPsh m).part (p := .gpPsh) (by simp)
@[simp] theorem State.toPsh_crossHeld (m : GpMsg) : (s.toPsh m).crossHeld = s.crossHeld := (s.only_toPsh m).part (p := .crossHeld) (by simp)
@[simp] theorem State.toPsh_svc (m : GpMsg) : (s.toPsh m).svc = s.svc := (s.only_toPsh m).part (p := .svc) (by simp)
@[simp] theorem State.toPsh_brk (m : GpMsg) : (s.toPsh m).brk = s.brk := (s.only_toPsh m).part (p := .brk) (by simp)
@[simp] theorem State.toPsh_meter (m : GpMsg) : (s.toPsh m).meter = s.meter := (s.only_toPsh m).part (p := .meter) (by simp)
@[simp] theorem State.toPsh_pmb (m : GpMsg) : (s.toPsh m).pmb = s.pmb := (s.only_toPsh m).part (p := .pmb) (by simp)
@[simp] theorem State.toPsh_card (m : GpMsg) : (s.toPsh m).card = s.card := (s.only_toPsh m).part (p := .card) (by simp)
@[simp] theorem State.toPsh_mgmt (m : GpMsg) : (s.toPsh m).mgmt = s.mgmt := (s.only_toPsh m).part (p := .mgmt) (by simp)
@[simp] theorem State.toPsh_thermal (m : GpMsg) : (s.toPsh m).thermal = s.thermal := (s.only_toPsh m).part (p := .thermal) (by simp)
@[simp] theorem State.toPsh_sec (m : GpMsg) : (s.toPsh m).sec = s.sec := (s.only_toPsh m).part (p := .sec) (by simp)
@[simp] theorem State.toPsh_dbg (m : GpMsg) : (s.toPsh m).dbg = s.dbg := (s.only_toPsh m).part (p := .dbg) (by simp)
@[simp] theorem State.toPsh_fab (m : GpMsg) : (s.toPsh m).fab = s.fab := (s.only_toPsh m).part (p := .fab) (by simp)
@[simp] theorem State.toPsh_pass (m : GpMsg) : (s.toPsh m).pass = s.pass := (s.only_toPsh m).part (p := .pass) (by simp)
@[simp] theorem State.toPsh_cap (m : GpMsg) : (s.toPsh m).cap = s.cap := (s.only_toPsh m).part (p := .cap) (by simp)
@[simp] theorem State.toPsh_akg (m : GpMsg) : (s.toPsh m).akg = s.akg := (s.only_toPsh m).part (p := .akg) (by simp)
@[simp] theorem State.toPsh_dram (m : GpMsg) : (s.toPsh m).dram = s.dram := (s.only_toPsh m).part (p := .dram) (by simp)
@[simp] theorem State.toPsh_dramEra (m : GpMsg) : (s.toPsh m).dramEra = s.dramEra := (s.only_toPsh m).part (p := .dramEra) (by simp)
@[simp] theorem State.toPsh_nor (m : GpMsg) : (s.toPsh m).nor = s.nor := (s.only_toPsh m).part (p := .nor) (by simp)
@[simp] theorem State.toPsh_pending (m : GpMsg) : (s.toPsh m).pending = s.pending := (s.only_toPsh m).part (p := .pending) (by simp)

theorem State.only.pshCount {s t : State} {l : List Place} {k : Nat} (h : s.only t l) (hl : ∀ p ∈ ([.part .card] : List Place), p ∈ l) : s.only (t.pshCount k) l :=
  h.step (t.only_pshCount k) hl
@[simp] theorem State.word_pshCount (k : Nat) (off : Nat) : (s.pshCount k).word off = s.word off :=
  (s.only_pshCount k).word (by simp) off
@[simp] theorem State.get_pshCount (k : Nat) (g : Fld) : (s.pshCount k).get g = s.get g := by simp [State.get]

@[simp] theorem State.pshCount_mirror (k : Nat) : (s.pshCount k).mirror = s.mirror := (s.only_pshCount k).part (p := .mirror) (by simp)
@[simp] theorem State.pshCount_latch (k : Nat) : (s.pshCount k).latch = s.latch := (s.only_pshCount k).part (p := .latch) (by simp)
@[simp] theorem State.pshCount_hiStage (k : Nat) : (s.pshCount k).hiStage = s.hiStage := (s.only_pshCount k).part (p := .hiStage) (by simp)
@[simp] theorem State.pshCount_lastRead (k : Nat) : (s.pshCount k).lastRead = s.lastRead := (s.only_pshCount k).part (p := .lastRead) (by simp)
@[simp] theorem State.pshCount_now (k : Nat) : (s.pshCount k).now = s.now := ((s.only_pshCount k).part (p := .clock) (by simp)).1
@[simp] theorem State.pshCount_coldAt (k : Nat) : (s.pshCount k).coldAt = s.coldAt := ((s.only_pshCount k).part (p := .clock) (by simp)).2
@[simp] theorem State.pshCount_fresh (k : Nat) : (s.pshCount k).fresh = s.fresh := (s.only_pshCount k).part (p := .fresh) (by simp)
@[simp] theorem State.pshCount_slotStraps (k : Nat) : (s.pshCount k).slotStraps = s.slotStraps := (s.only_pshCount k).part (p := .slotStraps) (by simp)
@[simp] theorem State.pshCount_host (k : Nat) : (s.pshCount k).host = s.host := (s.only_pshCount k).part (p := .host) (by simp)
@[simp] theorem State.pshCount_gpPsh (k : Nat) : (s.pshCount k).gpPsh = s.gpPsh := (s.only_pshCount k).part (p := .gpPsh) (by simp)
@[simp] theorem State.pshCount_gpGld (k : Nat) : (s.pshCount k).gpGld = s.gpGld := (s.only_pshCount k).part (p := .gpGld) (by simp)
@[simp] theorem State.pshCount_crossHeld (k : Nat) : (s.pshCount k).crossHeld = s.crossHeld := (s.only_pshCount k).part (p := .crossHeld) (by simp)
@[simp] theorem State.pshCount_svc (k : Nat) : (s.pshCount k).svc = s.svc := (s.only_pshCount k).part (p := .svc) (by simp)
@[simp] theorem State.pshCount_brk (k : Nat) : (s.pshCount k).brk = s.brk := (s.only_pshCount k).part (p := .brk) (by simp)
@[simp] theorem State.pshCount_meter (k : Nat) : (s.pshCount k).meter = s.meter := (s.only_pshCount k).part (p := .meter) (by simp)
@[simp] theorem State.pshCount_pmb (k : Nat) : (s.pshCount k).pmb = s.pmb := (s.only_pshCount k).part (p := .pmb) (by simp)
@[simp] theorem State.pshCount_mgmt (k : Nat) : (s.pshCount k).mgmt = s.mgmt := (s.only_pshCount k).part (p := .mgmt) (by simp)
@[simp] theorem State.pshCount_thermal (k : Nat) : (s.pshCount k).thermal = s.thermal := (s.only_pshCount k).part (p := .thermal) (by simp)
@[simp] theorem State.pshCount_sec (k : Nat) : (s.pshCount k).sec = s.sec := (s.only_pshCount k).part (p := .sec) (by simp)
@[simp] theorem State.pshCount_dbg (k : Nat) : (s.pshCount k).dbg = s.dbg := (s.only_pshCount k).part (p := .dbg) (by simp)
@[simp] theorem State.pshCount_fab (k : Nat) : (s.pshCount k).fab = s.fab := (s.only_pshCount k).part (p := .fab) (by simp)
@[simp] theorem State.pshCount_pass (k : Nat) : (s.pshCount k).pass = s.pass := (s.only_pshCount k).part (p := .pass) (by simp)
@[simp] theorem State.pshCount_cap (k : Nat) : (s.pshCount k).cap = s.cap := (s.only_pshCount k).part (p := .cap) (by simp)
@[simp] theorem State.pshCount_akg (k : Nat) : (s.pshCount k).akg = s.akg := (s.only_pshCount k).part (p := .akg) (by simp)
@[simp] theorem State.pshCount_dram (k : Nat) : (s.pshCount k).dram = s.dram := (s.only_pshCount k).part (p := .dram) (by simp)
@[simp] theorem State.pshCount_dramEra (k : Nat) : (s.pshCount k).dramEra = s.dramEra := (s.only_pshCount k).part (p := .dramEra) (by simp)
@[simp] theorem State.pshCount_nor (k : Nat) : (s.pshCount k).nor = s.nor := (s.only_pshCount k).part (p := .nor) (by simp)
@[simp] theorem State.pshCount_pending (k : Nat) : (s.pshCount k).pending = s.pending := (s.only_pshCount k).part (p := .pending) (by simp)

theorem State.only.gldCount {s t : State} {l : List Place} {k : Nat} (h : s.only t l) (hl : ∀ p ∈ ([.part .card] : List Place), p ∈ l) : s.only (t.gldCount k) l :=
  h.step (t.only_gldCount k) hl
@[simp] theorem State.word_gldCount (k : Nat) (off : Nat) : (s.gldCount k).word off = s.word off :=
  (s.only_gldCount k).word (by simp) off
@[simp] theorem State.get_gldCount (k : Nat) (g : Fld) : (s.gldCount k).get g = s.get g := by simp [State.get]

@[simp] theorem State.gldCount_mirror (k : Nat) : (s.gldCount k).mirror = s.mirror := (s.only_gldCount k).part (p := .mirror) (by simp)
@[simp] theorem State.gldCount_latch (k : Nat) : (s.gldCount k).latch = s.latch := (s.only_gldCount k).part (p := .latch) (by simp)
@[simp] theorem State.gldCount_hiStage (k : Nat) : (s.gldCount k).hiStage = s.hiStage := (s.only_gldCount k).part (p := .hiStage) (by simp)
@[simp] theorem State.gldCount_lastRead (k : Nat) : (s.gldCount k).lastRead = s.lastRead := (s.only_gldCount k).part (p := .lastRead) (by simp)
@[simp] theorem State.gldCount_now (k : Nat) : (s.gldCount k).now = s.now := ((s.only_gldCount k).part (p := .clock) (by simp)).1
@[simp] theorem State.gldCount_coldAt (k : Nat) : (s.gldCount k).coldAt = s.coldAt := ((s.only_gldCount k).part (p := .clock) (by simp)).2
@[simp] theorem State.gldCount_fresh (k : Nat) : (s.gldCount k).fresh = s.fresh := (s.only_gldCount k).part (p := .fresh) (by simp)
@[simp] theorem State.gldCount_slotStraps (k : Nat) : (s.gldCount k).slotStraps = s.slotStraps := (s.only_gldCount k).part (p := .slotStraps) (by simp)
@[simp] theorem State.gldCount_host (k : Nat) : (s.gldCount k).host = s.host := (s.only_gldCount k).part (p := .host) (by simp)
@[simp] theorem State.gldCount_gpPsh (k : Nat) : (s.gldCount k).gpPsh = s.gpPsh := (s.only_gldCount k).part (p := .gpPsh) (by simp)
@[simp] theorem State.gldCount_gpGld (k : Nat) : (s.gldCount k).gpGld = s.gpGld := (s.only_gldCount k).part (p := .gpGld) (by simp)
@[simp] theorem State.gldCount_crossHeld (k : Nat) : (s.gldCount k).crossHeld = s.crossHeld := (s.only_gldCount k).part (p := .crossHeld) (by simp)
@[simp] theorem State.gldCount_svc (k : Nat) : (s.gldCount k).svc = s.svc := (s.only_gldCount k).part (p := .svc) (by simp)
@[simp] theorem State.gldCount_brk (k : Nat) : (s.gldCount k).brk = s.brk := (s.only_gldCount k).part (p := .brk) (by simp)
@[simp] theorem State.gldCount_meter (k : Nat) : (s.gldCount k).meter = s.meter := (s.only_gldCount k).part (p := .meter) (by simp)
@[simp] theorem State.gldCount_pmb (k : Nat) : (s.gldCount k).pmb = s.pmb := (s.only_gldCount k).part (p := .pmb) (by simp)
@[simp] theorem State.gldCount_mgmt (k : Nat) : (s.gldCount k).mgmt = s.mgmt := (s.only_gldCount k).part (p := .mgmt) (by simp)
@[simp] theorem State.gldCount_thermal (k : Nat) : (s.gldCount k).thermal = s.thermal := (s.only_gldCount k).part (p := .thermal) (by simp)
@[simp] theorem State.gldCount_sec (k : Nat) : (s.gldCount k).sec = s.sec := (s.only_gldCount k).part (p := .sec) (by simp)
@[simp] theorem State.gldCount_dbg (k : Nat) : (s.gldCount k).dbg = s.dbg := (s.only_gldCount k).part (p := .dbg) (by simp)
@[simp] theorem State.gldCount_fab (k : Nat) : (s.gldCount k).fab = s.fab := (s.only_gldCount k).part (p := .fab) (by simp)
@[simp] theorem State.gldCount_pass (k : Nat) : (s.gldCount k).pass = s.pass := (s.only_gldCount k).part (p := .pass) (by simp)
@[simp] theorem State.gldCount_cap (k : Nat) : (s.gldCount k).cap = s.cap := (s.only_gldCount k).part (p := .cap) (by simp)
@[simp] theorem State.gldCount_akg (k : Nat) : (s.gldCount k).akg = s.akg := (s.only_gldCount k).part (p := .akg) (by simp)
@[simp] theorem State.gldCount_dram (k : Nat) : (s.gldCount k).dram = s.dram := (s.only_gldCount k).part (p := .dram) (by simp)
@[simp] theorem State.gldCount_dramEra (k : Nat) : (s.gldCount k).dramEra = s.dramEra := (s.only_gldCount k).part (p := .dramEra) (by simp)
@[simp] theorem State.gldCount_nor (k : Nat) : (s.gldCount k).nor = s.nor := (s.only_gldCount k).part (p := .nor) (by simp)
@[simp] theorem State.gldCount_pending (k : Nat) : (s.gldCount k).pending = s.pending := (s.only_gldCount k).part (p := .pending) (by simp)

theorem State.only.setBk {s t : State} {l : List Place} {v : Nat} (h : s.only t l) (hl : ∀ p ∈ ([.fld Reg.PWR_STATE.state, .fld Reg.PWR_SLOT_STATUS.remove_led] : List Place), p ∈ l) : s.only (t.setBk v) l :=
  h.step (t.only_setBk v) hl
theorem State.get_setBk (v : Nat) {g : Fld} (hg : g.lo + g.width ≤ 32)
    (ha : List.all [.fld Reg.PWR_STATE.state, .fld Reg.PWR_SLOT_STATUS.remove_led] (Place.apart g) = true) : (s.setBk v).get g = s.get g :=
  (s.only_setBk v).get hg (by simpa [Place.apart_part] using ha)

@[simp] theorem State.setBk_mirror (v : Nat) : (s.setBk v).mirror = s.mirror := (s.only_setBk v).part (p := .mirror) (by simp)
@[simp] theorem State.setBk_latch (v : Nat) : (s.setBk v).latch = s.latch := (s.only_setBk v).part (p := .latch) (by simp)
@[simp] theorem State.setBk_hiStage (v : Nat) : (s.setBk v).hiStage = s.hiStage := (s.only_setBk v).part (p := .hiStage) (by simp)
@[simp] theorem State.setBk_lastRead (v : Nat) : (s.setBk v).lastRead = s.lastRead := (s.only_setBk v).part (p := .lastRead) (by simp)
@[simp] theorem State.setBk_now (v : Nat) : (s.setBk v).now = s.now := ((s.only_setBk v).part (p := .clock) (by simp)).1
@[simp] theorem State.setBk_coldAt (v : Nat) : (s.setBk v).coldAt = s.coldAt := ((s.only_setBk v).part (p := .clock) (by simp)).2
@[simp] theorem State.setBk_fresh (v : Nat) : (s.setBk v).fresh = s.fresh := (s.only_setBk v).part (p := .fresh) (by simp)
@[simp] theorem State.setBk_slotStraps (v : Nat) : (s.setBk v).slotStraps = s.slotStraps := (s.only_setBk v).part (p := .slotStraps) (by simp)
@[simp] theorem State.setBk_host (v : Nat) : (s.setBk v).host = s.host := (s.only_setBk v).part (p := .host) (by simp)
@[simp] theorem State.setBk_gpPsh (v : Nat) : (s.setBk v).gpPsh = s.gpPsh := (s.only_setBk v).part (p := .gpPsh) (by simp)
@[simp] theorem State.setBk_gpGld (v : Nat) : (s.setBk v).gpGld = s.gpGld := (s.only_setBk v).part (p := .gpGld) (by simp)
@[simp] theorem State.setBk_crossHeld (v : Nat) : (s.setBk v).crossHeld = s.crossHeld := (s.only_setBk v).part (p := .crossHeld) (by simp)
@[simp] theorem State.setBk_svc (v : Nat) : (s.setBk v).svc = s.svc := (s.only_setBk v).part (p := .svc) (by simp)
@[simp] theorem State.setBk_brk (v : Nat) : (s.setBk v).brk = s.brk := (s.only_setBk v).part (p := .brk) (by simp)
@[simp] theorem State.setBk_meter (v : Nat) : (s.setBk v).meter = s.meter := (s.only_setBk v).part (p := .meter) (by simp)
@[simp] theorem State.setBk_pmb (v : Nat) : (s.setBk v).pmb = s.pmb := (s.only_setBk v).part (p := .pmb) (by simp)
@[simp] theorem State.setBk_card (v : Nat) : (s.setBk v).card = s.card := (s.only_setBk v).part (p := .card) (by simp)
@[simp] theorem State.setBk_mgmt (v : Nat) : (s.setBk v).mgmt = s.mgmt := (s.only_setBk v).part (p := .mgmt) (by simp)
@[simp] theorem State.setBk_thermal (v : Nat) : (s.setBk v).thermal = s.thermal := (s.only_setBk v).part (p := .thermal) (by simp)
@[simp] theorem State.setBk_sec (v : Nat) : (s.setBk v).sec = s.sec := (s.only_setBk v).part (p := .sec) (by simp)
@[simp] theorem State.setBk_dbg (v : Nat) : (s.setBk v).dbg = s.dbg := (s.only_setBk v).part (p := .dbg) (by simp)
@[simp] theorem State.setBk_fab (v : Nat) : (s.setBk v).fab = s.fab := (s.only_setBk v).part (p := .fab) (by simp)
@[simp] theorem State.setBk_pass (v : Nat) : (s.setBk v).pass = s.pass := (s.only_setBk v).part (p := .pass) (by simp)
@[simp] theorem State.setBk_cap (v : Nat) : (s.setBk v).cap = s.cap := (s.only_setBk v).part (p := .cap) (by simp)
@[simp] theorem State.setBk_akg (v : Nat) : (s.setBk v).akg = s.akg := (s.only_setBk v).part (p := .akg) (by simp)
@[simp] theorem State.setBk_dram (v : Nat) : (s.setBk v).dram = s.dram := (s.only_setBk v).part (p := .dram) (by simp)
@[simp] theorem State.setBk_dramEra (v : Nat) : (s.setBk v).dramEra = s.dramEra := (s.only_setBk v).part (p := .dramEra) (by simp)
@[simp] theorem State.setBk_nor (v : Nat) : (s.setBk v).nor = s.nor := (s.only_setBk v).part (p := .nor) (by simp)
@[simp] theorem State.setBk_pending (v : Nat) : (s.setBk v).pending = s.pending := (s.only_setBk v).part (p := .pending) (by simp)

theorem State.only.slotEvent {s t : State} {l : List Place} {f : Fld} (h : s.only t l) (hl : ∀ p ∈ ([.fld f, .part .pmb, .fld Reg.GLB_INT_CAUSE.cause, .part .host] : List Place), p ∈ l) : s.only (t.slotEvent f) l :=
  h.step (t.only_slotEvent f) hl
theorem State.get_slotEvent (f : Fld) {g : Fld} (hg : g.lo + g.width ≤ 32)
    (ha : List.all [.fld f, .fld Reg.GLB_INT_CAUSE.cause] (Place.apart g) = true) : (s.slotEvent f).get g = s.get g :=
  (s.only_slotEvent f).get hg (by simpa [Place.apart_part] using ha)

@[simp] theorem State.slotEvent_mirror (f : Fld) : (s.slotEvent f).mirror = s.mirror := (s.only_slotEvent f).part (p := .mirror) (by simp)
@[simp] theorem State.slotEvent_latch (f : Fld) : (s.slotEvent f).latch = s.latch := (s.only_slotEvent f).part (p := .latch) (by simp)
@[simp] theorem State.slotEvent_hiStage (f : Fld) : (s.slotEvent f).hiStage = s.hiStage := (s.only_slotEvent f).part (p := .hiStage) (by simp)
@[simp] theorem State.slotEvent_lastRead (f : Fld) : (s.slotEvent f).lastRead = s.lastRead := (s.only_slotEvent f).part (p := .lastRead) (by simp)
@[simp] theorem State.slotEvent_now (f : Fld) : (s.slotEvent f).now = s.now := ((s.only_slotEvent f).part (p := .clock) (by simp)).1
@[simp] theorem State.slotEvent_coldAt (f : Fld) : (s.slotEvent f).coldAt = s.coldAt := ((s.only_slotEvent f).part (p := .clock) (by simp)).2
@[simp] theorem State.slotEvent_fresh (f : Fld) : (s.slotEvent f).fresh = s.fresh := (s.only_slotEvent f).part (p := .fresh) (by simp)
@[simp] theorem State.slotEvent_slotStraps (f : Fld) : (s.slotEvent f).slotStraps = s.slotStraps := (s.only_slotEvent f).part (p := .slotStraps) (by simp)
@[simp] theorem State.slotEvent_gpPsh (f : Fld) : (s.slotEvent f).gpPsh = s.gpPsh := (s.only_slotEvent f).part (p := .gpPsh) (by simp)
@[simp] theorem State.slotEvent_gpGld (f : Fld) : (s.slotEvent f).gpGld = s.gpGld := (s.only_slotEvent f).part (p := .gpGld) (by simp)
@[simp] theorem State.slotEvent_crossHeld (f : Fld) : (s.slotEvent f).crossHeld = s.crossHeld := (s.only_slotEvent f).part (p := .crossHeld) (by simp)
@[simp] theorem State.slotEvent_svc (f : Fld) : (s.slotEvent f).svc = s.svc := (s.only_slotEvent f).part (p := .svc) (by simp)
@[simp] theorem State.slotEvent_brk (f : Fld) : (s.slotEvent f).brk = s.brk := (s.only_slotEvent f).part (p := .brk) (by simp)
@[simp] theorem State.slotEvent_meter (f : Fld) : (s.slotEvent f).meter = s.meter := (s.only_slotEvent f).part (p := .meter) (by simp)
@[simp] theorem State.slotEvent_card (f : Fld) : (s.slotEvent f).card = s.card := (s.only_slotEvent f).part (p := .card) (by simp)
@[simp] theorem State.slotEvent_mgmt (f : Fld) : (s.slotEvent f).mgmt = s.mgmt := (s.only_slotEvent f).part (p := .mgmt) (by simp)
@[simp] theorem State.slotEvent_thermal (f : Fld) : (s.slotEvent f).thermal = s.thermal := (s.only_slotEvent f).part (p := .thermal) (by simp)
@[simp] theorem State.slotEvent_sec (f : Fld) : (s.slotEvent f).sec = s.sec := (s.only_slotEvent f).part (p := .sec) (by simp)
@[simp] theorem State.slotEvent_dbg (f : Fld) : (s.slotEvent f).dbg = s.dbg := (s.only_slotEvent f).part (p := .dbg) (by simp)
@[simp] theorem State.slotEvent_fab (f : Fld) : (s.slotEvent f).fab = s.fab := (s.only_slotEvent f).part (p := .fab) (by simp)
@[simp] theorem State.slotEvent_pass (f : Fld) : (s.slotEvent f).pass = s.pass := (s.only_slotEvent f).part (p := .pass) (by simp)
@[simp] theorem State.slotEvent_cap (f : Fld) : (s.slotEvent f).cap = s.cap := (s.only_slotEvent f).part (p := .cap) (by simp)
@[simp] theorem State.slotEvent_akg (f : Fld) : (s.slotEvent f).akg = s.akg := (s.only_slotEvent f).part (p := .akg) (by simp)
@[simp] theorem State.slotEvent_dram (f : Fld) : (s.slotEvent f).dram = s.dram := (s.only_slotEvent f).part (p := .dram) (by simp)
@[simp] theorem State.slotEvent_dramEra (f : Fld) : (s.slotEvent f).dramEra = s.dramEra := (s.only_slotEvent f).part (p := .dramEra) (by simp)
@[simp] theorem State.slotEvent_nor (f : Fld) : (s.slotEvent f).nor = s.nor := (s.only_slotEvent f).part (p := .nor) (by simp)
@[simp] theorem State.slotEvent_pending (f : Fld) : (s.slotEvent f).pending = s.pending := (s.only_slotEvent f).part (p := .pending) (by simp)

theorem State.only_flushDue (b : Nat) (c : Bool) : s.only (s.flushDue b c)
    [.part .card, .fld Reg.RCD_STATUS.flush_pending] := by
  unfold State.flushDue
  repeat' (first
      | with_reducible exact State.only.nil
      | with_reducible refine State.only.put ?_ (by simp)
      | with_reducible refine State.only.withCard ?_ (by simp))

theorem State.only.flushDue {s t : State} {l : List Place} {b : Nat} {c : Bool} (h : s.only t l) (hl : ∀ p ∈ ([.part .card, .fld Reg.RCD_STATUS.flush_pending] : List Place), p ∈ l) : s.only (t.flushDue b c) l :=
  h.step (t.only_flushDue b c) hl
theorem State.get_flushDue (b : Nat) (c : Bool) {g : Fld} (hg : g.lo + g.width ≤ 32)
    (ha : List.all [.fld Reg.RCD_STATUS.flush_pending] (Place.apart g) = true) : (s.flushDue b c).get g = s.get g :=
  (s.only_flushDue b c).get hg (by simpa [Place.apart_part] using ha)

@[simp] theorem State.flushDue_mirror (b : Nat) (c : Bool) : (s.flushDue b c).mirror = s.mirror := (s.only_flushDue b c).part (p := .mirror) (by simp)
@[simp] theorem State.flushDue_latch (b : Nat) (c : Bool) : (s.flushDue b c).latch = s.latch := (s.only_flushDue b c).part (p := .latch) (by simp)
@[simp] theorem State.flushDue_hiStage (b : Nat) (c : Bool) : (s.flushDue b c).hiStage = s.hiStage := (s.only_flushDue b c).part (p := .hiStage) (by simp)
@[simp] theorem State.flushDue_lastRead (b : Nat) (c : Bool) : (s.flushDue b c).lastRead = s.lastRead := (s.only_flushDue b c).part (p := .lastRead) (by simp)
@[simp] theorem State.flushDue_now (b : Nat) (c : Bool) : (s.flushDue b c).now = s.now := ((s.only_flushDue b c).part (p := .clock) (by simp)).1
@[simp] theorem State.flushDue_coldAt (b : Nat) (c : Bool) : (s.flushDue b c).coldAt = s.coldAt := ((s.only_flushDue b c).part (p := .clock) (by simp)).2
@[simp] theorem State.flushDue_fresh (b : Nat) (c : Bool) : (s.flushDue b c).fresh = s.fresh := (s.only_flushDue b c).part (p := .fresh) (by simp)
@[simp] theorem State.flushDue_slotStraps (b : Nat) (c : Bool) : (s.flushDue b c).slotStraps = s.slotStraps := (s.only_flushDue b c).part (p := .slotStraps) (by simp)
@[simp] theorem State.flushDue_host (b : Nat) (c : Bool) : (s.flushDue b c).host = s.host := (s.only_flushDue b c).part (p := .host) (by simp)
@[simp] theorem State.flushDue_gpPsh (b : Nat) (c : Bool) : (s.flushDue b c).gpPsh = s.gpPsh := (s.only_flushDue b c).part (p := .gpPsh) (by simp)
@[simp] theorem State.flushDue_gpGld (b : Nat) (c : Bool) : (s.flushDue b c).gpGld = s.gpGld := (s.only_flushDue b c).part (p := .gpGld) (by simp)
@[simp] theorem State.flushDue_crossHeld (b : Nat) (c : Bool) : (s.flushDue b c).crossHeld = s.crossHeld := (s.only_flushDue b c).part (p := .crossHeld) (by simp)
@[simp] theorem State.flushDue_svc (b : Nat) (c : Bool) : (s.flushDue b c).svc = s.svc := (s.only_flushDue b c).part (p := .svc) (by simp)
@[simp] theorem State.flushDue_brk (b : Nat) (c : Bool) : (s.flushDue b c).brk = s.brk := (s.only_flushDue b c).part (p := .brk) (by simp)
@[simp] theorem State.flushDue_meter (b : Nat) (c : Bool) : (s.flushDue b c).meter = s.meter := (s.only_flushDue b c).part (p := .meter) (by simp)
@[simp] theorem State.flushDue_pmb (b : Nat) (c : Bool) : (s.flushDue b c).pmb = s.pmb := (s.only_flushDue b c).part (p := .pmb) (by simp)
@[simp] theorem State.flushDue_mgmt (b : Nat) (c : Bool) : (s.flushDue b c).mgmt = s.mgmt := (s.only_flushDue b c).part (p := .mgmt) (by simp)
@[simp] theorem State.flushDue_thermal (b : Nat) (c : Bool) : (s.flushDue b c).thermal = s.thermal := (s.only_flushDue b c).part (p := .thermal) (by simp)
@[simp] theorem State.flushDue_sec (b : Nat) (c : Bool) : (s.flushDue b c).sec = s.sec := (s.only_flushDue b c).part (p := .sec) (by simp)
@[simp] theorem State.flushDue_dbg (b : Nat) (c : Bool) : (s.flushDue b c).dbg = s.dbg := (s.only_flushDue b c).part (p := .dbg) (by simp)
@[simp] theorem State.flushDue_fab (b : Nat) (c : Bool) : (s.flushDue b c).fab = s.fab := (s.only_flushDue b c).part (p := .fab) (by simp)
@[simp] theorem State.flushDue_pass (b : Nat) (c : Bool) : (s.flushDue b c).pass = s.pass := (s.only_flushDue b c).part (p := .pass) (by simp)
@[simp] theorem State.flushDue_cap (b : Nat) (c : Bool) : (s.flushDue b c).cap = s.cap := (s.only_flushDue b c).part (p := .cap) (by simp)
@[simp] theorem State.flushDue_akg (b : Nat) (c : Bool) : (s.flushDue b c).akg = s.akg := (s.only_flushDue b c).part (p := .akg) (by simp)
@[simp] theorem State.flushDue_dram (b : Nat) (c : Bool) : (s.flushDue b c).dram = s.dram := (s.only_flushDue b c).part (p := .dram) (by simp)
@[simp] theorem State.flushDue_dramEra (b : Nat) (c : Bool) : (s.flushDue b c).dramEra = s.dramEra := (s.only_flushDue b c).part (p := .dramEra) (by simp)
@[simp] theorem State.flushDue_nor (b : Nat) (c : Bool) : (s.flushDue b c).nor = s.nor := (s.only_flushDue b c).part (p := .nor) (by simp)
@[simp] theorem State.flushDue_pending (b : Nat) (c : Bool) : (s.flushDue b c).pending = s.pending := (s.only_flushDue b c).part (p := .pending) (by simp)

theorem State.only_setService (v : Nat) : s.only (s.setService v)
    [.fld Reg.GLB_SERVICE.state, .fld Reg.GLB_SERVICE.full_service, .fld Reg.GLB_SERVICE.homeroom, .fld Reg.GLB_INT_CAUSE.cause, .part .host] := by
  unfold State.setService
  repeat' (first
      | with_reducible exact State.only.nil
      | with_reducible refine State.only.raiseService ?_ (by simp)
      | with_reducible refine State.only.put ?_ (by simp)
      | with_reducible refine State.only.putFlag ?_ (by simp)
      | split)

theorem State.only.setService {s t : State} {l : List Place} {v : Nat} (h : s.only t l) (hl : ∀ p ∈ ([.fld Reg.GLB_SERVICE.state, .fld Reg.GLB_SERVICE.full_service, .fld Reg.GLB_SERVICE.homeroom, .fld Reg.GLB_INT_CAUSE.cause, .part .host] : List Place), p ∈ l) : s.only (t.setService v) l :=
  h.step (t.only_setService v) hl
theorem State.get_setService (v : Nat) {g : Fld} (hg : g.lo + g.width ≤ 32)
    (ha : List.all [.fld Reg.GLB_SERVICE.state, .fld Reg.GLB_SERVICE.full_service, .fld Reg.GLB_SERVICE.homeroom, .fld Reg.GLB_INT_CAUSE.cause] (Place.apart g) = true) : (s.setService v).get g = s.get g :=
  (s.only_setService v).get hg (by simpa [Place.apart_part] using ha)

@[simp] theorem State.setService_mirror (v : Nat) : (s.setService v).mirror = s.mirror := (s.only_setService v).part (p := .mirror) (by simp)
@[simp] theorem State.setService_latch (v : Nat) : (s.setService v).latch = s.latch := (s.only_setService v).part (p := .latch) (by simp)
@[simp] theorem State.setService_hiStage (v : Nat) : (s.setService v).hiStage = s.hiStage := (s.only_setService v).part (p := .hiStage) (by simp)
@[simp] theorem State.setService_lastRead (v : Nat) : (s.setService v).lastRead = s.lastRead := (s.only_setService v).part (p := .lastRead) (by simp)
@[simp] theorem State.setService_now (v : Nat) : (s.setService v).now = s.now := ((s.only_setService v).part (p := .clock) (by simp)).1
@[simp] theorem State.setService_coldAt (v : Nat) : (s.setService v).coldAt = s.coldAt := ((s.only_setService v).part (p := .clock) (by simp)).2
@[simp] theorem State.setService_fresh (v : Nat) : (s.setService v).fresh = s.fresh := (s.only_setService v).part (p := .fresh) (by simp)
@[simp] theorem State.setService_slotStraps (v : Nat) : (s.setService v).slotStraps = s.slotStraps := (s.only_setService v).part (p := .slotStraps) (by simp)
@[simp] theorem State.setService_gpPsh (v : Nat) : (s.setService v).gpPsh = s.gpPsh := (s.only_setService v).part (p := .gpPsh) (by simp)
@[simp] theorem State.setService_gpGld (v : Nat) : (s.setService v).gpGld = s.gpGld := (s.only_setService v).part (p := .gpGld) (by simp)
@[simp] theorem State.setService_crossHeld (v : Nat) : (s.setService v).crossHeld = s.crossHeld := (s.only_setService v).part (p := .crossHeld) (by simp)
@[simp] theorem State.setService_svc (v : Nat) : (s.setService v).svc = s.svc := (s.only_setService v).part (p := .svc) (by simp)
@[simp] theorem State.setService_brk (v : Nat) : (s.setService v).brk = s.brk := (s.only_setService v).part (p := .brk) (by simp)
@[simp] theorem State.setService_meter (v : Nat) : (s.setService v).meter = s.meter := (s.only_setService v).part (p := .meter) (by simp)
@[simp] theorem State.setService_pmb (v : Nat) : (s.setService v).pmb = s.pmb := (s.only_setService v).part (p := .pmb) (by simp)
@[simp] theorem State.setService_card (v : Nat) : (s.setService v).card = s.card := (s.only_setService v).part (p := .card) (by simp)
@[simp] theorem State.setService_mgmt (v : Nat) : (s.setService v).mgmt = s.mgmt := (s.only_setService v).part (p := .mgmt) (by simp)
@[simp] theorem State.setService_thermal (v : Nat) : (s.setService v).thermal = s.thermal := (s.only_setService v).part (p := .thermal) (by simp)
@[simp] theorem State.setService_sec (v : Nat) : (s.setService v).sec = s.sec := (s.only_setService v).part (p := .sec) (by simp)
@[simp] theorem State.setService_dbg (v : Nat) : (s.setService v).dbg = s.dbg := (s.only_setService v).part (p := .dbg) (by simp)
@[simp] theorem State.setService_fab (v : Nat) : (s.setService v).fab = s.fab := (s.only_setService v).part (p := .fab) (by simp)
@[simp] theorem State.setService_pass (v : Nat) : (s.setService v).pass = s.pass := (s.only_setService v).part (p := .pass) (by simp)
@[simp] theorem State.setService_cap (v : Nat) : (s.setService v).cap = s.cap := (s.only_setService v).part (p := .cap) (by simp)
@[simp] theorem State.setService_akg (v : Nat) : (s.setService v).akg = s.akg := (s.only_setService v).part (p := .akg) (by simp)
@[simp] theorem State.setService_dram (v : Nat) : (s.setService v).dram = s.dram := (s.only_setService v).part (p := .dram) (by simp)
@[simp] theorem State.setService_dramEra (v : Nat) : (s.setService v).dramEra = s.dramEra := (s.only_setService v).part (p := .dramEra) (by simp)
@[simp] theorem State.setService_nor (v : Nat) : (s.setService v).nor = s.nor := (s.only_setService v).part (p := .nor) (by simp)
@[simp] theorem State.setService_pending (v : Nat) : (s.setService v).pending = s.pending := (s.only_setService v).part (p := .pending) (by simp)

theorem State.only_sendNotice (u : StepUse) : s.only (s.sendNotice u)
    [.part .fresh, .part .svc, .part .gpGld] := by
  unfold State.sendNotice
  repeat' (first
      | with_reducible exact State.only.nil
      | with_reducible refine State.only.toPsh ?_ (by simp)
      | with_reducible refine State.only.withFresh ?_ (by simp)
      | with_reducible refine State.only.withSvc ?_ (by simp))

theorem State.only.sendNotice {s t : State} {l : List Place} {u : StepUse} (h : s.only t l) (hl : ∀ p ∈ ([.part .fresh, .part .svc, .part .gpGld] : List Place), p ∈ l) : s.only (t.sendNotice u) l :=
  h.step (t.only_sendNotice u) hl
@[simp] theorem State.word_sendNotice (u : StepUse) (off : Nat) : (s.sendNotice u).word off = s.word off :=
  (s.only_sendNotice u).word (by simp) off
@[simp] theorem State.get_sendNotice (u : StepUse) (g : Fld) : (s.sendNotice u).get g = s.get g := by simp [State.get]

@[simp] theorem State.sendNotice_mirror (u : StepUse) : (s.sendNotice u).mirror = s.mirror := (s.only_sendNotice u).part (p := .mirror) (by simp)
@[simp] theorem State.sendNotice_latch (u : StepUse) : (s.sendNotice u).latch = s.latch := (s.only_sendNotice u).part (p := .latch) (by simp)
@[simp] theorem State.sendNotice_hiStage (u : StepUse) : (s.sendNotice u).hiStage = s.hiStage := (s.only_sendNotice u).part (p := .hiStage) (by simp)
@[simp] theorem State.sendNotice_lastRead (u : StepUse) : (s.sendNotice u).lastRead = s.lastRead := (s.only_sendNotice u).part (p := .lastRead) (by simp)
@[simp] theorem State.sendNotice_now (u : StepUse) : (s.sendNotice u).now = s.now := ((s.only_sendNotice u).part (p := .clock) (by simp)).1
@[simp] theorem State.sendNotice_coldAt (u : StepUse) : (s.sendNotice u).coldAt = s.coldAt := ((s.only_sendNotice u).part (p := .clock) (by simp)).2
@[simp] theorem State.sendNotice_slotStraps (u : StepUse) : (s.sendNotice u).slotStraps = s.slotStraps := (s.only_sendNotice u).part (p := .slotStraps) (by simp)
@[simp] theorem State.sendNotice_host (u : StepUse) : (s.sendNotice u).host = s.host := (s.only_sendNotice u).part (p := .host) (by simp)
@[simp] theorem State.sendNotice_gpPsh (u : StepUse) : (s.sendNotice u).gpPsh = s.gpPsh := (s.only_sendNotice u).part (p := .gpPsh) (by simp)
@[simp] theorem State.sendNotice_crossHeld (u : StepUse) : (s.sendNotice u).crossHeld = s.crossHeld := (s.only_sendNotice u).part (p := .crossHeld) (by simp)
@[simp] theorem State.sendNotice_brk (u : StepUse) : (s.sendNotice u).brk = s.brk := (s.only_sendNotice u).part (p := .brk) (by simp)
@[simp] theorem State.sendNotice_meter (u : StepUse) : (s.sendNotice u).meter = s.meter := (s.only_sendNotice u).part (p := .meter) (by simp)
@[simp] theorem State.sendNotice_pmb (u : StepUse) : (s.sendNotice u).pmb = s.pmb := (s.only_sendNotice u).part (p := .pmb) (by simp)
@[simp] theorem State.sendNotice_card (u : StepUse) : (s.sendNotice u).card = s.card := (s.only_sendNotice u).part (p := .card) (by simp)
@[simp] theorem State.sendNotice_mgmt (u : StepUse) : (s.sendNotice u).mgmt = s.mgmt := (s.only_sendNotice u).part (p := .mgmt) (by simp)
@[simp] theorem State.sendNotice_thermal (u : StepUse) : (s.sendNotice u).thermal = s.thermal := (s.only_sendNotice u).part (p := .thermal) (by simp)
@[simp] theorem State.sendNotice_sec (u : StepUse) : (s.sendNotice u).sec = s.sec := (s.only_sendNotice u).part (p := .sec) (by simp)
@[simp] theorem State.sendNotice_dbg (u : StepUse) : (s.sendNotice u).dbg = s.dbg := (s.only_sendNotice u).part (p := .dbg) (by simp)
@[simp] theorem State.sendNotice_fab (u : StepUse) : (s.sendNotice u).fab = s.fab := (s.only_sendNotice u).part (p := .fab) (by simp)
@[simp] theorem State.sendNotice_pass (u : StepUse) : (s.sendNotice u).pass = s.pass := (s.only_sendNotice u).part (p := .pass) (by simp)
@[simp] theorem State.sendNotice_cap (u : StepUse) : (s.sendNotice u).cap = s.cap := (s.only_sendNotice u).part (p := .cap) (by simp)
@[simp] theorem State.sendNotice_akg (u : StepUse) : (s.sendNotice u).akg = s.akg := (s.only_sendNotice u).part (p := .akg) (by simp)
@[simp] theorem State.sendNotice_dram (u : StepUse) : (s.sendNotice u).dram = s.dram := (s.only_sendNotice u).part (p := .dram) (by simp)
@[simp] theorem State.sendNotice_dramEra (u : StepUse) : (s.sendNotice u).dramEra = s.dramEra := (s.only_sendNotice u).part (p := .dramEra) (by simp)
@[simp] theorem State.sendNotice_nor (u : StepUse) : (s.sendNotice u).nor = s.nor := (s.only_sendNotice u).part (p := .nor) (by simp)
@[simp] theorem State.sendNotice_pending (u : StepUse) : (s.sendNotice u).pending = s.pending := (s.only_sendNotice u).part (p := .pending) (by simp)

theorem State.only_wakeEvent : s.only (s.wakeEvent)
    [.fld Reg.GLB_SERVICE.state, .fld Reg.GLB_SERVICE.full_service, .fld Reg.GLB_SERVICE.homeroom, .fld Reg.GLB_INT_CAUSE.cause, .part .host, .part .fresh, .part .svc, .part .gpGld, .fld Reg.GLB_RECESS_STATUS.wakes, .fld Reg.GLB_RECESS_STATUS.abandoned] := by
  unfold State.wakeEvent
  repeat' (first
      | with_reducible exact State.only.nil
      | with_reducible refine State.only.sendNotice ?_ (by simp)
      | with_reducible refine State.only.setService ?_ (by simp)
      | with_reducible refine State.only.put ?_ (by simp)
      | with_reducible refine State.only.bump ?_ (by simp)
      | with_reducible refine State.only.withSvc ?_ (by simp)
      | with_reducible refine State.only.withHost ?_ (by simp)
      | split)

theorem State.only.wakeEvent {s t : State} {l : List Place} (h : s.only t l) (hl : ∀ p ∈ ([.fld Reg.GLB_SERVICE.state, .fld Reg.GLB_SERVICE.full_service, .fld Reg.GLB_SERVICE.homeroom, .fld Reg.GLB_INT_CAUSE.cause, .part .host, .part .fresh, .part .svc, .part .gpGld, .fld Reg.GLB_RECESS_STATUS.wakes, .fld Reg.GLB_RECESS_STATUS.abandoned] : List Place), p ∈ l) : s.only (t.wakeEvent) l :=
  h.step (t.only_wakeEvent) hl
theorem State.get_wakeEvent {g : Fld} (hg : g.lo + g.width ≤ 32)
    (ha : List.all [.fld Reg.GLB_SERVICE.state, .fld Reg.GLB_SERVICE.full_service, .fld Reg.GLB_SERVICE.homeroom, .fld Reg.GLB_INT_CAUSE.cause, .fld Reg.GLB_RECESS_STATUS.wakes, .fld Reg.GLB_RECESS_STATUS.abandoned] (Place.apart g) = true) : (s.wakeEvent).get g = s.get g :=
  (s.only_wakeEvent).get hg (by simpa [Place.apart_part] using ha)

@[simp] theorem State.wakeEvent_mirror : (s.wakeEvent).mirror = s.mirror := (s.only_wakeEvent).part (p := .mirror) (by simp)
@[simp] theorem State.wakeEvent_latch : (s.wakeEvent).latch = s.latch := (s.only_wakeEvent).part (p := .latch) (by simp)
@[simp] theorem State.wakeEvent_hiStage : (s.wakeEvent).hiStage = s.hiStage := (s.only_wakeEvent).part (p := .hiStage) (by simp)
@[simp] theorem State.wakeEvent_lastRead : (s.wakeEvent).lastRead = s.lastRead := (s.only_wakeEvent).part (p := .lastRead) (by simp)
@[simp] theorem State.wakeEvent_now : (s.wakeEvent).now = s.now := ((s.only_wakeEvent).part (p := .clock) (by simp)).1
@[simp] theorem State.wakeEvent_coldAt : (s.wakeEvent).coldAt = s.coldAt := ((s.only_wakeEvent).part (p := .clock) (by simp)).2
@[simp] theorem State.wakeEvent_slotStraps : (s.wakeEvent).slotStraps = s.slotStraps := (s.only_wakeEvent).part (p := .slotStraps) (by simp)
@[simp] theorem State.wakeEvent_gpPsh : (s.wakeEvent).gpPsh = s.gpPsh := (s.only_wakeEvent).part (p := .gpPsh) (by simp)
@[simp] theorem State.wakeEvent_crossHeld : (s.wakeEvent).crossHeld = s.crossHeld := (s.only_wakeEvent).part (p := .crossHeld) (by simp)
@[simp] theorem State.wakeEvent_brk : (s.wakeEvent).brk = s.brk := (s.only_wakeEvent).part (p := .brk) (by simp)
@[simp] theorem State.wakeEvent_meter : (s.wakeEvent).meter = s.meter := (s.only_wakeEvent).part (p := .meter) (by simp)
@[simp] theorem State.wakeEvent_pmb : (s.wakeEvent).pmb = s.pmb := (s.only_wakeEvent).part (p := .pmb) (by simp)
@[simp] theorem State.wakeEvent_card : (s.wakeEvent).card = s.card := (s.only_wakeEvent).part (p := .card) (by simp)
@[simp] theorem State.wakeEvent_mgmt : (s.wakeEvent).mgmt = s.mgmt := (s.only_wakeEvent).part (p := .mgmt) (by simp)
@[simp] theorem State.wakeEvent_thermal : (s.wakeEvent).thermal = s.thermal := (s.only_wakeEvent).part (p := .thermal) (by simp)
@[simp] theorem State.wakeEvent_sec : (s.wakeEvent).sec = s.sec := (s.only_wakeEvent).part (p := .sec) (by simp)
@[simp] theorem State.wakeEvent_dbg : (s.wakeEvent).dbg = s.dbg := (s.only_wakeEvent).part (p := .dbg) (by simp)
@[simp] theorem State.wakeEvent_fab : (s.wakeEvent).fab = s.fab := (s.only_wakeEvent).part (p := .fab) (by simp)
@[simp] theorem State.wakeEvent_pass : (s.wakeEvent).pass = s.pass := (s.only_wakeEvent).part (p := .pass) (by simp)
@[simp] theorem State.wakeEvent_cap : (s.wakeEvent).cap = s.cap := (s.only_wakeEvent).part (p := .cap) (by simp)
@[simp] theorem State.wakeEvent_akg : (s.wakeEvent).akg = s.akg := (s.only_wakeEvent).part (p := .akg) (by simp)
@[simp] theorem State.wakeEvent_dram : (s.wakeEvent).dram = s.dram := (s.only_wakeEvent).part (p := .dram) (by simp)
@[simp] theorem State.wakeEvent_dramEra : (s.wakeEvent).dramEra = s.dramEra := (s.only_wakeEvent).part (p := .dramEra) (by simp)
@[simp] theorem State.wakeEvent_nor : (s.wakeEvent).nor = s.nor := (s.only_wakeEvent).part (p := .nor) (by simp)
@[simp] theorem State.wakeEvent_pending : (s.wakeEvent).pending = s.pending := (s.only_wakeEvent).part (p := .pending) (by simp)

theorem State.only_cml6 : s.only (s.cml6)
    [.part .pmb] := by
  unfold State.cml6
  repeat' (first
      | with_reducible exact State.only.nil
      | with_reducible refine State.only.alertOn ?_ (by simp)
      | with_reducible refine State.only.withPmb ?_ (by simp)
      | split)

theorem State.only.cml6 {s t : State} {l : List Place} (h : s.only t l) (hl : ∀ p ∈ ([.part .pmb] : List Place), p ∈ l) : s.only (t.cml6) l :=
  h.step (t.only_cml6) hl
@[simp] theorem State.word_cml6 (off : Nat) : (s.cml6).word off = s.word off :=
  (s.only_cml6).word (by simp) off
@[simp] theorem State.get_cml6 (g : Fld) : (s.cml6).get g = s.get g := by simp [State.get]

@[simp] theorem State.cml6_mirror : (s.cml6).mirror = s.mirror := (s.only_cml6).part (p := .mirror) (by simp)
@[simp] theorem State.cml6_latch : (s.cml6).latch = s.latch := (s.only_cml6).part (p := .latch) (by simp)
@[simp] theorem State.cml6_hiStage : (s.cml6).hiStage = s.hiStage := (s.only_cml6).part (p := .hiStage) (by simp)
@[simp] theorem State.cml6_lastRead : (s.cml6).lastRead = s.lastRead := (s.only_cml6).part (p := .lastRead) (by simp)
@[simp] theorem State.cml6_now : (s.cml6).now = s.now := ((s.only_cml6).part (p := .clock) (by simp)).1
@[simp] theorem State.cml6_coldAt : (s.cml6).coldAt = s.coldAt := ((s.only_cml6).part (p := .clock) (by simp)).2
@[simp] theorem State.cml6_fresh : (s.cml6).fresh = s.fresh := (s.only_cml6).part (p := .fresh) (by simp)
@[simp] theorem State.cml6_slotStraps : (s.cml6).slotStraps = s.slotStraps := (s.only_cml6).part (p := .slotStraps) (by simp)
@[simp] theorem State.cml6_host : (s.cml6).host = s.host := (s.only_cml6).part (p := .host) (by simp)
@[simp] theorem State.cml6_gpPsh : (s.cml6).gpPsh = s.gpPsh := (s.only_cml6).part (p := .gpPsh) (by simp)
@[simp] theorem State.cml6_gpGld : (s.cml6).gpGld = s.gpGld := (s.only_cml6).part (p := .gpGld) (by simp)
@[simp] theorem State.cml6_crossHeld : (s.cml6).crossHeld = s.crossHeld := (s.only_cml6).part (p := .crossHeld) (by simp)
@[simp] theorem State.cml6_svc : (s.cml6).svc = s.svc := (s.only_cml6).part (p := .svc) (by simp)
@[simp] theorem State.cml6_brk : (s.cml6).brk = s.brk := (s.only_cml6).part (p := .brk) (by simp)
@[simp] theorem State.cml6_meter : (s.cml6).meter = s.meter := (s.only_cml6).part (p := .meter) (by simp)
@[simp] theorem State.cml6_card : (s.cml6).card = s.card := (s.only_cml6).part (p := .card) (by simp)
@[simp] theorem State.cml6_mgmt : (s.cml6).mgmt = s.mgmt := (s.only_cml6).part (p := .mgmt) (by simp)
@[simp] theorem State.cml6_thermal : (s.cml6).thermal = s.thermal := (s.only_cml6).part (p := .thermal) (by simp)
@[simp] theorem State.cml6_sec : (s.cml6).sec = s.sec := (s.only_cml6).part (p := .sec) (by simp)
@[simp] theorem State.cml6_dbg : (s.cml6).dbg = s.dbg := (s.only_cml6).part (p := .dbg) (by simp)
@[simp] theorem State.cml6_fab : (s.cml6).fab = s.fab := (s.only_cml6).part (p := .fab) (by simp)
@[simp] theorem State.cml6_pass : (s.cml6).pass = s.pass := (s.only_cml6).part (p := .pass) (by simp)
@[simp] theorem State.cml6_cap : (s.cml6).cap = s.cap := (s.only_cml6).part (p := .cap) (by simp)
@[simp] theorem State.cml6_akg : (s.cml6).akg = s.akg := (s.only_cml6).part (p := .akg) (by simp)
@[simp] theorem State.cml6_dram : (s.cml6).dram = s.dram := (s.only_cml6).part (p := .dram) (by simp)
@[simp] theorem State.cml6_dramEra : (s.cml6).dramEra = s.dramEra := (s.only_cml6).part (p := .dramEra) (by simp)
@[simp] theorem State.cml6_nor : (s.cml6).nor = s.nor := (s.only_cml6).part (p := .nor) (by simp)
@[simp] theorem State.cml6_pending : (s.cml6).pending = s.pending := (s.only_cml6).part (p := .pending) (by simp)

theorem State.only_cml5 : s.only (s.cml5)
    [.part .pmb] := by
  unfold State.cml5
  repeat' (first
      | with_reducible exact State.only.nil
      | with_reducible refine State.only.alertOn ?_ (by simp)
      | with_reducible refine State.only.withPmb ?_ (by simp)
      | split)

theorem State.only.cml5 {s t : State} {l : List Place} (h : s.only t l) (hl : ∀ p ∈ ([.part .pmb] : List Place), p ∈ l) : s.only (t.cml5) l :=
  h.step (t.only_cml5) hl
@[simp] theorem State.word_cml5 (off : Nat) : (s.cml5).word off = s.word off :=
  (s.only_cml5).word (by simp) off
@[simp] theorem State.get_cml5 (g : Fld) : (s.cml5).get g = s.get g := by simp [State.get]

@[simp] theorem State.cml5_mirror : (s.cml5).mirror = s.mirror := (s.only_cml5).part (p := .mirror) (by simp)
@[simp] theorem State.cml5_latch : (s.cml5).latch = s.latch := (s.only_cml5).part (p := .latch) (by simp)
@[simp] theorem State.cml5_hiStage : (s.cml5).hiStage = s.hiStage := (s.only_cml5).part (p := .hiStage) (by simp)
@[simp] theorem State.cml5_lastRead : (s.cml5).lastRead = s.lastRead := (s.only_cml5).part (p := .lastRead) (by simp)
@[simp] theorem State.cml5_now : (s.cml5).now = s.now := ((s.only_cml5).part (p := .clock) (by simp)).1
@[simp] theorem State.cml5_coldAt : (s.cml5).coldAt = s.coldAt := ((s.only_cml5).part (p := .clock) (by simp)).2
@[simp] theorem State.cml5_fresh : (s.cml5).fresh = s.fresh := (s.only_cml5).part (p := .fresh) (by simp)
@[simp] theorem State.cml5_slotStraps : (s.cml5).slotStraps = s.slotStraps := (s.only_cml5).part (p := .slotStraps) (by simp)
@[simp] theorem State.cml5_host : (s.cml5).host = s.host := (s.only_cml5).part (p := .host) (by simp)
@[simp] theorem State.cml5_gpPsh : (s.cml5).gpPsh = s.gpPsh := (s.only_cml5).part (p := .gpPsh) (by simp)
@[simp] theorem State.cml5_gpGld : (s.cml5).gpGld = s.gpGld := (s.only_cml5).part (p := .gpGld) (by simp)
@[simp] theorem State.cml5_crossHeld : (s.cml5).crossHeld = s.crossHeld := (s.only_cml5).part (p := .crossHeld) (by simp)
@[simp] theorem State.cml5_svc : (s.cml5).svc = s.svc := (s.only_cml5).part (p := .svc) (by simp)
@[simp] theorem State.cml5_brk : (s.cml5).brk = s.brk := (s.only_cml5).part (p := .brk) (by simp)
@[simp] theorem State.cml5_meter : (s.cml5).meter = s.meter := (s.only_cml5).part (p := .meter) (by simp)
@[simp] theorem State.cml5_card : (s.cml5).card = s.card := (s.only_cml5).part (p := .card) (by simp)
@[simp] theorem State.cml5_mgmt : (s.cml5).mgmt = s.mgmt := (s.only_cml5).part (p := .mgmt) (by simp)
@[simp] theorem State.cml5_thermal : (s.cml5).thermal = s.thermal := (s.only_cml5).part (p := .thermal) (by simp)
@[simp] theorem State.cml5_sec : (s.cml5).sec = s.sec := (s.only_cml5).part (p := .sec) (by simp)
@[simp] theorem State.cml5_dbg : (s.cml5).dbg = s.dbg := (s.only_cml5).part (p := .dbg) (by simp)
@[simp] theorem State.cml5_fab : (s.cml5).fab = s.fab := (s.only_cml5).part (p := .fab) (by simp)
@[simp] theorem State.cml5_pass : (s.cml5).pass = s.pass := (s.only_cml5).part (p := .pass) (by simp)
@[simp] theorem State.cml5_cap : (s.cml5).cap = s.cap := (s.only_cml5).part (p := .cap) (by simp)
@[simp] theorem State.cml5_akg : (s.cml5).akg = s.akg := (s.only_cml5).part (p := .akg) (by simp)
@[simp] theorem State.cml5_dram : (s.cml5).dram = s.dram := (s.only_cml5).part (p := .dram) (by simp)
@[simp] theorem State.cml5_dramEra : (s.cml5).dramEra = s.dramEra := (s.only_cml5).part (p := .dramEra) (by simp)
@[simp] theorem State.cml5_nor : (s.cml5).nor = s.nor := (s.only_cml5).part (p := .nor) (by simp)
@[simp] theorem State.cml5_pending : (s.cml5).pending = s.pending := (s.only_cml5).part (p := .pending) (by simp)

theorem State.only_cml7 : s.only (s.cml7)
    [.part .pmb] := by
  unfold State.cml7
  repeat' (first
      | with_reducible exact State.only.nil
      | with_reducible refine State.only.alertOn ?_ (by simp)
      | with_reducible refine State.only.withPmb ?_ (by simp)
      | split)

theorem State.only.cml7 {s t : State} {l : List Place} (h : s.only t l) (hl : ∀ p ∈ ([.part .pmb] : List Place), p ∈ l) : s.only (t.cml7) l :=
  h.step (t.only_cml7) hl
@[simp] theorem State.word_cml7 (off : Nat) : (s.cml7).word off = s.word off :=
  (s.only_cml7).word (by simp) off
@[simp] theorem State.get_cml7 (g : Fld) : (s.cml7).get g = s.get g := by simp [State.get]

@[simp] theorem State.cml7_mirror : (s.cml7).mirror = s.mirror := (s.only_cml7).part (p := .mirror) (by simp)
@[simp] theorem State.cml7_latch : (s.cml7).latch = s.latch := (s.only_cml7).part (p := .latch) (by simp)
@[simp] theorem State.cml7_hiStage : (s.cml7).hiStage = s.hiStage := (s.only_cml7).part (p := .hiStage) (by simp)
@[simp] theorem State.cml7_lastRead : (s.cml7).lastRead = s.lastRead := (s.only_cml7).part (p := .lastRead) (by simp)
@[simp] theorem State.cml7_now : (s.cml7).now = s.now := ((s.only_cml7).part (p := .clock) (by simp)).1
@[simp] theorem State.cml7_coldAt : (s.cml7).coldAt = s.coldAt := ((s.only_cml7).part (p := .clock) (by simp)).2
@[simp] theorem State.cml7_fresh : (s.cml7).fresh = s.fresh := (s.only_cml7).part (p := .fresh) (by simp)
@[simp] theorem State.cml7_slotStraps : (s.cml7).slotStraps = s.slotStraps := (s.only_cml7).part (p := .slotStraps) (by simp)
@[simp] theorem State.cml7_host : (s.cml7).host = s.host := (s.only_cml7).part (p := .host) (by simp)
@[simp] theorem State.cml7_gpPsh : (s.cml7).gpPsh = s.gpPsh := (s.only_cml7).part (p := .gpPsh) (by simp)
@[simp] theorem State.cml7_gpGld : (s.cml7).gpGld = s.gpGld := (s.only_cml7).part (p := .gpGld) (by simp)
@[simp] theorem State.cml7_crossHeld : (s.cml7).crossHeld = s.crossHeld := (s.only_cml7).part (p := .crossHeld) (by simp)
@[simp] theorem State.cml7_svc : (s.cml7).svc = s.svc := (s.only_cml7).part (p := .svc) (by simp)
@[simp] theorem State.cml7_brk : (s.cml7).brk = s.brk := (s.only_cml7).part (p := .brk) (by simp)
@[simp] theorem State.cml7_meter : (s.cml7).meter = s.meter := (s.only_cml7).part (p := .meter) (by simp)
@[simp] theorem State.cml7_card : (s.cml7).card = s.card := (s.only_cml7).part (p := .card) (by simp)
@[simp] theorem State.cml7_mgmt : (s.cml7).mgmt = s.mgmt := (s.only_cml7).part (p := .mgmt) (by simp)
@[simp] theorem State.cml7_thermal : (s.cml7).thermal = s.thermal := (s.only_cml7).part (p := .thermal) (by simp)
@[simp] theorem State.cml7_sec : (s.cml7).sec = s.sec := (s.only_cml7).part (p := .sec) (by simp)
@[simp] theorem State.cml7_dbg : (s.cml7).dbg = s.dbg := (s.only_cml7).part (p := .dbg) (by simp)
@[simp] theorem State.cml7_fab : (s.cml7).fab = s.fab := (s.only_cml7).part (p := .fab) (by simp)
@[simp] theorem State.cml7_pass : (s.cml7).pass = s.pass := (s.only_cml7).part (p := .pass) (by simp)
@[simp] theorem State.cml7_cap : (s.cml7).cap = s.cap := (s.only_cml7).part (p := .cap) (by simp)
@[simp] theorem State.cml7_akg : (s.cml7).akg = s.akg := (s.only_cml7).part (p := .akg) (by simp)
@[simp] theorem State.cml7_dram : (s.cml7).dram = s.dram := (s.only_cml7).part (p := .dram) (by simp)
@[simp] theorem State.cml7_dramEra : (s.cml7).dramEra = s.dramEra := (s.only_cml7).part (p := .dramEra) (by simp)
@[simp] theorem State.cml7_nor : (s.cml7).nor = s.nor := (s.only_cml7).part (p := .nor) (by simp)
@[simp] theorem State.cml7_pending : (s.cml7).pending = s.pending := (s.only_cml7).part (p := .pending) (by simp)

theorem State.only_ack : s.only (s.ack)
    [.part .pmb] := by
  unfold State.ack
  repeat' (first
      | with_reducible exact State.only.nil
      | with_reducible refine State.only.withPmb ?_ (by simp))

theorem State.only.ack {s t : State} {l : List Place} (h : s.only t l) (hl : ∀ p ∈ ([.part .pmb] : List Place), p ∈ l) : s.only (t.ack) l :=
  h.step (t.only_ack) hl
@[simp] theorem State.word_ack (off : Nat) : (s.ack).word off = s.word off :=
  (s.only_ack).word (by simp) off
@[simp] theorem State.get_ack (g : Fld) : (s.ack).get g = s.get g := by simp [State.get]

@[simp] theorem State.ack_mirror : (s.ack).mirror = s.mirror := (s.only_ack).part (p := .mirror) (by simp)
@[simp] theorem State.ack_latch : (s.ack).latch = s.latch := (s.only_ack).part (p := .latch) (by simp)
@[simp] theorem State.ack_hiStage : (s.ack).hiStage = s.hiStage := (s.only_ack).part (p := .hiStage) (by simp)
@[simp] theorem State.ack_lastRead : (s.ack).lastRead = s.lastRead := (s.only_ack).part (p := .lastRead) (by simp)
@[simp] theorem State.ack_now : (s.ack).now = s.now := ((s.only_ack).part (p := .clock) (by simp)).1
@[simp] theorem State.ack_coldAt : (s.ack).coldAt = s.coldAt := ((s.only_ack).part (p := .clock) (by simp)).2
@[simp] theorem State.ack_fresh : (s.ack).fresh = s.fresh := (s.only_ack).part (p := .fresh) (by simp)
@[simp] theorem State.ack_slotStraps : (s.ack).slotStraps = s.slotStraps := (s.only_ack).part (p := .slotStraps) (by simp)
@[simp] theorem State.ack_host : (s.ack).host = s.host := (s.only_ack).part (p := .host) (by simp)
@[simp] theorem State.ack_gpPsh : (s.ack).gpPsh = s.gpPsh := (s.only_ack).part (p := .gpPsh) (by simp)
@[simp] theorem State.ack_gpGld : (s.ack).gpGld = s.gpGld := (s.only_ack).part (p := .gpGld) (by simp)
@[simp] theorem State.ack_crossHeld : (s.ack).crossHeld = s.crossHeld := (s.only_ack).part (p := .crossHeld) (by simp)
@[simp] theorem State.ack_svc : (s.ack).svc = s.svc := (s.only_ack).part (p := .svc) (by simp)
@[simp] theorem State.ack_brk : (s.ack).brk = s.brk := (s.only_ack).part (p := .brk) (by simp)
@[simp] theorem State.ack_meter : (s.ack).meter = s.meter := (s.only_ack).part (p := .meter) (by simp)
@[simp] theorem State.ack_card : (s.ack).card = s.card := (s.only_ack).part (p := .card) (by simp)
@[simp] theorem State.ack_mgmt : (s.ack).mgmt = s.mgmt := (s.only_ack).part (p := .mgmt) (by simp)
@[simp] theorem State.ack_thermal : (s.ack).thermal = s.thermal := (s.only_ack).part (p := .thermal) (by simp)
@[simp] theorem State.ack_sec : (s.ack).sec = s.sec := (s.only_ack).part (p := .sec) (by simp)
@[simp] theorem State.ack_dbg : (s.ack).dbg = s.dbg := (s.only_ack).part (p := .dbg) (by simp)
@[simp] theorem State.ack_fab : (s.ack).fab = s.fab := (s.only_ack).part (p := .fab) (by simp)
@[simp] theorem State.ack_pass : (s.ack).pass = s.pass := (s.only_ack).part (p := .pass) (by simp)
@[simp] theorem State.ack_cap : (s.ack).cap = s.cap := (s.only_ack).part (p := .cap) (by simp)
@[simp] theorem State.ack_akg : (s.ack).akg = s.akg := (s.only_ack).part (p := .akg) (by simp)
@[simp] theorem State.ack_dram : (s.ack).dram = s.dram := (s.only_ack).part (p := .dram) (by simp)
@[simp] theorem State.ack_dramEra : (s.ack).dramEra = s.dramEra := (s.only_ack).part (p := .dramEra) (by simp)
@[simp] theorem State.ack_nor : (s.ack).nor = s.nor := (s.only_ack).part (p := .nor) (by simp)
@[simp] theorem State.ack_pending : (s.ack).pending = s.pending := (s.only_ack).part (p := .pending) (by simp)

theorem State.only_nack : s.only (s.nack)
    [.part .pmb] := by
  unfold State.nack
  repeat' (first
      | with_reducible exact State.only.nil
      | with_reducible refine State.only.withPmb ?_ (by simp)
      | with_reducible refine State.only.cml6 ?_ (by simp))

theorem State.only.nack {s t : State} {l : List Place} (h : s.only t l) (hl : ∀ p ∈ ([.part .pmb] : List Place), p ∈ l) : s.only (t.nack) l :=
  h.step (t.only_nack) hl
@[simp] theorem State.word_nack (off : Nat) : (s.nack).word off = s.word off :=
  (s.only_nack).word (by simp) off
@[simp] theorem State.get_nack (g : Fld) : (s.nack).get g = s.get g := by simp [State.get]

@[simp] theorem State.nack_mirror : (s.nack).mirror = s.mirror := (s.only_nack).part (p := .mirror) (by simp)
@[simp] theorem State.nack_latch : (s.nack).latch = s.latch := (s.only_nack).part (p := .latch) (by simp)
@[simp] theorem State.nack_hiStage : (s.nack).hiStage = s.hiStage := (s.only_nack).part (p := .hiStage) (by simp)
@[simp] theorem State.nack_lastRead : (s.nack).lastRead = s.lastRead := (s.only_nack).part (p := .lastRead) (by simp)
@[simp] theorem State.nack_now : (s.nack).now = s.now := ((s.only_nack).part (p := .clock) (by simp)).1
@[simp] theorem State.nack_coldAt : (s.nack).coldAt = s.coldAt := ((s.only_nack).part (p := .clock) (by simp)).2
@[simp] theorem State.nack_fresh : (s.nack).fresh = s.fresh := (s.only_nack).part (p := .fresh) (by simp)
@[simp] theorem State.nack_slotStraps : (s.nack).slotStraps = s.slotStraps := (s.only_nack).part (p := .slotStraps) (by simp)
@[simp] theorem State.nack_host : (s.nack).host = s.host := (s.only_nack).part (p := .host) (by simp)
@[simp] theorem State.nack_gpPsh : (s.nack).gpPsh = s.gpPsh := (s.only_nack).part (p := .gpPsh) (by simp)
@[simp] theorem State.nack_gpGld : (s.nack).gpGld = s.gpGld := (s.only_nack).part (p := .gpGld) (by simp)
@[simp] theorem State.nack_crossHeld : (s.nack).crossHeld = s.crossHeld := (s.only_nack).part (p := .crossHeld) (by simp)
@[simp] theorem State.nack_svc : (s.nack).svc = s.svc := (s.only_nack).part (p := .svc) (by simp)
@[simp] theorem State.nack_brk : (s.nack).brk = s.brk := (s.only_nack).part (p := .brk) (by simp)
@[simp] theorem State.nack_meter : (s.nack).meter = s.meter := (s.only_nack).part (p := .meter) (by simp)
@[simp] theorem State.nack_card : (s.nack).card = s.card := (s.only_nack).part (p := .card) (by simp)
@[simp] theorem State.nack_mgmt : (s.nack).mgmt = s.mgmt := (s.only_nack).part (p := .mgmt) (by simp)
@[simp] theorem State.nack_thermal : (s.nack).thermal = s.thermal := (s.only_nack).part (p := .thermal) (by simp)
@[simp] theorem State.nack_sec : (s.nack).sec = s.sec := (s.only_nack).part (p := .sec) (by simp)
@[simp] theorem State.nack_dbg : (s.nack).dbg = s.dbg := (s.only_nack).part (p := .dbg) (by simp)
@[simp] theorem State.nack_fab : (s.nack).fab = s.fab := (s.only_nack).part (p := .fab) (by simp)
@[simp] theorem State.nack_pass : (s.nack).pass = s.pass := (s.only_nack).part (p := .pass) (by simp)
@[simp] theorem State.nack_cap : (s.nack).cap = s.cap := (s.only_nack).part (p := .cap) (by simp)
@[simp] theorem State.nack_akg : (s.nack).akg = s.akg := (s.only_nack).part (p := .akg) (by simp)
@[simp] theorem State.nack_dram : (s.nack).dram = s.dram := (s.only_nack).part (p := .dram) (by simp)
@[simp] theorem State.nack_dramEra : (s.nack).dramEra = s.dramEra := (s.only_nack).part (p := .dramEra) (by simp)
@[simp] theorem State.nack_nor : (s.nack).nor = s.nor := (s.only_nack).part (p := .nor) (by simp)
@[simp] theorem State.nack_pending : (s.nack).pending = s.pending := (s.only_nack).part (p := .pending) (by simp)

theorem State.only_answer (b : List Byte) : s.only (s.answer b)
    [.part .pmb] := by
  unfold State.answer
  repeat' (first
      | with_reducible exact State.only.nil
      | with_reducible refine State.only.withPmb ?_ (by simp))

theorem State.only.answer {s t : State} {l : List Place} {b : List Byte} (h : s.only t l) (hl : ∀ p ∈ ([.part .pmb] : List Place), p ∈ l) : s.only (t.answer b) l :=
  h.step (t.only_answer b) hl
@[simp] theorem State.word_answer (b : List Byte) (off : Nat) : (s.answer b).word off = s.word off :=
  (s.only_answer b).word (by simp) off
@[simp] theorem State.get_answer (b : List Byte) (g : Fld) : (s.answer b).get g = s.get g := by simp [State.get]

@[simp] theorem State.answer_mirror (b : List Byte) : (s.answer b).mirror = s.mirror := (s.only_answer b).part (p := .mirror) (by simp)
@[simp] theorem State.answer_latch (b : List Byte) : (s.answer b).latch = s.latch := (s.only_answer b).part (p := .latch) (by simp)
@[simp] theorem State.answer_hiStage (b : List Byte) : (s.answer b).hiStage = s.hiStage := (s.only_answer b).part (p := .hiStage) (by simp)
@[simp] theorem State.answer_lastRead (b : List Byte) : (s.answer b).lastRead = s.lastRead := (s.only_answer b).part (p := .lastRead) (by simp)
@[simp] theorem State.answer_now (b : List Byte) : (s.answer b).now = s.now := ((s.only_answer b).part (p := .clock) (by simp)).1
@[simp] theorem State.answer_coldAt (b : List Byte) : (s.answer b).coldAt = s.coldAt := ((s.only_answer b).part (p := .clock) (by simp)).2
@[simp] theorem State.answer_fresh (b : List Byte) : (s.answer b).fresh = s.fresh := (s.only_answer b).part (p := .fresh) (by simp)
@[simp] theorem State.answer_slotStraps (b : List Byte) : (s.answer b).slotStraps = s.slotStraps := (s.only_answer b).part (p := .slotStraps) (by simp)
@[simp] theorem State.answer_host (b : List Byte) : (s.answer b).host = s.host := (s.only_answer b).part (p := .host) (by simp)
@[simp] theorem State.answer_gpPsh (b : List Byte) : (s.answer b).gpPsh = s.gpPsh := (s.only_answer b).part (p := .gpPsh) (by simp)
@[simp] theorem State.answer_gpGld (b : List Byte) : (s.answer b).gpGld = s.gpGld := (s.only_answer b).part (p := .gpGld) (by simp)
@[simp] theorem State.answer_crossHeld (b : List Byte) : (s.answer b).crossHeld = s.crossHeld := (s.only_answer b).part (p := .crossHeld) (by simp)
@[simp] theorem State.answer_svc (b : List Byte) : (s.answer b).svc = s.svc := (s.only_answer b).part (p := .svc) (by simp)
@[simp] theorem State.answer_brk (b : List Byte) : (s.answer b).brk = s.brk := (s.only_answer b).part (p := .brk) (by simp)
@[simp] theorem State.answer_meter (b : List Byte) : (s.answer b).meter = s.meter := (s.only_answer b).part (p := .meter) (by simp)
@[simp] theorem State.answer_card (b : List Byte) : (s.answer b).card = s.card := (s.only_answer b).part (p := .card) (by simp)
@[simp] theorem State.answer_mgmt (b : List Byte) : (s.answer b).mgmt = s.mgmt := (s.only_answer b).part (p := .mgmt) (by simp)
@[simp] theorem State.answer_thermal (b : List Byte) : (s.answer b).thermal = s.thermal := (s.only_answer b).part (p := .thermal) (by simp)
@[simp] theorem State.answer_sec (b : List Byte) : (s.answer b).sec = s.sec := (s.only_answer b).part (p := .sec) (by simp)
@[simp] theorem State.answer_dbg (b : List Byte) : (s.answer b).dbg = s.dbg := (s.only_answer b).part (p := .dbg) (by simp)
@[simp] theorem State.answer_fab (b : List Byte) : (s.answer b).fab = s.fab := (s.only_answer b).part (p := .fab) (by simp)
@[simp] theorem State.answer_pass (b : List Byte) : (s.answer b).pass = s.pass := (s.only_answer b).part (p := .pass) (by simp)
@[simp] theorem State.answer_cap (b : List Byte) : (s.answer b).cap = s.cap := (s.only_answer b).part (p := .cap) (by simp)
@[simp] theorem State.answer_akg (b : List Byte) : (s.answer b).akg = s.akg := (s.only_answer b).part (p := .akg) (by simp)
@[simp] theorem State.answer_dram (b : List Byte) : (s.answer b).dram = s.dram := (s.only_answer b).part (p := .dram) (by simp)
@[simp] theorem State.answer_dramEra (b : List Byte) : (s.answer b).dramEra = s.dramEra := (s.only_answer b).part (p := .dramEra) (by simp)
@[simp] theorem State.answer_nor (b : List Byte) : (s.answer b).nor = s.nor := (s.only_answer b).part (p := .nor) (by simp)
@[simp] theorem State.answer_pending (b : List Byte) : (s.answer b).pending = s.pending := (s.only_answer b).part (p := .pending) (by simp)

theorem State.only_showCores : s.only (s.showCores)
    [.fld Reg.DBG_STATUS.halted, .fld Reg.DBG_STATUS.deferred, .fld Reg.DBG_STATUS.psh2_halted, .fld Reg.DBG_STATUS.psh2_deferred] := by
  unfold State.showCores
  repeat' (first
      | with_reducible exact State.only.nil
      | with_reducible refine State.only.putFlag ?_ (by simp)
      | with_reducible refine State.only.put ?_ (by simp))

theorem State.only.showCores {s t : State} {l : List Place} (h : s.only t l) (hl : ∀ p ∈ ([.fld Reg.DBG_STATUS.halted, .fld Reg.DBG_STATUS.deferred, .fld Reg.DBG_STATUS.psh2_halted, .fld Reg.DBG_STATUS.psh2_deferred] : List Place), p ∈ l) : s.only (t.showCores) l :=
  h.step (t.only_showCores) hl
theorem State.get_showCores {g : Fld} (hg : g.lo + g.width ≤ 32)
    (ha : List.all [.fld Reg.DBG_STATUS.halted, .fld Reg.DBG_STATUS.deferred, .fld Reg.DBG_STATUS.psh2_halted, .fld Reg.DBG_STATUS.psh2_deferred] (Place.apart g) = true) : (s.showCores).get g = s.get g :=
  (s.only_showCores).get hg (by simpa [Place.apart_part] using ha)

@[simp] theorem State.showCores_mirror : (s.showCores).mirror = s.mirror := (s.only_showCores).part (p := .mirror) (by simp)
@[simp] theorem State.showCores_latch : (s.showCores).latch = s.latch := (s.only_showCores).part (p := .latch) (by simp)
@[simp] theorem State.showCores_hiStage : (s.showCores).hiStage = s.hiStage := (s.only_showCores).part (p := .hiStage) (by simp)
@[simp] theorem State.showCores_lastRead : (s.showCores).lastRead = s.lastRead := (s.only_showCores).part (p := .lastRead) (by simp)
@[simp] theorem State.showCores_now : (s.showCores).now = s.now := ((s.only_showCores).part (p := .clock) (by simp)).1
@[simp] theorem State.showCores_coldAt : (s.showCores).coldAt = s.coldAt := ((s.only_showCores).part (p := .clock) (by simp)).2
@[simp] theorem State.showCores_fresh : (s.showCores).fresh = s.fresh := (s.only_showCores).part (p := .fresh) (by simp)
@[simp] theorem State.showCores_slotStraps : (s.showCores).slotStraps = s.slotStraps := (s.only_showCores).part (p := .slotStraps) (by simp)
@[simp] theorem State.showCores_host : (s.showCores).host = s.host := (s.only_showCores).part (p := .host) (by simp)
@[simp] theorem State.showCores_gpPsh : (s.showCores).gpPsh = s.gpPsh := (s.only_showCores).part (p := .gpPsh) (by simp)
@[simp] theorem State.showCores_gpGld : (s.showCores).gpGld = s.gpGld := (s.only_showCores).part (p := .gpGld) (by simp)
@[simp] theorem State.showCores_crossHeld : (s.showCores).crossHeld = s.crossHeld := (s.only_showCores).part (p := .crossHeld) (by simp)
@[simp] theorem State.showCores_svc : (s.showCores).svc = s.svc := (s.only_showCores).part (p := .svc) (by simp)
@[simp] theorem State.showCores_brk : (s.showCores).brk = s.brk := (s.only_showCores).part (p := .brk) (by simp)
@[simp] theorem State.showCores_meter : (s.showCores).meter = s.meter := (s.only_showCores).part (p := .meter) (by simp)
@[simp] theorem State.showCores_pmb : (s.showCores).pmb = s.pmb := (s.only_showCores).part (p := .pmb) (by simp)
@[simp] theorem State.showCores_card : (s.showCores).card = s.card := (s.only_showCores).part (p := .card) (by simp)
@[simp] theorem State.showCores_mgmt : (s.showCores).mgmt = s.mgmt := (s.only_showCores).part (p := .mgmt) (by simp)
@[simp] theorem State.showCores_thermal : (s.showCores).thermal = s.thermal := (s.only_showCores).part (p := .thermal) (by simp)
@[simp] theorem State.showCores_sec : (s.showCores).sec = s.sec := (s.only_showCores).part (p := .sec) (by simp)
@[simp] theorem State.showCores_dbg : (s.showCores).dbg = s.dbg := (s.only_showCores).part (p := .dbg) (by simp)
@[simp] theorem State.showCores_fab : (s.showCores).fab = s.fab := (s.only_showCores).part (p := .fab) (by simp)
@[simp] theorem State.showCores_pass : (s.showCores).pass = s.pass := (s.only_showCores).part (p := .pass) (by simp)
@[simp] theorem State.showCores_cap : (s.showCores).cap = s.cap := (s.only_showCores).part (p := .cap) (by simp)
@[simp] theorem State.showCores_akg : (s.showCores).akg = s.akg := (s.only_showCores).part (p := .akg) (by simp)
@[simp] theorem State.showCores_dram : (s.showCores).dram = s.dram := (s.only_showCores).part (p := .dram) (by simp)
@[simp] theorem State.showCores_dramEra : (s.showCores).dramEra = s.dramEra := (s.only_showCores).part (p := .dramEra) (by simp)
@[simp] theorem State.showCores_nor : (s.showCores).nor = s.nor := (s.only_showCores).part (p := .nor) (by simp)
@[simp] theorem State.showCores_pending : (s.showCores).pending = s.pending := (s.only_showCores).part (p := .pending) (by simp)

theorem State.only_mapCore (c : Nat) (f : Core → Core) : s.only (s.mapCore c f)
    [.fld Reg.DBG_STATUS.halted, .fld Reg.DBG_STATUS.deferred, .fld Reg.DBG_STATUS.psh2_halted, .fld Reg.DBG_STATUS.psh2_deferred, .part .dbg] := by
  unfold State.mapCore
  repeat' (first
      | with_reducible exact State.only.nil
      | with_reducible refine State.only.showCores ?_ (by simp)
      | with_reducible refine State.only.withDbg ?_ (by simp))

theorem State.only.mapCore {s t : State} {l : List Place} {c : Nat} {f : Core → Core} (h : s.only t l) (hl : ∀ p ∈ ([.fld Reg.DBG_STATUS.halted, .fld Reg.DBG_STATUS.deferred, .fld Reg.DBG_STATUS.psh2_halted, .fld Reg.DBG_STATUS.psh2_deferred, .part .dbg] : List Place), p ∈ l) : s.only (t.mapCore c f) l :=
  h.step (t.only_mapCore c f) hl
theorem State.get_mapCore (c : Nat) (f : Core → Core) {g : Fld} (hg : g.lo + g.width ≤ 32)
    (ha : List.all [.fld Reg.DBG_STATUS.halted, .fld Reg.DBG_STATUS.deferred, .fld Reg.DBG_STATUS.psh2_halted, .fld Reg.DBG_STATUS.psh2_deferred] (Place.apart g) = true) : (s.mapCore c f).get g = s.get g :=
  (s.only_mapCore c f).get hg (by simpa [Place.apart_part] using ha)

@[simp] theorem State.mapCore_mirror (c : Nat) (f : Core → Core) : (s.mapCore c f).mirror = s.mirror := (s.only_mapCore c f).part (p := .mirror) (by simp)
@[simp] theorem State.mapCore_latch (c : Nat) (f : Core → Core) : (s.mapCore c f).latch = s.latch := (s.only_mapCore c f).part (p := .latch) (by simp)
@[simp] theorem State.mapCore_hiStage (c : Nat) (f : Core → Core) : (s.mapCore c f).hiStage = s.hiStage := (s.only_mapCore c f).part (p := .hiStage) (by simp)
@[simp] theorem State.mapCore_lastRead (c : Nat) (f : Core → Core) : (s.mapCore c f).lastRead = s.lastRead := (s.only_mapCore c f).part (p := .lastRead) (by simp)
@[simp] theorem State.mapCore_now (c : Nat) (f : Core → Core) : (s.mapCore c f).now = s.now := ((s.only_mapCore c f).part (p := .clock) (by simp)).1
@[simp] theorem State.mapCore_coldAt (c : Nat) (f : Core → Core) : (s.mapCore c f).coldAt = s.coldAt := ((s.only_mapCore c f).part (p := .clock) (by simp)).2
@[simp] theorem State.mapCore_fresh (c : Nat) (f : Core → Core) : (s.mapCore c f).fresh = s.fresh := (s.only_mapCore c f).part (p := .fresh) (by simp)
@[simp] theorem State.mapCore_slotStraps (c : Nat) (f : Core → Core) : (s.mapCore c f).slotStraps = s.slotStraps := (s.only_mapCore c f).part (p := .slotStraps) (by simp)
@[simp] theorem State.mapCore_host (c : Nat) (f : Core → Core) : (s.mapCore c f).host = s.host := (s.only_mapCore c f).part (p := .host) (by simp)
@[simp] theorem State.mapCore_gpPsh (c : Nat) (f : Core → Core) : (s.mapCore c f).gpPsh = s.gpPsh := (s.only_mapCore c f).part (p := .gpPsh) (by simp)
@[simp] theorem State.mapCore_gpGld (c : Nat) (f : Core → Core) : (s.mapCore c f).gpGld = s.gpGld := (s.only_mapCore c f).part (p := .gpGld) (by simp)
@[simp] theorem State.mapCore_crossHeld (c : Nat) (f : Core → Core) : (s.mapCore c f).crossHeld = s.crossHeld := (s.only_mapCore c f).part (p := .crossHeld) (by simp)
@[simp] theorem State.mapCore_svc (c : Nat) (f : Core → Core) : (s.mapCore c f).svc = s.svc := (s.only_mapCore c f).part (p := .svc) (by simp)
@[simp] theorem State.mapCore_brk (c : Nat) (f : Core → Core) : (s.mapCore c f).brk = s.brk := (s.only_mapCore c f).part (p := .brk) (by simp)
@[simp] theorem State.mapCore_meter (c : Nat) (f : Core → Core) : (s.mapCore c f).meter = s.meter := (s.only_mapCore c f).part (p := .meter) (by simp)
@[simp] theorem State.mapCore_pmb (c : Nat) (f : Core → Core) : (s.mapCore c f).pmb = s.pmb := (s.only_mapCore c f).part (p := .pmb) (by simp)
@[simp] theorem State.mapCore_card (c : Nat) (f : Core → Core) : (s.mapCore c f).card = s.card := (s.only_mapCore c f).part (p := .card) (by simp)
@[simp] theorem State.mapCore_mgmt (c : Nat) (f : Core → Core) : (s.mapCore c f).mgmt = s.mgmt := (s.only_mapCore c f).part (p := .mgmt) (by simp)
@[simp] theorem State.mapCore_thermal (c : Nat) (f : Core → Core) : (s.mapCore c f).thermal = s.thermal := (s.only_mapCore c f).part (p := .thermal) (by simp)
@[simp] theorem State.mapCore_sec (c : Nat) (f : Core → Core) : (s.mapCore c f).sec = s.sec := (s.only_mapCore c f).part (p := .sec) (by simp)
@[simp] theorem State.mapCore_fab (c : Nat) (f : Core → Core) : (s.mapCore c f).fab = s.fab := (s.only_mapCore c f).part (p := .fab) (by simp)
@[simp] theorem State.mapCore_pass (c : Nat) (f : Core → Core) : (s.mapCore c f).pass = s.pass := (s.only_mapCore c f).part (p := .pass) (by simp)
@[simp] theorem State.mapCore_cap (c : Nat) (f : Core → Core) : (s.mapCore c f).cap = s.cap := (s.only_mapCore c f).part (p := .cap) (by simp)
@[simp] theorem State.mapCore_akg (c : Nat) (f : Core → Core) : (s.mapCore c f).akg = s.akg := (s.only_mapCore c f).part (p := .akg) (by simp)
@[simp] theorem State.mapCore_dram (c : Nat) (f : Core → Core) : (s.mapCore c f).dram = s.dram := (s.only_mapCore c f).part (p := .dram) (by simp)
@[simp] theorem State.mapCore_dramEra (c : Nat) (f : Core → Core) : (s.mapCore c f).dramEra = s.dramEra := (s.only_mapCore c f).part (p := .dramEra) (by simp)
@[simp] theorem State.mapCore_nor (c : Nat) (f : Core → Core) : (s.mapCore c f).nor = s.nor := (s.only_mapCore c f).part (p := .nor) (by simp)
@[simp] theorem State.mapCore_pending (c : Nat) (f : Core → Core) : (s.mapCore c f).pending = s.pending := (s.only_mapCore c f).part (p := .pending) (by simp)

theorem State.only_enterExpert (b : Nat) : s.only (s.enterExpert b)
    [.fld Reg.GLB_EXPERT_STATUS.expert] := by
  unfold State.enterExpert
  repeat' (first
      | with_reducible exact State.only.nil
      | with_reducible refine State.only.put ?_ (by simp))

theorem State.only.enterExpert {s t : State} {l : List Place} {b : Nat} (h : s.only t l) (hl : ∀ p ∈ ([.fld Reg.GLB_EXPERT_STATUS.expert] : List Place), p ∈ l) : s.only (t.enterExpert b) l :=
  h.step (t.only_enterExpert b) hl
theorem State.get_enterExpert (b : Nat) {g : Fld} (hg : g.lo + g.width ≤ 32)
    (ha : List.all [.fld Reg.GLB_EXPERT_STATUS.expert] (Place.apart g) = true) : (s.enterExpert b).get g = s.get g :=
  (s.only_enterExpert b).get hg (by simpa [Place.apart_part] using ha)

@[simp] theorem State.enterExpert_mirror (b : Nat) : (s.enterExpert b).mirror = s.mirror := (s.only_enterExpert b).part (p := .mirror) (by simp)
@[simp] theorem State.enterExpert_latch (b : Nat) : (s.enterExpert b).latch = s.latch := (s.only_enterExpert b).part (p := .latch) (by simp)
@[simp] theorem State.enterExpert_hiStage (b : Nat) : (s.enterExpert b).hiStage = s.hiStage := (s.only_enterExpert b).part (p := .hiStage) (by simp)
@[simp] theorem State.enterExpert_lastRead (b : Nat) : (s.enterExpert b).lastRead = s.lastRead := (s.only_enterExpert b).part (p := .lastRead) (by simp)
@[simp] theorem State.enterExpert_now (b : Nat) : (s.enterExpert b).now = s.now := ((s.only_enterExpert b).part (p := .clock) (by simp)).1
@[simp] theorem State.enterExpert_coldAt (b : Nat) : (s.enterExpert b).coldAt = s.coldAt := ((s.only_enterExpert b).part (p := .clock) (by simp)).2
@[simp] theorem State.enterExpert_fresh (b : Nat) : (s.enterExpert b).fresh = s.fresh := (s.only_enterExpert b).part (p := .fresh) (by simp)
@[simp] theorem State.enterExpert_slotStraps (b : Nat) : (s.enterExpert b).slotStraps = s.slotStraps := (s.only_enterExpert b).part (p := .slotStraps) (by simp)
@[simp] theorem State.enterExpert_host (b : Nat) : (s.enterExpert b).host = s.host := (s.only_enterExpert b).part (p := .host) (by simp)
@[simp] theorem State.enterExpert_gpPsh (b : Nat) : (s.enterExpert b).gpPsh = s.gpPsh := (s.only_enterExpert b).part (p := .gpPsh) (by simp)
@[simp] theorem State.enterExpert_gpGld (b : Nat) : (s.enterExpert b).gpGld = s.gpGld := (s.only_enterExpert b).part (p := .gpGld) (by simp)
@[simp] theorem State.enterExpert_crossHeld (b : Nat) : (s.enterExpert b).crossHeld = s.crossHeld := (s.only_enterExpert b).part (p := .crossHeld) (by simp)
@[simp] theorem State.enterExpert_svc (b : Nat) : (s.enterExpert b).svc = s.svc := (s.only_enterExpert b).part (p := .svc) (by simp)
@[simp] theorem State.enterExpert_brk (b : Nat) : (s.enterExpert b).brk = s.brk := (s.only_enterExpert b).part (p := .brk) (by simp)
@[simp] theorem State.enterExpert_meter (b : Nat) : (s.enterExpert b).meter = s.meter := (s.only_enterExpert b).part (p := .meter) (by simp)
@[simp] theorem State.enterExpert_pmb (b : Nat) : (s.enterExpert b).pmb = s.pmb := (s.only_enterExpert b).part (p := .pmb) (by simp)
@[simp] theorem State.enterExpert_card (b : Nat) : (s.enterExpert b).card = s.card := (s.only_enterExpert b).part (p := .card) (by simp)
@[simp] theorem State.enterExpert_mgmt (b : Nat) : (s.enterExpert b).mgmt = s.mgmt := (s.only_enterExpert b).part (p := .mgmt) (by simp)
@[simp] theorem State.enterExpert_thermal (b : Nat) : (s.enterExpert b).thermal = s.thermal := (s.only_enterExpert b).part (p := .thermal) (by simp)
@[simp] theorem State.enterExpert_sec (b : Nat) : (s.enterExpert b).sec = s.sec := (s.only_enterExpert b).part (p := .sec) (by simp)
@[simp] theorem State.enterExpert_dbg (b : Nat) : (s.enterExpert b).dbg = s.dbg := (s.only_enterExpert b).part (p := .dbg) (by simp)
@[simp] theorem State.enterExpert_fab (b : Nat) : (s.enterExpert b).fab = s.fab := (s.only_enterExpert b).part (p := .fab) (by simp)
@[simp] theorem State.enterExpert_pass (b : Nat) : (s.enterExpert b).pass = s.pass := (s.only_enterExpert b).part (p := .pass) (by simp)
@[simp] theorem State.enterExpert_cap (b : Nat) : (s.enterExpert b).cap = s.cap := (s.only_enterExpert b).part (p := .cap) (by simp)
@[simp] theorem State.enterExpert_akg (b : Nat) : (s.enterExpert b).akg = s.akg := (s.only_enterExpert b).part (p := .akg) (by simp)
@[simp] theorem State.enterExpert_dram (b : Nat) : (s.enterExpert b).dram = s.dram := (s.only_enterExpert b).part (p := .dram) (by simp)
@[simp] theorem State.enterExpert_dramEra (b : Nat) : (s.enterExpert b).dramEra = s.dramEra := (s.only_enterExpert b).part (p := .dramEra) (by simp)
@[simp] theorem State.enterExpert_nor (b : Nat) : (s.enterExpert b).nor = s.nor := (s.only_enterExpert b).part (p := .nor) (by simp)
@[simp] theorem State.enterExpert_pending (b : Nat) : (s.enterExpert b).pending = s.pending := (s.only_enterExpert b).part (p := .pending) (by simp)

theorem State.only_leaveExpert (b : Nat) : s.only (s.leaveExpert b)
    [.fld Reg.GLB_EXPERT_STATUS.expert, .part .host] := by
  unfold State.leaveExpert
  repeat' (first
      | with_reducible exact State.only.nil
      | with_reducible refine State.only.withHost ?_ (by simp)
      | with_reducible refine State.only.put ?_ (by simp))

theorem State.only.leaveExpert {s t : State} {l : List Place} {b : Nat} (h : s.only t l) (hl : ∀ p ∈ ([.fld Reg.GLB_EXPERT_STATUS.expert, .part .host] : List Place), p ∈ l) : s.only (t.leaveExpert b) l :=
  h.step (t.only_leaveExpert b) hl
theorem State.get_leaveExpert (b : Nat) {g : Fld} (hg : g.lo + g.width ≤ 32)
    (ha : List.all [.fld Reg.GLB_EXPERT_STATUS.expert] (Place.apart g) = true) : (s.leaveExpert b).get g = s.get g :=
  (s.only_leaveExpert b).get hg (by simpa [Place.apart_part] using ha)

@[simp] theorem State.leaveExpert_mirror (b : Nat) : (s.leaveExpert b).mirror = s.mirror := (s.only_leaveExpert b).part (p := .mirror) (by simp)
@[simp] theorem State.leaveExpert_latch (b : Nat) : (s.leaveExpert b).latch = s.latch := (s.only_leaveExpert b).part (p := .latch) (by simp)
@[simp] theorem State.leaveExpert_hiStage (b : Nat) : (s.leaveExpert b).hiStage = s.hiStage := (s.only_leaveExpert b).part (p := .hiStage) (by simp)
@[simp] theorem State.leaveExpert_lastRead (b : Nat) : (s.leaveExpert b).lastRead = s.lastRead := (s.only_leaveExpert b).part (p := .lastRead) (by simp)
@[simp] theorem State.leaveExpert_now (b : Nat) : (s.leaveExpert b).now = s.now := ((s.only_leaveExpert b).part (p := .clock) (by simp)).1
@[simp] theorem State.leaveExpert_coldAt (b : Nat) : (s.leaveExpert b).coldAt = s.coldAt := ((s.only_leaveExpert b).part (p := .clock) (by simp)).2
@[simp] theorem State.leaveExpert_fresh (b : Nat) : (s.leaveExpert b).fresh = s.fresh := (s.only_leaveExpert b).part (p := .fresh) (by simp)
@[simp] theorem State.leaveExpert_slotStraps (b : Nat) : (s.leaveExpert b).slotStraps = s.slotStraps := (s.only_leaveExpert b).part (p := .slotStraps) (by simp)
@[simp] theorem State.leaveExpert_gpPsh (b : Nat) : (s.leaveExpert b).gpPsh = s.gpPsh := (s.only_leaveExpert b).part (p := .gpPsh) (by simp)
@[simp] theorem State.leaveExpert_gpGld (b : Nat) : (s.leaveExpert b).gpGld = s.gpGld := (s.only_leaveExpert b).part (p := .gpGld) (by simp)
@[simp] theorem State.leaveExpert_crossHeld (b : Nat) : (s.leaveExpert b).crossHeld = s.crossHeld := (s.only_leaveExpert b).part (p := .crossHeld) (by simp)
@[simp] theorem State.leaveExpert_svc (b : Nat) : (s.leaveExpert b).svc = s.svc := (s.only_leaveExpert b).part (p := .svc) (by simp)
@[simp] theorem State.leaveExpert_brk (b : Nat) : (s.leaveExpert b).brk = s.brk := (s.only_leaveExpert b).part (p := .brk) (by simp)
@[simp] theorem State.leaveExpert_meter (b : Nat) : (s.leaveExpert b).meter = s.meter := (s.only_leaveExpert b).part (p := .meter) (by simp)
@[simp] theorem State.leaveExpert_pmb (b : Nat) : (s.leaveExpert b).pmb = s.pmb := (s.only_leaveExpert b).part (p := .pmb) (by simp)
@[simp] theorem State.leaveExpert_card (b : Nat) : (s.leaveExpert b).card = s.card := (s.only_leaveExpert b).part (p := .card) (by simp)
@[simp] theorem State.leaveExpert_mgmt (b : Nat) : (s.leaveExpert b).mgmt = s.mgmt := (s.only_leaveExpert b).part (p := .mgmt) (by simp)
@[simp] theorem State.leaveExpert_thermal (b : Nat) : (s.leaveExpert b).thermal = s.thermal := (s.only_leaveExpert b).part (p := .thermal) (by simp)
@[simp] theorem State.leaveExpert_sec (b : Nat) : (s.leaveExpert b).sec = s.sec := (s.only_leaveExpert b).part (p := .sec) (by simp)
@[simp] theorem State.leaveExpert_dbg (b : Nat) : (s.leaveExpert b).dbg = s.dbg := (s.only_leaveExpert b).part (p := .dbg) (by simp)
@[simp] theorem State.leaveExpert_fab (b : Nat) : (s.leaveExpert b).fab = s.fab := (s.only_leaveExpert b).part (p := .fab) (by simp)
@[simp] theorem State.leaveExpert_pass (b : Nat) : (s.leaveExpert b).pass = s.pass := (s.only_leaveExpert b).part (p := .pass) (by simp)
@[simp] theorem State.leaveExpert_cap (b : Nat) : (s.leaveExpert b).cap = s.cap := (s.only_leaveExpert b).part (p := .cap) (by simp)
@[simp] theorem State.leaveExpert_akg (b : Nat) : (s.leaveExpert b).akg = s.akg := (s.only_leaveExpert b).part (p := .akg) (by simp)
@[simp] theorem State.leaveExpert_dram (b : Nat) : (s.leaveExpert b).dram = s.dram := (s.only_leaveExpert b).part (p := .dram) (by simp)
@[simp] theorem State.leaveExpert_dramEra (b : Nat) : (s.leaveExpert b).dramEra = s.dramEra := (s.only_leaveExpert b).part (p := .dramEra) (by simp)
@[simp] theorem State.leaveExpert_nor (b : Nat) : (s.leaveExpert b).nor = s.nor := (s.only_leaveExpert b).part (p := .nor) (by simp)
@[simp] theorem State.leaveExpert_pending (b : Nat) : (s.leaveExpert b).pending = s.pending := (s.only_leaveExpert b).part (p := .pending) (by simp)

theorem State.only_unlockKey (b : Nat) (p : MgmtPath) (k : Nat) : s.only (s.unlockKey b p k)
    [.fld Reg.GLB_EXPERT_STATUS.expert, .part .host] := by
  unfold State.unlockKey
  repeat' (first
      | with_reducible exact State.only.nil
      | with_reducible refine State.only.enterExpert ?_ (by simp)
      | with_reducible refine State.only.withHost ?_ (by simp)
      | split
      | (dsimp only; split))

theorem State.only.unlockKey {s t : State} {l : List Place} {b : Nat} {p : MgmtPath} {k : Nat} (h : s.only t l) (hl : ∀ p ∈ ([.fld Reg.GLB_EXPERT_STATUS.expert, .part .host] : List Place), p ∈ l) : s.only (t.unlockKey b p k) l :=
  h.step (t.only_unlockKey b p k) hl
theorem State.get_unlockKey (b : Nat) (p : MgmtPath) (k : Nat) {g : Fld} (hg : g.lo + g.width ≤ 32)
    (ha : List.all [.fld Reg.GLB_EXPERT_STATUS.expert] (Place.apart g) = true) : (s.unlockKey b p k).get g = s.get g :=
  (s.only_unlockKey b p k).get hg (by simpa [Place.apart_part] using ha)

@[simp] theorem State.unlockKey_mirror (b : Nat) (p : MgmtPath) (k : Nat) : (s.unlockKey b p k).mirror = s.mirror := (s.only_unlockKey b p k).part (p := .mirror) (by simp)
@[simp] theorem State.unlockKey_latch (b : Nat) (p : MgmtPath) (k : Nat) : (s.unlockKey b p k).latch = s.latch := (s.only_unlockKey b p k).part (p := .latch) (by simp)
@[simp] theorem State.unlockKey_hiStage (b : Nat) (p : MgmtPath) (k : Nat) : (s.unlockKey b p k).hiStage = s.hiStage := (s.only_unlockKey b p k).part (p := .hiStage) (by simp)
@[simp] theorem State.unlockKey_lastRead (b : Nat) (p : MgmtPath) (k : Nat) : (s.unlockKey b p k).lastRead = s.lastRead := (s.only_unlockKey b p k).part (p := .lastRead) (by simp)
@[simp] theorem State.unlockKey_now (b : Nat) (p : MgmtPath) (k : Nat) : (s.unlockKey b p k).now = s.now := ((s.only_unlockKey b p k).part (p := .clock) (by simp)).1
@[simp] theorem State.unlockKey_coldAt (b : Nat) (p : MgmtPath) (k : Nat) : (s.unlockKey b p k).coldAt = s.coldAt := ((s.only_unlockKey b p k).part (p := .clock) (by simp)).2
@[simp] theorem State.unlockKey_fresh (b : Nat) (p : MgmtPath) (k : Nat) : (s.unlockKey b p k).fresh = s.fresh := (s.only_unlockKey b p k).part (p := .fresh) (by simp)
@[simp] theorem State.unlockKey_slotStraps (b : Nat) (p : MgmtPath) (k : Nat) : (s.unlockKey b p k).slotStraps = s.slotStraps := (s.only_unlockKey b p k).part (p := .slotStraps) (by simp)
@[simp] theorem State.unlockKey_gpPsh (b : Nat) (p : MgmtPath) (k : Nat) : (s.unlockKey b p k).gpPsh = s.gpPsh := (s.only_unlockKey b p k).part (p := .gpPsh) (by simp)
@[simp] theorem State.unlockKey_gpGld (b : Nat) (p : MgmtPath) (k : Nat) : (s.unlockKey b p k).gpGld = s.gpGld := (s.only_unlockKey b p k).part (p := .gpGld) (by simp)
@[simp] theorem State.unlockKey_crossHeld (b : Nat) (p : MgmtPath) (k : Nat) : (s.unlockKey b p k).crossHeld = s.crossHeld := (s.only_unlockKey b p k).part (p := .crossHeld) (by simp)
@[simp] theorem State.unlockKey_svc (b : Nat) (p : MgmtPath) (k : Nat) : (s.unlockKey b p k).svc = s.svc := (s.only_unlockKey b p k).part (p := .svc) (by simp)
@[simp] theorem State.unlockKey_brk (b : Nat) (p : MgmtPath) (k : Nat) : (s.unlockKey b p k).brk = s.brk := (s.only_unlockKey b p k).part (p := .brk) (by simp)
@[simp] theorem State.unlockKey_meter (b : Nat) (p : MgmtPath) (k : Nat) : (s.unlockKey b p k).meter = s.meter := (s.only_unlockKey b p k).part (p := .meter) (by simp)
@[simp] theorem State.unlockKey_pmb (b : Nat) (p : MgmtPath) (k : Nat) : (s.unlockKey b p k).pmb = s.pmb := (s.only_unlockKey b p k).part (p := .pmb) (by simp)
@[simp] theorem State.unlockKey_card (b : Nat) (p : MgmtPath) (k : Nat) : (s.unlockKey b p k).card = s.card := (s.only_unlockKey b p k).part (p := .card) (by simp)
@[simp] theorem State.unlockKey_mgmt (b : Nat) (p : MgmtPath) (k : Nat) : (s.unlockKey b p k).mgmt = s.mgmt := (s.only_unlockKey b p k).part (p := .mgmt) (by simp)
@[simp] theorem State.unlockKey_thermal (b : Nat) (p : MgmtPath) (k : Nat) : (s.unlockKey b p k).thermal = s.thermal := (s.only_unlockKey b p k).part (p := .thermal) (by simp)
@[simp] theorem State.unlockKey_sec (b : Nat) (p : MgmtPath) (k : Nat) : (s.unlockKey b p k).sec = s.sec := (s.only_unlockKey b p k).part (p := .sec) (by simp)
@[simp] theorem State.unlockKey_dbg (b : Nat) (p : MgmtPath) (k : Nat) : (s.unlockKey b p k).dbg = s.dbg := (s.only_unlockKey b p k).part (p := .dbg) (by simp)
@[simp] theorem State.unlockKey_fab (b : Nat) (p : MgmtPath) (k : Nat) : (s.unlockKey b p k).fab = s.fab := (s.only_unlockKey b p k).part (p := .fab) (by simp)
@[simp] theorem State.unlockKey_pass (b : Nat) (p : MgmtPath) (k : Nat) : (s.unlockKey b p k).pass = s.pass := (s.only_unlockKey b p k).part (p := .pass) (by simp)
@[simp] theorem State.unlockKey_cap (b : Nat) (p : MgmtPath) (k : Nat) : (s.unlockKey b p k).cap = s.cap := (s.only_unlockKey b p k).part (p := .cap) (by simp)
@[simp] theorem State.unlockKey_akg (b : Nat) (p : MgmtPath) (k : Nat) : (s.unlockKey b p k).akg = s.akg := (s.only_unlockKey b p k).part (p := .akg) (by simp)
@[simp] theorem State.unlockKey_dram (b : Nat) (p : MgmtPath) (k : Nat) : (s.unlockKey b p k).dram = s.dram := (s.only_unlockKey b p k).part (p := .dram) (by simp)
@[simp] theorem State.unlockKey_dramEra (b : Nat) (p : MgmtPath) (k : Nat) : (s.unlockKey b p k).dramEra = s.dramEra := (s.only_unlockKey b p k).part (p := .dramEra) (by simp)
@[simp] theorem State.unlockKey_nor (b : Nat) (p : MgmtPath) (k : Nat) : (s.unlockKey b p k).nor = s.nor := (s.only_unlockKey b p k).part (p := .nor) (by simp)
@[simp] theorem State.unlockKey_pending (b : Nat) (p : MgmtPath) (k : Nat) : (s.unlockKey b p k).pending = s.pending := (s.only_unlockKey b p k).part (p := .pending) (by simp)

theorem State.only_stageHi (o : Nat) (v : Word) : s.only (s.stageHi o v)
    [.part .hiStage] := by
  unfold State.stageHi
  repeat' (first
      | with_reducible exact State.only.nil
      | with_reducible refine State.only.withHiStage ?_ (by simp))

theorem State.only.stageHi {s t : State} {l : List Place} {o : Nat} {v : Word} (h : s.only t l) (hl : ∀ p ∈ ([.part .hiStage] : List Place), p ∈ l) : s.only (t.stageHi o v) l :=
  h.step (t.only_stageHi o v) hl
@[simp] theorem State.word_stageHi (o : Nat) (v : Word) (off : Nat) : (s.stageHi o v).word off = s.word off :=
  (s.only_stageHi o v).word (by simp) off
@[simp] theorem State.get_stageHi (o : Nat) (v : Word) (g : Fld) : (s.stageHi o v).get g = s.get g := by simp [State.get]

@[simp] theorem State.stageHi_mirror (o : Nat) (v : Word) : (s.stageHi o v).mirror = s.mirror := (s.only_stageHi o v).part (p := .mirror) (by simp)
@[simp] theorem State.stageHi_latch (o : Nat) (v : Word) : (s.stageHi o v).latch = s.latch := (s.only_stageHi o v).part (p := .latch) (by simp)
@[simp] theorem State.stageHi_lastRead (o : Nat) (v : Word) : (s.stageHi o v).lastRead = s.lastRead := (s.only_stageHi o v).part (p := .lastRead) (by simp)
@[simp] theorem State.stageHi_now (o : Nat) (v : Word) : (s.stageHi o v).now = s.now := ((s.only_stageHi o v).part (p := .clock) (by simp)).1
@[simp] theorem State.stageHi_coldAt (o : Nat) (v : Word) : (s.stageHi o v).coldAt = s.coldAt := ((s.only_stageHi o v).part (p := .clock) (by simp)).2
@[simp] theorem State.stageHi_fresh (o : Nat) (v : Word) : (s.stageHi o v).fresh = s.fresh := (s.only_stageHi o v).part (p := .fresh) (by simp)
@[simp] theorem State.stageHi_slotStraps (o : Nat) (v : Word) : (s.stageHi o v).slotStraps = s.slotStraps := (s.only_stageHi o v).part (p := .slotStraps) (by simp)
@[simp] theorem State.stageHi_host (o : Nat) (v : Word) : (s.stageHi o v).host = s.host := (s.only_stageHi o v).part (p := .host) (by simp)
@[simp] theorem State.stageHi_gpPsh (o : Nat) (v : Word) : (s.stageHi o v).gpPsh = s.gpPsh := (s.only_stageHi o v).part (p := .gpPsh) (by simp)
@[simp] theorem State.stageHi_gpGld (o : Nat) (v : Word) : (s.stageHi o v).gpGld = s.gpGld := (s.only_stageHi o v).part (p := .gpGld) (by simp)
@[simp] theorem State.stageHi_crossHeld (o : Nat) (v : Word) : (s.stageHi o v).crossHeld = s.crossHeld := (s.only_stageHi o v).part (p := .crossHeld) (by simp)
@[simp] theorem State.stageHi_svc (o : Nat) (v : Word) : (s.stageHi o v).svc = s.svc := (s.only_stageHi o v).part (p := .svc) (by simp)
@[simp] theorem State.stageHi_brk (o : Nat) (v : Word) : (s.stageHi o v).brk = s.brk := (s.only_stageHi o v).part (p := .brk) (by simp)
@[simp] theorem State.stageHi_meter (o : Nat) (v : Word) : (s.stageHi o v).meter = s.meter := (s.only_stageHi o v).part (p := .meter) (by simp)
@[simp] theorem State.stageHi_pmb (o : Nat) (v : Word) : (s.stageHi o v).pmb = s.pmb := (s.only_stageHi o v).part (p := .pmb) (by simp)
@[simp] theorem State.stageHi_card (o : Nat) (v : Word) : (s.stageHi o v).card = s.card := (s.only_stageHi o v).part (p := .card) (by simp)
@[simp] theorem State.stageHi_mgmt (o : Nat) (v : Word) : (s.stageHi o v).mgmt = s.mgmt := (s.only_stageHi o v).part (p := .mgmt) (by simp)
@[simp] theorem State.stageHi_thermal (o : Nat) (v : Word) : (s.stageHi o v).thermal = s.thermal := (s.only_stageHi o v).part (p := .thermal) (by simp)
@[simp] theorem State.stageHi_sec (o : Nat) (v : Word) : (s.stageHi o v).sec = s.sec := (s.only_stageHi o v).part (p := .sec) (by simp)
@[simp] theorem State.stageHi_dbg (o : Nat) (v : Word) : (s.stageHi o v).dbg = s.dbg := (s.only_stageHi o v).part (p := .dbg) (by simp)
@[simp] theorem State.stageHi_fab (o : Nat) (v : Word) : (s.stageHi o v).fab = s.fab := (s.only_stageHi o v).part (p := .fab) (by simp)
@[simp] theorem State.stageHi_pass (o : Nat) (v : Word) : (s.stageHi o v).pass = s.pass := (s.only_stageHi o v).part (p := .pass) (by simp)
@[simp] theorem State.stageHi_cap (o : Nat) (v : Word) : (s.stageHi o v).cap = s.cap := (s.only_stageHi o v).part (p := .cap) (by simp)
@[simp] theorem State.stageHi_akg (o : Nat) (v : Word) : (s.stageHi o v).akg = s.akg := (s.only_stageHi o v).part (p := .akg) (by simp)
@[simp] theorem State.stageHi_dram (o : Nat) (v : Word) : (s.stageHi o v).dram = s.dram := (s.only_stageHi o v).part (p := .dram) (by simp)
@[simp] theorem State.stageHi_dramEra (o : Nat) (v : Word) : (s.stageHi o v).dramEra = s.dramEra := (s.only_stageHi o v).part (p := .dramEra) (by simp)
@[simp] theorem State.stageHi_nor (o : Nat) (v : Word) : (s.stageHi o v).nor = s.nor := (s.only_stageHi o v).part (p := .nor) (by simp)
@[simp] theorem State.stageHi_pending (o : Nat) (v : Word) : (s.stageHi o v).pending = s.pending := (s.only_stageHi o v).part (p := .pending) (by simp)

theorem State.only_stageTaken (o : Nat) : s.only (s.stageTaken o)
    [.part .hiStage] := by
  unfold State.stageTaken
  repeat' (first
      | with_reducible exact State.only.nil
      | with_reducible refine State.only.withHiStage ?_ (by simp))

theorem State.only.stageTaken {s t : State} {l : List Place} {o : Nat} (h : s.only t l) (hl : ∀ p ∈ ([.part .hiStage] : List Place), p ∈ l) : s.only (t.stageTaken o) l :=
  h.step (t.only_stageTaken o) hl
@[simp] theorem State.word_stageTaken (o : Nat) (off : Nat) : (s.stageTaken o).word off = s.word off :=
  (s.only_stageTaken o).word (by simp) off
@[simp] theorem State.get_stageTaken (o : Nat) (g : Fld) : (s.stageTaken o).get g = s.get g := by simp [State.get]

@[simp] theorem State.stageTaken_mirror (o : Nat) : (s.stageTaken o).mirror = s.mirror := (s.only_stageTaken o).part (p := .mirror) (by simp)
@[simp] theorem State.stageTaken_latch (o : Nat) : (s.stageTaken o).latch = s.latch := (s.only_stageTaken o).part (p := .latch) (by simp)
@[simp] theorem State.stageTaken_lastRead (o : Nat) : (s.stageTaken o).lastRead = s.lastRead := (s.only_stageTaken o).part (p := .lastRead) (by simp)
@[simp] theorem State.stageTaken_now (o : Nat) : (s.stageTaken o).now = s.now := ((s.only_stageTaken o).part (p := .clock) (by simp)).1
@[simp] theorem State.stageTaken_coldAt (o : Nat) : (s.stageTaken o).coldAt = s.coldAt := ((s.only_stageTaken o).part (p := .clock) (by simp)).2
@[simp] theorem State.stageTaken_fresh (o : Nat) : (s.stageTaken o).fresh = s.fresh := (s.only_stageTaken o).part (p := .fresh) (by simp)
@[simp] theorem State.stageTaken_slotStraps (o : Nat) : (s.stageTaken o).slotStraps = s.slotStraps := (s.only_stageTaken o).part (p := .slotStraps) (by simp)
@[simp] theorem State.stageTaken_host (o : Nat) : (s.stageTaken o).host = s.host := (s.only_stageTaken o).part (p := .host) (by simp)
@[simp] theorem State.stageTaken_gpPsh (o : Nat) : (s.stageTaken o).gpPsh = s.gpPsh := (s.only_stageTaken o).part (p := .gpPsh) (by simp)
@[simp] theorem State.stageTaken_gpGld (o : Nat) : (s.stageTaken o).gpGld = s.gpGld := (s.only_stageTaken o).part (p := .gpGld) (by simp)
@[simp] theorem State.stageTaken_crossHeld (o : Nat) : (s.stageTaken o).crossHeld = s.crossHeld := (s.only_stageTaken o).part (p := .crossHeld) (by simp)
@[simp] theorem State.stageTaken_svc (o : Nat) : (s.stageTaken o).svc = s.svc := (s.only_stageTaken o).part (p := .svc) (by simp)
@[simp] theorem State.stageTaken_brk (o : Nat) : (s.stageTaken o).brk = s.brk := (s.only_stageTaken o).part (p := .brk) (by simp)
@[simp] theorem State.stageTaken_meter (o : Nat) : (s.stageTaken o).meter = s.meter := (s.only_stageTaken o).part (p := .meter) (by simp)
@[simp] theorem State.stageTaken_pmb (o : Nat) : (s.stageTaken o).pmb = s.pmb := (s.only_stageTaken o).part (p := .pmb) (by simp)
@[simp] theorem State.stageTaken_card (o : Nat) : (s.stageTaken o).card = s.card := (s.only_stageTaken o).part (p := .card) (by simp)
@[simp] theorem State.stageTaken_mgmt (o : Nat) : (s.stageTaken o).mgmt = s.mgmt := (s.only_stageTaken o).part (p := .mgmt) (by simp)
@[simp] theorem State.stageTaken_thermal (o : Nat) : (s.stageTaken o).thermal = s.thermal := (s.only_stageTaken o).part (p := .thermal) (by simp)
@[simp] theorem State.stageTaken_sec (o : Nat) : (s.stageTaken o).sec = s.sec := (s.only_stageTaken o).part (p := .sec) (by simp)
@[simp] theorem State.stageTaken_dbg (o : Nat) : (s.stageTaken o).dbg = s.dbg := (s.only_stageTaken o).part (p := .dbg) (by simp)
@[simp] theorem State.stageTaken_fab (o : Nat) : (s.stageTaken o).fab = s.fab := (s.only_stageTaken o).part (p := .fab) (by simp)
@[simp] theorem State.stageTaken_pass (o : Nat) : (s.stageTaken o).pass = s.pass := (s.only_stageTaken o).part (p := .pass) (by simp)
@[simp] theorem State.stageTaken_cap (o : Nat) : (s.stageTaken o).cap = s.cap := (s.only_stageTaken o).part (p := .cap) (by simp)
@[simp] theorem State.stageTaken_akg (o : Nat) : (s.stageTaken o).akg = s.akg := (s.only_stageTaken o).part (p := .akg) (by simp)
@[simp] theorem State.stageTaken_dram (o : Nat) : (s.stageTaken o).dram = s.dram := (s.only_stageTaken o).part (p := .dram) (by simp)
@[simp] theorem State.stageTaken_dramEra (o : Nat) : (s.stageTaken o).dramEra = s.dramEra := (s.only_stageTaken o).part (p := .dramEra) (by simp)
@[simp] theorem State.stageTaken_nor (o : Nat) : (s.stageTaken o).nor = s.nor := (s.only_stageTaken o).part (p := .nor) (by simp)
@[simp] theorem State.stageTaken_pending (o : Nat) : (s.stageTaken o).pending = s.pending := (s.only_stageTaken o).part (p := .pending) (by simp)

theorem State.only_offend (p : MgmtPath) (b : Bool) : s.only (s.offend p b)
    [.part .pmb] := by
  unfold State.offend
  repeat' (first
      | with_reducible exact State.only.nil
      | with_reducible refine State.only.cml6 ?_ (by simp)
      | split)

theorem State.only.offend {s t : State} {l : List Place} {p : MgmtPath} {b : Bool} (h : s.only t l) (hl : ∀ p ∈ ([.part .pmb] : List Place), p ∈ l) : s.only (t.offend p b) l :=
  h.step (t.only_offend p b) hl
@[simp] theorem State.word_offend (p : MgmtPath) (b : Bool) (off : Nat) : (s.offend p b).word off = s.word off :=
  (s.only_offend p b).word (by simp) off
@[simp] theorem State.get_offend (p : MgmtPath) (b : Bool) (g : Fld) : (s.offend p b).get g = s.get g := by simp [State.get]

@[simp] theorem State.offend_mirror (p : MgmtPath) (b : Bool) : (s.offend p b).mirror = s.mirror := (s.only_offend p b).part (p := .mirror) (by simp)
@[simp] theorem State.offend_latch (p : MgmtPath) (b : Bool) : (s.offend p b).latch = s.latch := (s.only_offend p b).part (p := .latch) (by simp)
@[simp] theorem State.offend_hiStage (p : MgmtPath) (b : Bool) : (s.offend p b).hiStage = s.hiStage := (s.only_offend p b).part (p := .hiStage) (by simp)
@[simp] theorem State.offend_lastRead (p : MgmtPath) (b : Bool) : (s.offend p b).lastRead = s.lastRead := (s.only_offend p b).part (p := .lastRead) (by simp)
@[simp] theorem State.offend_now (p : MgmtPath) (b : Bool) : (s.offend p b).now = s.now := ((s.only_offend p b).part (p := .clock) (by simp)).1
@[simp] theorem State.offend_coldAt (p : MgmtPath) (b : Bool) : (s.offend p b).coldAt = s.coldAt := ((s.only_offend p b).part (p := .clock) (by simp)).2
@[simp] theorem State.offend_fresh (p : MgmtPath) (b : Bool) : (s.offend p b).fresh = s.fresh := (s.only_offend p b).part (p := .fresh) (by simp)
@[simp] theorem State.offend_slotStraps (p : MgmtPath) (b : Bool) : (s.offend p b).slotStraps = s.slotStraps := (s.only_offend p b).part (p := .slotStraps) (by simp)
@[simp] theorem State.offend_host (p : MgmtPath) (b : Bool) : (s.offend p b).host = s.host := (s.only_offend p b).part (p := .host) (by simp)
@[simp] theorem State.offend_gpPsh (p : MgmtPath) (b : Bool) : (s.offend p b).gpPsh = s.gpPsh := (s.only_offend p b).part (p := .gpPsh) (by simp)
@[simp] theorem State.offend_gpGld (p : MgmtPath) (b : Bool) : (s.offend p b).gpGld = s.gpGld := (s.only_offend p b).part (p := .gpGld) (by simp)
@[simp] theorem State.offend_crossHeld (p : MgmtPath) (b : Bool) : (s.offend p b).crossHeld = s.crossHeld := (s.only_offend p b).part (p := .crossHeld) (by simp)
@[simp] theorem State.offend_svc (p : MgmtPath) (b : Bool) : (s.offend p b).svc = s.svc := (s.only_offend p b).part (p := .svc) (by simp)
@[simp] theorem State.offend_brk (p : MgmtPath) (b : Bool) : (s.offend p b).brk = s.brk := (s.only_offend p b).part (p := .brk) (by simp)
@[simp] theorem State.offend_meter (p : MgmtPath) (b : Bool) : (s.offend p b).meter = s.meter := (s.only_offend p b).part (p := .meter) (by simp)
@[simp] theorem State.offend_card (p : MgmtPath) (b : Bool) : (s.offend p b).card = s.card := (s.only_offend p b).part (p := .card) (by simp)
@[simp] theorem State.offend_mgmt (p : MgmtPath) (b : Bool) : (s.offend p b).mgmt = s.mgmt := (s.only_offend p b).part (p := .mgmt) (by simp)
@[simp] theorem State.offend_thermal (p : MgmtPath) (b : Bool) : (s.offend p b).thermal = s.thermal := (s.only_offend p b).part (p := .thermal) (by simp)
@[simp] theorem State.offend_sec (p : MgmtPath) (b : Bool) : (s.offend p b).sec = s.sec := (s.only_offend p b).part (p := .sec) (by simp)
@[simp] theorem State.offend_dbg (p : MgmtPath) (b : Bool) : (s.offend p b).dbg = s.dbg := (s.only_offend p b).part (p := .dbg) (by simp)
@[simp] theorem State.offend_fab (p : MgmtPath) (b : Bool) : (s.offend p b).fab = s.fab := (s.only_offend p b).part (p := .fab) (by simp)
@[simp] theorem State.offend_pass (p : MgmtPath) (b : Bool) : (s.offend p b).pass = s.pass := (s.only_offend p b).part (p := .pass) (by simp)
@[simp] theorem State.offend_cap (p : MgmtPath) (b : Bool) : (s.offend p b).cap = s.cap := (s.only_offend p b).part (p := .cap) (by simp)
@[simp] theorem State.offend_akg (p : MgmtPath) (b : Bool) : (s.offend p b).akg = s.akg := (s.only_offend p b).part (p := .akg) (by simp)
@[simp] theorem State.offend_dram (p : MgmtPath) (b : Bool) : (s.offend p b).dram = s.dram := (s.only_offend p b).part (p := .dram) (by simp)
@[simp] theorem State.offend_dramEra (p : MgmtPath) (b : Bool) : (s.offend p b).dramEra = s.dramEra := (s.only_offend p b).part (p := .dramEra) (by simp)
@[simp] theorem State.offend_nor (p : MgmtPath) (b : Bool) : (s.offend p b).nor = s.nor := (s.only_offend p b).part (p := .nor) (by simp)
@[simp] theorem State.offend_pending (p : MgmtPath) (b : Bool) : (s.offend p b).pending = s.pending := (s.only_offend p b).part (p := .pending) (by simp)

end Sys2Proof.Machine
end

