-- ==== Sys2Proof/Tests/Slice0.lean ====
section
/-!
SUPPORT. Tests/Slice0.lean: small states, one step of single commands from the spec's worked cases, ill-formed commands, and for each statement a state and operands that meet its hypotheses.
-/
namespace Sys2Proof.Tests

open Sys2Proof Sys2Proof.Machine

set_option Elab.async false
set_option linter.unusedVariables false

/-! Small states. -/

def tPsh : State := State.reset.withSvc { State.reset.svc with pshRun := true }
def tOn : State := (tPsh.put Reg.PWR_STATE.state 3).put Reg.PWR_STATE.gate_on 1
def tFull : State :=
  ((tOn.withSvc { tOn.svc with rstLow := false }).withHost { tOn.host with linkUp := true }).put Reg.GLB_SERVICE.state 3
def tRule (a w : Nat) : State :=
  tOn.withBrk { tOn.brk with
    timers := (List.replicate 8 RuleTimer.fresh).set 3 { RuleTimer.fresh with due := true, holding := true }
    live := [(0xA0130, BitVec.ofNat 32 (1 + 16 * a)), (0xA0138, BitVec.ofNat 32 w)] }
def tMeter : State := (tOn.put Reg.PWR_ADC_STATUS.ref_ready 1).withMeter { tOn.meter with refCount := false }
def tCard : State :=
  tOn.withCard { tOn.card with due := 1, flushErased := true, reserveErased := true, started := true }
def tRing : State :=
  (((tFull.put (Reg.HIF_SQ_CFG.enable 0) 1).put (Reg.HIF_CQ_CFG.enable 0) 1).put (Reg.HIF_SQ_STATE.tail 0) 1).withHost
    { tFull.host with fn := List.replicate 9 { FnCfg.reset with busMaster := true, msixEnable := true } }
def tDesc (l : List (Nat × Nat)) : List Byte :=
  l.foldl (fun d x => d.set x.1 (BitVec.ofNat 8 x.2)) (List.replicate 64 0)
def tFlight (id op : Nat) (l : List (Nat × Nat)) : Flight :=
  ⟨id, 0, 0, tDesc ((0, op) :: (6, 255) :: l), .waiting, 0, false, false, none, false, State.reset.smpDefaults⟩
def tWith (f : Flight) : State := tRing.withHost { tRing.host with flights := [f], nextId := f.id + 1 }
def tModel : Model where
  part := 0
  gangs := [0]
  size := 0
  kind := 0
  colours := 1
  positions := 2
  exactDefault := false
  rotation := false
  trainable := true
  columnLen := 128
  blockSweeps := 1
  betaCold := 0x3F800000
  betaHot := 0x3F000000
  offset := 0
  opsPerByte := 1
  epochs := 1
  posSweeps := 1
  devBase := 0
  devBytes := 0
  image := 7
  eMin := 0
  mants := [(1, 5)]
  exps := []
  columns := [0, 1]
  rows := [0, 1]
  vars := [⟨0, 1, 0, 0, 0⟩, ⟨1, 1, 0, 1, 1⟩]
  blocks := []
  own := none
  table := ⟨false, 1, 4, 0, [⟨⟨1, 0⟩, 0, 0⟩]⟩
  trainMap := []
  dataPos := []
  verdict := none
  exactOk := true
  boundLog2 := 10
  homeroom := true
  last := none
  kept := []
  chains := []
  masters := []
  trained := false
def tPath : Path where
  base := tModel.table
  table := tModel.table
  points := []
  pointSweeps := 0
  reps := [⟨[0, 0], 0, 0⟩]
  next := 0
  gens := []
  ladders := []
  sweeps := 0
  rounds := 0
  inEpoch := 0
  track := []
  attempts := 0
  accepted := 0
def tRun (id : Nat) (k : RunKind) : Run where
  id := id
  ready := id
  kind := k
  part := 0
  prio := 0
  slot := 0
  size := 0
  count := 1
  gangs := some [0]
  live := true
  gang := 255
  started := true
  stopped := none
  exact := false
  seed := 1
  vectors := 1
  done := 0
  loaded := 0
  cancel := false
  sat := false
  inExp := 0
  group := 0
  groups := []
  total := 1
  k := 1
  bias := []
  path := tPath
  saved := tPath
  boundary := false
  replays := 0
  repeats := 0
  held := false
  failed := 0
def tReady : State :=
  ((List.range 101).foldl (fun (t : State) u => t.setWord (0x21000 + 4 * u) 0x111) tRing).withFab { tRing.fab with models := [(0, tModel)] }
def tWork : State :=
  (tReady.withFab { tReady.fab with runs := [tRun 4 .sample] }).withHost { tReady.host with
    flights := [{ tFlight 4 4 [] with stage := .running }, tFlight 5 11 [], tFlight 6 15 []], nextId := 7 }
def tClassify : Flight := { tFlight 3 6 [(28, 255), (29, 255), (30, 255), (31, 255), (5, 255)] with stage := .running, standing := true }
def tRec : Rec := { Rec.empty with id := 4, len := 64, header := List.replicate 64 0 }
def tStream (r : Rec) : State :=
  ((tReady.withHost { tReady.host with flights := [tClassify], nextId := 7 }).withCap { tReady.cap with
    standing := [⟨3, 0, 0, 0, 0, false⟩], recs := [r], onLink := if r.ended then none else some ⟨some r.id, r.stream, r.len, r.header, r.data⟩ }).put Reg.CAP_LINK_STATUS.link_up 1
def tVerdict : State :=
  (tStream { tRec with ended := true, classified := true, flight := some 3, data := List.replicate 64 0 }).withFab { tReady.fab with runs := [{ tRun 4 (.record 0 4) with path := { tPath with sweeps := 1 }, done := 1 }] }

/-! One step of a command, from the worked cases and tables of the spec. -/

/-- What holds of the next state of a command. -/
def after (c : Instr) (s : State) (p : State → Bool) : Bool :=
  match exec c s with
  | .next t => p t
  | _ => false

/-- 16, worked case: the limit word over PMBus reads 0x78, 0x02, 0x00, 0xC8. -/
theorem test_limit_word_over_pmbus :
    after (.mfrRegData .read) (tOn.withPmb { tOn.pmb with regAddr := 0x14 }) (fun t => t.pmb.reply == [0x78, 0x02, 0x00, 0xC8]) = true := by
  decide +kernel

/-- 16, worked case: MFR_REG_ADDR takes the word offset. -/
theorem test_reg_addr_over_pmbus :
    after (.mfrRegAddr (.write .whole 0x14)) tOn (fun t => t.pmb.regAddr == 0x14 && t.pmb.acked) = true := by decide +kernel

/-- 06, worked case: SQ 3 with head and tail 254 of 256 takes a doorbell of 1. -/
theorem test_doorbell_wraps :
    after (.sqDoorbell 0 3 1)
      ((((tFull.put (Reg.HIF_SQ_CFG.size_log2 3) 8).put (Reg.HIF_SQ_CFG.enable 3) 1).put (Reg.HIF_SQ_STATE.head 3) 254).put (Reg.HIF_SQ_STATE.tail 3) 254)
      (fun t => t.get (Reg.HIF_SQ_STATE.tail 3) == 1 && t.get (Reg.HIF_SQ_STATUS.error 3) == 0) = true := by decide +kernel

/-- R157: the same doorbell one past the free space is error 0b010. -/
theorem test_doorbell_overruns :
    after (.sqDoorbell 0 3 254)
      ((((tFull.put (Reg.HIF_SQ_CFG.size_log2 3) 8).put (Reg.HIF_SQ_CFG.enable 3) 1).put (Reg.HIF_SQ_STATE.head 3) 254).put (Reg.HIF_SQ_STATE.tail 3) 255)
      (fun t => t.get (Reg.HIF_SQ_STATE.tail 3) == 255 && t.get (Reg.HIF_SQ_STATUS.err_code 3) == 2) = true := by decide +kernel

/-- R159: a head doorbell that would release entries not written keeps head and sets error. -/
theorem test_cq_doorbell_out_of_range :
    after (.cqDoorbell 0 5 2) (tFull.put (Reg.HIF_CQ_CFG.enable 5) 1)
      (fun t => t.get (Reg.HIF_CQ_STATUS.error 5) == 1 && t.get (Reg.HIF_CQ_HEAD.head 5) == 0) = true := by decide +kernel

/-- 07, worked case: largest magnitude 0.75 gives exponent 37, and 0.75 encodes as 1,536. -/
theorem test_grading_exponent :
    (fun (g : Grade) => decide (g.e = 37) && g.ms.head? == some 1536) (gradeBlock 30 (List.replicate 16 (some ⟨3, -2⟩))) = true := by decide +kernel

/-- R28, R49: an opened lever under power asks to be extracted. -/
theorem test_lever_open : after .leverOpen tOn
    (fun t => t.get Reg.PWR_SLOT_STATUS.off_request == 1 && t.brk.extracting && t.get Reg.PWR_STATE.gate_on == 1) = true := by decide +kernel

/-- R430: an orderly off records last_cause 0x06. -/
theorem test_power_off : after .powerOff tFull
    (fun t => t.get Reg.PWR_STATE.last_cause == 6 && t.get Reg.PWR_STATE.gate_on == 0 && decide (t.bk = bkOffSettled)) = true := by decide +kernel

/-- R57: a fast trip's cause is 0x01 and the first of its retries follows. -/
theorem test_fast_trip : after (.fastTrip []) tOn
    (fun t => t.get Reg.PWR_STATE.last_cause == 1 && t.get Reg.PWR_STATE.retry_count == 1 && decide (t.bk = bkBackoff)) = true := by decide +kernel

/-- R74: a power-fail while Latched leaves the breaker Latched. -/
theorem test_power_fail_while_latched : after .powerFail ((tFull.setBk bkLatched).put Reg.PWR_STATE.gate_on 0)
    (fun t => decide (t.bk = bkLatched)) = true := by decide +kernel

/-- R73: a power-fail ends in Off-Settled with the minimum off time running. -/
theorem test_power_fail : after .powerFail tFull
    (fun t => decide (t.bk = bkOffSettled) && t.brk.minOff && !t.brk.holdOff) = true := by decide +kernel

/-- R70: a stale staging copy is refused with result 2. -/
theorem test_stale_commit : after (.ruleCommit .pmbus false) (tFull.withBrk { tFull.brk with pmbStale := true })
    (fun t => t.brk.pmbResult == 2 && decide (t.brk.live = tFull.brk.live)) = true := by decide +kernel

/-- R90: the snapshot truncates toward minus infinity. -/
theorem test_snapshot_truncates : after (.accSnap false) (tFull.withMeter { tFull.meter with energy := -1 })
    (fun t => t.get Reg.PWR_ADC_ENERGY.energy_lo == 0xFFFFFFFF && t.get Reg.PWR_ADC_ENERGY.energy_hi == 0xFFFFFFFF) = true := by decide +kernel

/-- R101: an unlisted order is refused and nothing starts. -/
theorem test_urgent_order : after (.pwrAdcUrgent 0 0xFFFFFFFF) tFull
    (fun t => t.get (Reg.PWR_ADC_URGENT_RESULT.refused 0) == 1) = true := by decide +kernel

/-- 02 R48: the straps are sampled as the count completes, and the address follows. -/
theorem test_slot_address : after .qualifyComplete ((tPsh.setBk bkBackoff).withSlotStraps 9)
    (fun t => t.pmb.address == 0x49 && t.get Reg.PWR_SLOT_STATUS.psh2_slot_id == 9) = true := by decide +kernel

/-- 16 R425: an unknown code sets STATUS_CML bit 7. -/
theorem test_unknown_code : after (.unsupportedCommand (.code 0x55)) tOn (fun t => !t.pmb.acked && t.pmb.cml7 && !t.pmb.cml6) = true := by
  decide +kernel

/-- 00 R1, 06 R156: a W1C register clears the bits written 1. -/
theorem test_cause_clears : after (.registerWrite 0 (.bar0 0x200) 4 1) (tFull.put Reg.GLB_INT_CAUSE.cause 3)
    (fun t => t.get Reg.GLB_INT_CAUSE.cause == 2) = true := by decide +kernel

/-- 00 R1: an RC register clears on the read, and the read returns its value. -/
theorem test_read_clears : after (.rcRead (.host 0) 0x20030 4) (tFull.put Reg.FAB_FAULT_COUNT.parity_faults 3)
    (fun t => t.get Reg.FAB_FAULT_COUNT.parity_faults == 0 && decide (t.lastRead ≠ 0)) = true := by decide +kernel

/-- 15, worked case: a peek with consume = 0 leaves HIF_STATUS.backpressure at 37. -/
theorem test_peek_leaves_the_counter : after (.daccessRead false 0 0x4003) (tFull.put Reg.HIF_STATUS.backpressure 37)
    (fun t => fieldOf t.dbg.tapGld.nextData 16 16 == 37 && t.get Reg.HIF_STATUS.backpressure == 37) = true := by decide +kernel

/-- R155: the second half of the key pair opens the block. -/
theorem test_unlock_pair : after (.expertUnlock 1 0x5054)
    (match exec (.expertUnlock 1 0x4558) tFull with | .next t => t | _ => tFull) (fun t => t.expert 1) = true := by decide +kernel

/-- R155: the second half alone opens nothing. -/
theorem test_unlock_needs_both : after (.expertUnlock 1 0x5054) tFull (fun t => !t.expert 1) = true := by decide +kernel

/-- R132, R133: a VF FLR clears the function's vectors. -/
theorem test_vf_flr : after (.vfFlr 2) tFull (fun t => decide (t.fnCfg 2 = FnCfg.reset)) = true := by decide +kernel

/-- R261: a trigger without a valid table is answered with the default verdict. -/
theorem test_default_verdict : after (.hpTrigger true 5)
    ((tFull.withMgmt (List.replicate 101 ⟨1, false, true⟩)).put Reg.HPS_CFG.default_verdict 7)
    (fun t => t.pass.verdict == 7 && !t.pass.tagv && t.get Reg.HPS_DEFAULT_COUNT.default_answers == 1) = true := by decide +kernel

/-- R261: the active bank answers where it is valid. -/
theorem test_active_bank_answers : after (.hpTrigger true 5)
    ((((tFull.withMgmt (List.replicate 101 ⟨1, false, true⟩)).put Reg.HPS_STATUS.active_valid 1).setBank 0 [(5, 3)]).put Reg.HPS_STATUS.active_bank 0)
    (fun t => t.pass.verdict == 3 && t.pass.tagv) = true := by decide +kernel

/-- R144: a NOP completes with status 0. -/
theorem test_nop_completes : after (.nop 3) (tWith (tFlight 3 15 []))
    (fun t => t.host.held.any (fun h => decide (h.flight = some 3) && h.entry.status == 0)) = true := by decide +kernel

/-- R168: a run on a slot without a model ends with status 0x20. -/
theorem test_run_without_model : after (.runMac 3) (tWith (tFlight 3 3 []))
    (fun t => t.host.held.any (fun h => decide (h.flight = some 3) && h.entry.status == 0x20)) = true := by decide +kernel

/-- 12, worked case: a residue fault fences the tile and counts. -/
theorem test_tile_fault : after (.tileFault 9 true) tFull
    (fun t => t.get (Reg.FAB_TILE_STATUS.fenced 9) == 1 && t.get Reg.FAB_REPLAY_COUNT.last_tile == 9 &&
      t.get Reg.FAB_FAULT_COUNT.residue_faults == 1) = true := by decide +kernel

/-- 12 R341: OFF over PMBus changes PSH2's half of the entry. -/
theorem test_unit_off : after (.mfrUnitState (.write .whole 4)) (tFull.withPmb { tFull.pmb with unitIndex := 98 })
    (fun t => (t.mgmtOf 98).mgmt == 4) = true := by decide +kernel

/-- 12, worked case: while the absolute cause holds the depth grows by one, and a step counts. -/
theorem test_throttle_deepens : after .throttleStep
    ((tFull.put Reg.THM_STATUS.depth 1).withThermal { tFull.thermal with absHolds := true })
    (fun t => t.get Reg.THM_STATUS.depth == 2 && t.get Reg.THM_THROTTLE_COUNT.throttle_steps == 1) = true := by decide +kernel

/-- 08 R220: profile 1 is loaded. -/
theorem test_smp_profile : after (.smpProfile 1) tFull (fun t => t.get Reg.SMP_PROFILE.profile == 1) = true := by decide +kernel

/-- 14: STRICT_SET takes only its key. -/
theorem test_strict_key : after (.strictSet 0x5EC1) tFull (fun t => t.sec.strict) = true := by decide +kernel

/-- 14: another key blows nothing. -/
theorem test_strict_other_key : after (.strictSet 0x5EC2) tFull (fun t => !t.sec.strict) = true := by decide +kernel

/-- 11 R281: a frame with a bad CRC is refused and counted. -/
theorem test_bad_frame : after (.data 1 7 0 false ⟨0, 1, 0, 0, .unpair⟩) (tFull.put (Reg.AKG_PORT_STATUS.state 1) 5)
    (fun t => t.get (Reg.AKG_PORT_REPLAY.crc_errors 1) == 1 && (t.port 1).nakOut) = true := by decide +kernel

/-- 15 R412: a buffer read advances by one word and wraps at 256 KiB. -/
theorem test_trace_buffer_wraps : after .traceBufRead (tFull.put Reg.DBG_TRACE_BUF_ADDR.buf_addr 0xFFFF)
    (fun t => t.get Reg.DBG_TRACE_BUF_ADDR.buf_addr == 0) = true := by decide +kernel

/-- 13 R353: a nonce is drawn and stands. -/
theorem test_nonce : after .nonceReq tFull (fun t => t.card.nonceValid && t.fresh == 1) = true := by decide +kernel

/-- 13 Table 13-3: the CRC of nine ASCII digits is CRC-32's check value. -/
theorem test_crc32 : crc32 [0x31, 0x32, 0x33, 0x34, 0x35, 0x36, 0x37, 0x38, 0x39] = 0xCBF43926 := by decide +kernel

/-! Terms that name a unit the module does not have: each check refuses one, and exec stops on it. -/

theorem test_wf_function : Instr.wf (.registerWrite 9 (.bar0 0) 4 0) = false := by decide
theorem test_wf_reader : Instr.wf (.rcRead (.host 9) 0 4) = false := by decide
theorem test_wf_clock : Instr.wf (.clockLost (.akgal 4)) = false := by decide
theorem test_wf_ring : Instr.wf (.sqDoorbell 0 64 0) = false := by decide
theorem test_wf_vector : Instr.wf (.msixUnmask 0 (.vector 8)) = false := by decide
theorem test_wf_port : Instr.wf (.portRetrain 4) = false := by decide
theorem test_wf_ethernet : Instr.wf (.ethLinkUp 2) = false := by decide
theorem test_wf_unit : Instr.wf (.unitReady 101) = false := by decide
theorem test_wf_lanes : Instr.wf (.trainingPhaseEnd 0 true 16) = false := by decide
theorem test_wf_all_lanes : Instr.wf (.trainingPhaseEnd 0 true 15) = true := by decide
theorem test_wf_tile : Instr.wf (.tileFault 64 false) = false := by decide
theorem test_wf_stream : Instr.wf (.recordHeader 8 []) = false := by decide
theorem test_wf_slot : Instr.wf (.shareTimeout 256) = false := by decide
theorem test_wf_converter : Instr.wf (.pwrAdcUrgent 2 0) = false := by decide
theorem test_wf_vf : Instr.wf (.vfFlr 0) = false := by decide
theorem test_wf_expert_block : Instr.wf (.expertUnlock 8 0) = false := by decide
theorem test_wf_breakpoint : Instr.wf (.breakpoint 0 2 none) = false := by decide
theorem test_wf_core : Instr.wf (.coreResume 5) = false := by decide
theorem test_wf_access : Instr.wf (.daccessRead false 4 0) = false := by decide
theorem test_wf_access_address : Instr.wf (.daccessRead false 0 0x400000) = false := by decide
theorem test_ill_formed_stops : exec (.sqDoorbell 0 64 0) State.reset = .fault .noSuchUnit := rfl

/-! Witnesses of the statements about every step. -/

theorem witness_StepRunsTheFrontCommand :
    (∃ (s : State) (c : Instr) (rest : List Instr), s.pending = c :: rest) ∧ (∃ s : State, s.pending = []) :=
  ⟨⟨State.reset.withPending [.leverOpen, .leverClose], .leverOpen, [.leverClose], rfl⟩, ⟨State.reset, rfl⟩⟩

theorem witness_CommandsCompleteWhereTheirUnitsExist : (∃ c : Instr, c.wf = true) ∧ (∃ c : Instr, c.wf = false) :=
  ⟨⟨.sqDoorbell 8 63 0, rfl⟩, ⟨.sqDoorbell 8 64 0, rfl⟩⟩

theorem witness_EveryStepKeepsTheCanonicalForm :
    ∃ s t : State, s.Inv ∧ step s = .next t :=
  ⟨State.reset.withPending [.psh2PowerOn], _, ⟨rfl, rfl, rfl, rfl, rfl, rfl⟩, rfl⟩

theorem witness_ResetIsCanonicalAndReadsTheTables : ∃ r ∈ resetListed, ∃ i, i < r.2.2.1 :=
  ⟨(0x8, 4, 1, 0x02484840), List.mem_cons_self, 0, by decide⟩

theorem witness_Psh2StartsWithTheSlotSafeRules : ∃ r : Nat × Word, r ∈ slotSafeRules :=
  ⟨(0xA0100, 0x00003024), List.mem_cons_self⟩

/-! Each other statement: a state and operands that meet all hypotheses of each of its clauses. -/

theorem witness_LeverAndQualificationActTogether :
    (∃ (s : State), s.svc.pshPower = true ∧ s.get Reg.PWR_SLOT_STATUS.lever_open = 0) ∧
    (∃ (s : State), s.svc.pshPower = true ∧ s.get Reg.PWR_SLOT_STATUS.lever_open = 1 ∧ s.brk.qualDone = false) ∧
    (∃ (s : State), s.pshUp = true ∧ s.get Reg.PWR_SLOT_STATUS.lever_open = 0 ∧ (s.bk ≠ bkOffSettled ∨ s.brk.minOff = true) ∧ (s.brk.voutLow = false ∨ s.brk.minOff = true)) ∧
    (∃ (s : State), s.svc.pshPower = true) :=
  ⟨⟨tOn, by decide +kernel⟩,
    ⟨tPsh.put Reg.PWR_SLOT_STATUS.lever_open 1, by decide +kernel⟩,
    ⟨tPsh.withBrk { tPsh.brk with minOff := true }, by decide +kernel⟩,
    ⟨State.reset, by decide +kernel⟩⟩

theorem witness_WaitsEndInSoftStartOrTheirState :
    (∃ (s : State), s.pshUp = true ∧ s.get Reg.PWR_SLOT_STATUS.lever_open = 0 ∧ s.bk = bkQualifying ∧ s.brk.voutLow = true ∧ s.brk.minOff = false ∧ (s.get Reg.RCD_STATUS.reserve_ready = 1 ∨ s.get Reg.RCD_STATUS.window_closed = 1) ∧ s.sec.gld.trial = false ∧ s.sec.gld.pending = false) ∧
    (∃ (s : State), s.svc.pshPower = true ∧ s.brk.discharge = true ∧ s.get Reg.PWR_SLOT_STATUS.lever_open = 0 ∧ s.bk = bkQualifying ∧ s.brk.qualDone = true ∧ s.brk.minOff = false ∧ (s.get Reg.RCD_STATUS.reserve_ready = 1 ∨ s.get Reg.RCD_STATUS.window_closed = 1) ∧ s.sec.gld.trial = false ∧ s.sec.gld.pending = false) ∧
    (∃ (s : State), s.svc.pshPower = true ∧ s.brk.minOff = true ∧ s.get Reg.PWR_SLOT_STATUS.lever_open = 0 ∧ s.bk = bkOffSettled ∧ s.brk.holdOff = false ∧ s.brk.qualDone = true ∧ s.brk.supplyOk = true ∧ s.brk.voutLow = true ∧ (s.get Reg.RCD_STATUS.reserve_ready = 1 ∨ s.get Reg.RCD_STATUS.window_closed = 1) ∧ s.sec.gld.trial = false ∧ s.sec.gld.pending = false) ∧
    (∃ (s : State), s.brk.discharge = true ∧ s.brk.qualDone = false) ∧
    (∃ (s : State), s.bk = bkBackoff ∧ s.brk.qualDone = false) ∧
    (∃ (s : State), s.brk.minOff = true ∧ s.brk.qualDone = false) ∧
    (∃ (s : State), s.bk = bkOn) ∧
    (∃ (s : State), s.bk = bkSoftStart) ∧
    (∃ (s : State), s.bk = bkOn ∧ s.brk.regsUp < 4) :=
  ⟨⟨(tPsh.setBk bkQualifying).put Reg.RCD_STATUS.reserve_ready 1, by decide +kernel⟩,
    ⟨((tPsh.withBrk { tPsh.brk with qualDone := true }).setBk bkQualifying).put Reg.RCD_STATUS.reserve_ready 1, by decide +kernel⟩,
    ⟨((tPsh.withBrk { tPsh.brk with qualDone := true, supplyOk := true, minOff := true }).setBk bkOffSettled).put Reg.RCD_STATUS.reserve_ready 1, by decide +kernel⟩,
    ⟨State.reset, by decide +kernel⟩,
    ⟨tPsh.setBk bkBackoff, by decide +kernel⟩,
    ⟨tPsh.withBrk { tPsh.brk with minOff := true }, by decide +kernel⟩,
    ⟨tOn, by decide +kernel⟩,
    ⟨tPsh.setBk bkSoftStart, by decide +kernel⟩,
    ⟨tPsh.setBk bkOn, by decide +kernel⟩⟩

theorem witness_OffCommandsFollowTheBreakerState :
    (∃ (s : State), s.pshOpen) ∧
    (∃ (s : State), s.svc.pshPower = true ∧ s.brk.grace = true ∧ s.get Reg.PWR_SLOT_STATUS.lever_open = 1) ∧
    (∃ (s : State), s.pshUp = true) ∧
    (∃ (s : State), s.pshUp = true) :=
  ⟨⟨tFull, by decide +kernel⟩,
    ⟨(tOn.withBrk { tOn.brk with grace := true }).put Reg.PWR_SLOT_STATUS.lever_open 1, by decide +kernel⟩,
    ⟨tOn, by decide +kernel⟩,
    ⟨tOn, by decide +kernel⟩⟩

theorem witness_Psh2SupplyAndImageStart :
    (∃ (s : State), s.svc.pshPower = true) ∧
    (∃ (s : State), s.svc.pshPower = true ∧ s.svc.romRecovery = false ∧ s.svc.pshRun = false ∧ s.sec.restarting = false ∧ s.brk.qualDone = false) :=
  ⟨⟨State.reset, by decide +kernel⟩,
    ⟨State.reset, by decide +kernel⟩⟩

theorem witness_TripsAndPowerFailsSettle :
    (∃ (s : State), s.bk = bkSoftStart) ∧
    (∃ (s : State), (s.bk = bkSoftStart ∨ s.bk = bkOn)) ∧
    (∃ (s : State) (rules : List Nat), (s.bk = bkSoftStart ∨ s.bk = bkOn) ∧ s.get Reg.PWR_STATE.gate_on = 1) ∧
    (∃ (s : State), s.svc.pshPower = true) ∧
    (∃ (s : State), s.get Reg.PWR_STATE.gate_on = 1 ∧ (s.bk = bkOn ∨ s.bk = bkSoftStart)) :=
  ⟨⟨(tPsh.setBk bkSoftStart).put Reg.PWR_STATE.gate_on 1, by decide +kernel⟩,
    ⟨tOn, by decide +kernel⟩,
    ⟨tOn, [], by decide +kernel⟩,
    ⟨tOn, by decide +kernel⟩,
    ⟨tOn, by decide +kernel⟩⟩

theorem witness_RuleEvaluationHoldsTimers :
    (∃ (s : State) (iin : Nat) (vin : Nat), s.svc.pshPower = true ∧ s.brk.timers.length = 8 ∧ (s.brk.supplyOk = true ∨ s.brk.qualDone = false)) ∧
    (∃ (s : State) (since : Nat) (period : Nat), s.svc.pshPower = true ∧ s.brk.timers.length = 8 ∧ s.get Reg.PWR_ADC_STATUS.cal_busy = 0) ∧
    (∃ (s : State), s.svc.pshPower = true ∧ s.brk.timers.length = 8) :=
  ⟨⟨tOn, 100, 1200, by decide +kernel⟩,
    ⟨tOn, 0, 64000, by decide +kernel⟩,
    ⟨tOn, by decide +kernel⟩⟩

theorem witness_RulesActWhenTheyFire :
    (∃ (s : State) (n : Nat), s.svc.pshPower = true ∧ n < 8 ∧ s.brk.timers.length = 8 ∧ (s.timer n).due = true ∧ s.live? (Reg.PWR_RULE_CFG.action n) = 0) ∧
    (∃ (s : State) (n : Nat), s.svc.pshPower = true ∧ n < 8 ∧ s.brk.timers.length = 8 ∧ (s.timer n).due = true ∧ s.live? (Reg.PWR_RULE_CFG.action n) = 1) ∧
    (∃ (s : State) (n : Nat), s.svc.pshPower = true ∧ n < 8 ∧ s.brk.timers.length = 8 ∧ (s.timer n).due = true ∧ s.live? (Reg.PWR_RULE_CFG.action n) = 2 ∧ s.live? (Reg.PWR_RULE_CFG.kind n) ≠ 2 ∧ s.ruleSlow n = true) ∧
    (∃ (s : State) (n : Nat), s.svc.pshPower = true ∧ n < 8 ∧ s.brk.timers.length = 8 ∧ (s.timer n).due = true ∧ s.live? (Reg.PWR_RULE_CFG.action n) = 2 ∧ s.live? (Reg.PWR_RULE_CFG.kind n) ≠ 2 ∧ s.ruleSlow n = false ∧ (s.bk = bkSoftStart ∨ s.bk = bkOn)) ∧
    (∃ (s : State) (n : Nat), s.svc.pshPower = true ∧ n < 8 ∧ s.brk.timers.length = 8 ∧ (s.timer n).due = true ∧ s.live? (Reg.PWR_RULE_CFG.action n) = 2 ∧ s.live? (Reg.PWR_RULE_CFG.kind n) = 2 ∧ (s.bk = bkSoftStart ∨ s.bk = bkOn)) ∧
    (∃ (s : State) (n : Nat), s.svc.pshPower = true ∧ n < 8 ∧ s.brk.timers.length = 8 ∧ (s.timer n).confirming = true ∧ (s.timer n).cleared = true) ∧
    (∃ (s : State) (n : Nat), s.svc.pshPower = true ∧ n < 8 ∧ s.brk.timers.length = 8 ∧ (s.timer n).confirming = true ∧ (s.timer n).cleared = false ∧ (s.bk = bkSoftStart ∨ s.bk = bkOn)) ∧
    (∃ (s : State) (n : Nat), (s.timer n).holding = false) :=
  ⟨⟨tRule 0 1, 3, by decide +kernel⟩,
    ⟨tRule 1 1, 3, by decide +kernel⟩,
    ⟨tRule 2 0x10032, 3, by decide +kernel⟩,
    ⟨tRule 2 1, 3, by decide +kernel⟩,
    ⟨(tRule 2 1).withBrk { (tRule 2 1).brk with live := [(0xA0130, 34#32), (0xA0138, 1#32)] }, 3, by decide +kernel⟩,
    ⟨tOn.setTimer 3 { RuleTimer.fresh with confirming := true, cleared := true }, 3, by decide +kernel⟩,
    ⟨tOn.setTimer 3 { RuleTimer.fresh with confirming := true }, 3, by decide +kernel⟩,
    ⟨tOn, 3, by decide +kernel⟩⟩

theorem witness_LatchClearsAndFaultsClear :
    (∃ (s : State), s.pshOpen ∧ s.bk = bkLatched ∧ s.brk.qualDone = false) ∧
    (∃ (s : State), s.pshUp = true ∧ s.brk.qualDone = false) ∧
    (∃ (s : State), s.pshUp = true ∧ s.brk.qualDone = false ∧ s.bk = bkOffSettled ∧ s.brk.holdOff = true) ∧
    (∃ (s : State), s.pshUp = true ∧ (s.bk ≠ bkOffSettled ∨ s.brk.holdOff = false)) :=
  ⟨⟨tFull.setBk bkLatched, by decide +kernel⟩,
    ⟨tOn, by decide +kernel⟩,
    ⟨(tPsh.withBrk { tPsh.brk with holdOff := true }).setBk bkOffSettled, by decide +kernel⟩,
    ⟨tOn, by decide +kernel⟩⟩

theorem witness_ShedsAndStepNoticesAreJudged :
    (∃ (s : State), s.get Reg.PWR_STATE.shed_active = 1 ∧ s.svc.rstLow = false ∧ s.service ≠ svcRecess) ∧
    (∃ (s : State), s.get Reg.PWR_STATE.shed_active = 1 ∧ (∀ n ∈ s.brk.shedBy, (s.timer n).holding = false ∧ (s.timer n).confirming = false)) ∧
    (∃ (s : State) (id : Nat) (amplitude : Nat) (start : Nat) (duration : Nat), s.pshUp = true ∧ s.gpPsh.lost = false ∧ (s.get Reg.PWR_STEP_CFG.notice_max < (s.brk.notices.map (·.amplitude)).sum + amplitude ∨ 10 * s.get Reg.PWR_LIMIT_CFG.ilimit < s.brk.iin + 10 * ((s.brk.notices.map (·.amplitude)).sum + amplitude) + 50)) ∧
    (∃ (s : State) (id : Nat) (amplitude : Nat) (start : Nat) (duration : Nat), s.pshUp = true ∧ s.gpPsh.lost = false ∧ (s.brk.notices.map (·.amplitude)).sum + amplitude ≤ s.get Reg.PWR_STEP_CFG.notice_max ∧ s.brk.iin + 10 * ((s.brk.notices.map (·.amplitude)).sum + amplitude) + 50 ≤ 10 * s.get Reg.PWR_LIMIT_CFG.ilimit) ∧
    (∃ (s : State) (id : Nat) (amplitude : Nat) (start : Nat) (duration : Nat), s.gpPsh.lost = true) ∧
    (∃ (s : State) (id : Nat) (ok : Bool), s.svc.rstLow = false) ∧
    (∃ (s : State) (g : GldNotice), s.svc.notices.find? (fun h => decide (h.notice.id = g.notice.id) && decide (h.stage = .refused)) = some g) ∧
    (∃ (s : State) (g : GldNotice), s.svc.notices.find? (fun h => decide (h.notice.id = g.notice.id) && decide (h.stage = .accepted)) = some g ∧ s.gpGld.lost = false ∧ s.svc.rstLow = false ∧ g.use = .restoreShed) :=
  ⟨⟨tFull.put Reg.PWR_STATE.shed_active 1, by decide +kernel⟩,
    ⟨tFull.put Reg.PWR_STATE.shed_active 1, by decide +kernel⟩,
    ⟨tOn, 1, 300, 0, 1, by decide +kernel⟩,
    ⟨tOn, 1, 3, 0, 1, by decide +kernel⟩,
    ⟨tOn.withGpPsh { tOn.gpPsh with lost := true }, 1, 3, 0, 1, by decide +kernel⟩,
    ⟨tFull, 1, true, by decide +kernel⟩,
    ⟨tFull.withSvc { tFull.svc with notices := [⟨⟨1, 2, 3, 4⟩, .wake, .refused⟩] }, ⟨⟨1, 2, 3, 4⟩, .wake, .refused⟩, by decide +kernel⟩,
    ⟨tFull.withSvc { tFull.svc with notices := [⟨⟨1, 2, 3, 4⟩, .restoreShed, .accepted⟩] }, ⟨⟨1, 2, 3, 4⟩, .restoreShed, .accepted⟩, by decide +kernel⟩⟩

theorem witness_RulesLoadAndCommitWhole :
    (∃ (s : State) (v : Nat), s.pshOpen ∧ s.sec.romSafe = false ∧ v < 3) ∧
    (∃ (s : State), s.pshOpen) ∧
    (∃ (s : State) (p : MgmtPath), s.pshOpen ∧ s.sec.romSafe = false ∧ s.stale p = false) ∧
    (∃ (s : State) (p : MgmtPath), s.pshOpen ∧ s.sec.romSafe = false ∧ s.stale p = true) ∧
    (∃ (s : State) (p : MgmtPath), s.pshOpen) :=
  ⟨⟨tFull, 1, by decide +kernel⟩,
    ⟨tFull, by decide +kernel⟩,
    ⟨tFull, .bar0, by decide +kernel⟩,
    ⟨tFull.put Reg.PWR_RULE_COMMIT.stale 1, .bar0, by decide +kernel⟩,
    ⟨tFull, .pmbus, by decide +kernel⟩⟩

theorem witness_ConversionsStoreTheirResults :
    (∃ (s : State) (e : Nat) (r : Int) (dt : Nat), e < 16 ∧ s.meter.a.run = some (.entry e) ∧ s.cfgForce.accOnly 0 e = false) ∧
    (∃ (s : State) (r : Int) (dt : Nat), s.meter.a.run = some .urgent) ∧
    (∃ (s : State) (e : Nat) (x : Int) (y : Int) (dt : Nat), e < 15 ∧ s.meter.a.run = some (.entry e) ∧ s.meter.b.run = some (.entry e) ∧ s.cfgForce.paired e = true ∧ s.cfgForce.powerPair = some e ∧ s.cfgForce.accOnly 0 e = true ∧ s.meter.anyPair = true) ∧
    (∃ (s : State) (x : Int) (y : Int) (dt : Nat), s.meter.a.run = some (.entry 15) ∧ s.meter.b.run = some (.entry 15) ∧ s.get Reg.PWR_ADC_STATUS.cal_valid_a = 1 ∧ s.get Reg.PWR_ADC_STATUS.cal_valid_b = 1) :=
  ⟨⟨tOn.withMeter { tOn.meter with a := { tOn.meter.a with run := some (.entry 1) } }, 1, 5, 0, by decide +kernel⟩,
    ⟨tOn.withMeter { tOn.meter with a := { tOn.meter.a with run := some .urgent } }, 5, 0, by decide +kernel⟩,
    ⟨tMeter.withMeter { tMeter.meter with a := { tMeter.meter.a with run := some (.entry 0) }, b := { tMeter.meter.b with run := some (.entry 0) }, anyPair := true }, 0, 5, 7, 64000, by decide +kernel⟩,
    ⟨(tMeter.setWord 0xA040C 0xD).withMeter { tMeter.meter with a := { tMeter.meter.a with run := some (.entry 15) }, b := { tMeter.meter.b with run := some (.entry 15) } }, 5, 7, 0, by decide +kernel⟩⟩

theorem witness_PassesStartWithDueEntries :
    (∃ (s : State), s.passDone = true ∧ s.convReady = true ∧ s.get Reg.PWR_ADC_STATUS.lp_active = 0 ∧ s.meter.collected = false ∧ s.meter.restart = true) ∧
    (∃ (s : State), s.passDone = true ∧ s.convReady = true ∧ s.get Reg.PWR_ADC_STATUS.lp_active = 0 ∧ s.meter.collected = true ∧ s.cfgRegs.powerPair = none) ∧
    (∃ (s : State), s.passDone = true ∧ s.convReady = true ∧ s.get Reg.PWR_ADC_STATUS.lp_active = 1 ∧ s.meter.collected = false) ∧
    (∃ (s : State) (e : Nat) (l : List Nat) (m : List Nat), s.meter.a.todo = e :: l ∧ s.meter.b.todo = e :: m ∧ s.cfgForce.paired e = true ∧ s.convReady = true ∧ s.meter.a.run = none ∧ s.meter.b.run = none) :=
  ⟨⟨tMeter, by decide +kernel⟩,
    ⟨(tMeter.withMeter { tMeter.meter with collected := true }).setWord 0xA0500 0x1021, by decide +kernel⟩,
    ⟨tMeter.put Reg.PWR_ADC_STATUS.lp_active 1, by decide +kernel⟩,
    ⟨tMeter.withMeter { tMeter.meter with a := { tMeter.meter.a with todo := [15] }, b := { tMeter.meter.b with todo := [15] } }, 15, [], [], by decide +kernel⟩⟩

theorem witness_IntervalsAndAccumulatorsReport :
    (∃ (s : State), s.svc.pshPower = true ∧ s.svc.pshRun = true ∧ s.meter.sumN ≠ 0) ∧
    (∃ (s : State) (c : Bool), s.pshOpen) ∧
    (∃ (s : State), s.pshOpen) ∧
    (∃ (s : State), s.pshOpen) :=
  ⟨⟨tMeter.withMeter { tMeter.meter with sumN := 1 }, by decide +kernel⟩,
    ⟨tFull, true, by decide +kernel⟩,
    ⟨tFull, by decide +kernel⟩,
    ⟨tFull, by decide +kernel⟩⟩

theorem witness_MeteringTakesItsControls :
    (∃ (s : State), s.pshOpen) ∧
    (∃ (s : State), s.pshOpen) ∧
    (∃ (s : State), s.svc.pshPower = true ∧ s.meter.refCount = true ∧ s.get Reg.PWR_ADC_CTRL.ref_buf_en = 1) ∧
    (∃ (s : State) (on : Bool), s.pshOpen) ∧
    (∃ (s : State) (v : Nat), s.pshOpen ∧ v < 3) ∧
    (∃ (s : State) (v : Nat), s.pshUp = true ∧ v < 3) ∧
    (∃ (s : State) (c : Nat) (v : Nat), s.pshOpen ∧ c < 2 ∧ v % 2 = 1 ∧ v / 256 % 4 ≠ 3 ∧ s.get (Reg.PWR_ADC_URGENT_RESULT.busy c) = 0) ∧
    (∃ (s : State) (c : Nat) (v : Nat), s.pshOpen ∧ c < 2 ∧ v % 2 = 1 ∧ (v / 256 % 4 = 3 ∨ s.get (Reg.PWR_ADC_URGENT_RESULT.busy c) = 1)) :=
  ⟨⟨tFull, by decide +kernel⟩,
    ⟨tFull, by decide +kernel⟩,
    ⟨tOn, by decide +kernel⟩,
    ⟨tFull, true, by decide +kernel⟩,
    ⟨tFull, 2, by decide +kernel⟩,
    ⟨tOn, 2, by decide +kernel⟩,
    ⟨tFull, 1, 1, by decide +kernel⟩,
    ⟨tFull, 1, 0x301, by decide +kernel⟩⟩

theorem witness_CalibrationTakesBothConverters :
    (∃ (s : State), s.pshOpen ∧ s.get Reg.PWR_ADC_STATUS.cal_busy = 0 ∧ s.meter.calWaits = false) ∧
    (∃ (s : State), s.pshOpen ∧ (s.get Reg.PWR_ADC_STATUS.cal_busy = 1 ∨ s.meter.calWaits = true)) ∧
    (∃ (s : State), s.pshUp = true ∧ s.get Reg.PWR_ADC_STATUS.cal_busy = 0 ∧ s.meter.calWaits = false) ∧
    (∃ (s : State) (offA : Int) (gainA : Int) (offB : Int) (gainB : Int) (ga : Int) (gb : Int), s.get Reg.PWR_ADC_STATUS.cal_busy = 1 ∧ calGain (calOffset offA) gainA = some ga ∧ calGain (calOffset offB) gainB = some gb ∧ calFits (calOffset offA) (some ga) = true ∧ calFits (calOffset offB) (some gb) = true) ∧
    (∃ (s : State) (offA : Int) (gainA : Int) (offB : Int) (gainB : Int), s.get Reg.PWR_ADC_STATUS.cal_busy = 1 ∧ (calFits (calOffset offA) (calGain (calOffset offA) gainA) && calFits (calOffset offB) (calGain (calOffset offB) gainB)) = false) ∧
    (∃ (s : State) (c : Nat) (v : Nat), s.pshOpen ∧ c < 2 ∧ s.expert blk.pwr = true) :=
  ⟨⟨tFull, by decide +kernel⟩,
    ⟨tFull.put Reg.PWR_ADC_STATUS.cal_busy 1, by decide +kernel⟩,
    ⟨tOn, by decide +kernel⟩,
    ⟨tOn.put Reg.PWR_ADC_STATUS.cal_busy 1, 0, 79691776, 0, 79691776, 4194304, 4194304, by decide +kernel⟩,
    ⟨tOn.put Reg.PWR_ADC_STATUS.cal_busy 1, 0, -19, 0, -19, by decide +kernel⟩,
    ⟨tFull.put Reg.GLB_EXPERT_STATUS.expert 0xC00, 1, 5, by decide +kernel⟩⟩

theorem witness_PmbusAnswersReadsAndEvents :
    (∃ (s : State) (c : Instr) (l : List Byte), s.pshUp = true ∧ (c, l) ∈ s.pmbReads) ∧
    (∃ (s : State), s.pshUp = true) ∧
    (∃ (s : State), s.pshUp = true) ∧
    (∃ (s : State), s.pshUp = true ∧ s.pmb.alert = true) ∧
    (∃ (s : State), s.romUp = true) ∧
    (∃ (s : State), s.romUp = true) ∧
    (∃ (s : State) (u : Unsupported), s.pshUp = true ∧ refusedTransaction u = true) ∧
    (∃ (s : State) (fin : PmbEnd) (c : Instr) (v : Nat) (l : List Byte), s.pshUp = true ∧ fin ≠ .whole ∧ c ∈ [.clearFaults fin, .operationOn (some fin), .operationSoftOff fin, .operationImmediateOff fin, .mfrSlotStatus (.write fin v), .mfrBreakerProfile (.write fin v), .mfrExpertUnlock fin v, .mfrRegAddr (.write fin v), .mfrRegData (.write fin v), .mfrAdcCal fin, .mfrAdcProfile (.write fin v), .mfrMeterAddr (.write fin v), .mfrMeterData (.write fin v), .mfrUnitIndex (.write fin v), .mfrUnitState (.write fin v), .mfrRcCtrl fin v, .mfrRcStatus (.write fin v), .mfrRcSelect (.write fin v), .mfrRcOffset (.write fin v), .mfrRcClear fin l, .mfrRcOpkey fin l]) :=
  ⟨⟨tOn, .statusCml, leBytes 1 0, by decide +kernel⟩,
    ⟨tOn, by decide +kernel⟩,
    ⟨tOn, by decide +kernel⟩,
    ⟨tOn.withPmb { tOn.pmb with alert := true }, by decide +kernel⟩,
    ⟨tOn, by decide +kernel⟩,
    ⟨tOn, by decide +kernel⟩,
    ⟨tOn, .code 0x02, by decide +kernel⟩,
    ⟨tOn, .badPec, .clearFaults .badPec, 0, [], by decide +kernel⟩⟩

theorem witness_PmbusSelectorsAndClears :
    (∃ (s : State) (v : Nat), s.pshUp = true) ∧
    (∃ (s : State) (v : Nat), s.pshUp = true) ∧
    (∃ (s : State) (v : Nat), s.pshUp = true) ∧
    (∃ (s : State) (v : Nat), s.pshUp = true) ∧
    (∃ (s : State) (v : Nat), s.pshUp = true) ∧
    (∃ (s : State) (v : Nat), s.pshUp = true) ∧
    (∃ (s : State) (v : Nat), s.pshUp = true) :=
  ⟨⟨tOn, 0x1FC, by decide +kernel⟩,
    ⟨tOn, 0x400, by decide +kernel⟩,
    ⟨tOn, 100, by decide +kernel⟩,
    ⟨tOn, 4064, by decide +kernel⟩,
    ⟨tOn, 1, by decide +kernel⟩,
    ⟨tOn, 6, by decide +kernel⟩,
    ⟨tOn, 0xCA, by decide +kernel⟩⟩

theorem witness_PmbusRegisterAccess :
    (∃ (s : State), s.pshUp = true ∧ s.pmb.regAddr = 0x14) ∧
    (∃ (s : State) (v : Nat), s.pshUp = true ∧ s.pmb.regAddr = 0x1C ∧ s.expert blk.pwr = true) ∧
    (∃ (s : State), s.pshUp = true ∧ s.pmb.meterAddr = 0x414) ∧
    (∃ (s : State) (v : Nat), s.pshUp = true ∧ s.pmb.meterAddr = 0x404 ∧ v % 64 = 0x10 ∧ s.expert blk.pwr = false) ∧
    (∃ (s : State) (v : Nat), s.pshUp = true ∧ s.sec.romSafe = false ∧ v < 3) ∧
    (∃ (s : State) (k : Nat), s.pshUp = true ∧ s.sec.romSafe = false) ∧
    (∃ (s : State) (off : Nat) (v : Nat), s.bar0Open ∧ s.gpGld.lost = true ∧ isPsh2Word off = true ∧ off % 4 = 0) ∧
    (∃ (s : State) (v : Nat), s.pshOpen ∧ s.expert blk.pwr = true) :=
  ⟨⟨tOn.withPmb { tOn.pmb with regAddr := 0x14 }, by decide +kernel⟩,
    ⟨(tOn.withPmb { tOn.pmb with regAddr := 0x1C }).put Reg.GLB_EXPERT_STATUS.expert 0xC00, 0x10101010, by decide +kernel⟩,
    ⟨tOn.withPmb { tOn.pmb with meterAddr := 0x414 }, by decide +kernel⟩,
    ⟨tOn.withPmb { tOn.pmb with meterAddr := 0x404 }, 0x10, by decide +kernel⟩,
    ⟨tOn, 1, by decide +kernel⟩,
    ⟨tOn, 0x4558, by decide +kernel⟩,
    ⟨tFull.withGpGld { tFull.gpGld with lost := true }, 0xA0008, 1, by decide +kernel⟩,
    ⟨tFull.put Reg.GLB_EXPERT_STATUS.expert 0xC00, 0x10101010, by decide +kernel⟩⟩

theorem witness_FlushWritesTheBlock :
    (∃ (s : State), s.pshUp = true) ∧
    (∃ (s : State), s.pshOpen) ∧
    (∃ (s : State), s.pshUp = true ∧ s.flushReady = true ∧ s.card.journalSector ≤ 1 ∧ s.card.journalEntry ≤ 255) ∧
    (∃ (s : State), s.pshUp = true ∧ s.flushReady = true) ∧
    (∃ (s : State) (e : EraseRun), s.svc.pshPower = true ∧ s.halted 4 = false ∧ s.card.erase = some e ∧ s.card.eraseQueue = [] ∧ e.purpose ≠ .journal ∧ s.card.journalEntry < 255 ∧ (e.entry + 16 ≤ e.addr ∨ e.addr + 0x1000 ≤ e.entry) ∧ 0x410000 ≤ e.addr ∧ s.bk ≠ bkQualifying) ∧
    (∃ (s : State) (a : Nat) (p : ErasePurpose) (l : List (Nat × ErasePurpose)), s.pshUp = true ∧ s.get Reg.RCD_STATUS.window_closed = 0 ∧ s.card.erase = none ∧ s.card.eraseQueue = (a, p) :: l ∧ s.card.journalEntry < 255 ∧ s.card.due = 0) :=
  ⟨⟨tOn, by decide +kernel⟩,
    ⟨tFull, by decide +kernel⟩,
    ⟨tCard, by decide +kernel⟩,
    ⟨tCard, by decide +kernel⟩,
    ⟨tCard.withCard { tCard.card with erase := some ⟨circAddr 1, .circulating, 0x03880000, false⟩ }, ⟨circAddr 1, .circulating, 0x03880000, false⟩, by decide +kernel⟩,
    ⟨tOn.withCard { tOn.card with eraseQueue := [(circAddr 1, .circulating)] }, circAddr 1, .circulating, [], by decide +kernel⟩⟩

theorem witness_SummaryFreezesAndBlocksAreSelected :
    (∃ (s : State), s.pshOpen) ∧
    (∃ (s : State), s.pshOpen ∧ s.card.frozenBar = true ∧ s.card.clearWaits = none) ∧
    (∃ (s : State), s.pshUp = true ∧ s.frozen = true ∧ s.card.clearWaits = none) ∧
    (∃ (s : State) (n : Nat), s.svc.rstLow = false ∧ s.service ≠ svcRecess) ∧
    (∃ (s : State), s.pshUp = true) ∧
    (∃ (s : State) (v : Nat), s.pshOpen) ∧
    (∃ (s : State) (v : Nat), s.pshOpen ∧ v < 3) ∧
    (∃ (s : State), s.pshOpen) :=
  ⟨⟨tFull, by decide +kernel⟩,
    ⟨tFull.withCard { tFull.card with frozenBar := true }, by decide +kernel⟩,
    ⟨tOn.withCard { tOn.card with frozenPmb := true }, by decide +kernel⟩,
    ⟨tFull, 100, by decide +kernel⟩,
    ⟨tOn, by decide +kernel⟩,
    ⟨tFull, 0, by decide +kernel⟩,
    ⟨tFull, 2, by decide +kernel⟩,
    ⟨tFull, by decide +kernel⟩⟩

theorem witness_ClearTokensAreJudgedInOrder :
    (∃ (s : State), s.pshOpen) ∧
    (∃ (s : State), s.pshOpen ∧ s.card.verifying = none ∧ s.card.clearWaits = none) ∧
    (∃ (s : State) (token : List Byte), s.pshUp = true ∧ 160 ≤ token.length ∧ s.card.verifying = none ∧ s.card.clearWaits = none) ∧
    (∃ (s : State) (token : List Byte), s.card.verifying = some token) ∧
    (∃ (s : State) (key : List Byte), s.pshUp = true ∧ 97 ≤ key.length) :=
  ⟨⟨tFull, by decide +kernel⟩,
    ⟨tFull, by decide +kernel⟩,
    ⟨tOn, List.replicate 160 0, by decide +kernel⟩,
    ⟨tOn.withCard { tOn.card with verifying := some [] }, [], by decide +kernel⟩,
    ⟨tOn, List.replicate 97 0, by decide +kernel⟩⟩

theorem witness_GpFramesAreTakenInOrder :
    (∃ (s : State) (seq : Nat) (ok : Bool) (m : GpMsg), s.gpRuns = true ∧ s.gpTakes true m = true ∧ (ok = false ∨ seq % 256 ≠ s.gpGld.expect)) ∧
    (∃ (s : State) (seq : Nat) (ok : Bool) (m : GpMsg), s.gpRuns = true ∧ s.gpTakes false m = true ∧ (ok = false ∨ seq % 256 ≠ s.gpPsh.expect)) ∧
    (∃ (s : State) (seq : Nat), s.gpRuns = true ∧ seq % 256 = s.gpGld.expect) ∧
    (∃ (s : State) (seq : Nat), s.gpRuns = true ∧ seq % 256 = s.gpPsh.expect) ∧
    (∃ (s : State) (seq : Nat) (off : Nat) (w : Word), s.gpRuns = true ∧ s.halted 3 = false ∧ seq % 256 = s.gpGld.expect) ∧
    (∃ (s : State) (seq : Nat) (u : Nat) (v : Nat), s.gpRuns = true ∧ s.halted 3 = false ∧ seq % 256 = s.gpGld.expect ∧ s.gpGld.lost = false ∧ u ≤ 100) ∧
    (∃ (s : State) (n : Nat), s.gpRuns = true) ∧
    (∃ (s : State) (n : Nat), s.gpRuns = true) ∧
    (∃ (s : State), s.gpRuns = true ∧ s.gpPsh.queue = []) ∧
    (∃ (s : State), s.gpRuns = true ∧ s.gpGld.queue = []) :=
  ⟨⟨tOn.withSvc { tOn.svc with rstLow := false }, 1, true, .idle, by decide +kernel⟩,
    ⟨tOn.withSvc { tOn.svc with rstLow := false }, 1, true, .idle, by decide +kernel⟩,
    ⟨tOn.withSvc { tOn.svc with rstLow := false }, 0, by decide +kernel⟩,
    ⟨tOn.withSvc { tOn.svc with rstLow := false }, 0, by decide +kernel⟩,
    ⟨tOn.withSvc { tOn.svc with rstLow := false }, 0, 0xA0000, 1, by decide +kernel⟩,
    ⟨tOn.withSvc { tOn.svc with rstLow := false }, 0, 84, 2, by decide +kernel⟩,
    ⟨tOn.withSvc { tOn.svc with rstLow := false }, 0, by decide +kernel⟩,
    ⟨tOn.withSvc { tOn.svc with rstLow := false }, 0, by decide +kernel⟩,
    ⟨tOn.withSvc { tOn.svc with rstLow := false }, by decide +kernel⟩,
    ⟨tOn.withSvc { tOn.svc with rstLow := false }, by decide +kernel⟩⟩

theorem witness_LinkAndClockLossAreShown :
    (∃ (s : State), s.svc.rstLow = false ∧ s.gpGld.lost = false) ∧
    (∃ (s : State), s.gpRuns = true ∧ s.gpGld.up = false ∧ 16 ≤ s.gpGld.validRun ∧ s.sec.checkDue = false) ∧
    (∃ (s : State), (s.gpRuns = false ∨ s.gpGld.up = true ∨ s.gpGld.validRun < 16)) ∧
    (∃ (s : State) (c : WatchedClock), clockThere c = true ∧ s.watches = true ∧ s.get (clkOk c) = 1) ∧
    (∃ (s : State) (c : WatchedClock), clockThere c = true ∧ s.watches = true) :=
  ⟨⟨tFull, by decide +kernel⟩,
    ⟨tFull.withGpGld { tFull.gpGld with validRun := 16 }, by decide +kernel⟩,
    ⟨State.reset, by decide +kernel⟩,
    ⟨tFull.put Reg.GLB_CLK_STATUS.refclk_ok 1, .refclk, by decide +kernel⟩,
    ⟨tFull, .akgal 3, by decide +kernel⟩⟩

theorem witness_BringUpRunsItsStages :
    (∃ (s : State), s.svc.rstLow = true ∧ s.pshUp = true ∧ s.bk = bkOn ∧ s.brk.regsUp = 4) ∧
    (∃ (s : State), (s.svc.rstLow = false ∨ s.pshUp = false ∨ s.bk ≠ bkOn ∨ s.brk.regsUp ≠ 4)) ∧
    (∃ (s : State) (failed : List Nat), s.svc.rstLow = false ∧ s.service = svcBoot ∧ s.stage = 1) ∧
    (∃ (s : State) (failed : List Nat), s.svc.rstLow = false ∧ s.service = svcBoot ∧ s.stage = 3 ∧ s.sec.restarting = false ∧ s.sec.checkDue = false ∧ s.svc.warm = false) ∧
    (∃ (s : State) (failed : List Nat), s.svc.rstLow = false ∧ s.service = svcHomeroom ∧ s.stage = 4 ∧ s.fab.powered = true ∧ s.get Reg.GLB_SERVICE.stuck_homeroom = 0 ∧ s.svc.fromMemory = false) ∧
    (∃ (s : State) (failed : List Nat), s.svc.rstLow = false ∧ s.service = svcHomeroom ∧ s.stage = 6) ∧
    (∃ (s : State) (failed : List Nat), s.svc.rstLow = false ∧ s.service = svcHomeroom ∧ s.stage = 7) ∧
    (∃ (s : State) (failed : List Nat), s.svc.rstLow = false ∧ s.service = svcHomeroom ∧ s.stage = 8) ∧
    (∃ (s : State) (failed : List Nat), s.svc.rstLow = false ∧ s.service = svcHomeroom ∧ s.stage = 9) ∧
    (∃ (s : State), s.service = svcHomeroom ∧ s.stage = 9 ∧ s.homeroomDone = true) ∧
    (∃ (s : State), s.svc.rstLow = false ∧ s.host.perstLow = false) :=
  ⟨⟨tOn.withBrk { tOn.brk with regsUp := 4 }, by decide +kernel⟩,
    ⟨tPsh, by decide +kernel⟩,
    ⟨((tFull.put Reg.GLB_SERVICE.state 1).put Reg.GLB_SERVICE.stage 1), [], by decide +kernel⟩,
    ⟨((tFull.put Reg.GLB_SERVICE.state 1).put Reg.GLB_SERVICE.stage 3), [], by decide +kernel⟩,
    ⟨((tFull.put Reg.GLB_SERVICE.state 2).put Reg.GLB_SERVICE.stage 4), [], by decide +kernel⟩,
    ⟨((tFull.put Reg.GLB_SERVICE.state 2).put Reg.GLB_SERVICE.stage 6), [], by decide +kernel⟩,
    ⟨((tFull.put Reg.GLB_SERVICE.state 2).put Reg.GLB_SERVICE.stage 7), [], by decide +kernel⟩,
    ⟨((tFull.put Reg.GLB_SERVICE.state 2).put Reg.GLB_SERVICE.stage 8), [], by decide +kernel⟩,
    ⟨(((tFull.put Reg.GLB_SERVICE.state 2).put Reg.GLB_SERVICE.stage 9).withSvc { tFull.svc with handover := true }), [], by decide +kernel⟩,
    ⟨((tFull.put Reg.GLB_SERVICE.state 2).put Reg.GLB_SERVICE.stage 9), by decide +kernel⟩,
    ⟨tFull, by decide +kernel⟩⟩

theorem witness_ResetsReachTheirParts :
    (∃ (s : State), s.host.perstLow = false) ∧
    (∃ (s : State), s.host.perstLow = true) ∧
    (∃ (s : State) (cause : WarmCause), s.svc.rstLow = false ∧ s.host.linkUp = true ∧ s.host.perstLow = false ∧ (s.service = svcFull ∨ s.service = svcHomeroom ∨ s.service = svcRecovery) ∧ s.hostUp = true) ∧
    (∃ (s : State) (cause : WarmCause), s.svc.rstLow = false ∧ s.host.linkUp = true ∧ s.host.perstLow = false ∧ s.service = svcBoot ∧ (cause = .hotReset ∨ cause = .linkDown)) ∧
    (∃ (s : State) (vf : Nat), 1 ≤ vf ∧ vf ≤ 8 ∧ s.bar0Open ∧ s.service ≠ svcWaking ∧ s.host.msix.length = 72 ∧ s.host.fn.length = 9) ∧
    (∃ (s : State) (vf : Nat), 1 ≤ vf ∧ vf ≤ 8 ∧ s.hostUp = true ∧ s.service = svcRecess) ∧
    (∃ (s : State), s.bar0Open) ∧
    (∃ (s : State), s.bar0Open ∧ s.gpGld.lost = false ∧ s.pshUp = true ∧ s.sec.gld.pending = false ∧ s.sec.gld.trial = false) ∧
    (∃ (s : State), s.bar0Open ∧ (s.gpGld.lost = true ∨ s.pshUp = false)) :=
  ⟨⟨tFull, by decide +kernel⟩,
    ⟨tFull.withHost { tFull.host with perstLow := true }, by decide +kernel⟩,
    ⟨tFull, .hotReset, by decide +kernel⟩,
    ⟨tFull.put Reg.GLB_SERVICE.state 1, .hotReset, by decide +kernel⟩,
    ⟨tFull, 1, by decide +kernel⟩,
    ⟨(tFull.put Reg.GLB_SERVICE.state 5), 1, by decide +kernel⟩,
    ⟨tFull, by decide +kernel⟩,
    ⟨tFull, by decide +kernel⟩,
    ⟨tFull.withGpGld { tFull.gpGld with lost := true }, by decide +kernel⟩⟩

theorem witness_RecessEntersAndWakes :
    (∃ (s : State), s.hostUp = true ∧ s.service = svcFull ∧ s.debugMode = false) ∧
    (∃ (s : State), s.get Reg.GLB_RECESS_CTRL.profile = 1 ∧ s.recessCode = 0 ∧ s.debugMode = false ∧ s.svc.rstLow = false) ∧
    (∃ (s : State), (s.get Reg.GLB_RECESS_CTRL.profile ≠ 1 ∨ s.recessCode ≠ 0)) ∧
    (∃ (s : State), s.service = svcEntering ∧ s.svc.wakeWaits = false) ∧
    (∃ (s : State), s.service = svcEntering ∧ s.svc.wakeWaits = true) ∧
    (∃ (s : State), s.get Reg.GLB_RECESS_CTRL.wake_n_en = 1 ∧ s.svc.rstLow = false) ∧
    (∃ (s : State) (fn : Nat) (off : Nat), fn < 9 ∧ s.hostUp = true) ∧
    (∃ (s : State), s.service = svcWaking ∧ s.svc.rstLow = false ∧ s.svc.warmWaits ≠ none) ∧
    (∃ (s : State), s.service = svcWaking ∧ s.svc.warmWaits = none) ∧
    (∃ (s : State) (v : Nat), s.bar0Open ∧ v % 4 < 2) ∧
    (∃ (s : State) (v : Nat), s.bar0Open ∧ 2 ≤ v % 4) :=
  ⟨⟨tFull.withHost { tFull.host with aspmL1 := true }, by decide +kernel⟩,
    ⟨(tFull.withHost { tFull.host with aspmL1 := true }).put Reg.GLB_RECESS_CTRL.profile 1, by decide +kernel⟩,
    ⟨tFull, by decide +kernel⟩,
    ⟨tFull.put Reg.GLB_SERVICE.state 4, by decide +kernel⟩,
    ⟨(tFull.withSvc { tFull.svc with wakeWaits := true }).put Reg.GLB_SERVICE.state 4, by decide +kernel⟩,
    ⟨(tFull.put Reg.GLB_SERVICE.state 5).put Reg.GLB_RECESS_CTRL.wake_n_en 1, by decide +kernel⟩,
    ⟨tFull.put Reg.GLB_SERVICE.state 5, 0, 0x200, by decide +kernel⟩,
    ⟨(tFull.withSvc { tFull.svc with warmWaits := some true }).put Reg.GLB_SERVICE.state 6, by decide +kernel⟩,
    ⟨tFull.put Reg.GLB_SERVICE.state 6, by decide +kernel⟩,
    ⟨tFull, 1, by decide +kernel⟩,
    ⟨tFull, 2, by decide +kernel⟩⟩

theorem witness_RegisterWritesFollowTheirCodes :
    (∃ (s : State) (v : Nat), s.bar0Open) ∧
    (∃ (s : State) (v : Nat), s.bar0Open) ∧
    (∃ (s : State) (v : Nat), s.bar0Open) ∧
    (∃ (s : State) (off : Nat) (size : Nat) (v : Nat), s.bar0Open ∧ (size ≠ 4 ∨ off % 4 ≠ 0 ∨ off < 0x20 ∨ (off = 0x108 ∧ v / 65536 % 65536 ≠ 0xA5C3))) ∧
    (∃ (s : State) (fn : Nat) (v : Nat), 1 ≤ fn ∧ fn ≤ 8 ∧ s.host.vfEnable.length = 8 ∧ s.bar0Open) ∧
    (∃ (s : State) (fn : Nat) (n : Nat) (v : Nat), fn < 9 ∧ n < 64) ∧
    (∃ (s : State) (fn : Nat) (n : Nat) (v : Nat), fn < 9 ∧ n < 64) ∧
    (∃ (s : State) (on : Bool), s.hostUp = true) :=
  ⟨⟨tFull, 5, by decide +kernel⟩,
    ⟨tFull, 5, by decide +kernel⟩,
    ⟨tFull, 5, by decide +kernel⟩,
    ⟨tFull, 0, 4, 1, by decide +kernel⟩,
    ⟨tFull, 1, 5, by decide +kernel⟩,
    ⟨tRing, 0, 0, 1, by decide +kernel⟩,
    ⟨tRing, 0, 0, 1, by decide +kernel⟩,
    ⟨tFull, true, by decide +kernel⟩⟩

theorem witness_ReadsClearAndLatch :
    (∃ (s : State), s.bar0Open) ∧
    (∃ (s : State), s.svc.rstLow = false) ∧
    (∃ (s : State) (size : Nat) (off : Nat), s.bar0Open ∧ (size ≠ 4 ∨ off % 4 ≠ 0)) ∧
    (∃ (s : State), s.bar0Open) ∧
    (∃ (s : State) (w : Word), s.bar0Open ∧ Store.read noHalf s.latch 0x214 = some w) ∧
    (∃ (s : State) (fn : Nat) (off : Nat) (size : Nat), fn < 9 ∧ s.bar0Open) ∧
    (∃ (s : State) (fn : Nat) (off : Nat) (size : Nat) (item : CfgItem), fn < 9 ∧ s.hostUp = true) :=
  ⟨⟨tFull.put Reg.FAB_FAULT_COUNT.parity_faults 3, by decide +kernel⟩,
    ⟨tFull, by decide +kernel⟩,
    ⟨tFull, 8, 0, by decide +kernel⟩,
    ⟨tFull, by decide +kernel⟩,
    ⟨tFull.withLatch [(0x214, some 3#32)], 3#32, by decide +kernel⟩,
    ⟨tFull, 0, 0, 4, by decide +kernel⟩,
    ⟨tFull, 0, 0, 4, .ids, by decide +kernel⟩⟩

theorem witness_DoorbellsMoveTheirPointers :
    (∃ (s : State) (fn : Nat) (n : Nat) (v : Nat), fn < 9 ∧ n < 64 ∧ s.bar0Open ∧ s.sqOwner n = some fn ∧ ((s.isDeputy = false ∧ s.swapDrains = false) ∨ n = s.get Reg.AKG_PAIR_CFG.pair_sq) ∧ s.host.sqStopped.length = 64) ∧
    (∃ (s : State) (fn : Nat) (n : Nat) (v : Nat), fn < 9 ∧ n < 64 ∧ s.bar0Open ∧ s.sqOwner n ≠ some fn) ∧
    (∃ (s : State) (fn : Nat) (n : Nat) (v : Nat), fn < 9 ∧ n < 64 ∧ s.bar0Open ∧ s.cqOwner n = some fn ∧ ((s.isDeputy = false ∧ s.swapDrains = false) ∨ n = s.get Reg.AKG_PAIR_CFG.pair_cq)) ∧
    (∃ (s : State) (fn : Nat) (n : Nat), fn < 9 ∧ n < 64 ∧ s.bar0Open ∧ (fn = 0 ∨ s.sqOwner n = some fn)) ∧
    (∃ (s : State) (fn : Nat) (n : Nat), fn < 9 ∧ n < 64 ∧ s.bar0Open ∧ (fn = 0 ∨ s.cqOwner n = some fn)) :=
  ⟨⟨tRing, 0, 0, 2, by decide +kernel⟩,
    ⟨tRing, 1, 0, 2, by decide +kernel⟩,
    ⟨tRing, 0, 0, 0, by decide +kernel⟩,
    ⟨tRing, 0, 0, by decide +kernel⟩,
    ⟨tRing, 0, 0, by decide +kernel⟩⟩

theorem witness_RingsTakeTheirConfiguration :
    (∃ (s : State) (fn : Nat) (n : Nat) (v : Nat), fn < 9 ∧ n < 64 ∧ s.bar0Open ∧ (fn = 0 ∨ s.sqOwner n = some fn) ∧ s.sqOn n = false ∧ v.testBit 24 = true) ∧
    (∃ (s : State) (fn : Nat) (n : Nat) (v : Nat), fn < 9 ∧ n < 64 ∧ s.bar0Open ∧ (fn = 0 ∨ s.sqOwner n = some fn) ∧ s.sqOn n = true ∧ v.testBit 24 = true) ∧
    (∃ (s : State) (fn : Nat) (n : Nat) (v : Nat), fn < 9 ∧ n < 64 ∧ s.bar0Open ∧ (fn = 0 ∨ s.cqOwner n = some fn)) :=
  ⟨⟨tRing, 0, 1, 0x01100006, by decide +kernel⟩,
    ⟨tRing, 0, 0, 0x01120307, by decide +kernel⟩,
    ⟨tRing, 0, 0, 0x00010006, by decide +kernel⟩⟩

theorem witness_DescriptorsAreFetchedAndComplete :
    (∃ (s : State) (n : Nat) (d : List Byte), s.mayFetch = true ∧ s.arbiter = some n ∧ s.host.flights.all (fun f => decide (f.id < s.host.nextId)) = true) ∧
    (∃ (s : State) (n : Nat), s.mayFetch = true ∧ s.arbiter = some n) ∧
    (∃ (s : State) (data : Option (List Byte)), s.mayFetch = true ∧ s.arbiter = none) ∧
    (∃ (s : State) (id : Nat) (f : Flight), s.startable id opFence = some f) ∧
    (∃ (s : State) (id : Nat) (f : Flight), s.startable id opNop = some f) :=
  ⟨⟨tRing, 0, List.replicate 64 0, by decide +kernel⟩,
    ⟨tRing, 0, by decide +kernel⟩,
    ⟨tFull, none, by decide +kernel⟩,
    ⟨tWith (tFlight 3 11 []), 3, tFlight 3 11 [], by decide +kernel⟩,
    ⟨tWith (tFlight 3 15 []), 3, tFlight 3 15 [], by decide +kernel⟩⟩

theorem witness_EntriesAndMessagesAreWritten :
    (∃ (s : State) (cq : Nat) (h : Held), cq < 64 ∧ s.awaitsResume cq = false ∧ s.halted 0 = false ∧ s.nextHeld cq = some h ∧ s.mayPost = true ∧ s.cqOn cq = true ∧ s.cqStop cq = false ∧ s.get (Reg.HIF_CQ_STATUS.full cq) = 0 ∧ (s.fnCfg ((s.cqOwner cq).getD 0)).busMaster = true) ∧
    (∃ (s : State) (cq : Nat) (h : Held), cq < 64 ∧ s.awaitsResume cq = false ∧ s.halted 0 = false ∧ s.nextHeld cq = some h ∧ s.mayPost = true ∧ s.cqOn cq = true ∧ s.cqStop cq = false ∧ s.get (Reg.HIF_CQ_STATUS.full cq) = 0 ∧ s.host.cqStopped.length = 64) ∧
    (∃ (s : State) (cq : Nat), cq < 64 ∧ s.get (Reg.HIF_CQ_CFG.irq_en cq) = 1 ∧ 0 < s.host.unsignalled.getD cq 0) ∧
    (∃ (s : State) (fn : Nat) (v : Nat), fn < 9 ∧ v < 8 ∧ s.bar0Open ∧ s.host.msix.length = 72 ∧ (List.range 8).all (fun k => decide (k = v) || !(s.msixVec fn k).pending) = true) :=
  ⟨⟨tRing.withHost { tRing.host with held := [⟨0, eventEntry 0 1 2 3 0 5, true, false, none, none, none, false⟩] }, 0, ⟨0, eventEntry 0 1 2 3 0 5, true, false, none, none, none, false⟩, by decide +kernel⟩,
    ⟨tRing.withHost { tRing.host with held := [⟨0, eventEntry 0 1 2 3 0 5, true, false, none, none, none, false⟩] }, 0, ⟨0, eventEntry 0 1 2 3 0 5, true, false, none, none, none, false⟩, by decide +kernel⟩,
    ⟨(tRing.withHost { tRing.host with unsignalled := List.replicate 64 1 }).put (Reg.HIF_CQ_CFG.irq_en 0) 1, 0, by decide +kernel⟩,
    ⟨tRing, 0, 3, by decide +kernel⟩⟩

theorem witness_PartitionsUnlocksAndProfilesApply :
    (∃ (s : State), s.bar0Open) ∧
    (∃ (s : State) (b : Nat) (key : Nat), b < 14 ∧ b ≠ blk.mem ∧ sharedBlk b ≠ blk.pwr ∧ s.bar0Open) ∧
    (∃ (s : State) (b : Nat) (key : Nat), (b = blk.pwr ∨ b = blk.rcd) ∧ s.pshOpen ∧ s.sec.romSafe = false) ∧
    (∃ (s : State) (v : Nat), s.bar0Open ∧ v % 4 < 3) ∧
    (∃ (s : State) (v : Nat), s.bar0Open ∧ v % 4 < 2) ∧
    (∃ (s : State) (v : Nat), s.bar0Open ∧ v % 4 < 3) ∧
    (∃ (s : State) (v : Nat), s.bar0Open ∧ v % 4 < 3) ∧
    (∃ (s : State) (v : Nat), s.bar0Open ∧ v % 4 < 2) ∧
    (∃ (s : State) (v : Nat), s.bar0Open ∧ v % 4 < 3 ∧ s.role = 0) ∧
    (∃ (s : State) (v : Nat), s.bar0Open ∧ s.role ≠ 0) ∧
    (∃ (s : State) (v : Nat), s.bar0Open ∧ v % 4 < 2) ∧
    (∃ (s : State) (c : Instr), s.bar0Open ∧ s.mirrors = false ∧ c ∈ [Instr.hifProfile 3, .fabProfile 3, .fabProfile 2, .smpProfile 3, .capProfile 3, .sylProfile 2, .sylProfile 3, .hpsProfile 3, .akgProfile 3, .secProfile 2, .secProfile 3, .dbgProfile 3, .thmProfile 3, .recessProfile 3]) :=
  ⟨⟨tFull, by decide +kernel⟩,
    ⟨tFull, 2, 0x4558, by decide +kernel⟩,
    ⟨tFull, 10, 0x4558, by decide +kernel⟩,
    ⟨tFull, 0, by decide +kernel⟩,
    ⟨tFull, 0, by decide +kernel⟩,
    ⟨tFull, 0, by decide +kernel⟩,
    ⟨tFull, 0, by decide +kernel⟩,
    ⟨tFull, 0, by decide +kernel⟩,
    ⟨tFull, 0, by decide +kernel⟩,
    ⟨tFull.put Reg.AKG_PAIR_STATUS.role 1, 0, by decide +kernel⟩,
    ⟨tFull, 0, by decide +kernel⟩,
    ⟨tFull, .hifProfile 3, by decide +kernel⟩⟩

theorem witness_HallPassAndTraceProfilesLoad :
    (∃ (s : State) (v : Nat), s.bar0Open ∧ v % 4 < 3) ∧
    (∃ (s : State) (v : Nat), s.bar0Open ∧ v % 4 < 3) :=
  ⟨⟨tFull, 0, by decide +kernel⟩,
    ⟨tFull, 0, by decide +kernel⟩⟩

theorem witness_ThermalSamplesDriveTheThrottle :
    (∃ (s : State) (codes : List (Option Int)) (act : List (Nat × Nat)) (mr4 : List (Option Int)), s.samples = true ∧ s.thermal.stuckRun.length = 19) ∧
    (∃ (s : State), s.thermal.relHolds = true ∧ s.thermal.releaseWaits = false ∧ s.get Reg.PWR_STATE.shed_active = 0 ∧ s.depthFloor < s.get Reg.THM_STATUS.depth) ∧
    (∃ (s : State), s.get Reg.THM_STATUS.restart_wait = 1 ∧ s.get Reg.THM_STATUS.fabric_held = 0 ∧ shutSensors.all (fun n => !s.live n || decide (s.reading n < 680)) = true) ∧
    (∃ (s : State), (s.get Reg.THM_STATUS.restart_wait = 0 ∨ s.get Reg.THM_STATUS.fabric_held = 1)) ∧
    (∃ (s : State) (v : Nat), s.bar0Open ∧ v % 4 < 3 ∧ s.thermal.mode = (if v % 4 = 1 then 1 else 0)) :=
  ⟨⟨tFull, [], [], [], by decide +kernel⟩,
    ⟨((tFull.put Reg.THM_STATUS.depth 2).withThermal { tFull.thermal with relHolds := true }), by decide +kernel⟩,
    ⟨tFull.put Reg.THM_STATUS.restart_wait 1, by decide +kernel⟩,
    ⟨tFull, by decide +kernel⟩,
    ⟨tFull, 0, by decide +kernel⟩⟩

theorem witness_SensorsAreFlaggedAndWindowFollows :
    (∃ (s : State) (n : Nat) (kind : Nat), n < 16 ∧ s.svc.rstLow = false ∧ s.live n = true ∧ s.stage ≠ 7 ∧ ((kind = 1 ∧ 10000 ≤ s.thermal.stuckRun.getD n 0) ∨ (kind = 2 ∧ 2 ≤ s.thermal.rangeRun.getD n 0) ∨ (kind = 3 ∧ 10 ≤ s.thermal.nbrRun.getD n 0))) ∧
    (∃ (s : State) (n : Nat) (kind : Nat), (n = 17 ∨ n = 18) ∧ s.svc.rstLow = false ∧ s.live n = true ∧ ((kind = 1 ∧ 10000 ≤ s.thermal.stuckRun.getD n 0) ∨ (kind = 2 ∧ 2 ≤ s.thermal.rangeRun.getD n 0))) ∧
    (∃ (s : State) (n : Nat) (kind : Nat), (n = 19 ∨ n = 20) ∧ (kind = 1 ∨ kind = 2) ∧ s.pshUp = true ∧ s.live n = true) ∧
    (∃ (s : State), s.pshUp = true ∧ 2 ≤ s.thermal.winOut ∧ s.get Reg.THM_BANDS.flash_open = 1) ∧
    (∃ (s : State), s.pshUp = true ∧ 2 ≤ s.thermal.winIn ∧ s.get Reg.THM_BANDS.flash_open = 0) :=
  ⟨⟨tFull.withThermal { tFull.thermal with stuckRun := List.replicate 19 10000 }, 3, 1, by decide +kernel⟩,
    ⟨tFull.withThermal { tFull.thermal with rangeRun := List.replicate 19 2 }, 17, 2, by decide +kernel⟩,
    ⟨tFull, 19, 1, by decide +kernel⟩,
    ⟨(tFull.withThermal { tFull.thermal with winOut := 2 }).put Reg.THM_BANDS.flash_open 1, by decide +kernel⟩,
    ⟨(tFull.withThermal { tFull.thermal with winIn := 2 }).put Reg.THM_BANDS.flash_open 0, by decide +kernel⟩⟩

theorem witness_UnitsFollowTheirLedger :
    (∃ (s : State) (u : Nat), u ≤ 100 ∧ s.svc.rstLow = false ∧ s.get (Reg.FAB_LEDGER.mgmt_state u) = mgmtInService ∧ s.get (Reg.FAB_LEDGER.pgood u) = 1 ∧ s.unitDark u = false ∧ (s.get (Reg.FAB_LEDGER.data_state u) = dataOut ∨ s.get (Reg.FAB_LEDGER.data_state u) = dataDraining)) ∧
    (∃ (s : State) (u : Nat), u ≤ 100 ∧ (s.get (Reg.FAB_LEDGER.mgmt_state u) ≠ mgmtInService ∨ s.get (Reg.FAB_LEDGER.pgood u) = 0)) ∧
    (∃ (s : State) (u : Nat), u ≤ 100) ∧
    (∃ (s : State) (u : Nat), u ≤ 100 ∧ s.svc.rstLow = false ∧ pairAgrees (s.get (Reg.FAB_LEDGER.mgmt_state u)) (s.get (Reg.FAB_LEDGER.data_state u)) = false ∧ s.get (Reg.FAB_LEDGER.data_state u) ≠ dataFenced) ∧
    (∃ (s : State) (u : Nat), u ≤ 100 ∧ pairAgrees (s.get (Reg.FAB_LEDGER.mgmt_state u)) (s.get (Reg.FAB_LEDGER.data_state u)) = true) ∧
    (∃ (s : State) (u : Nat), u ≤ 100 ∧ s.mgmt.length = 101 ∧ s.pshUp = true ∧ s.gpPsh.lost = false ∧ (s.mgmtOf u).mgmt = mgmtOff ∧ (s.mgmtOf u).pgood = true ∧ (s.get (Reg.FAB_LEDGER.data_state u) = dataOut ∨ s.get (Reg.FAB_LEDGER.data_state u) = dataFailed ∨ s.get (Reg.FAB_LEDGER.data_state u) = dataFenced)) ∧
    (∃ (s : State) (v : Nat), s.pshUp = true ∧ s.mgmt.length = 101 ∧ s.pmb.unitIndex ≤ 100 ∧ v % 8 ≤ 4) ∧
    (∃ (s : State) (v : Nat), s.pshUp = true ∧ s.mgmt.length = 101 ∧ s.pmb.unitIndex ≤ 100 ∧ 4 < v % 8) ∧
    (∃ (s : State) (id : Nat) (f : Flight) (u : Nat), s.reconcile id 2 = some (f, u) ∧ s.mgmt.length = 101) :=
  ⟨⟨tFull.setWord 0x21150 0x11, 84, by decide +kernel⟩,
    ⟨State.reset.setWord 0x21150 1, 84, by decide +kernel⟩,
    ⟨tFull, 84, by decide +kernel⟩,
    ⟨tFull.setWord 0x21150 0x103, 84, by decide +kernel⟩,
    ⟨State.reset, 84, by decide +kernel⟩,
    ⟨tFull.withMgmt (List.replicate 101 ⟨3, false, true⟩), 84, by decide +kernel⟩,
    ⟨tFull, 1, by decide +kernel⟩,
    ⟨tFull, 5, by decide +kernel⟩,
    ⟨tWith (tFlight 3 12 [(24, 84), (26, 2)]), 3, tFlight 3 12 [(24, 84), (26, 2)], 84, by decide +kernel⟩⟩

theorem witness_FaultsAreFencedAndCovered :
    (∃ (s : State) (k : Nat) (residue : Bool), k < 64 ∧ s.svc.rstLow = false ∧ s.fab.powered = true ∧ s.get (Reg.FAB_TILE_STATUS.fenced k) = 0) ∧
    (∃ (s : State) (k : Nat), k < 64 ∧ s.fab.powered = true ∧ s.get (Reg.FAB_TILE_STATUS.fenced k) = 1 ∧ s.carrier k = k) ∧
    (∃ (s : State) (id : Nat) (f : Flight) (u : Nat), s.reconcile id 0 = some (f, u)) ∧
    (∃ (s : State) (id : Nat) (pass : Bool) (f : Flight) (u : Nat), s.reconcile id 1 = some (f, u)) :=
  ⟨⟨tFull, 3, true, by decide +kernel⟩,
    ⟨tFull.put (Reg.FAB_TILE_STATUS.fenced 3) 1, 3, by decide +kernel⟩,
    ⟨tWith (tFlight 3 12 [(24, 84)]), 3, tFlight 3 12 [(24, 84)], 84, by decide +kernel⟩,
    ⟨tWith (tFlight 3 12 [(24, 84), (26, 1)]), 3, true, tFlight 3 12 [(24, 84), (26, 1)], 84, by decide +kernel⟩⟩

theorem witness_LoadsFillTheirBanks :
    (∃ (s : State) (id : Nat) (f : Flight), s.startSlot id opLoadModel = some f ∧ dDev0 f.bytes = false) ∧
    (∃ (s : State) (id : Nat) (f : Flight) (b : List Byte), s.startSlot id opLoadModel = some f ∧ dDev0 f.bytes = false ∧ s.sharedSlot (dModel f.bytes) = false ∧ s.cap.standing = []) ∧
    (∃ (s : State) (id : Nat) (f : Flight) (m : Model) (b : List Byte), s.startSlot id opLoadCoeff = some f ∧ s.model (dModel f.bytes) = some m ∧ dModel f.bytes < 256 ∧ dDev0 f.bytes = false ∧ natAt f.bytes 24 4 % 16 = 0 ∧ natAt f.bytes 28 4 % 16 = 0 ∧ natAt f.bytes 28 4 + natAt f.bytes 24 4 ≤ m.couplings ∧ s.cap.standing = []) :=
  ⟨⟨tWith (tFlight 3 1 []), 3, tFlight 3 1 [], by decide +kernel⟩,
    ⟨tWith (tFlight 3 1 []), 3, tFlight 3 1 [], [], by decide +kernel⟩,
    ⟨(tReady.withHost { tReady.host with flights := [tFlight 3 2 [(24, 16)]] }), 3, tFlight 3 2 [(24, 16)], tModel, [], by decide +kernel⟩⟩

theorem witness_RunsAreSubmittedToTheirGangs :
    (∃ (s : State) (id : Nat) (f : Flight) (m : Model), s.startSlot id opRunMac = some f ∧ s.model (dModel f.bytes) = some m ∧ s.sharedSlot (dModel f.bytes) = false ∧ s.fab.runs.all (fun r => decide (r.id ≠ id)) = true) ∧
    (∃ (s : State) (id : Nat) (f : Flight) (m : Model), s.startSlot id opRunSample = some f ∧ s.model (dModel f.bytes) = some m ∧ s.sharedSlot (dModel f.bytes) = false ∧ s.fab.runs.all (fun r => decide (r.id ≠ id)) = true) ∧
    (∃ (s : State) (id : Nat) (f : Flight) (m : Model) (b : List Byte), s.startSlot id opRunAnneal = some f ∧ s.model (dModel f.bytes) = some m ∧ s.modelFits f.bytes = true ∧ dDev0 f.bytes = false ∧ s.sharedSlot (dModel f.bytes) = false ∧ s.fab.runs.all (fun r => decide (r.id ≠ id)) = true) ∧
    (∃ (s : State) (id : Nat) (f : Flight) (m : Model) (b : List Byte), s.startSlot id opTrain = some f ∧ s.model (dModel f.bytes) = some m ∧ s.modelFits f.bytes = true ∧ dDev0 f.bytes = false ∧ dModel f.bytes < 256) ∧
    (∃ (s : State) (id : Nat) (f : Flight), s.startSlot id opReadStates = some f) :=
  ⟨⟨(tReady.withHost { tReady.host with flights := [tFlight 3 3 []] }), 3, tFlight 3 3 [], tModel, by decide +kernel⟩,
    ⟨(tReady.withHost { tReady.host with flights := [tFlight 3 4 [(24, 1), (28, 1), (30, 1)]] }), 3, tFlight 3 4 [(24, 1), (28, 1), (30, 1)], tModel, by decide +kernel⟩,
    ⟨(tReady.withHost { tReady.host with flights := [tFlight 3 5 [(24, 1), (28, 1), (30, 1), (44, 1)]] }), 3, tFlight 3 5 [(24, 1), (28, 1), (30, 1), (44, 1)], tModel, [], by decide +kernel⟩,
    ⟨((tReady.withFab { tReady.fab with models := [(0, { tModel with exactDefault := true })] }).withHost { tReady.host with flights := [tFlight 3 7 [(36, 1)]] }), 3, tFlight 3 7 [(36, 1)], { tModel with exactDefault := true }, [], by decide +kernel⟩,
    ⟨tWith (tFlight 3 8 []), 3, tFlight 3 8 [], by decide +kernel⟩⟩

theorem witness_PassesSweepsAndBoundariesEnd :
    (∃ (s : State) (id : Nat) (r : Run) (f : Flight) (m : Model) (b : List Byte), s.run id = some r ∧ r.kind = .mac ∧ r.goes = true ∧ s.halted 2 = false ∧ s.flight id = some f ∧ f.stage ≠ .ended ∧ s.model r.slot = some m ∧ dDev0 f.bytes = false) ∧
    (∃ (s : State) (id : Nat) (r : Run) (f : Flight) (m : Model), s.run id = some r ∧ r.kind = .mac ∧ r.goes = true ∧ s.halted 2 = false ∧ s.flight id = some f ∧ f.stage ≠ .ended ∧ s.model r.slot = some m ∧ dDev0 f.bytes = false) ∧
    (∃ (s : State) (id : Nat) (r : Run) (m : Model), s.run id = some r ∧ (r.kind = .mac ∨ r.kind = .sample ∨ r.kind = .anneal) ∧ r.goes = true ∧ r.boundary = false ∧ r.path.reps ≠ [] ∧ s.halted 2 = false ∧ s.model r.slot = some m ∧ s.sharedSlot r.slot = false ∧ s.fab.runs.all (fun q => decide (q = r) || decide (q.id ≠ id)) = true) ∧
    (∃ (s : State) (id : Nat) (r : Run) (f : Flight) (m : Model), s.run id = some r ∧ (r.kind = .sample ∨ r.kind = .anneal) ∧ r.goes = true ∧ r.boundary = true ∧ s.halted 2 = false ∧ s.flight id = some f ∧ f.stage ≠ .ended ∧ s.model r.slot = some m ∧ s.sharedSlot r.slot = false ∧ s.fab.runs.all (fun q => decide (q = r) || decide (q.id ≠ id)) = true) ∧
    (∃ (s : State) (id : Nat) (r : Run) (m : Model) (x : Dy × Nat × Bool) (y : Dy × Nat × Bool) (l : List (Dy × Nat × Bool)), s.run id = some r ∧ r.path.points = x :: y :: l ∧ r.goes = true ∧ s.halted 2 = false ∧ s.model r.slot = some m ∧ s.fab.runs.all (fun q => decide (q = r) || decide (q.id ≠ id)) = true) :=
  ⟨⟨(tWork.withFab { tWork.fab with runs := [tRun 4 .mac] }), 4, tRun 4 .mac, { tFlight 4 4 [] with stage := .running }, tModel, [], by decide +kernel⟩,
    ⟨(tWork.withFab { tWork.fab with runs := [tRun 4 .mac] }), 4, tRun 4 .mac, { tFlight 4 4 [] with stage := .running }, tModel, by decide +kernel⟩,
    ⟨tWork, 4, tRun 4 .sample, tModel, by decide +kernel⟩,
    ⟨(tWork.withFab { tWork.fab with runs := [{ tRun 4 .sample with boundary := true }] }), 4, { tRun 4 .sample with boundary := true }, { tFlight 4 4 [] with stage := .running }, tModel, by decide +kernel⟩,
    ⟨(tWork.withFab { tWork.fab with runs := [{ tRun 4 .anneal with path := { tPath with points := [(⟨1, 0⟩, 0, false), (⟨1, 0⟩, 1, false)] } }] }), 4, { tRun 4 .anneal with path := { tPath with points := [(⟨1, 0⟩, 0, false), (⟨1, 0⟩, 1, false)] } }, tModel, (⟨1, 0⟩, 0, false), (⟨1, 0⟩, 1, false), [], by decide +kernel⟩⟩

theorem witness_FabricControlsAreApplied :
    (∃ (s : State) (v : Nat), s.bar0Open) ∧
    (∃ (s : State) (v : Nat), s.bar0Open) ∧
    (∃ (s : State) (k : Nat) (row : Nat) (col : Nat), s.bar0Open) ∧
    (∃ (s : State), s.fab.capturing = true ∧ s.debugMode = true) ∧
    (∃ (s : State), s.svc.rstLow = false) ∧
    (∃ (s : State), s.svc.rstLow = false) :=
  ⟨⟨tFull, 0, by decide +kernel⟩,
    ⟨tFull, 3, by decide +kernel⟩,
    ⟨tFull, 1, 2, 3, by decide +kernel⟩,
    ⟨(tFull.withFab { tFull.fab with capturing := true }).put Reg.DBG_CTRL.debug_mode 1, by decide +kernel⟩,
    ⟨tFull, by decide +kernel⟩,
    ⟨tFull, by decide +kernel⟩⟩

theorem witness_DebugPortAndTraceReachTheirTargets :
    (∃ (s : State) (psh : Bool) (space : Nat) (addr : Nat), space < 4 ∧ addr < 0x400000 ∧ s.tapLive psh = true ∧ (s.tap psh).busy = false ∧ s.tapConsumes = false) ∧
    (∃ (s : State) (addr : Nat), addr < 0x400000 ∧ s.tapLive false = true ∧ (s.tap false).busy = false ∧ s.tapConsumes = true ∧ s.tapStatus (4 * addr) = 0) ∧
    (∃ (s : State) (psh : Bool) (space : Nat) (addr : Nat), space < 4 ∧ addr < 0x400000 ∧ (s.tapLive psh = false ∨ (s.tap psh).busy = true)) ∧
    (∃ (s : State) (psh : Bool) (space : Nat) (addr : Nat) (v : Nat), space < 4 ∧ addr < 0x400000 ∧ s.tapLive psh = true ∧ (s.tap psh).busy = false) ∧
    (∃ (s : State) (psh : Bool) (space : Nat) (addr : Nat) (v : Nat), space < 4 ∧ addr < 0x400000 ∧ (s.tapLive psh = false ∨ (s.tap psh).busy = true)) ∧
    (∃ (s : State) (psh : Bool), (s.tap psh).busy = true) ∧
    (∃ (s : State), s.traceToHost = true) ∧
    (∃ (s : State), s.bar0Open) ∧
    (∃ (s : State), s.bar0Open) :=
  ⟨⟨tFull, false, 0, 0x40, by decide +kernel⟩,
    ⟨(tFull.put Reg.DBG_CTRL.debug_mode 1).put Reg.DBG_CTRL.consume 1, 0x4003, by decide +kernel⟩,
    ⟨State.reset, false, 0, 0x40, by decide +kernel⟩,
    ⟨tFull, false, 0, 0x40, 7, by decide +kernel⟩,
    ⟨State.reset, false, 0, 0x40, 7, by decide +kernel⟩,
    ⟨tFull.setTap false { tFull.tap false with busy := true }, false, by decide +kernel⟩,
    ⟨(tFull.put Reg.DBG_TRACE_CTRL.enable 1).put Reg.DBG_TRACE_CTRL.sink 1, by decide +kernel⟩,
    ⟨tFull, by decide +kernel⟩,
    ⟨tFull, by decide +kernel⟩⟩

theorem witness_CoresHaltStepAndResume :
    (∃ (s : State), s.tapLive false = true) ∧
    (∃ (s : State), s.tapLive false = true ∧ s.debugMode = true ∧ s.svc.enterHeld = false) ∧
    (∃ (s : State) (core : Nat), core < 5 ∧ s.dbg.cores.length = 5 ∧ s.mayHalt core = true ∧ (s.core core).deferred = false) ∧
    (∃ (s : State) (core : Nat) (q : LockSeq), core < 5 ∧ s.dbg.cores.length = 5 ∧ s.mayHalt core = true ∧ (s.core core).deferred = false ∧ lockFits core q = true) ∧
    (∃ (s : State) (core : Nat) (lock : Option LockSeq), core < 5 ∧ s.mayHalt core = false) ∧
    (∃ (s : State) (core : Nat) (b : Nat), core < 5 ∧ b < 2 ∧ s.dbg.cores.length = 5 ∧ s.mayHalt core = true ∧ (s.core core).deferred = false ∧ ((s.core core).bps.getD b (false, 0)).1 = true) ∧
    (∃ (s : State) (core : Nat), core < 5 ∧ s.dbg.cores.length = 5 ∧ s.debugMode = true ∧ s.halted core = true) ∧
    (∃ (s : State) (core : Nat), core < 5 ∧ s.dbg.cores.length = 5 ∧ s.debugMode = true ∧ s.halted core = true) ∧
    (∃ (s : State) (core : Nat), core < 5 ∧ s.dbg.cores.length = 5 ∧ (s.core core).deferred = true) ∧
    (∃ (s : State) (core : Nat) (id : Nat) (q : LockSeq), core < 5 ∧ s.dbg.cores.length = 5 ∧ (s.core core).deferred = true ∧ (s.core core).lock = some q ∧ q ≠ .descriptor ∧ s.svc.rstLow = false) ∧
    (∃ (s : State) (core : Nat) (id : Nat), core < 5 ∧ s.dbg.cores.length = 5 ∧ (s.core core).deferred = true ∧ (s.core core).lock = some .descriptor ∧ s.committing core id = true ∧ s.svc.rstLow = false) :=
  ⟨⟨tFull, by decide +kernel⟩,
    ⟨tFull.put Reg.DBG_CTRL.debug_mode 1, by decide +kernel⟩,
    ⟨tFull.put Reg.DBG_CTRL.debug_mode 1, 4, by decide +kernel⟩,
    ⟨tFull.put Reg.DBG_CTRL.debug_mode 1, 0, .ringPointer, by decide +kernel⟩,
    ⟨State.reset, 3, none, by decide +kernel⟩,
    ⟨(tFull.put Reg.DBG_CTRL.debug_mode 1).mapCore 2 (fun k => { k with bps := [(true, 8), (false, 0)] }), 2, 0, by decide +kernel⟩,
    ⟨(tFull.put Reg.DBG_CTRL.debug_mode 1).mapCore 2 (fun k => { k with halted := true }), 2, by decide +kernel⟩,
    ⟨(tFull.put Reg.DBG_CTRL.debug_mode 1).mapCore 2 (fun k => { k with halted := true }), 2, by decide +kernel⟩,
    ⟨tFull.mapCore 2 (fun k => { k with deferred := true, lock := some .descriptor, why := 1 }), 2, by decide +kernel⟩,
    ⟨tFull.mapCore 0 (fun k => { k with deferred := true, lock := some .ringPointer, why := 1 }), 0, 0, .ringPointer, by decide +kernel⟩,
    ⟨(tWith (tFlight 3 12 [(24, 84)])).mapCore 3 (fun k => { k with deferred := true, lock := some .descriptor, why := 1 }), 3, 3, by decide +kernel⟩⟩

theorem witness_FirmwareIsStagedAndActivated :
    (∃ (s : State) (id : Nat) (f : Flight) (timedOut : Bool), s.fwFlight id 0 = some f ∧ dDev0 f.bytes = false) ∧
    (∃ (s : State) (id : Nat) (f : Flight) (b : List Byte), s.fwFlight id 0 = some f ∧ dDev0 f.bytes = false ∧ (s.image (fwImageOf f)).pending = false ∧ (s.image (fwImageOf f)).slot ≤ 1 ∧ s.onTrial = false ∧ s.get Reg.RCD_STATUS.window_closed = 0 ∧ s.card.erase = none ∧ s.card.eraseQueue.all (fun e => decide (0x400000 ≤ e.1)) = true ∧ natAt f.bytes 28 4 + natAt f.bytes 32 4 ≤ 0x100000) ∧
    (∃ (s : State) (id : Nat) (f : Flight), s.fwFlight id 1 = some f) ∧
    (∃ (s : State) (id : Nat) (f : Flight), s.fwFlight id 2 = some f ∧ s.get Reg.RCD_STATUS.window_closed = 0) ∧
    (∃ (s : State), s.pshUp = true ∧ s.sec.psh.pending = true ∧ s.sec.joint = false ∧ s.sec.restarting = false) ∧
    (∃ (s : State), (s.pshUp = false ∨ s.sec.psh.pending = false ∨ s.sec.joint = true ∨ s.sec.restarting = true)) :=
  ⟨⟨tWith (tFlight 3 14 [(32, 64)]), 3, tFlight 3 14 [(32, 64)], false, by decide +kernel⟩,
    ⟨tWith (tFlight 3 14 [(32, 64)]), 3, tFlight 3 14 [(32, 64)], List.replicate 64 5, by decide +kernel⟩,
    ⟨tWith (tFlight 3 14 [(25, 1)]), 3, tFlight 3 14 [(25, 1)], by decide +kernel⟩,
    ⟨tWith (tFlight 3 14 [(25, 2)]), 3, tFlight 3 14 [(25, 2)], by decide +kernel⟩,
    ⟨tFull.withSec { tFull.sec with psh := { tFull.sec.psh with pending := true } }, by decide +kernel⟩,
    ⟨State.reset, by decide +kernel⟩⟩

theorem witness_TrialsAndFloorsAreSettled :
    (∃ (s : State) (raise : Bool) (key : Nat), s.bar0Open ∧ s.gpGld.lost = false ∧ s.pshUp = true ∧ (raise = false ∨ key % 2 ^ 16 = 0x5EC1)) ∧
    (∃ (s : State) (raise : Bool) (key : Nat), s.bar0Open ∧ ((raise = true ∧ key % 2 ^ 16 ≠ 0x5EC1) ∨ s.gpGld.lost = true ∨ s.pshUp = false)) ∧
    (∃ (s : State), s.bar0Open ∧ (s.gpGld.lost = true ∨ s.pshUp = false)) ∧
    (∃ (s : State), s.bar0Open ∧ s.gpGld.lost = false ∧ s.pshUp = true ∧ s.sec.coldWaits = false) ∧
    (∃ (s : State) (key : Nat), s.bar0Open) ∧
    (∃ (s : State), s.get Reg.SEC_PROFILE.profile = 1 ∧ s.onTrial = true ∧ s.service = svcFull ∧ s.gpGld.lost = false ∧ s.pshUp = true) ∧
    (∃ (s : State), (s.get Reg.SEC_PROFILE.profile ≠ 1 ∨ s.onTrial = false ∨ s.service ≠ svcFull ∨ s.gpGld.lost = true ∨ s.pshUp = false)) :=
  ⟨⟨tFull.withSec { tFull.sec with gld := { tFull.sec.gld with trial := true } }, true, 0x5EC1, by decide +kernel⟩,
    ⟨tFull, true, 7, by decide +kernel⟩,
    ⟨tFull.withGpGld { tFull.gpGld with lost := true }, by decide +kernel⟩,
    ⟨tFull.withSec { tFull.sec with psh := { tFull.sec.psh with pending := true } }, by decide +kernel⟩,
    ⟨tFull, 0x5EC1, by decide +kernel⟩,
    ⟨(tFull.withSec { tFull.sec with psh := { tFull.sec.psh with trial := true } }).put Reg.SEC_PROFILE.profile 1, by decide +kernel⟩,
    ⟨State.reset, by decide +kernel⟩⟩

theorem witness_AttestationAndRecoveryAnswer :
    (∃ (s : State) (c : Instr) (r : SpdmReply), s.hostUp = true ∧ (s.service = svcHomeroom ∨ s.service = svcFull ∨ s.service = svcRecovery) ∧ (c, r) ∈ [(Instr.getVersion, SpdmReply.version), (.getCapabilities, .capabilities), (.negotiateAlgorithms, .algorithms), (.getDigests, .digests (Config.sha384 s.certChain)), (.spdmUnsupportedRequest, .errorUnsupported)]) ∧
    (∃ (s : State) (offset : Nat) (length : Nat), s.hostUp = true ∧ (s.service = svcHomeroom ∨ s.service = svcFull ∨ s.service = svcRecovery) ∧ offset ≤ 65536) ∧
    (∃ (s : State) (data : List Byte), s.hostUp = true ∧ (s.service = svcHomeroom ∨ s.service = svcFull ∨ s.service = svcRecovery)) ∧
    (∃ (s : State) (signed : Bool) (index : Nat) (data : List Byte), s.hostUp = true ∧ (s.service = svcHomeroom ∨ s.service = svcFull ∨ s.service = svcRecovery)) ∧
    (∃ (s : State) (j : VaultJob) (rest : List VaultJob), s.sec.vault = j :: rest ∧ s.svc.rstLow = false) ∧
    (∃ (s : State), s.romUp = true ∧ (s.svc.romRecovery = true ∨ s.pshUp = true)) ∧
    (∃ (s : State) (data : List Byte), s.svc.pshPower = true ∧ s.svc.romRecovery = true ∧ data.length = 68 ∧ natAt data 0 4 % 64 = 0 ∧ natAt data 0 4 < 0x100000 ∧ s.card.erase = none ∧ s.card.eraseQueue.all (fun e => decide (0x400000 ≤ e.1)) = true) ∧
    (∃ (s : State) (data : List Byte), s.svc.pshPower = true ∧ s.svc.romRecovery = true ∧ (data.length ≠ 68 ∨ natAt data 0 4 % 64 ≠ 0 ∨ 0x100000 ≤ natAt data 0 4)) ∧
    (∃ (s : State), s.svc.pshPower = true ∧ s.svc.romRecovery = true) :=
  ⟨⟨tFull, .getVersion, .version, by decide +kernel⟩,
    ⟨tFull, 0, 64, by decide +kernel⟩,
    ⟨tFull, [1], by decide +kernel⟩,
    ⟨tFull, false, 0xFF, [], by decide +kernel⟩,
    ⟨tFull.withSec { tFull.sec with vault := [.challenge [1]] }, .challenge [1], [], by decide +kernel⟩,
    ⟨tFull, by decide +kernel⟩,
    ⟨tPsh.withSvc { tPsh.svc with romRecovery := true }, List.replicate 68 0, by decide +kernel⟩,
    ⟨tPsh.withSvc { tPsh.svc with romRecovery := true }, [], by decide +kernel⟩,
    ⟨tPsh.withSvc { tPsh.svc with romRecovery := true }, by decide +kernel⟩⟩

theorem witness_AkgalPortsTrain :
    (∃ (s : State) (p : Nat) (ok : Bool) (lanes : Nat), p < 4 ∧ lanes < 16 ∧ s.linksRun = false) ∧
    (∃ (s : State) (p : Nat) (ok : Bool) (lanes : Nat), p < 4 ∧ lanes < 16 ∧ s.linksRun = true) ∧
    (∃ (s : State) (p : Nat) (r : IdRecord) (last : Nat), p < 4 ∧ s.linksRun = true ∧ s.akg.ports.length = 4 ∧ (s.akState p = 4 ∨ s.akState p = 6) ∧ s.peerFits p r = true ∧ (p ≠ 0 ∨ s.role = 0)) ∧
    (∃ (s : State) (p : Nat) (r : IdRecord) (last : Nat), p < 4 ∧ s.linksRun = true ∧ (s.akState p = 4 ∨ s.akState p = 6) ∧ s.peerFits p r = false) ∧
    (∃ (s : State) (p : Nat), p < 4 ∧ s.akState p = 7 ∧ s.get (Reg.AKG_PORT_CTRL.enable p) = 1) ∧
    (∃ (s : State) (p : Nat), p < 4 ∧ s.bar0Open ∧ s.get (Reg.AKG_PORT_CTRL.enable p) = 1 ∧ (p ≠ 0 ∨ s.role = 0)) ∧
    (∃ (s : State) (p : Nat), p < 4 ∧ s.bar0Open ∧ s.akg.ports.length = 4 ∧ s.get (Reg.AKG_PORT_CTRL.enable p) = 1 ∧ s.akg.shares = [] ∧ (p ≠ 0 ∨ s.role = 0)) ∧
    (∃ (s : State) (p : Nat), p < 4 ∧ s.bar0Open ∧ s.get (Reg.AKG_PORT_CTRL.enable p) = 0 ∧ s.akState p = 0) ∧
    (∃ (s : State) (p : Nat), p < 4 ∧ s.svc.rstLow = false ∧ s.akState p = 5 ∧ s.akg.ports.length = 4) :=
  ⟨⟨State.reset, 1, true, 3, by decide +kernel⟩,
    ⟨tFull.put (Reg.AKG_PORT_STATUS.state 1) 2, 1, true, 12, by decide +kernel⟩,
    ⟨(tFull.put (Reg.AKG_PORT_STATUS.state 1) 4).put Reg.AKG_SYS_CFG.size_m1 1, 1, ⟨5, 6, 2, 0, 1, 1, 0, 0, 0⟩, 4, by decide +kernel⟩,
    ⟨tFull.put (Reg.AKG_PORT_STATUS.state 1) 4, 1, ⟨5, 6, 2, 0, 1, 0, 0, 0, 0⟩, 4, by decide +kernel⟩,
    ⟨(tFull.put (Reg.AKG_PORT_STATUS.state 1) 7).put (Reg.AKG_PORT_CTRL.enable 1) 1, 1, by decide +kernel⟩,
    ⟨(tFull.put (Reg.AKG_PORT_STATUS.state 1) 5).put (Reg.AKG_PORT_CTRL.enable 1) 1, 1, by decide +kernel⟩,
    ⟨(tFull.put (Reg.AKG_PORT_STATUS.state 1) 5).put (Reg.AKG_PORT_CTRL.enable 1) 1, 1, by decide +kernel⟩,
    ⟨(tFull.put (Reg.AKG_PORT_STATUS.state 1) 0).put (Reg.AKG_PORT_CTRL.enable 1) 0, 1, by decide +kernel⟩,
    ⟨tFull.put (Reg.AKG_PORT_STATUS.state 1) 5, 1, by decide +kernel⟩⟩

theorem witness_AkgalFramesArriveInOrder :
    (∃ (s : State) (p : Nat) (seq : Nat) (ack : Nat) (crcOk : Bool) (f : AkFrame), p < 4 ∧ s.akg.ports.length = 4 ∧ s.akState p = 5 ∧ (crcOk = false ∨ seq % 4096 ≠ (s.port p).expect)) ∧
    (∃ (s : State) (p : Nat) (seq : Nat) (ack : Nat) (slot : Nat) (key : Nat) (v : Int) (f : AkFrame), p < 4 ∧ s.akg.ports.length = 4 ∧ s.akState p = 5 ∧ seq % 4096 = (s.port p).expect ∧ (p ≠ 0 ∨ s.akg.waits = []) ∧ (s.port p).waiting = [] ∧ (p ≠ 0 ∨ s.pairProfile = false) ∧ f.dst = s.myIndex ∧ f.msg = .partialSum slot key v) ∧
    (∃ (s : State) (p : Nat) (seq : Nat) (ack : Nat) (f : AkFrame), p < 4 ∧ s.akg.ports.length = 4 ∧ s.akState p = 5 ∧ seq % 4096 = (s.port p).expect ∧ (p ≠ 0 ∨ (s.akg.waits = [] ∧ s.pairProfile = false)) ∧ (s.port p).waiting = [] ∧ f.dst ≠ s.myIndex ∧ s.akState (s.routePort f.dst (seq % 4096)) ≠ 5) ∧
    (∃ (s : State) (seq : Nat) (ack : Nat) (f : AkFrame), s.akg.ports.length = 4 ∧ s.akState 0 = 5 ∧ s.pairProfile = true ∧ seq % 4096 = (s.port 0).expect ∧ s.akg.waits = [] ∧ (s.port 0).waiting = [] ∧ waitsStep f.msg = true ∧ s.akg.inbox.all waitsStep = true) ∧
    (∃ (s : State) (p : Nat) (ack : Nat), p < 4 ∧ s.akg.ports.length = 4 ∧ s.akState p = 5 ∧ (p ≠ 0 ∨ s.akg.waits = []) ∧ (s.port p).waiting = []) ∧
    (∃ (s : State) (p : Nat) (ack : Nat), p < 4 ∧ s.akg.ports.length = 4 ∧ s.akState p = 5 ∧ (p ≠ 0 ∨ s.akg.waits = []) ∧ (s.port p).waiting = []) ∧
    (∃ (s : State) (p : Nat), p < 4 ∧ s.akg.ports.length = 4 ∧ s.akState p = 5 ∧ (s.port p).unacked ≠ [] ∧ s.svc.rstLow = false) ∧
    (∃ (s : State) (v : Nat), s.bar0Open ∧ (s.service ≠ svcFull ∨ s.fab.models.any (fun m => s.sharedSlot m.1) = true)) ∧
    (∃ (s : State) (v : Nat), s.bar0Open ∧ s.service = svcFull ∧ s.fab.models = [] ∧ s.akg.shares = [] ∧ s.role = 0) ∧
    (∃ (s : State) (slot : Nat) (id : Nat) (a : Nat) (b : Nat) (f : Flight), slot < 256 ∧ s.sharedSlot slot = true ∧ (s.share slot).load = some (id, a, b) ∧ (s.share slot).loaded.any (fun l => decide (l.1 = s.myIndex)) = true ∧ s.flight id = some f ∧ f.stage ≠ .ended) :=
  ⟨⟨tFull.put (Reg.AKG_PORT_STATUS.state 1) 5, 1, 7, 0, true, ⟨0, 1, 0, 0, .unpair⟩, by decide +kernel⟩,
    ⟨tFull.put (Reg.AKG_PORT_STATUS.state 1) 5, 1, 0, 0, 2, 5, 7, ⟨0, 1, 0, 0, .partialSum 2 5 7⟩, by decide +kernel⟩,
    ⟨(tFull.put (Reg.AKG_PORT_STATUS.state 1) 5).put Reg.AKG_SYS_CFG.size_m1 3, 1, 0, 0, ⟨0, 0, 3, 0, .partialSum 2 5 7⟩, by decide +kernel⟩,
    ⟨(tFull.put (Reg.AKG_PORT_STATUS.state 0) 5).put Reg.AKG_PROFILE.profile 1, 0, 0, ⟨3, 1, 0, 0, .swap⟩, by decide +kernel⟩,
    ⟨(tFull.put (Reg.AKG_PORT_STATUS.state 1) 5), 1, 4, by decide +kernel⟩,
    ⟨(tFull.put (Reg.AKG_PORT_STATUS.state 1) 5), 1, 4, by decide +kernel⟩,
    ⟨(tFull.put (Reg.AKG_PORT_STATUS.state 1) 5).mapPort 1 (fun q => { q with unacked := [(4, 16, ⟨0, 1, 0, 0, .unpair⟩)] }), 1, by decide +kernel⟩,
    ⟨tFull.put Reg.GLB_SERVICE.state 2, 5, by decide +kernel⟩,
    ⟨tFull, 0x1234567, by decide +kernel⟩,
    ⟨(tWith (tFlight 3 1 [])).put (Reg.AKG_SHARE.members 2) 3 |>.setShare { Share.empty 2 with load := some (3, 0, 0), loaded := [(0, 7)] }, 2, 3, 0, 0, tFlight 3 1 [], by decide +kernel⟩⟩

theorem witness_PairsFormAndPart :
    (∃ (s : State) (id : Nat) (f : Flight), s.mirrorCtrl id 0 = some f) ∧
    (∃ (s : State) (id : Nat) (f : Flight) (role : Nat) (c : Instr), (c, role) ∈ [(Instr.pairPrefect id, 1), (.pairDeputy id, 2)] ∧ s.mirrorCtrl id role = some f ∧ s.akg.ports.length = 4) ∧
    (∃ (s : State) (id : Nat) (f : Flight), s.mirrorCtrl id 3 = some f) ∧
    (∃ (s : State) (p : Pairing) (f : Flight), s.halted 3 = false ∧ s.akg.inbox = [] ∧ s.akg.pairing = some p ∧ p.copying = false ∧ s.flight p.flight = some f ∧ f.stage ≠ .ended) ∧
    (∃ (s : State) (p : Pairing) (c : List Byte) (f : Flight), s.halted 3 = false ∧ s.akg.inbox = [.chain c] ∧ s.akg.pairing = some p ∧ s.akg.ports.length = 4 ∧ s.flight p.flight = some f ∧ f.stage ≠ .ended) ∧
    (∃ (s : State) (p : Pairing) (f : Flight), s.halted 3 = false ∧ s.akg.inbox = [.copyDone] ∧ s.akg.pairing = some p ∧ s.isDeputy = true ∧ s.akg.waits = [] ∧ s.flight p.flight = some f ∧ f.stage ≠ .ended) ∧
    (∃ (s : State) (p : Pairing) (f : Flight), s.halted 3 = false ∧ s.akg.inbox = [.copyAck] ∧ s.akg.pairing = some p ∧ s.isPrefect = true ∧ s.akg.copying = true ∧ s.flight p.flight = some f ∧ f.stage ≠ .ended) :=
  ⟨⟨tWith (tFlight 3 13 []), 3, tFlight 3 13 [], by decide +kernel⟩,
    ⟨tWith (tFlight 3 13 [(24, 1)]), 3, tFlight 3 13 [(24, 1)], 1, .pairPrefect 3, by decide +kernel⟩,
    ⟨tWith (tFlight 3 13 [(24, 3)]), 3, tFlight 3 13 [(24, 3)], by decide +kernel⟩,
    ⟨(tWith (tFlight 3 13 [(24, 1)])).setAkg (fun a => { a with pairing := some ⟨3, 1, 0, none, [], none, none, false, false, false⟩ }), ⟨3, 1, 0, none, [], none, none, false, false, false⟩, tFlight 3 13 [(24, 1)], by decide +kernel⟩,
    ⟨(tWith (tFlight 3 13 [(24, 1)])).setAkg (fun a => { a with inbox := [.chain []], pairing := some ⟨3, 1, 0, none, [], none, none, false, false, false⟩ }), ⟨3, 1, 0, none, [], none, none, false, false, false⟩, [], tFlight 3 13 [(24, 1)], by decide +kernel⟩,
    ⟨((tWith (tFlight 3 13 [(24, 2)])).put Reg.AKG_PAIR_STATUS.role 3).setAkg (fun a => { a with inbox := [.copyDone], pairing := some ⟨3, 2, 0, none, [], none, none, true, true, true⟩ }), ⟨3, 2, 0, none, [], none, none, true, true, true⟩, tFlight 3 13 [(24, 2)], by decide +kernel⟩,
    ⟨((tWith (tFlight 3 13 [(24, 1)])).put Reg.AKG_PAIR_STATUS.role 1).setAkg (fun a => { a with copying := true, inbox := [.copyAck], pairing := some ⟨3, 1, 0, none, [], none, none, true, true, true⟩ }), ⟨3, 1, 0, none, [], none, none, true, true, true⟩, tFlight 3 13 [(24, 1)], by decide +kernel⟩⟩

theorem witness_RolesAreSwappedAndClaimed :
    (∃ (s : State) (id : Nat) (f : Flight), s.mirrorCtrl id 4 = some f) ∧
    (∃ (s : State), s.halted 3 = false ∧ s.akg.inbox = [.swap] ∧ s.role ≠ 0) ∧
    (∃ (s : State) (id : Nat) (f : Flight), s.mirrorCtrl id 5 = some f ∧ s.role ≤ 1) ∧
    (∃ (s : State) (id : Nat) (f : Flight), s.mirrorCtrl id 5 = some f ∧ 2 ≤ s.role ∧ s.svc.rstLow = false) ∧
    (∃ (s : State) (cut : Bool), s.halted 3 = false ∧ s.akg.inbox = [.claim cut] ∧ s.role = 1 ∧ (cut = true ∨ s.akg.split = true)) ∧
    (∃ (s : State), s.halted 3 = false ∧ s.akg.inbox = [.claim false] ∧ s.role = 1 ∧ s.akg.split = false) ∧
    (∃ (s : State), s.halted 3 = false ∧ s.akg.inbox = [] ∧ s.get Reg.AKG_PROFILE.profile = 2 ∧ (s.role = 2 ∨ s.role = 3) ∧ s.akState 0 ≠ 5) ∧
    (∃ (s : State), s.halted 3 = false ∧ s.akg.inbox = [] ∧ (s.get Reg.AKG_PROFILE.profile ≠ 2 ∨ s.role ≤ 1 ∨ s.akState 0 = 5)) ∧
    (∃ (s : State), s.bar0Open ∧ s.get Reg.AKG_RESUME_CTRL.resume_pending = 1) ∧
    (∃ (s : State), s.halted 3 = false ∧ s.akg.inbox = [] ∧ (s.mirrors = false ∨ s.akState 0 ≠ 5)) ∧
    (∃ (s : State), s.halted 3 = false ∧ s.akg.inbox = [] ∧ s.akg.ports.length = 4 ∧ s.mirrors = true ∧ s.akState 0 = 5 ∧ s.akg.waits = []) ∧
    (∃ (s : State) (r : Run) (rest : List Run), s.halted 3 = false ∧ s.akg.inbox = [] ∧ 2 ≤ s.role ∧ s.akg.mirror.arrived = r :: rest) ∧
    (∃ (s : State) (n : Nat) (r : Run), s.halted 3 = false ∧ s.akg.inbox = [.snapshotAck none n] ∧ s.swapDrains = false ∧ s.fab.runs = [r] ∧ r.held = true ∧ (r.sent s).name = (none, n)) :=
  ⟨⟨tWith (tFlight 3 13 [(24, 4)]), 3, tFlight 3 13 [(24, 4)], by decide +kernel⟩,
    ⟨(tFull.put Reg.AKG_PAIR_STATUS.role 2).setAkg (fun a => { a with inbox := [.swap] }), by decide +kernel⟩,
    ⟨tWith (tFlight 3 13 [(24, 5)]), 3, tFlight 3 13 [(24, 5)], by decide +kernel⟩,
    ⟨(tWith (tFlight 3 13 [(24, 5)])).put Reg.AKG_PAIR_STATUS.role 2, 3, tFlight 3 13 [(24, 5)], by decide +kernel⟩,
    ⟨(tFull.put Reg.AKG_PAIR_STATUS.role 1).setAkg (fun a => { a with inbox := [.claim true] }), true, by decide +kernel⟩,
    ⟨(tFull.put Reg.AKG_PAIR_STATUS.role 1).setAkg (fun a => { a with inbox := [.claim false] }), by decide +kernel⟩,
    ⟨(tFull.put Reg.AKG_PAIR_STATUS.role 2).put Reg.AKG_PROFILE.profile 2, by decide +kernel⟩,
    ⟨State.reset, by decide +kernel⟩,
    ⟨tFull.put Reg.AKG_RESUME_CTRL.resume_pending 1, by decide +kernel⟩,
    ⟨State.reset, by decide +kernel⟩,
    ⟨((tFull.put Reg.AKG_PAIR_STATUS.role 1).put (Reg.AKG_PORT_STATUS.state 0) 5).setAkg (fun a => { a with follows := true }), by decide +kernel⟩,
    ⟨(tFull.put Reg.AKG_PAIR_STATUS.role 2).setAkg (fun a => { a with mirror := { a.mirror with arrived := [tRun 4 .sample] } }), tRun 4 .sample, [], by decide +kernel⟩,
    ⟨(tWork.withFab { tWork.fab with runs := [{ tRun 4 .sample with held := true }] }).setAkg (fun a => { a with inbox := [.snapshotAck none 4] }), 4, { tRun 4 .sample with held := true }, by decide +kernel⟩⟩

theorem witness_HallPassAnswersAndPublishes :
    (∃ (s : State) (valid : Bool) (sig : Nat), s.passDriven = true) ∧
    (∃ (s : State) (valid : Bool) (sig : Nat), s.passDriven = false) ∧
    (∃ (s : State) (id : Nat) (f : Flight), s.startable id opPublish = some f ∧ dDev0 f.bytes = false) ∧
    (∃ (s : State) (id : Nat) (f : Flight) (b : List Byte), s.startable id opPublish = some f ∧ dDev0 f.bytes = false ∧ dAddr0 f.bytes ≠ 0 ∧ s.get Reg.HPS_STATUS.copying = 0 ∧ s.pass.copyWaits = false ∧ s.host.flights.any (fun g => decide (g.id < id) && decide (dOp g.bytes = opPublish) && decide (g.stage ≠ .ended)) = false) ∧
    (∃ (s : State) (p : Publish) (rest : List Publish), s.pass.publishes = p :: rest) ∧
    (∃ (s : State) (id : Nat) (b : Nat) (n : Nat) (f : Flight), s.pass.done = some (id, b, n) ∧ s.flight id = some f ∧ f.stage ≠ .ended ∧ s.mirrors = false) ∧
    (∃ (s : State), s.get Reg.HPS_STATUS.copying = 1) ∧
    (∃ (s : State) (v : Nat), s.bar0Open) ∧
    (∃ (s : State), s.bar0Open) :=
  ⟨⟨(tFull.withMgmt (List.replicate 101 ⟨1, false, true⟩)).put Reg.HPS_STATUS.active_valid 1, true, 5, by decide +kernel⟩,
    ⟨State.reset, true, 5, by decide +kernel⟩,
    ⟨tWith (tFlight 3 10 []), 3, tFlight 3 10 [], by decide +kernel⟩,
    ⟨tWith (tFlight 3 10 [(8, 64)]), 3, tFlight 3 10 [(8, 64)], [0x21], by decide +kernel⟩,
    ⟨(tWith (tFlight 3 10 [])).setPass (fun p => { p with publishes := [⟨3, true⟩] }), ⟨3, true⟩, [], by decide +kernel⟩,
    ⟨(tWith (tFlight 3 10 [])).setPass (fun p => { p with done := some (3, 1, 77) }), 3, 1, 77, tFlight 3 10 [], by decide +kernel⟩,
    ⟨tFull.put Reg.HPS_STATUS.copying 1, by decide +kernel⟩,
    ⟨tFull, 5, by decide +kernel⟩,
    ⟨tFull, by decide +kernel⟩⟩

theorem witness_RecordsLandAndEnd :
    (∃ (s : State) (skew : Nat), s.capReceives = true) ∧
    (∃ (s : State) (locked : Nat) (inHeader : Bool), s.get Reg.CAP_LINK_STATUS.link_up = 1 ∧ s.cap.onLink = none) ∧
    (∃ (s : State) (locked : Nat) (id : Nat) (inHeader : Bool) (l : LinkRec) (r : Rec), s.get Reg.CAP_LINK_STATUS.link_up = 1 ∧ s.cap.onLink = some l ∧ l.id = some id ∧ s.recOf id = some r ∧ l.stream = r.stream ∧ r.stream < 8) ∧
    (∃ (s : State) (n : Nat) (h : List Byte), n < 8 ∧ s.capFrames = true ∧ s.get Reg.CAP_LINK_STATUS.link_up = 1 ∧ s.capHeld = false ∧ s.cap.onLink = none) ∧
    (∃ (s : State) (n : Nat) (h : List Byte), n < 8 ∧ s.capFrames = true ∧ s.capHeld = true) ∧
    (∃ (s : State) (n : Nat) (h : List Byte), n < 8 ∧ s.service = svcRecess ∧ s.cap.onLink = none ∧ linkHeaderOk h = true ∧ s.get (Reg.CAP_STREAM_CFG.source n) = 0) ∧
    (∃ (s : State) (rest : List Byte) (surplus : Nat) (fin : RecEnd), s.capFrames = true ∧ s.get Reg.CAP_LINK_STATUS.link_up = 1 ∧ s.capHeld = false ∧ s.cap.onLink = none) ∧
    (∃ (s : State) (rest : List Byte) (surplus : Nat) (id : Nat) (l : LinkRec) (r : Rec) (fin : RecEnd), s.capFrames = true ∧ s.get Reg.CAP_LINK_STATUS.link_up = 1 ∧ s.capHeld = false ∧ s.cap.onLink = some l ∧ l.id = some id ∧ s.recOf id = some r ∧ l.stream = r.stream ∧ l.len = r.len ∧ l.header = r.header ∧ l.data = r.data ∧ r.stream < 8 ∧ r.ended = false ∧ (fin = .sor ∨ (fin = .bad ∧ (r.data ++ rest).length < r.len))) ∧
    (∃ (s : State) (rest : List Byte) (surplus : Nat) (id : Nat) (l : LinkRec) (r : Rec) (crc : Nat), s.capFrames = true ∧ s.get Reg.CAP_LINK_STATUS.link_up = 1 ∧ s.capHeld = false ∧ s.cap.onLink = some l ∧ l.id = some id ∧ s.recOf id = some r ∧ l.stream = r.stream ∧ l.len = r.len ∧ l.header = r.header ∧ l.data = r.data ∧ r.stream < 8 ∧ r.ended = false ∧ r.len ≤ (r.data ++ rest).length ∧ crc32 (r.header ++ (r.data ++ rest).take r.len) = crc) ∧
    (∃ (s : State) (rest : List Byte) (surplus : Nat) (id : Nat) (l : LinkRec) (r : Rec) (crc : Nat), s.capFrames = true ∧ s.get Reg.CAP_LINK_STATUS.link_up = 1 ∧ s.capHeld = false ∧ s.cap.onLink = some l ∧ l.id = some id ∧ s.recOf id = some r ∧ l.stream = r.stream ∧ l.len = r.len ∧ l.header = r.header ∧ l.data = r.data ∧ r.ended = false ∧ r.flight = none ∧ r.len ≤ (r.data ++ rest).length ∧ crc32 (r.header ++ (r.data ++ rest).take r.len) ≠ crc ∧ s.run id = none) ∧
    (∃ (s : State) (p : Nat) (b : List Byte), p < 2 ∧ s.capFrames = true ∧ s.ethUp p = true ∧ s.get (Reg.CAP_ETH_MAC_HI.rx_enable p) = 1 ∧ s.crossHeld.getD (3 + p) false = false) ∧
    (∃ (s : State) (id : Nat) (r : Rec) (q : Run) (m : Model), s.cap.onLink.bind (·.id) ≠ some id ∧ s.recOf id = some r ∧ s.run id = some q ∧ s.model q.slot = some m ∧ q.started = true ∧ q.loaded < q.vectors ∧ q.stopped = none ∧ q.failed = 0 ∧ r.stream < 8) ∧
    (∃ (s : State) (id : Nat) (r : Rec) (q : Run) (m : Model) (x : Standing) (f : Flight), s.recOf id = some r ∧ s.run id = some q ∧ s.model q.slot = some m ∧ r.flight = some x.flight ∧ s.standing x.flight = some x ∧ s.flight x.flight = some f ∧ f.stage ≠ .ended ∧ q.started = true ∧ q.loaded < q.vectors ∧ r.ended = false ∧ r.data.length < m.burst * (q.loaded + 1) ∧ r.stream < 8) :=
  ⟨⟨tFull, 3, by decide +kernel⟩,
    ⟨tFull.put Reg.CAP_LINK_STATUS.link_up 1, 3, true, by decide +kernel⟩,
    ⟨tStream tRec, 3, 4, false, ⟨some 4, 0, 64, List.replicate 64 0, []⟩, tRec, by decide +kernel⟩,
    ⟨tStream { tRec with ended := true }, 0, leBytes 4 9 ++ List.replicate 12 0 ++ [64] ++ List.replicate 47 0, by decide +kernel⟩,
    ⟨tFull.withCrossHeld (List.replicate 8 true), 0, [], by decide +kernel⟩,
    ⟨tFull.put Reg.GLB_SERVICE.state 5, 7, leBytes 4 9 ++ List.replicate 12 0 ++ [64] ++ List.replicate 47 0, by decide +kernel⟩,
    ⟨tFull.put Reg.CAP_LINK_STATUS.link_up 1, [1], 2, .bad, by decide +kernel⟩,
    ⟨tStream tRec, [1,2], 0, 4, ⟨some 4, 0, 64, List.replicate 64 0, []⟩, tRec, .sor, by decide +kernel⟩,
    ⟨tStream { tRec with len := 2, header := [1] }, [1,2], 0, 4, ⟨some 4, 0, 2, [1], []⟩, { tRec with len := 2, header := [1] }, 160883528, by decide +kernel⟩,
    ⟨tStream { tRec with len := 2, header := [1] }, [1,2], 0, 4, ⟨some 4, 0, 2, [1], []⟩, { tRec with len := 2, header := [1] }, 0, by decide +kernel⟩,
    ⟨(tFull.put (Reg.CAP_ETH_MAC_HI.link_up 0) 1).put (Reg.CAP_ETH_MAC_HI.rx_enable 0) 1, 0, [], by decide +kernel⟩,
    ⟨tVerdict, 4, { tRec with ended := true, classified := true, flight := some 3, data := List.replicate 64 0 }, { tRun 4 (.record 0 4) with path := { tPath with sweeps := 1 }, done := 1 }, tModel, by decide +kernel⟩,
    ⟨(tStream { tRec with classified := true, flight := some 3 }).withFab { tReady.fab with runs := [tRun 4 (.record 0 4)] }, 4, { tRec with classified := true, flight := some 3 }, tRun 4 (.record 0 4), tModel, ⟨3, 0, 0, 0, 0, false⟩, tClassify, by decide +kernel⟩⟩

theorem witness_RulesAreBuiltAndSwapped :
    (∃ (s : State) (v : Nat), s.bar0Open ∧ s.get Reg.SYL_STATUS.swap_pending = 0) ∧
    (∃ (s : State), s.bar0Open ∧ s.get Reg.SYL_STATUS.swap_pending = 0) ∧
    (∃ (s : State), s.bar0Open ∧ s.get Reg.SYL_STATUS.swap_pending = 0) ∧
    (∃ (s : State) (c : Instr), c ∈ [Instr.shadowDataWrite 5, .shadowClear, .shadowBuild] ∧ s.bar0Open ∧ s.get Reg.SYL_STATUS.swap_pending = 1) ∧
    (∃ (s : State), s.cap.building = true) ∧
    (∃ (s : State) (id : Nat) (f : Flight), s.startable id opBankSwap = some f ∧ dDev0 f.bytes = false) ∧
    (∃ (s : State) (id : Nat) (bank : Nat) (n : Nat) (f : Flight), s.cap.flipped = some (id, bank, n) ∧ s.flight id = some f ∧ f.stage ≠ .ended ∧ s.mirrors = false) ∧
    (∃ (s : State) (id : Nat) (k : Nat) (r : Rec), s.recOf id = some r ∧ r.classified = false ∧ r.finished = false ∧ s.isDeputy = false ∧ r.bank = some 0 ∧ (runPass (s.rules 0) 0 r).resit = some k ∧ r.pass < 2) ∧
    (∃ (s : State) (id : Nat) (r : Rec), s.recOf id = some r ∧ r.classified = false ∧ r.finished = false ∧ s.isDeputy = false) :=
  ⟨⟨tFull, 0x12345678, by decide +kernel⟩,
    ⟨tFull, by decide +kernel⟩,
    ⟨tFull, by decide +kernel⟩,
    ⟨tFull.put Reg.SYL_STATUS.swap_pending 1, .shadowClear, by decide +kernel⟩,
    ⟨tFull.withCap { tFull.cap with building := true }, by decide +kernel⟩,
    ⟨tWith (tFlight 3 9 []), 3, tFlight 3 9 [], by decide +kernel⟩,
    ⟨(tWith (tFlight 3 9 [])).withCap { tRing.cap with flipped := some (3, 1, 5) }, 3, 1, 5, tFlight 3 9 [], by decide +kernel⟩,
    ⟨(tStream { tRec with bank := some 0 }).withCap { (tStream { tRec with bank := some 0 }).cap with bank0 := [(6, 1), (66, 1), (68, 96), (128, 32)] }, 4, 0, { tRec with bank := some 0 }, by decide +kernel⟩,
    ⟨tStream tRec, 4, tRec, by decide +kernel⟩⟩

theorem witness_VerdictsAndPacketsGoOut :
    (∃ (s : State) (id : Nat) (f : Flight), s.startable id opClassify = some f ∧ (dModel f.bytes = 0xFFFF ∨ s.loadAhead (dModel f.bytes) id = false) ∧ s.modelFits f.bytes = true ∧ s.cap.standing = [] ∧ s.cap.recs = [] ∧ recordsOf f.bytes ≠ 0) ∧
    (∃ (s : State) (id : Nat) (f : Flight), s.startable id opClassify = some f ∧ (dModel f.bytes = 0xFFFF ∨ s.loadAhead (dModel f.bytes) id = false) ∧ s.modelFits f.bytes = true ∧ s.cap.standing = [] ∧ s.cap.recs = [] ∧ recordsOf f.bytes = 0) ∧
    (∃ (s : State) (id : Nat) (f : Flight), s.startable id opClassify = some f) ∧
    (∃ (s : State) (id : Nat) (f : Flight) (g : Flight) (x : Standing), s.startable id opClassify = some f ∧ (dModel f.bytes = 0xFFFF ∨ s.loadAhead (dModel f.bytes) id = false) ∧ s.modelFits f.bytes = true ∧ s.cap.standing = [x] ∧ x.stream = natAt f.bytes 24 1 % 8 ∧ x.leaving = false ∧ x.flight ≠ id ∧ s.flight x.flight = some g ∧ g.stage ≠ .ended ∧ s.cap.recs = [] ∧ recordsOf f.bytes ≠ 0) ∧
    (∃ (s : State) (id : Nat) (r : Rec) (q : Run) (f : Flight) (x : Standing), s.recOf id = some r ∧ s.run id = some q ∧ r.flight = some x.flight ∧ s.flight x.flight = some f ∧ s.standing x.flight = some x ∧ x.leaving = false ∧ recordsOf f.bytes = 0xFFFFFFFF ∧ q.failed = 0 ∧ q.path.reps ≠ [] ∧ q.total ≤ q.path.sweeps ∧ r.ended = true ∧ s.verdictDrops (s.get (Reg.HIF_SQ_CFG.cq f.sq)) r.stream = false ∧ dAddr0 f.bytes = 0 ∧ s.fab.runs.filter (fun y => decide (y.id = id)) = [q]) ∧
    (∃ (s : State) (p : Nat), p < 2 ∧ s.linksRun = true ∧ s.ethUp p = false ∧ s.cap.egress.length = 2) ∧
    (∃ (s : State) (p : Nat), p < 2 ∧ s.ethUp p = true ∧ s.cap.egress.length = 2) ∧
    (∃ (s : State) (p : Nat), p < 2 ∧ s.linksRun = false) ∧
    (∃ (s : State) (p : Nat) (b : List Byte) (pre : List (Nat × List Byte)) (post : List (Nat × List Byte)), p < 2 ∧ s.ethUp p = true ∧ s.cap.egress.length = 2 ∧ s.cap.sent = pre ++ (p, b) :: post ∧ (∀ x ∈ post, x.1 ≠ p) ∧ s.get (Reg.CAP_ETH_HOLD.hold_time p) ≠ 0 ∧ s.get (Reg.CAP_ETH_EGRESS.egress_sent p) ≠ 0) ∧
    (∃ (s : State) (p : Nat) (x : EgressPkt) (rest : List EgressPkt), p < 2 ∧ s.ethUp p = false ∧ s.cap.egress.length = 2 ∧ s.egressQueue p = x :: rest) :=
  ⟨⟨tWith (tFlight 3 6 [(28, 9), (5, 255)]), 3, tFlight 3 6 [(28, 9), (5, 255)], by decide +kernel⟩,
    ⟨tWith (tFlight 3 6 []), 3, tFlight 3 6 [], by decide +kernel⟩,
    ⟨tWith (tFlight 3 6 []), 3, tFlight 3 6 [], by decide +kernel⟩,
    ⟨(tStream tRec).withHost { tRing.host with flights := [tClassify, tFlight 5 6 [(28, 9), (5, 255)]], nextId := 7 } |>.withCap { tReady.cap with standing := [⟨3, 0, 0, 0, 0, false⟩] }, 5, tFlight 5 6 [(28, 9), (5, 255)], tClassify, ⟨3, 0, 0, 0, 0, false⟩, by decide +kernel⟩,
    ⟨tVerdict, 4, { tRec with ended := true, classified := true, flight := some 3, data := List.replicate 64 0 }, { tRun 4 (.record 0 4) with path := { tPath with sweeps := 1 }, done := 1 }, tClassify, ⟨3, 0, 0, 0, 0, false⟩, by decide +kernel⟩,
    ⟨tFull.put (Reg.CAP_ETH_MAC_HI.link_up 0) 0, 0, by decide +kernel⟩,
    ⟨tFull.put (Reg.CAP_ETH_MAC_HI.link_up 0) 1, 0, by decide +kernel⟩,
    ⟨State.reset, 1, by decide +kernel⟩,
    ⟨(((tFull.put (Reg.CAP_ETH_MAC_HI.link_up 0) 1).put (Reg.CAP_ETH_HOLD.hold_time 0) 5).put (Reg.CAP_ETH_EGRESS.egress_sent 0) 1).withCap { tFull.cap with sent := [(0, [1]), (1, [2])], sentSince := [9, 4] }, 0, [1], [], [(1, [2])], by decide +kernel⟩,
    ⟨(tFull.put (Reg.CAP_ETH_MAC_HI.link_up 0) 0).withCap { tFull.cap with egress := [[⟨[1], 0⟩], []] }, 0, ⟨[1], 0⟩, [], by decide +kernel⟩⟩

end Sys2Proof.Tests
end

/-! Register accesses of 00_scope.md: how an access that reaches its register at once gets there, what a word
holds after a write or a clearing read, by the access codes of its rows, and the frame of a mirrored write. -/

namespace Sys2Proof.Machine

open Sys2Proof

/-! A command whose unit exists; an access that reaches its register at once. -/

@[simp] theorem need_true (s : State) : need true s = .next s := rfl

theorem State.wakeEvent_of_bar0Open {s : State} (h : s.bar0Open) : s.wakeEvent = s := by
  obtain ⟨_, hRecess, hEntering⟩ := h
  simp [State.wakeEvent, hRecess, hEntering]

theorem State.viaHost_of_bar0Open {s : State} (h : s.bar0Open) (f : State → State) : s.viaHost f = f s := by
  simp [State.viaHost, h.1, State.wakeEvent_of_bar0Open h]

theorem State.barAccess_of_bar0Open {s : State} (h : s.bar0Open) (off : Nat) (f : State → State) : s.barAccess off f = f s := by
  simp [State.barAccess, h.1, State.viaHost_of_bar0Open h]

theorem State.barReadBy_of_bar0Open {s : State} (h : s.bar0Open) (off : Nat) (f : State → State) : s.barReadBy off f = f s := by
  simp [State.barReadBy, State.barAccess_of_bar0Open h]

theorem exec_registerWrite_bar0 {s : State} {fn : Nat} (hfn : fn < 9) (h : s.bar0Open) (off size v : Nat) :
    exec (.registerWrite fn (.bar0 off) size v) s = .next (s.barWrite fn off size (BitVec.ofNat 32 v)) := by
  simp [exec, execRegisterWrite, hfn, State.barAccess_of_bar0Open h]

theorem exec_rcRead_host {s : State} {fn : Nat} (hfn : fn < 9) (h : s.bar0Open) (off size : Nat) :
    exec (.rcRead (.host fn) off size) s = .next (s.barRead fn off size) := by
  simp [exec, execRcRead, hfn, State.readBy, State.barReadBy_of_bar0Open h]

theorem exec_lowHalfRead_host {s : State} {fn : Nat} (hfn : fn < 9) (h : s.bar0Open) (off : Nat) :
    exec (.lowHalfRead (.host fn) off) s = .next (s.barRead fn off 4) := by
  simp [exec, execLowHalfRead, hfn, State.readBy, State.barReadBy_of_bar0Open h]

theorem exec_rcRead_core {s : State} (h : s.svc.rstLow = false) (off size : Nat) :
    exec (.rcRead .core off size) s = .next (s.barRead 0 off size) := by
  simp [exec, execRcRead, State.readBy, h]

theorem exec_rcRead_doorbells {s : State} {fn : Nat} (hfn : fn < 9) (h : s.bar0Open) (off size : Nat) :
    exec (.rcRead (.doorbells fn) off size) s = .next (s.withLastRead 0) := by
  simp [exec, execRcRead, hfn, State.readBy, State.viaHost_of_bar0Open h]

theorem exec_rcRead_config {s : State} {fn : Nat} (hfn : fn < 9) (h : s.hostUp = true) (item : CfgItem) (off size : Nat) :
    exec (.rcRead (.config fn item) off size) s = .next (s.withLastRead (s.cfgWord fn item)) := by
  simp [exec, execRcRead, hfn, State.readBy, h]

/-! Size and alignment (00 R4). -/

theorem State.barWrite_discarded (s : State) (fn : Nat) {off size : Nat} (v : Word) (h : size ≠ 4 ∨ off % 4 ≠ 0) :
    s.barWrite fn off size v = s := by
  simp [State.barWrite, h]

theorem State.barWrite_pf (s : State) {off : Nat} (v : Word) (h : off % 4 = 0) : s.barWrite 0 off 4 v = s.pfWrite off v false := by
  simp [State.barWrite, h]

theorem State.barRead_discarded (s : State) (fn : Nat) {off size : Nat} (h : size ≠ 4 ∨ off % 4 ≠ 0) :
    s.barRead fn off size = s.withLastRead 0 := by
  simp [State.barRead, h]

theorem State.barRead_pf (s : State) {off : Nat} (h : off % 4 = 0) :
    s.barRead 0 off 4 = (s.pfRead off).2.withLastRead (s.pfRead off).1 := by
  simp [State.barRead, h]

/-! The rows of a word, and what the access codes make of it (00 R1, R6). -/

/-- The fields of the word at `off`. -/
def rowsAt (off : Nat) : List AccRow := (rowsOf off).filter (fun r => r.covers off)

theorem writtenWord_eq (cur : Word) (off : Nat) (expert : Bool) (v : Word) :
    writtenWord cur off expert v = (rowsAt off).foldl (fun acc r => r.write expert v acc) (cur, false) := rfl

theorem rcCleared_eq (cur : Word) (off : Nat) :
    rcCleared cur off = (rowsAt off).foldl (fun w r => match r.acc with
      | .rc => withField w r.lo r.width (fieldOf (resetWord off) r.lo r.width)
      | _ => w) cur := rfl

theorem readableWord_eq (cur : Word) (off : Nat) :
    readableWord cur off = (rowsAt off).foldl (fun w r => match r.acc with
      | .wo => w
      | _ => withField w r.lo r.width (fieldOf cur r.lo r.width)) 0 := rfl

/-- A fold none of whose steps moves the start ends there. -/
theorem foldl_eq_start {α β : Type} {f : α → β → α} {a : α} {l : List β} (h : ∀ b ∈ l, f a b = a) : l.foldl f a = a := by
  induction l with
  | nil => rfl
  | cons b l ih => rw [List.foldl_cons, h b List.mem_cons_self, ih (fun c hc => h c (List.mem_cons_of_mem b hc))]

/-- A write of a word of read-only fields changes nothing and offends nothing. -/
theorem writtenWord_of_ro {off : Nat} (h : ∀ r ∈ rowsAt off, r.acc = .ro) (cur : Word) (expert : Bool) (v : Word) :
    writtenWord cur off expert v = (cur, false) := by
  rw [writtenWord_eq]
  exact foldl_eq_start (fun r hr => by simp only [AccRow.write, h r hr])

/-- A clearing read leaves a word without RC fields. -/
theorem rcCleared_of_no_rc {off : Nat} (h : ∀ r ∈ rowsAt off, r.acc ≠ .rc) (cur : Word) : rcCleared cur off = cur := by
  rw [rcCleared_eq]
  refine foldl_eq_start (fun r hr => ?_)
  have hacc := h r hr
  split
  · contradiction
  · rfl

theorem fieldOf_mod (w : Word) (lo width : Nat) : fieldOf w lo width % 2 ^ width = fieldOf w lo width :=
  Nat.mod_mod _ _

theorem fieldOf_ofNat (v : Nat) {lo width : Nat} (h : lo + width ≤ 32) :
    fieldOf (BitVec.ofNat 32 v) lo width = v / 2 ^ lo % 2 ^ width := by
  apply Nat.eq_of_testBit_eq
  intro i
  rw [testBit_fieldOf, Nat.testBit_mod_two_pow, Nat.testBit_div_two_pow, BitVec.getLsbD_ofNat]
  by_cases hi : i < width
  · have : lo + i < 32 := by omega
    simp [hi, this, Nat.add_comm]
  · simp [hi]

theorem intCause_rows : rowsAt 0x200 = [⟨0x200, 0, 1, 0, 1, 0, 16, .w1c, false, 0, 65535, [], 1⟩] := by decide +kernel

theorem intEnable_rows : rowsAt 0x204 = [⟨0x204, 0, 1, 0, 1, 0, 16, .rw, false, 0, 65535, [], 1⟩] := by decide +kernel

theorem fetchCfg_rows : rowsAt 0x10010 = [⟨0x10010, 0, 1, 0, 1, 0, 8, .rw, true, 0, 255, [], 1⟩,
    ⟨0x10010, 0, 1, 0, 1, 8, 5, .rw, true, 1, 16, [], 1⟩] := by decide +kernel

theorem faultCount_rows : rowsAt 0x20030 = [⟨0x20030, 0, 1, 0, 1, 0, 16, .rc, false, 0, 65535, [], 1⟩,
    ⟨0x20030, 0, 1, 0, 1, 16, 16, .rc, false, 0, 65535, [], 1⟩] := by decide +kernel

theorem hifStatus_rows : rowsAt 0x1000C = [⟨0x1000C, 0, 1, 0, 1, 0, 12, .ro, false, 0, 4095, [], 1⟩,
    ⟨0x1000C, 0, 1, 0, 1, 16, 16, .rc, false, 0, 65535, [], 1⟩] := by decide +kernel

/-- The identity words of chapter 01, GLB_ID to GLB_SERIAL, are read-only. -/
theorem identity_rows_ro {off : Nat} (h : off < 0x20) : ∀ r ∈ rowsAt off, r.acc = .ro := by
  have all : ∀ o : Fin 0x20, ∀ r ∈ rowsAt o, r.acc = .ro := by decide +kernel
  exact all ⟨off, h⟩

/-! Frames of a register word set field by field. -/

theorem State.only_setWord_word (s : State) (off : Nat) : s.only (s.setWord off (s.word off)) [] := by
  obtain ⟨_, hparts⟩ := s.only_setWord off (s.word off)
  refine ⟨fun o i _ _ => ?_, fun p _ => hparts p (by simp)⟩
  by_cases ho : o = off
  · rw [ho, State.word_setWord_self]
  · rw [State.word_setWord_ne s _ ho]

/-- One more field of the word set, whose place the frame holds. -/
theorem State.only_setWord_withField {s : State} {off : Nat} {w : Word} {l : List Place} (h : s.only (s.setWord off w) l)
    {lo width : Nat} (v : Nat) (hf : .fld ⟨off, lo, width⟩ ∈ l) : s.only (s.setWord off (withField w lo width v)) l := by
  obtain ⟨hbits, hparts⟩ := h
  refine ⟨fun o i hi hn => ?_, hparts⟩
  have hbit := hbits o i hi hn
  by_cases ho : o = off
  · subst ho
    have hout := hn _ hf
    simp only [Place.holds, decide_true, Bool.true_and, Bool.and_eq_false_iff, decide_eq_false_iff_not] at hout
    rw [State.word_setWord_self] at hbit ⊢
    rw [getLsbD_withField _ _ _ _ _ hi, if_neg (by omega), hbit]
  · rw [State.word_setWord_ne s _ ho]

/-- A word no bit of which lies in a place of the frame reads as before. -/
theorem State.only.word_of_holds {s t : State} {l : List Place} (h : s.only t l) {off : Nat}
    (hl : ∀ p ∈ l, ∀ i, p.holds off i = false) : t.word off = s.word off :=
  BitVec.eq_of_getLsbD_eq (fun i hi => h.1 off i hi (fun p hp => hl p hp i))

/-! Mirroring to a Deputy (11 Table 11-6). -/

theorem State.only_mapPort (s : State) (p : Nat) (g : AkPort → AkPort) : s.only (s.mapPort p g) [.part .akg] :=
  s.only_withAkg _

theorem State.only_drainPort (s : State) (p : Nat) :
    s.only (s.drainPort p) [.fld (Reg.AKG_PORT_RETRAIN.replay_fill p), .part .akg, .part .fresh] := by
  unfold State.drainPort State.showFill
  split
  · exact (State.only.refl s).mono (by simp)
  · refine State.only.step (State.only.mono (l := [.part .akg, .part .fresh]) ?_ (by simp)) (State.only_put _ _ _) (by simp)
    refine State.only_each _ (fun x f => ?_) _ s
    dsimp only
    split
    · exact (x.only_mapPort p _).trans (State.only_withFresh _ _)
    · exact (State.only.refl x).mono (by simp)

theorem State.only_sendOn (s : State) (p : Nat) (f : AkFrame) :
    s.only (s.sendOn p f) [.fld (Reg.AKG_PORT_RETRAIN.replay_fill p), .part .akg, .part .fresh] :=
  ((s.only_mapPort p _).mono (by simp)).step (State.only_drainPort _ p) (by simp)

theorem State.only_sendPair (s : State) (cls : Nat) (m : AkMsg) : s.only (s.sendPair cls m) cfgPlaces := s.only_sendOn 0 _

theorem State.only_mirrorMsg (s : State) (m : AkMsg) : s.only (s.mirrorMsg m) cfgPlaces :=
  State.only_ite (s.only_sendPair 2 m) ((State.only.refl s).mono (by simp))

theorem State.only_mirrorWrite (s : State) (off v : Nat) (expert : Bool) : s.only (s.mirrorWrite off v expert) cfgPlaces :=
  State.only_ite (s.only_mirrorMsg _) ((State.only.refl s).mono (by simp))

/-! Writes of the PF. -/

/-- GLB words are not mirrored. -/
theorem State.pfWrite_glb (s : State) {off : Nat} (v : Word) (tap : Bool) (h : off < 0x10000) : s.pfWrite off v tap = s.glbWrite off v := by
  have hblock : off / 0x10000 = 0 := Nat.div_eq_of_lt h
  have hmirror (t : State) : t.isMirrored off = false := by simp [State.isMirrored, Nat.not_le.mpr h]
  simp [State.pfWrite, State.cfgWrite, State.mirrorWrite, State.when_, hmirror, State.regWrite, hblock]

theorem State.glbWrite_plain (s : State) {off : Nat} (v : Word) (h : off ≠ 0x108 ∧ off ≠ 0x10C ∧ off ≠ 0x114) :
    s.glbWrite off v = s.plainReg off v := by
  simp [State.glbWrite, h]

theorem State.resetWrite_unkeyed (s : State) {v : Word} (h : fieldOf v 16 16 ≠ 0xA5C3) : s.resetWrite v = s := by
  simp [State.resetWrite, h]

theorem State.pfWrite_fetchCfg (s : State) (v : Word) : s.pfWrite 0x10010 v false =
    (s.plainReg 0x10010 v).mirrorWrite 0x10010 v.toNat (s.expert blk.hif) := by
  simp [State.pfWrite, State.cfgWrite, State.regWrite, State.hifWrite, pair64, blk.hif]

theorem State.plainReg_intCause (s : State) (v : Word) : s.plainReg 0x200 v =
    s.put Reg.GLB_INT_CAUSE.cause (fieldOf (s.word 0x200) 0 16 &&& (65535 - fieldOf v 0 16)) := by
  simp [State.plainReg, writtenWord_eq, intCause_rows, AccRow.write, State.put, Reg.GLB_INT_CAUSE.cause]

theorem State.plainReg_intEnable (s : State) (v : Word) : s.plainReg 0x204 v = s.put Reg.GLB_INT_ENABLE.enable (fieldOf v 0 16) := by
  have hlegal : fieldOf v 0 16 ≤ 65535 := Nat.le_of_lt_succ (Nat.mod_lt _ (by decide))
  simp [State.plainReg, writtenWord_eq, intEnable_rows, AccRow.write, AccRow.legal, hlegal, State.put, Reg.GLB_INT_ENABLE.enable, Nat.mod_one]

/-- HIF_FETCH_CFG outside Expert keeps both fields. -/
theorem writtenWord_fetchCfg_locked (cur v : Word) : (writtenWord cur 0x10010 false v).1 = cur := by
  simp [writtenWord_eq, fetchCfg_rows, AccRow.write]

/-- HIF_FETCH_CFG in Expert: every urgent_reserve is legal, and a fetch_burst from 1 to 16. -/
theorem writtenWord_fetchCfg_expert (cur v : Word) : (writtenWord cur 0x10010 true v).1 =
    if 1 ≤ fieldOf v 8 5 ∧ fieldOf v 8 5 ≤ 16 then withField (withField cur 0 8 (fieldOf v 0 8)) 8 5 (fieldOf v 8 5)
    else withField cur 0 8 (fieldOf v 0 8) := by
  have hlegal : fieldOf v 0 8 ≤ 255 := Nat.le_of_lt_succ (Nat.mod_lt _ (by decide))
  by_cases hburst : 1 ≤ fieldOf v 8 5 ∧ fieldOf v 8 5 ≤ 16 <;>
    simp [writtenWord_eq, fetchCfg_rows, AccRow.write, AccRow.legal, hlegal, Nat.mod_one, hburst]

theorem State.only_plainReg_fetchCfg (s : State) (v : Word) :
    s.only (s.plainReg 0x10010 v) [.fld Reg.HIF_FETCH_CFG.urgent_reserve, .fld Reg.HIF_FETCH_CFG.fetch_burst] := by
  have hkeep : s.only (s.setWord 0x10010 (s.word 0x10010))
      [.fld Reg.HIF_FETCH_CFG.urgent_reserve, .fld Reg.HIF_FETCH_CFG.fetch_burst] :=
    (s.only_setWord_word 0x10010).mono (by simp)
  have hreserve := State.only_setWord_withField hkeep (fieldOf v 0 8) (List.mem_cons_self)
  unfold State.plainReg
  cases s.expert (0x10010 / 0x10000) with
  | false => rwa [writtenWord_fetchCfg_locked]
  | true =>
    rw [writtenWord_fetchCfg_expert]
    split
    · exact State.only_setWord_withField hreserve _ (by simp [Reg.HIF_FETCH_CFG.fetch_burst])
    · exact hreserve

/-- A write of the identity words, and of GLB_RESET without its key, is discarded (00 R1, 05 R130). -/
theorem State.only_pfWrite_discarded (s : State) {off : Nat} {v : Word} (h : off < 0x20 ∨ (off = 0x108 ∧ fieldOf v 16 16 ≠ 0xA5C3)) :
    s.only (s.pfWrite off v false) [] := by
  rcases h with hro | ⟨rfl, hkey⟩
  · rw [s.pfWrite_glb v false (by omega), s.glbWrite_plain v (by omega), State.plainReg, writtenWord_of_ro (identity_rows_ro hro)]
    exact s.only_setWord_word off
  · rw [s.pfWrite_glb v false (by omega), State.glbWrite, if_pos rfl, s.resetWrite_unkeyed hkey]
    exact State.only.refl s

theorem State.pfWrite_plain_glb (s : State) {off : Nat} (v : Word) (h : off = 0x200 ∨ off = 0x204) :
    s.pfWrite off v false = s.plainReg off v := by
  rw [s.pfWrite_glb v false (by omega), s.glbWrite_plain v (by omega)]

/-! One lemma for each clause of REGISTER_WRITE. -/

theorem write_intCause_clears_ones (s : State) (v : Nat) (h : s.bar0Open) :
    ∃ t, exec (.registerWrite 0 (.bar0 0x200) 4 v) s = .next t ∧
      (∀ i, i < 16 → (t.word 0x200).getLsbD i = ((s.word 0x200).getLsbD i && !v.testBit i)) ∧
      s.only t [.fld Reg.GLB_INT_CAUSE.cause] := by
  refine ⟨_, exec_registerWrite_bar0 (by decide) h _ _ _, fun i hi => ?_, ?_⟩ <;>
    rw [State.barWrite_pf _ _ rfl, State.pfWrite_plain_glb _ _ (.inl rfl), State.plainReg_intCause]
  · have hmask : (65535 - fieldOf (BitVec.ofNat 32 v) 0 16).testBit i = !v.testBit i := by
      have hlt : fieldOf (BitVec.ofNat 32 v) 0 16 < 2 ^ 16 := Nat.mod_lt _ (by decide)
      rw [show 65535 - fieldOf (BitVec.ofNat 32 v) 0 16 = 2 ^ 16 - (fieldOf (BitVec.ofNat 32 v) 0 16 + 1) by omega,
        Nat.testBit_two_pow_sub_succ hlt, testBit_fieldOf, BitVec.getLsbD_ofNat]
      have : i < 32 := by omega
      simp [hi, this]
    rw [show (0x200 : Nat) = Reg.GLB_INT_CAUSE.cause.off from rfl, State.word_put_self, getLsbD_withField _ _ _ _ _ (by omega)]
    simp [Reg.GLB_INT_CAUSE.cause, hi, Nat.testBit_and, hmask, testBit_fieldOf]
  · exact s.only_put _ _

theorem write_intEnable_takes_value (s : State) (v : Nat) (h : s.bar0Open) :
    ∃ t, exec (.registerWrite 0 (.bar0 0x204) 4 v) s = .next t ∧
      t.get Reg.GLB_INT_ENABLE.enable = v % 65536 ∧ s.only t [.fld Reg.GLB_INT_ENABLE.enable] := by
  refine ⟨_, exec_registerWrite_bar0 (by decide) h _ _ _, ?_, ?_⟩ <;>
    rw [State.barWrite_pf _ _ rfl, State.pfWrite_plain_glb _ _ (.inr rfl), State.plainReg_intEnable]
  · rw [State.get_put_self _ _ _ (by decide), fieldOf_ofNat v (by decide)]
    simp [Reg.GLB_INT_ENABLE.enable]
  · exact s.only_put _ _

theorem write_fetchCfg_needs_expert (s : State) (v : Nat) (h : s.bar0Open) :
    ∃ t, exec (.registerWrite 0 (.bar0 0x10010) 4 v) s = .next t ∧
      (s.expert blk.hif = true → t.get Reg.HIF_FETCH_CFG.urgent_reserve = v % 256 ∧
        t.get Reg.HIF_FETCH_CFG.fetch_burst =
          (if 1 ≤ v / 256 % 32 ∧ v / 256 % 32 ≤ 16 then v / 256 % 32 else s.get Reg.HIF_FETCH_CFG.fetch_burst)) ∧
      (s.expert blk.hif = false → t.word 0x10010 = s.word 0x10010) ∧
      s.only t (([.fld Reg.HIF_FETCH_CFG.urgent_reserve, .fld Reg.HIF_FETCH_CFG.fetch_burst] : List Place) ++ cfgPlaces) := by
  refine ⟨_, exec_registerWrite_bar0 (by decide) h _ _ _, ?_⟩
  rw [State.barWrite_pf _ _ rfl, State.pfWrite_fetchCfg]
  have hmirror := (s.plainReg 0x10010 (BitVec.ofNat 32 v)).only_mirrorWrite 0x10010 (BitVec.ofNat 32 v).toNat (s.expert blk.hif)
  have hframe := (s.only_plainReg_fetchCfg (BitVec.ofNat 32 v)).trans hmirror
  generalize (s.plainReg 0x10010 (BitVec.ofNat 32 v)).mirrorWrite 0x10010 _ _ = t at hmirror hframe ⊢
  have hword := hmirror.word_of_holds (off := 0x10010) (by simp [cfgPlaces, Place.holds, Reg.AKG_PORT_RETRAIN.replay_fill])
  have hplain : (s.plainReg 0x10010 (BitVec.ofNat 32 v)).word 0x10010 =
      (writtenWord (s.word 0x10010) 0x10010 (s.expert blk.hif) (BitVec.ofNat 32 v)).1 := State.word_setWord_self _ _ _
  rw [hplain] at hword
  refine ⟨fun hexpert => ?_, fun hexpert => ?_, hframe⟩
  · have hreserve : fieldOf (BitVec.ofNat 32 v) 0 8 = v % 256 := (fieldOf_ofNat v (by decide)).trans (by simp)
    have hburst : fieldOf (BitVec.ofNat 32 v) 8 5 = v / 256 % 32 := fieldOf_ofNat v (by decide)
    rw [hexpert, writtenWord_fetchCfg_expert, hreserve, hburst] at hword
    simp only [State.get, Reg.HIF_FETCH_CFG.urgent_reserve, Reg.HIF_FETCH_CFG.fetch_burst, hword]
    split
    · rw [fieldOf_withField_ne _ _ (by decide) (by decide), fieldOf_withField_self _ _ (by decide),
        fieldOf_withField_self _ _ (by decide)]
      exact ⟨Nat.mod_mod _ _, Nat.mod_mod _ _⟩
    · rw [fieldOf_withField_self _ _ (by decide), fieldOf_withField_ne _ _ (by decide) (by decide)]
      exact ⟨Nat.mod_mod _ _, rfl⟩
  · rw [hword, hexpert, writtenWord_fetchCfg_locked]

theorem write_discarded (s : State) (off size v : Nat) (h : s.bar0Open)
    (hd : size ≠ 4 ∨ off % 4 ≠ 0 ∨ off < 0x20 ∨ (off = 0x108 ∧ v / 65536 % 65536 ≠ 0xA5C3)) :
    ∃ t, exec (.registerWrite 0 (.bar0 off) size v) s = .next t ∧ s.only t [] := by
  refine ⟨_, exec_registerWrite_bar0 (by decide) h _ _ _, ?_⟩
  by_cases hsize : size ≠ 4 ∨ off % 4 ≠ 0
  · rw [s.barWrite_discarded 0 _ hsize]
    exact State.only.refl s
  · obtain ⟨rfl, halign⟩ : size = 4 ∧ off % 4 = 0 := by omega
    rw [s.barWrite_pf _ halign]
    refine s.only_pfWrite_discarded ?_
    rw [fieldOf_ofNat v (by decide)]
    omega

theorem write_vf_intEnable (s : State) (fn v : Nat) (h1 : 1 ≤ fn) (h8 : fn ≤ 8) (hlen : s.host.vfEnable.length = 8) (h : s.bar0Open) :
    ∃ t, exec (.registerWrite fn (.bar0 0x204) 4 v) s = .next t ∧ t.enables fn = v % 65536 ∧ s.only t [.part .host] := by
  have hfn : fn ≠ 0 := by omega
  have hidx : fn - 1 < s.host.vfEnable.length := by omega
  have hmask : (BitVec.ofNat 32 v &&& 0xFFFF).toNat = v % 65536 := by
    rw [BitVec.toNat_and, BitVec.toNat_ofNat, show BitVec.toNat (0xFFFF : Word) = 2 ^ 16 - 1 from rfl, Nat.and_two_pow_sub_one_eq_mod]
    omega
  refine ⟨_, exec_registerWrite_bar0 (by omega) h _ _ _, ?_, ?_⟩ <;>
    rw [State.barWrite, if_neg (by decide), if_neg hfn, State.vfWrite, if_neg (by decide), if_pos rfl]
  · rw [State.enables, if_neg hfn, State.withHost_host, List.getD_eq_getElem?_getD, List.getElem?_set_self hidx, Option.getD_some, hmask]
  · exact s.only_withHost _

theorem doorbellPage_sq {n : Nat} (hn : n < 64) : doorbellPage (0x1000 * n) 4 = some (false, n) := by
  rw [doorbellPage, if_neg (by omega), if_pos (by omega), show 0x1000 * n / 0x1000 = n by omega]

theorem doorbellPage_cq {n : Nat} (hn : n < 64) : doorbellPage (0x40000 + 0x1000 * n) 4 = some (true, n) := by
  rw [doorbellPage, if_neg (by omega), if_neg (by omega), show (0x40000 + 0x1000 * n - 0x40000) / 0x1000 = n by omega]

theorem write_sq_page_is_sqDoorbell (s : State) (fn n v : Nat) (hfn : fn < 9) (hn : n < 64) :
    ∃ t, exec (.registerWrite fn (.bar2 (0x1000 * n)) 4 v) s = .next t ∧ exec (.sqDoorbell fn n v) s = .next t :=
  ⟨s.viaHost (fun t => t.doorbell false fn n (v % 2 ^ 16)), by simp [exec, execRegisterWrite, hfn, doorbellPage_sq hn],
    by simp [exec, execSqDoorbell, hfn, hn]⟩

theorem write_cq_page_is_cqDoorbell (s : State) (fn n v : Nat) (hfn : fn < 9) (hn : n < 64) :
    ∃ t, exec (.registerWrite fn (.bar2 (0x40000 + 0x1000 * n)) 4 v) s = .next t ∧ exec (.cqDoorbell fn n v) s = .next t :=
  ⟨s.viaHost (fun t => t.doorbell true fn n (v % 2 ^ 16)), by simp [exec, execRegisterWrite, hfn, doorbellPage_cq hn],
    by simp [exec, execCqDoorbell, hfn, hn]⟩

theorem write_aspmL1 (s : State) (on : Bool) (h : s.hostUp = true) :
    ∃ t, exec (.registerWrite 0 (.config (.aspmL1 on)) 4 0) s = .next t ∧
      t.host = { s.host with aspmL1 := on } ∧ s.only t [.part .host] := by
  refine ⟨s.withHost { s.host with aspmL1 := on }, ?_, rfl, s.only_withHost _⟩
  simp [exec, execRegisterWrite, h, State.cfgSet]

/-- Settles O27, clause by clause: each access reaches its word at once, and the word's rows say what the write makes of it. -/
theorem registerWritesFollowTheirCodes : Obligations.RegisterWritesFollowTheirCodes :=
  ⟨write_intCause_clears_ones, write_intEnable_takes_value, write_fetchCfg_needs_expert, write_discarded, write_vf_intEnable,
    write_sq_page_is_sqDoorbell, write_cq_page_is_cqDoorbell, write_aspmL1⟩

/-! Reads of the PF. -/

theorem State.latchRead_single (s : State) {off : Nat} (h : pair64 off = none) : s.latchRead off = (s.regRead off, s) := by
  simp [State.latchRead, h]

theorem State.latchRead_low (s : State) {off : Nat} (h : pair64 off = some off) :
    s.latchRead off = (s.regRead off, s.withLatch (Store.write noHalf s.latch (off + 4) (some (s.regRead (off + 4))))) := by
  simp [State.latchRead, h]

theorem State.latchRead_high (s : State) {off lo : Nat} (h : pair64 off = some lo) (hlo : off ≠ lo) :
    s.latchRead off = ((Store.read noHalf s.latch off).getD (s.regRead off), s.withLatch (Store.write noHalf s.latch off none)) := by
  simp [State.latchRead, h, hlo]

/-- Below the memory block a read clears the RC fields of its own word and nothing else. -/
theorem State.readClears_of_lt (s : State) {off : Nat} (h : off < 0x80000) :
    s.readClears off = s.setWord off (rcCleared (s.word off) off) := by
  rw [State.readClears, if_neg (by omega), if_neg (by omega), if_neg]
  rw [inRange, if_neg (by decide)]
  simp only [ Bool.and_eq_true, decide_eq_true_eq]
  omega

theorem State.only_readClears_of_no_rc (s : State) {off : Nat} (h : off < 0x80000) (hrc : ∀ r ∈ rowsAt off, r.acc ≠ .rc) :
    s.only (s.readClears off) [] := by
  rw [s.readClears_of_lt h, rcCleared_of_no_rc hrc]
  exact s.only_setWord_word off

theorem readableWord_faultCount (w : Word) : readableWord w 0x20030 = w := by
  apply BitVec.eq_of_getLsbD_eq
  intro i hi
  simp only [readableWord_eq, faultCount_rows, List.foldl_cons, List.foldl_nil]
  rw [getLsbD_withField _ _ _ _ _ hi, getLsbD_withField _ _ _ _ _ hi, testBit_fieldOf, testBit_fieldOf]
  by_cases hlow : i < 16
  · simp [hlow, show ¬ 16 ≤ i by omega]
  · simp [hi, show 16 ≤ i by omega, show i - 16 < 16 by omega, show 16 + (i - 16) = i by omega]

theorem rcCleared_faultCount (w : Word) : rcCleared w 0x20030 = withField (withField w 0 16 0) 16 16 0 := by
  have hreset : resetWord 0x20030 = 0 := by decide +kernel
  simp [rcCleared_eq, faultCount_rows, hreset, fieldOf]

theorem readableWord_hifStatus (w : Word) :
    readableWord w 0x1000C = withField (withField 0 0 12 (fieldOf w 0 12)) 16 16 (fieldOf w 16 16) := by
  simp [readableWord_eq, hifStatus_rows]

theorem rcCleared_hifStatus (w : Word) : rcCleared w 0x1000C = withField w 16 16 0 := by
  have hreset : resetWord 0x1000C = 0 := by decide +kernel
  simp [rcCleared_eq, hifStatus_rows, hreset, fieldOf]

theorem State.pfRead_faultCount (s : State) :
    s.pfRead 0x20030 = (s.word 0x20030, s.setWord 0x20030 (withField (withField (s.word 0x20030) 0 16 0) 16 16 0)) := by
  rw [State.pfRead, s.latchRead_single (by decide), s.readClears_of_lt (by decide), rcCleared_faultCount]
  simp [State.regRead, inRange, readableWord_faultCount]

theorem State.pfRead_hifStatus (s : State) :
    s.pfRead 0x1000C = (readableWord (s.word 0x1000C) 0x1000C, s.setWord 0x1000C (withField (s.word 0x1000C) 16 16 0)) := by
  rw [State.pfRead, s.latchRead_single (by decide), s.readClears_of_lt (by decide), rcCleared_hifStatus]
  simp [State.regRead, inRange]

/-! One lemma for each clause of RC_READ and LOW_HALF_READ. -/

theorem read_faultCount_clears (s : State) (h : s.bar0Open) :
    ∃ t, exec (.rcRead (.host 0) 0x20030 4) s = .next t ∧ t.lastRead = s.word 0x20030 ∧
      t.get Reg.FAB_FAULT_COUNT.parity_faults = 0 ∧ t.get Reg.FAB_FAULT_COUNT.residue_faults = 0 ∧
      s.only t [.fld Reg.FAB_FAULT_COUNT.parity_faults, .fld Reg.FAB_FAULT_COUNT.residue_faults, .part .lastRead] := by
  refine ⟨_, exec_rcRead_host (by decide) h _ _, ?_⟩
  rw [s.barRead_pf rfl, s.pfRead_faultCount]
  have hkeep : s.only (s.setWord 0x20030 (s.word 0x20030))
      [.fld Reg.FAB_FAULT_COUNT.parity_faults, .fld Reg.FAB_FAULT_COUNT.residue_faults, .part .lastRead] :=
    (s.only_setWord_word 0x20030).mono (by simp)
  have hclear := State.only_setWord_withField (State.only_setWord_withField hkeep (lo := 0) (width := 16) 0
    (by simp [Reg.FAB_FAULT_COUNT.parity_faults])) (lo := 16) (width := 16) 0 (by simp [Reg.FAB_FAULT_COUNT.residue_faults])
  refine ⟨rfl, ?_, ?_, hclear.step (State.only_withLastRead _ _) (by simp)⟩ <;>
    simp only [State.withLastRead_word, State.get, Reg.FAB_FAULT_COUNT.parity_faults, Reg.FAB_FAULT_COUNT.residue_faults,
      State.word_setWord_self]
  · rw [fieldOf_withField_ne _ _ (by decide) (by decide), fieldOf_withField_self _ _ (by decide), Nat.zero_mod]
  · rw [fieldOf_withField_self _ _ (by decide), Nat.zero_mod]

theorem read_hifStatus_by_core (s : State) (h : s.svc.rstLow = false) :
    ∃ t, exec (.rcRead .core 0x1000C 4) s = .next t ∧
      fieldOf t.lastRead 16 16 = s.get Reg.HIF_STATUS.backpressure ∧ fieldOf t.lastRead 0 12 = s.get Reg.HIF_STATUS.inflight ∧
      t.get Reg.HIF_STATUS.backpressure = 0 ∧ s.only t [.fld Reg.HIF_STATUS.backpressure, .part .lastRead] := by
  refine ⟨_, exec_rcRead_core h _ _, ?_⟩
  rw [s.barRead_pf rfl, s.pfRead_hifStatus]
  have hkeep : s.only (s.setWord 0x1000C (s.word 0x1000C)) [.fld Reg.HIF_STATUS.backpressure, .part .lastRead] :=
    (s.only_setWord_word 0x1000C).mono (by simp)
  have hclear := State.only_setWord_withField hkeep (lo := 16) (width := 16) 0 (by simp [Reg.HIF_STATUS.backpressure])
  refine ⟨?_, ?_, ?_, hclear.step (State.only_withLastRead _ _) (by simp)⟩
  · rw [State.withLastRead_lastRead, readableWord_hifStatus, fieldOf_withField_self _ _ (by decide), fieldOf_mod]
    rfl
  · rw [State.withLastRead_lastRead, readableWord_hifStatus, fieldOf_withField_ne _ _ (by decide) (by decide),
      fieldOf_withField_self _ _ (by decide), fieldOf_mod]
    rfl
  · simp only [State.withLastRead_word, State.get, Reg.HIF_STATUS.backpressure, State.word_setWord_self]
    rw [fieldOf_withField_self _ _ (by decide), Nat.zero_mod]

theorem read_discarded (s : State) (size off : Nat) (h : s.bar0Open) (hd : size ≠ 4 ∨ off % 4 ≠ 0) :
    ∃ t, exec (.rcRead (.host 0) off size) s = .next t ∧ t.lastRead = 0 ∧ s.only t [.part .lastRead] := by
  refine ⟨_, exec_rcRead_host (by decide) h _ _, ?_⟩
  rw [s.barRead_discarded 0 hd]
  exact ⟨rfl, s.only_withLastRead 0⟩

/-- The frame of a read that takes or fills a latch and clears nothing. -/
theorem State.only_latched_read (s : State) {off : Nat} (hoff : off < 0x80000) (hrc : ∀ r ∈ rowsAt off, r.acc ≠ .rc)
    (c : Store (Option Word)) (w : Word) : s.only (((s.withLatch c).readClears off).withLastRead w) [.part .lastRead, .part .latch] :=
  (((s.only_withLatch c).trans (State.only_readClears_of_no_rc _ hoff hrc)).trans (State.only_withLastRead _ w)).mono (by simp)

theorem read_time_latches (s : State) (h : s.bar0Open) :
    ∃ t, exec (.lowHalfRead (.host 0) 0x210) s = .next t ∧ t.lastRead = BitVec.ofNat 32 s.time ∧
      Store.read noHalf t.latch 0x214 = some (BitVec.ofNat 32 (s.time / 2 ^ 32)) ∧
      (∀ k, k ≠ 0x214 → Store.read noHalf t.latch k = Store.read noHalf s.latch k) ∧
      s.only t [.part .lastRead, .part .latch] := by
  refine ⟨_, exec_lowHalfRead_host (by decide) h _, ?_⟩
  rw [s.barRead_pf rfl, State.pfRead, s.latchRead_low (by decide)]
  refine ⟨rfl, ?_, fun k hk => ?_, s.only_latched_read (by decide) (by decide +kernel) _ _⟩ <;>
    rw [State.withLastRead_latch, State.readClears_of_lt _ (by decide), State.setWord_latch, State.withLatch_latch]
  · exact Store.read_write_self _ _ _
  · exact Store.read_write_ne _ _ hk

theorem read_time_takes_latch (s : State) (w : Word) (h : s.bar0Open) (hw : Store.read noHalf s.latch 0x214 = some w) :
    ∃ t, exec (.rcRead (.host 0) 0x214 4) s = .next t ∧ t.lastRead = w ∧ Store.read noHalf t.latch 0x214 = none ∧
      s.only t [.part .lastRead, .part .latch] := by
  refine ⟨_, exec_rcRead_host (by decide) h _ _, ?_⟩
  rw [s.barRead_pf rfl, State.pfRead, s.latchRead_high (lo := 0x210) (by decide) (by decide), hw]
  refine ⟨rfl, ?_, s.only_latched_read (by decide) (by decide +kernel) _ _⟩
  rw [State.withLastRead_latch, State.readClears_of_lt _ (by decide), State.setWord_latch, State.withLatch_latch]
  exact Store.read_write_self _ _ _

/-- Settles O28, clause by clause: what the read returns, the RC fields it clears, and the half it latches or takes. -/
theorem readsClearAndLatch : Obligations.ReadsClearAndLatch :=
  ⟨read_faultCount_clears, read_hifStatus_by_core, read_discarded, read_time_latches, read_time_takes_latch,
    fun s _ off size hfn h => ⟨_, exec_rcRead_doorbells hfn h off size, rfl, s.only_withLastRead 0⟩,
    fun s _ off size item hfn h => ⟨_, exec_rcRead_config hfn h item off size, rfl, s.only_withLastRead _⟩⟩

end Sys2Proof.Machine

/-! The GP link of chapter 01 (R11 to R13): what a frame, a refusal and an idle slot make of the two sides, and
how GLD1 applies a mirrored mgmt_state. Then the unlock key over PMBus and the loss of the capture clock, whose statements fail. -/

namespace Sys2Proof.Machine

open Sys2Proof

/-! The two sides of the link. -/

theorem GpSide.receive_refused (g : GpSide) {seq : Nat} {ok : Bool} (h : ok = false ∨ seq ≠ g.expect) :
    g.receive seq ok = ({ g with refusals := g.refusals ++ [g.expect], validRun := 0 }, false) := by
  have hnot : (ok && decide (seq = g.expect)) = false := by
    rcases h with rfl | h
    · rfl
    · simp [h]
  simp [GpSide.receive, hnot]

theorem GpSide.receive_taken (g : GpSide) {seq : Nat} (h : seq = g.expect) :
    g.receive seq true = ({ g with expect := (seq + 1) % 256, validRun := g.validRun + 1 }, true) := by
  simp [GpSide.receive, h]

theorem GpSide.send_other (g : GpSide) {seq : Nat} (m : GpMsg) (h : seq ≠ g.nextSeq) : g.send seq m = g := if_neg h

theorem GpSide.send_nextSeq (g : GpSide) {seq : Nat} (m : GpMsg) (h : seq = g.nextSeq) :
    (g.send seq m).nextSeq = (seq + 1) % 256 := by
  simp only [GpSide.send, if_pos h]

theorem GpSide.resend_unknown (g : GpSide) {n : Nat} (h : g.sent.findIdx? (fun x => decide (x.1 = n)) = none) :
    g.resend n = (g, 0) := by
  simp only [GpSide.resend, h]

theorem GpSide.resend_known (g : GpSide) {n i : Nat} (h : g.sent.findIdx? (fun x => decide (x.1 = n)) = some i) :
    g.resend n = ({ g with nextSeq := n, sent := g.sent.take i, queue := (g.sent.drop i).map (·.2) ++ g.queue }, g.sent.length - i) := by
  simp only [GpSide.resend, h]

/-! A frame on its way to GLD1, and to PSH2. -/

theorem exec_frame_toGld_refused {s : State} {seq : Nat} {ok : Bool} {m : GpMsg} (hruns : s.gpRuns = true)
    (htakes : s.gpTakes true m = true) (h : ok = false ∨ seq % 256 ≠ s.gpGld.expect) :
    exec (.gpLinkFrame true seq ok m) s = .next ((s.withGpPsh (s.gpPsh.send (seq % 256) m)).withGpGld
      { s.gpGld with refusals := s.gpGld.refusals ++ [s.gpGld.expect], validRun := 0 }) := by
  change Host.Outcome.next (s.gpFrame true (seq % 256) ok m) = _
  simp [State.gpFrame, State.gpExchange, hruns, htakes, s.gpGld.receive_refused h]

theorem exec_frame_toPsh_refused {s : State} {seq : Nat} {ok : Bool} {m : GpMsg} (hruns : s.gpRuns = true)
    (htakes : s.gpTakes false m = true) (h : ok = false ∨ seq % 256 ≠ s.gpPsh.expect) :
    exec (.gpLinkFrame false seq ok m) s = .next ((s.withGpGld (s.gpGld.send (seq % 256) m)).withGpPsh
      { s.gpPsh with refusals := s.gpPsh.refusals ++ [s.gpPsh.expect], validRun := 0 }) := by
  change Host.Outcome.next (s.gpFrame false (seq % 256) ok m) = _
  simp [State.gpFrame, State.gpExchange, hruns, htakes, s.gpPsh.receive_refused h]

/-- The state in which GLD1 has counted a whole and expected frame and not yet applied it. -/
def State.gldCounted (s : State) (m : GpMsg) : State :=
  (s.withGpPsh (s.gpPsh.send s.gpGld.expect m)).withGpGld
    { s.gpGld with expect := (s.gpGld.expect + 1) % 256, validRun := s.gpGld.validRun + 1 }

theorem exec_frame_toGld_taken {s : State} {seq : Nat} {m : GpMsg} (hruns : s.gpRuns = true) (htakes : s.gpTakes true m = true)
    (h : seq % 256 = s.gpGld.expect) : exec (.gpLinkFrame true seq true m) s = .next ((s.gldCounted m).gldTakes m) := by
  change Host.Outcome.next (s.gpFrame true (seq % 256) true m) = _
  simp [State.gpFrame, State.gpExchange, hruns, htakes, s.gpGld.receive_taken rfl, h, State.gldCounted]

theorem exec_frame_toPsh_idle {s : State} {seq : Nat} (hruns : s.gpRuns = true) (h : seq % 256 = s.gpPsh.expect) :
    exec (.gpLinkFrame false seq true .idle) s = .next ((s.withGpGld (s.gpGld.send s.gpPsh.expect .idle)).withGpPsh
      { s.gpPsh with expect := (s.gpPsh.expect + 1) % 256, validRun := s.gpPsh.validRun + 1 }) := by
  change Host.Outcome.next (s.gpFrame false (seq % 256) true .idle) = _
  simp [State.gpFrame, State.gpExchange, State.gpTakes, State.pshTakes, hruns, s.gpPsh.receive_taken rfl, h]

theorem State.gpTakes_idle (s : State) (toGld : Bool) : s.gpTakes toGld .idle = true := rfl

theorem State.gpTakes_of_core {s : State} (h : s.halted 3 = false) (m : GpMsg) : s.gpTakes true m = true := by
  simp [State.gpTakes, h]

theorem State.only_withGpPsh_withGpGld (s : State) (g p : GpSide) : s.only ((s.withGpPsh p).withGpGld g) [.part .gpGld, .part .gpPsh] :=
  (State.only.nil.withGpPsh (by simp)).withGpGld (by simp)

theorem State.only_withGpGld_withGpPsh (s : State) (g p : GpSide) : s.only ((s.withGpGld g).withGpPsh p) [.part .gpGld, .part .gpPsh] :=
  (State.only.nil.withGpGld (by simp)).withGpPsh (by simp)

theorem State.only_gldCounted (s : State) (m : GpMsg) : s.only (s.gldCounted m) [.part .gpGld, .part .gpPsh] := s.only_withGpPsh_withGpGld _ _

/-! Clauses of GP_LINK_FRAME that end in the two sides and in the mirror. -/

theorem frame_toGld_refused (s : State) (seq : Nat) (ok : Bool) (m : GpMsg) (hruns : s.gpRuns = true)
    (htakes : s.gpTakes true m = true) (h : ok = false ∨ seq % 256 ≠ s.gpGld.expect) :
    ∃ t, exec (.gpLinkFrame true seq ok m) s = .next t ∧
      t.gpGld = { s.gpGld with refusals := s.gpGld.refusals ++ [s.gpGld.expect], validRun := 0 } ∧
      (seq % 256 ≠ s.gpPsh.nextSeq → t.gpPsh = s.gpPsh) ∧
      (seq % 256 = s.gpPsh.nextSeq → t.gpPsh.nextSeq = (seq % 256 + 1) % 256) ∧
      s.only t [.part .gpGld, .part .gpPsh] :=
  ⟨_, exec_frame_toGld_refused hruns htakes h, rfl, s.gpPsh.send_other m, s.gpPsh.send_nextSeq m, s.only_withGpPsh_withGpGld _ _⟩

theorem frame_toPsh_refused (s : State) (seq : Nat) (ok : Bool) (m : GpMsg) (hruns : s.gpRuns = true)
    (htakes : s.gpTakes false m = true) (h : ok = false ∨ seq % 256 ≠ s.gpPsh.expect) :
    ∃ t, exec (.gpLinkFrame false seq ok m) s = .next t ∧
      t.gpPsh = { s.gpPsh with refusals := s.gpPsh.refusals ++ [s.gpPsh.expect], validRun := 0 } ∧
      (seq % 256 = s.gpGld.nextSeq → t.gpGld.nextSeq = (seq % 256 + 1) % 256) ∧
      s.only t [.part .gpGld, .part .gpPsh] :=
  ⟨_, exec_frame_toPsh_refused hruns htakes h, rfl, s.gpGld.send_nextSeq m, s.only_withGpGld_withGpPsh _ _⟩

theorem frame_mirror (s : State) (seq off : Nat) (w : Word) (hruns : s.gpRuns = true) (hcore : s.halted 3 = false)
    (h : seq % 256 = s.gpGld.expect) :
    ∃ t, exec (.gpLinkFrame true seq true (.mirror off w)) s = .next t ∧
      (s.gpGld.lost = false → Store.read resetWord t.mirror off = w ∧
        ∀ k, k ≠ off → Store.read resetWord t.mirror k = Store.read resetWord s.mirror k) ∧
      (s.gpGld.lost = true → t.mirror = s.mirror) ∧
      s.only t [.part .gpGld, .part .gpPsh, .part .mirror] := by
  refine ⟨_, exec_frame_toGld_taken hruns (State.gpTakes_of_core hcore _) h, ?_⟩
  have hcounted : s.only (s.gldCounted (.mirror off w)) [.part .gpGld, .part .gpPsh, .part .mirror] :=
    (s.only_gldCounted _).mono (by simp)
  cases hlost : s.gpGld.lost with
  | true =>
    have hkeeps : (s.gldCounted (.mirror off w)).gldTakes (.mirror off w) = s.gldCounted (.mirror off w) := if_pos hlost
    rw [hkeeps]
    exact ⟨nofun, fun _ => rfl, hcounted⟩
  | false =>
    have hwrites : (s.gldCounted (.mirror off w)).gldTakes (.mirror off w) =
        (s.gldCounted (.mirror off w)).withMirror (Store.write resetWord s.mirror off w) := if_neg (by simp [State.gldCounted, hlost])
    rw [hwrites]
    exact ⟨fun _ => ⟨Store.read_write_self _ _ _, fun k hk => Store.read_write_ne _ _ hk⟩, nofun, hcounted.withMirror (by simp)⟩

/-! Refusals and idle slots. -/

theorem exec_refusal_toGld {s : State} (n : Nat) (hruns : s.gpRuns = true) : exec (.gpLinkRefusal true n) s =
    .next (((s.withGpGld (s.gpGld.resend (n % 256)).1).withGpPsh { s.gpPsh with refusals := s.gpPsh.refusals.erase (n % 256) }).add
      Reg.GLB_GPLINK_STATUS.crc_retries (s.gpGld.resend (n % 256)).2) := by
  change Host.Outcome.next (s.gpRefusal true (n % 256)) = _
  simp [State.gpRefusal, hruns]

theorem exec_refusal_toPsh {s : State} (n : Nat) (hruns : s.gpRuns = true) : exec (.gpLinkRefusal false n) s =
    .next (((s.withGpPsh (s.gpPsh.resend (n % 256)).1).withGpGld { s.gpGld with refusals := s.gpGld.refusals.erase (n % 256) }).add
      Reg.GLB_GPLINK_STATUS.crc_retries (s.gpPsh.resend (n % 256)).2) := by
  change Host.Outcome.next (s.gpRefusal false (n % 256)) = _
  simp [State.gpRefusal, hruns]

/-- GLB_GPLINK_STATUS.crc_retries counts up to 255. -/
theorem State.get_add_crcRetries (s : State) (n : Nat) :
    (s.add Reg.GLB_GPLINK_STATUS.crc_retries n).get Reg.GLB_GPLINK_STATUS.crc_retries =
      min (s.get Reg.GLB_GPLINK_STATUS.crc_retries + n) 255 := by
  rw [State.add, State.get_put_self _ _ _ (by decide)]
  exact Nat.mod_eq_of_lt (Nat.lt_succ_of_le (Nat.min_le_right _ _))

theorem refusal_toGld (s : State) (n : Nat) (hruns : s.gpRuns = true) :
    ∃ t, exec (.gpLinkRefusal true n) s = .next t ∧
      (∀ i, s.gpGld.sent.findIdx? (fun x => decide (x.1 = n % 256)) = some i →
        t.gpGld = { s.gpGld with nextSeq := n % 256, sent := s.gpGld.sent.take i, queue := (s.gpGld.sent.drop i).map (·.2) ++ s.gpGld.queue } ∧
        t.get Reg.GLB_GPLINK_STATUS.crc_retries = min (s.get Reg.GLB_GPLINK_STATUS.crc_retries + (s.gpGld.sent.length - i)) 255) ∧
      (s.gpGld.sent.findIdx? (fun x => decide (x.1 = n % 256)) = none → t.gpGld = s.gpGld) ∧
      t.gpPsh = { s.gpPsh with refusals := s.gpPsh.refusals.erase (n % 256) } ∧
      s.only t [.fld Reg.GLB_GPLINK_STATUS.crc_retries, .part .gpGld, .part .gpPsh] := by
  refine ⟨_, exec_refusal_toGld n hruns, fun i h => ?_, fun h => ?_, rfl, ?_⟩
  · rw [s.gpGld.resend_known h]
    exact ⟨rfl, State.get_add_crcRetries _ _⟩
  · rw [s.gpGld.resend_unknown h]
    rfl
  · exact ((State.only.nil.withGpGld (by simp)).withGpPsh (by simp)).add (by simp)

theorem refusal_toPsh (s : State) (n : Nat) (hruns : s.gpRuns = true) :
    ∃ t, exec (.gpLinkRefusal false n) s = .next t ∧
      (∀ i, s.gpPsh.sent.findIdx? (fun x => decide (x.1 = n % 256)) = some i →
        t.gpPsh = { s.gpPsh with nextSeq := n % 256, sent := s.gpPsh.sent.take i, queue := (s.gpPsh.sent.drop i).map (·.2) ++ s.gpPsh.queue } ∧
        t.get Reg.GLB_GPLINK_STATUS.crc_retries = min (s.get Reg.GLB_GPLINK_STATUS.crc_retries + (s.gpPsh.sent.length - i)) 255) ∧
      (s.gpPsh.sent.findIdx? (fun x => decide (x.1 = n % 256)) = none → t.gpPsh = s.gpPsh) ∧
      t.gpGld = { s.gpGld with refusals := s.gpGld.refusals.erase (n % 256) } ∧
      s.only t [.fld Reg.GLB_GPLINK_STATUS.crc_retries, .part .gpGld, .part .gpPsh] := by
  refine ⟨_, exec_refusal_toPsh n hruns, fun i h => ?_, fun h => ?_, rfl, ?_⟩
  · rw [s.gpPsh.resend_known h]
    exact ⟨rfl, State.get_add_crcRetries _ _⟩
  · rw [s.gpPsh.resend_unknown h]
    rfl
  · exact ((State.only.nil.withGpPsh (by simp)).withGpGld (by simp)).add (by simp)

theorem exec_idle_toGld {s : State} (hruns : s.gpRuns = true) (hqueue : s.gpPsh.queue = []) :
    exec (.gpLinkIdle true) s = .next (s.toGld .idle) := by
  change execGpLinkIdle true s = _
  simp [execGpLinkIdle, State.when_, hruns, hqueue]

theorem exec_idle_toPsh {s : State} (hruns : s.gpRuns = true) (hqueue : s.gpGld.queue = []) :
    exec (.gpLinkIdle false) s = .next (s.toPsh .idle) := by
  change execGpLinkIdle false s = _
  simp [execGpLinkIdle, State.when_, hruns, hqueue]

/-! The ledger word of a unit. -/

theorem State.only_showLedger (s : State) (u : Nat) :
    s.only (s.showLedger u) [.fld (Reg.FAB_LEDGER.disagree u), .fld Reg.FAB_LEDGER_STATUS.fenced_units] :=
  (State.only.nil.putFlag (by simp)).put (by simp)

theorem State.only_setData (s : State) (u d : Nat) :
    s.only (s.setData u d) [.fld (Reg.FAB_LEDGER.data_state u), .fld (Reg.FAB_LEDGER.disagree u), .fld Reg.FAB_LEDGER_STATUS.fenced_units] :=
  ((s.only_put _ d).trans (State.only_showLedger _ u)).mono (by simp)

/-- A field put changes no word outside a block that holds its word. -/
theorem State.only_put_words (s : State) {f : Fld} (v : Nat) {lo bytes : Nat} (h : lo ≤ f.off ∧ f.off < lo + bytes) :
    s.only (s.put f v) [.words lo bytes] := by
  obtain ⟨hbits, hparts⟩ := s.only_put f v
  refine ⟨fun o i hi hn => hbits o i hi (fun p hp => ?_), fun p _ => hparts p (by simp)⟩
  have hout := hn _ (List.mem_singleton_self _)
  rw [List.mem_singleton.mp hp]
  simp only [Place.holds, Bool.and_eq_false_iff, decide_eq_false_iff_not] at hout ⊢
  omega

/-- The frame of a pass over a list whose elements each keep to it. -/
theorem State.only_each_of_mem {α : Type} {l : List Place} {f : State → α → State} {xs : List α}
    (hf : ∀ a ∈ xs, ∀ x, State.only x (f x a) l) (s : State) : s.only (s.each xs f) l := by
  induction xs generalizing s with
  | nil => exact State.only.nil
  | cons a xs ih =>
    exact (hf a List.mem_cons_self s).step (ih (fun b hb => hf b (List.mem_cons_of_mem a hb)) (f s a)) (fun _ hp => hp)

theorem State.only_showCapacity (s : State) : s.only s.showCapacity [.words 0x20008 4, .words 0x20100 0x100] := by
  have hcounts (x : State) (f : Fld) (v : Nat) (hf : f.off = 0x20008) :
      x.only (x.put f v) [.words 0x20008 4, .words 0x20100 0x100] :=
    (x.only_put_words (lo := 0x20008) (bytes := 4) v (by omega)).mono (by simp)
  have hspare (k : Nat) (hk : k ∈ List.range 64) (x : State) (b : Bool) :
      x.only (x.putFlag (Reg.FAB_TILE_STATUS.spare k) b) [.words 0x20100 0x100] := by
    have hlt : k < 64 := List.mem_range.mp hk
    exact x.only_put_words _ (by simp only [Reg.FAB_TILE_STATUS.spare]; omega)
  exact (((hcounts s _ _ rfl).step (hcounts _ _ _ rfl) (fun _ hp => hp)).step (hcounts _ _ _ rfl) (fun _ hp => hp)).step
    (State.only_each_of_mem (fun k hk x => hspare k hk x _) _) (by simp)

/-- The capacity is shown outside the ledger words. -/
theorem State.get_showCapacity_ledger (s : State) {g : Fld} (hoff : 0x21000 ≤ g.off) (hbits : g.lo + g.width ≤ 32) :
    s.showCapacity.get g = s.get g :=
  s.only_showCapacity.get hbits (by
    simp only [List.all_cons, List.all_nil, Place.apart, Bool.and_true, Bool.and_eq_true, Bool.or_eq_true, decide_eq_true_eq]
    omega)

/-- What the ledger word of a unit reads of an agreement: mgmt_state, lock, data_state, and whether the pair is outside Table 12-6. -/
def State.ledgerReads (s : State) (u m k d : Nat) : Prop :=
  s.get (Reg.FAB_LEDGER.mgmt_state u) = m ∧ s.get (Reg.FAB_LEDGER.lock u) = k ∧ s.get (Reg.FAB_LEDGER.data_state u) = d ∧
  s.get (Reg.FAB_LEDGER.disagree u) = if pairAgrees m d then 0 else 1

theorem State.ledgerReads_showCapacity {s : State} {u m k d : Nat} (h : s.ledgerReads u m k d) :
    s.showCapacity.ledgerReads u m k d := by
  have hkeeps (g : Fld) (hoff : g.off = 0x21000 + 4 * u) (hbits : g.lo + g.width ≤ 32) : s.showCapacity.get g = s.get g :=
    s.get_showCapacity_ledger (by omega) hbits
  unfold State.ledgerReads
  rwa [hkeeps (Reg.FAB_LEDGER.mgmt_state u) rfl (Nat.le_of_ble_eq_true rfl), hkeeps (Reg.FAB_LEDGER.lock u) rfl (Nat.le_of_ble_eq_true rfl),
    hkeeps (Reg.FAB_LEDGER.data_state u) rfl (Nat.le_of_ble_eq_true rfl), hkeeps (Reg.FAB_LEDGER.disagree u) rfl (Nat.le_of_ble_eq_true rfl)]

theorem State.ledgerReads_showLedger {s : State} {u m k d : Nat} (hm : s.get (Reg.FAB_LEDGER.mgmt_state u) = m)
    (hk : s.get (Reg.FAB_LEDGER.lock u) = k) (hd : s.get (Reg.FAB_LEDGER.data_state u) = d) :
    (s.showLedger u).ledgerReads u m k d := by
  have hkeeps (g : Fld) (hoff : g.off = 0x21000 + 4 * u) (hbits : g.lo + g.width ≤ 11) : (s.showLedger u).get g = s.get g := by
    refine (s.only_showLedger u).get (by omega) ?_
    simp only [List.all_cons, List.all_nil, Place.apart, Bool.and_true, Bool.and_eq_true, Bool.or_eq_true, decide_eq_true_eq,
      Reg.FAB_LEDGER.disagree, Reg.FAB_LEDGER_STATUS.fenced_units]
    omega
  refine ⟨(hkeeps _ rfl (by simp [Reg.FAB_LEDGER.mgmt_state])).trans hm, (hkeeps _ rfl (by simp [Reg.FAB_LEDGER.lock])).trans hk,
    (hkeeps _ rfl (by simp [Reg.FAB_LEDGER.data_state])).trans hd, ?_⟩
  have hother : (Reg.FAB_LEDGER.disagree u).off ≠ Reg.FAB_LEDGER_STATUS.fenced_units.off := by
    simp only [Reg.FAB_LEDGER.disagree, Reg.FAB_LEDGER_STATUS.fenced_units]
    omega
  rw [State.showLedger, State.get_put_off _ _ hother, State.putFlag, State.get_put_self _ _ _ (Nat.le_of_ble_eq_true rfl), hm, hd]
  cases pairAgrees m d <;> rfl

theorem State.ledgerReads_setData {s : State} {u m k d : Nat} (hm : s.get (Reg.FAB_LEDGER.mgmt_state u) = m)
    (hk : s.get (Reg.FAB_LEDGER.lock u) = k) (hd : d < 8) : (s.setData u d).ledgerReads u m k d := by
  refine State.ledgerReads_showLedger ?_ ?_ ?_
  · rwa [State.get_put_ne _ _ (Nat.le_of_ble_eq_true rfl) (by simp [Reg.FAB_LEDGER.mgmt_state, Reg.FAB_LEDGER.data_state])]
  · rwa [State.get_put_ne _ _ (Nat.le_of_ble_eq_true rfl) (by simp [Reg.FAB_LEDGER.lock, Reg.FAB_LEDGER.data_state])]
  · rw [State.get_put_self _ _ _ (Nat.le_of_ble_eq_true rfl)]
    exact Nat.mod_eq_of_lt hd

/-! Work in flight on a unit, and a unit under a new mgmt_state (12 R325). -/

/-- The places of an agreement beside the capacity words. -/
def agreementPlaces (u : Nat) : List Place :=
  [.fld (Reg.FAB_LEDGER.mgmt_state u), .fld (Reg.FAB_LEDGER.lock u), .fld (Reg.FAB_LEDGER.data_state u),
    .fld (Reg.FAB_LEDGER.disagree u), .fld Reg.FAB_LEDGER_STATUS.fenced_units]

theorem unitTiles_lt {u t : Nat} (h : t ∈ unitTiles u) : t < 64 := by
  unfold unitTiles at h
  split at h
  · next hu => rwa [List.mem_singleton.mp h]
  · split at h
    · simp only [quadTiles, List.mem_cons, List.not_mem_nil, or_false] at h
      omega
    · split at h
      · exact List.mem_range.mp (List.mem_filter.mp h).1
      · contradiction

/-- An agreement touches no word outside the ledger. -/
theorem State.only.word_of_agreement {s t : State} {u : Nat} (h : s.only t (agreementPlaces u)) {off : Nat}
    (hoff : off ≠ 0x20028 ∧ off ≠ 0x21000 + 4 * u) : t.word off = s.word off := by
  refine h.word_of_holds (fun p hp i => ?_)
  simp only [agreementPlaces, List.mem_cons, List.not_mem_nil, or_false] at hp
  rcases hp with rfl | rfl | rfl | rfl | rfl <;>
    simp [Place.holds, Reg.FAB_LEDGER.mgmt_state, Reg.FAB_LEDGER.lock, Reg.FAB_LEDGER.data_state, Reg.FAB_LEDGER.disagree,
      Reg.FAB_LEDGER_STATUS.fenced_units, hoff.1.symm, hoff.2.symm]

/-- Searches whose tests agree on the members of the list find the same. -/
theorem find?_eq_of_mem {α : Type} {p q : α → Bool} {l : List α} (h : ∀ x ∈ l, p x = q x) : l.find? p = l.find? q := by
  induction l with
  | nil => rfl
  | cons a l ih =>
    rw [List.find?_cons, List.find?_cons, h a List.mem_cons_self, ih (fun x hx => h x (List.mem_cons_of_mem a hx))]

theorem State.only.carrier_of_agreement {s t : State} {u : Nat} (h : s.only t (agreementPlaces u)) : t.carrier = s.carrier := by
  have hword (k : Nat) (hk : k < 64) : t.word (0x20100 + 4 * k) = s.word (0x20100 + 4 * k) := h.word_of_agreement (by omega)
  have hfab : t.fab = s.fab := h.part (p := .fab) (by simp [agreementPlaces])
  have hstand : t.standIn = s.standIn := by
    funext k
    refine find?_eq_of_mem (fun x hx => ?_)
    have hx64 : t.word (Reg.FAB_TILE_STATUS.standing_in x).off = s.word (Reg.FAB_TILE_STATUS.standing_in x).off :=
      hword x (List.mem_range.mp hx)
    have hstanding : t.get (Reg.FAB_TILE_STATUS.standing_in x) = s.get (Reg.FAB_TILE_STATUS.standing_in x) := by rw [State.get, hx64]; rfl
    have hfor : t.get (Reg.FAB_TILE_STATUS.stands_for x) = s.get (Reg.FAB_TILE_STATUS.stands_for x) := by
      rw [State.get, show t.word (Reg.FAB_TILE_STATUS.stands_for x).off = _ from hx64]; rfl
    rw [State.flag, State.flag, hstanding, hfor]
  funext k
  simp only [State.carrier, hstand, hfab]

/-- A tile's work is carried by one of the 64. -/
theorem State.carrier_lt (s : State) {k : Nat} (h : k < 64) : s.carrier k < 64 := by
  unfold State.carrier
  split
  · next u hu => exact List.mem_range.mp (List.mem_of_find?_eq_some hu)
  · split
    · next p hp =>
      have := List.find?_some hp
      simp only [Bool.and_eq_true, decide_eq_true_eq] at this
      exact this.2
    · exact h

theorem State.only.unitBusy_of_agreement {s t : State} {u : Nat} (h : s.only t (agreementPlaces u)) : t.unitBusy u = s.unitBusy u := by
  unfold State.unitBusy
  rw [h.carrier_of_agreement]
  have hbusy (k : Nat) (hk : k ∈ unitTiles u) :
      t.flag (Reg.FAB_TILE_STATUS.busy (s.carrier k)) = s.flag (Reg.FAB_TILE_STATUS.busy (s.carrier k)) := by
    have hlt := s.carrier_lt (unitTiles_lt hk)
    have hword := h.word_of_agreement (off := (Reg.FAB_TILE_STATUS.busy (s.carrier k)).off) (by simp only [Reg.FAB_TILE_STATUS.busy]; omega)
    rw [State.flag, State.flag, State.get, hword, State.get]
  rw [Bool.eq_iff_iff, List.any_eq_true, List.any_eq_true]
  exact exists_congr (fun k => and_congr_right (fun hk => by rw [hbusy k hk]))

theorem State.only.unitInFlight_of_agreement {s t : State} {u : Nat} (hu : u ≤ 100) (h : s.only t (agreementPlaces u)) :
    t.unitInFlight u = s.unitInFlight u := by
  have hfab : t.fab = s.fab := h.part (p := .fab) (by simp [agreementPlaces])
  have hcap : t.cap = s.cap := h.part (p := .cap) (by simp [agreementPlaces])
  have hakg : t.akg = s.akg := h.part (p := .akg) (by simp [agreementPlaces])
  have hpass : t.pass = s.pass := h.part (p := .pass) (by simp [agreementPlaces])
  have hhost : t.host = s.host := h.part (p := .host) (by simp [agreementPlaces])
  have hruns : t.unitRuns u = s.unitRuns u := by
    simp only [State.unitRuns, State.runInDram, State.model, State.flight, h.carrier_of_agreement, hfab, hhost]
  have hcopying : t.flag Reg.HPS_STATUS.copying = s.flag Reg.HPS_STATUS.copying := by
    have hword := h.word_of_agreement (off := Reg.HPS_STATUS.copying.off) (by simp only [Reg.HPS_STATUS.copying]; omega)
    rw [State.flag, State.flag, State.get, hword, State.get]
  simp only [State.unitInFlight, h.unitBusy_of_agreement, hruns, hcap, State.port, hakg, hpass, hcopying]

/-- Where a unit stands once GLD1 has applied `m` to it: work in flight keeps it DRAINING, without any it goes OUT at once. -/
def State.agreedData (s : State) (u m : Nat) : Nat :=
  if m = mgmtInService ∨ (s.get (Reg.FAB_LEDGER.data_state u) ≠ dataReady ∧ s.get (Reg.FAB_LEDGER.data_state u) ≠ dataDraining) then
    s.get (Reg.FAB_LEDGER.data_state u)
  else if s.unitInFlight u then dataDraining else dataOut

/-- The agreement fields of a unit's word as a mirrored mgmt_state sets them. -/
def State.putAgreement (s : State) (u v : Nat) : State :=
  (s.put (Reg.FAB_LEDGER.mgmt_state u) (v % 8)).put (Reg.FAB_LEDGER.lock u) (v / 8 % 2)

theorem State.get_putAgreement_mgmt (s : State) (u v : Nat) : (s.putAgreement u v).get (Reg.FAB_LEDGER.mgmt_state u) = v % 8 := by
  rw [State.putAgreement, State.get_put_ne _ _ (Nat.le_of_ble_eq_true rfl) (by simp [Reg.FAB_LEDGER.mgmt_state, Reg.FAB_LEDGER.lock]),
    State.get_put_self _ _ _ (Nat.le_of_ble_eq_true rfl)]
  exact Nat.mod_mod _ _

theorem State.get_putAgreement_lock (s : State) (u v : Nat) : (s.putAgreement u v).get (Reg.FAB_LEDGER.lock u) = v / 8 % 2 := by
  rw [State.putAgreement, State.get_put_self _ _ _ (Nat.le_of_ble_eq_true rfl)]
  exact Nat.mod_mod _ _

theorem State.get_putAgreement_data (s : State) (u v : Nat) :
    (s.putAgreement u v).get (Reg.FAB_LEDGER.data_state u) = s.get (Reg.FAB_LEDGER.data_state u) := by
  rw [State.putAgreement, State.get_put_ne _ _ (Nat.le_of_ble_eq_true rfl) (by simp [Reg.FAB_LEDGER.data_state, Reg.FAB_LEDGER.lock]),
    State.get_put_ne _ _ (Nat.le_of_ble_eq_true rfl) (by simp [Reg.FAB_LEDGER.data_state, Reg.FAB_LEDGER.mgmt_state])]

theorem State.only_putAgreement (s : State) (u v : Nat) : s.only (s.putAgreement u v) (agreementPlaces u) :=
  (State.only.nil.put (by simp [agreementPlaces])).put (by simp [agreementPlaces])

/-- A unit set to DRAINING goes OUT where no work of it is in flight. -/
theorem State.drained_of_draining {s : State} {u : Nat} (h : s.get (Reg.FAB_LEDGER.data_state u) = dataDraining) :
    s.drained u = if s.unitInFlight u then s else (s.setData u dataOut).showCapacity := by
  cases hwork : s.unitInFlight u <;> simp [State.drained, h, hwork]

/-- R325: what a mirrored mgmt_state makes of the unit's ledger word. -/
theorem State.applyMgmt_reads (s : State) {u : Nat} (v : Nat) (hu : u ≤ 100) :
    (s.applyMgmt u v).ledgerReads u (v % 8) (v / 8 % 2) (s.agreedData u (v % 8)) ∧
      s.only (s.applyMgmt u v) (agreementPlaces u ++ [.words 0x20008 4, .words 0x20100 0x100]) := by
  have hmgmt := s.get_putAgreement_mgmt u v
  have hlock := s.get_putAgreement_lock u v
  have hdata := s.get_putAgreement_data u v
  have hput := s.only_putAgreement u v
  have happly : s.applyMgmt u v =
      if v % 8 = mgmtInService ∨ (s.get (Reg.FAB_LEDGER.data_state u) ≠ dataReady ∧ s.get (Reg.FAB_LEDGER.data_state u) ≠ dataDraining) then
        (s.putAgreement u v).showLedger u
      else (((s.putAgreement u v).setData u dataDraining).drained u).showCapacity := by
    rw [← hdata]
    exact ite_congr (by simp only [Bool.or_eq_true, Bool.and_eq_true, decide_eq_true_eq, State.putAgreement]) (fun _ => rfl) (fun _ => rfl)
  rw [happly, State.agreedData]
  split
  · exact ⟨State.ledgerReads_showLedger hmgmt hlock hdata,
      (hput.step (State.only_showLedger _ u) (by simp [agreementPlaces])).mono (fun _ => List.mem_append_left _)⟩
  · have hdrain := State.ledgerReads_setData (d := dataDraining) hmgmt hlock (by decide)
    have hframe := hput.step (State.only_setData _ u dataDraining) (by simp [agreementPlaces])
    have hwork := hframe.unitInFlight_of_agreement hu
    generalize (s.putAgreement u v).setData u dataDraining = x at hdrain hframe hwork ⊢
    obtain ⟨hm, hk, hd, _⟩ := id hdrain
    have hwide := hframe.mono (l' := agreementPlaces u ++ [.words 0x20008 4, .words 0x20100 0x100])
      (fun _ => List.mem_append_left _)
    rw [State.drained_of_draining hd, hwork]
    split
    · exact ⟨State.ledgerReads_showCapacity hdrain, hwide.step (State.only_showCapacity _) (by simp)⟩
    · exact ⟨State.ledgerReads_showCapacity (State.ledgerReads_showCapacity (State.ledgerReads_setData hm hk (by decide))),
        ((hwide.step (State.only_setData _ u dataOut) (by simp [agreementPlaces])).step (State.only_showCapacity _) (by simp)).step
          (State.only_showCapacity _) (by simp)⟩

theorem frame_mgmt (s : State) (seq u v : Nat) (hruns : s.gpRuns = true) (hcore : s.halted 3 = false)
    (h : seq % 256 = s.gpGld.expect) (hlost : s.gpGld.lost = false) (hu : u ≤ 100) :
    ∃ t, exec (.gpLinkFrame true seq true (.mgmt u v)) s = .next t ∧
      t.get (Reg.FAB_LEDGER.mgmt_state u) = v % 8 ∧
      t.get (Reg.FAB_LEDGER.lock u) = v / 8 % 2 ∧
      t.get (Reg.FAB_LEDGER.data_state u) =
        (if v % 8 = mgmtInService ∨ (s.get (Reg.FAB_LEDGER.data_state u) ≠ dataReady ∧ s.get (Reg.FAB_LEDGER.data_state u) ≠ dataDraining)
        then s.get (Reg.FAB_LEDGER.data_state u) else if s.unitInFlight u then dataDraining else dataOut) ∧
      t.get (Reg.FAB_LEDGER.disagree u) = (if pairAgrees (v % 8) (t.get (Reg.FAB_LEDGER.data_state u)) then 0 else 1) ∧
      s.only t [.fld (Reg.FAB_LEDGER.mgmt_state u), .fld (Reg.FAB_LEDGER.lock u), .fld (Reg.FAB_LEDGER.data_state u), .fld (Reg.FAB_LEDGER.disagree u), .fld Reg.FAB_LEDGER_STATUS.fenced_units, .words 0x20008 4, .words 0x20100 0x100, .part .gpGld, .part .gpPsh] := by
  obtain ⟨⟨hmgmt, hlock, hdata, hdisagree⟩, hframe⟩ := (s.gldCounted (.mgmt u v)).applyMgmt_reads v hu
  have htakes : (s.gldCounted (.mgmt u v)).gldTakes (.mgmt u v) = (s.gldCounted (.mgmt u v)).applyMgmt u v := by
    simp [State.gldTakes, State.gldCounted, hu, hlost]
  refine ⟨_, exec_frame_toGld_taken hruns (State.gpTakes_of_core hcore _) h, ?_⟩
  rw [htakes]
  refine ⟨hmgmt, hlock, hdata, ?_, ((s.only_gldCounted _).trans hframe).mono (by simp [agreementPlaces])⟩
  rw [hdata]
  exact hdisagree

/-- Settles O22, clause by clause: the sides of the link after a frame, a refusal and an idle slot, and the ledger word that a mgmt_state reaches. -/
theorem gpFramesAreTakenInOrder : Obligations.GpFramesAreTakenInOrder :=
  ⟨frame_toGld_refused, frame_toPsh_refused,
    fun s _ hruns h => ⟨_, exec_frame_toGld_taken hruns (s.gpTakes_idle true) h, rfl, s.only_gldCounted _⟩,
    fun s _ hruns h => ⟨_, exec_frame_toPsh_idle hruns h, rfl, s.only_withGpGld_withGpPsh _ _⟩,
    frame_mirror, frame_mgmt, refusal_toGld, refusal_toPsh,
    fun s hruns hqueue => ⟨_, exec_idle_toGld hruns hqueue, congrArg (· ++ _) hqueue, s.only_toGld _⟩,
    fun s hruns hqueue => ⟨_, exec_idle_toPsh hruns hqueue, congrArg (· ++ _) hqueue, s.only_toPsh _⟩⟩

/-! The unlock key on the PMBus path (06 R155): a value of 16 bits. -/

theorem exec_mfrExpertUnlock_low16 (s : State) (k : Nat) :
    exec (.mfrExpertUnlock .whole (0x10000 + k)) s = exec (.mfrExpertUnlock .whole k) s := by
  change execMfrExpertUnlock .whole (0x10000 + k) s = execMfrExpertUnlock .whole k s
  rw [execMfrExpertUnlock, execMfrExpertUnlock, Nat.add_mod_left]

/-- PSH2 runs, and the first half of its unlock pair has just come over PMBus. -/
def halfUnlocked : State :=
  (State.reset.withSvc { Service.reset with pshRun := true }).withHost { HostIf.reset with halves := [⟨blk.pwr, .pmbus, 0⟩] }

/-- Refutes O18: its clause of MFR_EXPERT_UNLOCK keeps the Expert state for every operand other than 0x5054, and MFR_EXPERT_UNLOCK takes the low
16 bits of its operand, so that 0x15054 completes the pair as 0x5054 does. -/
theorem not_pmbusRegisterAccess : ¬ Obligations.PmbusRegisterAccess := by
  unfold Obligations.PmbusRegisterAccess
  rintro ⟨-, -, -, -, -, hunlock, -⟩
  obtain ⟨t, ht, -, hopens, -⟩ := hunlock halfUnlocked 0x5054 (by decide) rfl
  obtain ⟨u, hu, -, -, hkeeps, -⟩ := hunlock halfUnlocked (0x10000 + 0x5054) (by decide) rfl
  obtain rfl : t = u := by
    rw [exec_mfrExpertUnlock_low16, ht] at hu
    exact Host.Outcome.next.inj hu
  have hopen : t.expert blk.pwr = true := (hopens rfl ⟨blk.pwr, .pmbus, 0⟩ rfl (by decide)).1
  have hclosed : halfUnlocked.expert blk.pwr = false := by decide
  rw [State.expert, hkeeps (by decide), ← State.expert, hclosed] at hopen
  exact Bool.false_ne_true hopen

/-! The loss of the capture clock while the Capture link carries a record that was not kept (09 R232). -/

theorem State.endLink_cut {s : State} {l : LinkRec} (hlink : s.cap.onLink = some l) (hid : l.id = none) :
    s.endLink true = (s.setCap (fun c => { c with onLink := none })).bump (Reg.CAP_STREAM_TRUNC.truncated l.stream) := by
  simp [State.endLink, hlink, hid, State.when_]

/-- The state that shows the loss of a clock: its bits, its crossings held, the cause raised. -/
def State.showLoss (s : State) (c : WatchedClock) : State :=
  let s1 := ((s.put (clkLost c) 1).put (clkOk c) 0).holdCrossings c true
  s1.raise cause.clockLost noUnit (s1.word (clkOk c).off).toNat

theorem exec_clockLost {s : State} {c : WatchedClock} (hthere : clockThere c = true) (hwatches : s.watches = true)
    (hok : s.get (clkOk c) = 1) : exec (.clockLost c) s = .next ((s.showLoss c).clockGone c) := by
  have hpresent : s.flag (clkOk c) = true := by simp [State.flag, hok]
  change need (clockThere c) _ = _
  rw [hthere, hwatches, hpresent]
  rfl

theorem State.only_showLoss (s : State) (c : WatchedClock) : s.only (s.showLoss c)
    [.fld (clkLost c), .fld (clkOk c), .part .crossHeld, .fld Reg.GLB_INT_CAUSE.cause, .part .host] :=
  (((State.only.nil.put (by simp)).put (by simp)).withCrossHeld (by simp)).raise (by simp)

/-- The record is cut short and counted in the register of its stream. -/
theorem clockLost_counts_cut_record {s t : State} {l : LinkRec} (hwatches : s.watches = true) (hok : s.get (clkOk .capture) = 1)
    (hlink : s.cap.onLink = some l) (hid : l.id = none) (h : exec (.clockLost .capture) s = .next t) :
    t.get (Reg.CAP_STREAM_TRUNC.truncated l.stream) = min (s.get (Reg.CAP_STREAM_TRUNC.truncated l.stream) + 1) 65535 := by
  rw [exec_clockLost rfl hwatches hok] at h
  obtain rfl := Host.Outcome.next.inj h
  have hshown := s.only_showLoss .capture
  have hcap : (s.showLoss .capture).cap = s.cap := hshown.part (p := .cap) (by simp)
  have hcount : (s.showLoss .capture).get (Reg.CAP_STREAM_TRUNC.truncated l.stream) = s.get (Reg.CAP_STREAM_TRUNC.truncated l.stream) := by
    refine hshown.get (Nat.le_of_ble_eq_true rfl) ?_
    simp [Place.apart, clkLost, clkOk, Reg.GLB_CLK_STATUS.refclk_lost, Reg.GLB_INT_CAUSE.cause, Reg.CAP_STREAM_TRUNC.truncated]
    omega
  rw [← hcap] at hlink
  rw [State.clockGone, State.endLink_cut hlink hid, State.bump, State.add, State.get_put_self _ _ _ (Nat.le_of_ble_eq_true rfl), ← hcount]
  exact Nat.mod_eq_of_lt (Nat.lt_succ_of_le (Nat.min_le_right _ _))

/-- The capture clock is present, and the Capture link carries a record of stream 10224. There is no such stream, but the statement
asks for no bound on it, and the count of its cut records would stand at 0x50214 + 32 * 10224 = 0xA0014, which is PSH2's
PWR_LIMIT_CFG. -/
def strayRecord : State :=
  (((State.reset.withSvc { Service.reset with rstLow := false }).withCap { Capture.reset with onLink := some ⟨none, 10224, 0, [], []⟩ }).put
    (clkOk .capture) 1).put (Reg.CAP_STREAM_TRUNC.truncated 10224) 0

/-- Refutes O23: the loss of the capture clock counts the cut record in the register of its stream, and where the stream's
number is none of the eight, that register may be PSH2's, outside `gldPlaces`. -/
theorem not_linkAndClockLossAreShown : ¬ Obligations.LinkAndClockLossAreShown := by
  unfold Obligations.LinkAndClockLossAreShown
  rintro ⟨-, -, -, hlost, -⟩
  have hwatches : strayRecord.watches = true := by decide
  have hok : strayRecord.get (clkOk .capture) = 1 := by decide
  obtain ⟨t, ht, -, -, -, -, -, -, hframe⟩ := hlost strayRecord .capture rfl hwatches hok
  have hcounted := clockLost_counts_cut_record hwatches hok rfl rfl ht
  rw [hframe.get (by decide) (by decide), strayRecord, State.get_put_self _ _ _ (by decide)] at hcounted
  exact absurd hcounted (by decide)

end Sys2Proof.Machine

/-! Resets, Recess and the passing of time (chapter 05; 15 R412, R419): the write pointer a warm reset posts, the record that
entry into Recess cuts short, and the frame of a nanosecond. -/

namespace Sys2Proof.Machine

open Sys2Proof

/-! A warm reset while the trace sink is the host ring (15 R419). -/

theorem exec_warmReset_glbReset {s : State} (h : s.hostUp = true) :
    exec (.warmReset .glbReset) s = .next (s.warmReset true false) := by
  change execWarmReset .glbReset s = _
  simp [execWarmReset, h]

/-- A module in full service traces into the PF's host ring, with nothing staged; the router writes the write pointer to address 8. -/
def tracingToHost : State :=
  (((((State.reset.withSvc { Service.reset with rstLow := false }).withHost { HostIf.reset with linkUp := true }).put
    Reg.GLB_SERVICE.state svcFull).put Reg.DBG_TRACE_CTRL.enable 1).put Reg.DBG_TRACE_CTRL.sink 1).put Reg.DBG_TRACE_WP_ADDR.wp_addr_lo 8

theorem warmReset_posts_trace_pointer :
    (tracingToHost.warmReset true false).host.posted = [.dma 0 8 (leBytes 8 0) false] := by decide +kernel

/-- Refutes O25: its clause of WARM_RESET keeps the writes issued to the host as they were, and a warm reset that takes the host
ring away from a running trace issues one more, that of the write pointer (15 R419). -/
theorem not_resetsReachTheirParts : ¬ Obligations.ResetsReachTheirParts := by
  unfold Obligations.ResetsReachTheirParts
  rintro ⟨-, -, -, hwarm, -⟩
  have hup : tracingToHost.hostUp = true := by decide
  obtain ⟨t, ht, -, -, -, -, -, hposted, -⟩ := hwarm tracingToHost .glbReset rfl rfl rfl (.inl (by decide)) hup
  rw [exec_warmReset_glbReset hup] at ht
  obtain rfl := Host.Outcome.next.inj ht
  rw [warmReset_posts_trace_pointer] at hposted
  exact absurd hposted (by decide)

/-! Recess entry while the Capture link carries a record that was not kept (09 R232). -/

theorem exec_recessEnter_allowed {s : State} (hhost : s.hostUp = true) (hfull : s.service = svcFull)
    (hdebug : s.debugMode = false) (hcode : s.recessCode = 0) : exec .recessEnter s = .next s.enterRecess := by
  have hopen : s.bar0Open := ⟨hhost, by rw [hfull]; decide, by rw [hfull]; decide⟩
  change execRecessEnter s = _
  rw [execRecessEnter, State.viaHost_of_bar0Open hopen, State.requestRecess, hdebug, hcode]
  rfl

/-- Beside the end of the record on the link, the receivers show in the link's status alone. -/
theorem State.only_endLink_receiversOff (s : State) : (s.endLink true).only s.receiversOff
    [.fld Reg.CAP_LINK_STATUS.lane_lock, .fld Reg.CAP_LINK_STATUS.aligned, .fld Reg.CAP_LINK_STATUS.link_up] :=
  ((State.only.nil.put (by simp)).put (by simp)).put (by simp)

theorem State.get_endLink_cut {s : State} {l : LinkRec} (hlink : s.cap.onLink = some l) (hid : l.id = none) :
    (s.endLink true).get (Reg.CAP_STREAM_TRUNC.truncated l.stream) = min (s.get (Reg.CAP_STREAM_TRUNC.truncated l.stream) + 1) 65535 := by
  rw [State.endLink_cut hlink hid, State.bump, State.add, State.get_put_self _ _ _ (Nat.le_of_ble_eq_true rfl)]
  exact Nat.mod_eq_of_lt (Nat.lt_succ_of_le (Nat.min_le_right _ _))

/-- The record is cut short and counted in the register of its stream. -/
theorem State.enterRecess_counts_cut_record {s : State} {l : LinkRec} (hlink : s.cap.onLink = some l) (hid : l.id = none) :
    s.enterRecess.get (Reg.CAP_STREAM_TRUNC.truncated l.stream) = min (s.get (Reg.CAP_STREAM_TRUNC.truncated l.stream) + 1) 65535 := by
  rw [State.enterRecess, (State.only_setService _ svcEntering).get (Nat.le_of_ble_eq_true rfl),
    (State.only_endLink_receiversOff _).get (Nat.le_of_ble_eq_true rfl)]
  · exact State.get_endLink_cut hlink hid
  · simp [Place.apart, Reg.CAP_LINK_STATUS.lane_lock, Reg.CAP_LINK_STATUS.aligned, Reg.CAP_LINK_STATUS.link_up, Reg.CAP_STREAM_TRUNC.truncated]
    omega
  · simp [Place.apart, Reg.GLB_SERVICE.state, Reg.GLB_SERVICE.full_service, Reg.GLB_SERVICE.homeroom, Reg.GLB_INT_CAUSE.cause, Reg.CAP_STREAM_TRUNC.truncated]
    omega

/-- The module of `strayRecord` in full service, its host and ASPM L1 ready: nothing bars it from Recess. -/
def strayRecordInService : State :=
  (strayRecord.withHost { HostIf.reset with linkUp := true, aspmL1 := true }).put Reg.GLB_SERVICE.state svcFull

/-- Refutes O26: entry into Recess cuts the record on the Capture link short and counts it in the register of its stream, and where
the stream's number is none of the eight, that register may be PSH2's, outside `gldPlaces`. -/
theorem not_recessEntersAndWakes : ¬ Obligations.RecessEntersAndWakes := by
  unfold Obligations.RecessEntersAndWakes
  rintro ⟨henter, -⟩
  have hhost : strayRecordInService.hostUp = true := by decide
  have hfull : strayRecordInService.service = svcFull := by decide
  have hdebug : strayRecordInService.debugMode = false := by decide
  have hcode : strayRecordInService.recessCode = 0 := by decide +kernel
  obtain ⟨t, ht, -, -, hframe⟩ := henter strayRecordInService hhost hfull hdebug
  rw [exec_recessEnter_allowed hhost hfull hdebug hcode] at ht
  obtain rfl := Host.Outcome.next.inj ht
  have hcounted := State.enterRecess_counts_cut_record (s := strayRecordInService) rfl rfl
  rw [hframe.get (by decide) (by decide)] at hcounted
  exact absurd hcounted (by decide)

/-! The passing of a nanosecond (DESIGN CHOICE, log 4). -/

/-- What the draining of one trace record reaches (15 R412). -/
def tracePlaces : List Place := [.words 0xD0000 0x10000, .part .dbg, .part .host]

/-- What the commit point of a Recess entry reaches (05 R122). -/
def commitPlaces : List Place := [.words 0x20100 0x100, .words 0x50104 0x80, .words 0x70100 0x80, .part .fab]

theorem State.only_trace_put (s : State) {f : Fld} (v : Nat) (h : 0xD0000 ≤ f.off ∧ f.off < 0xE0000) : s.only (s.put f v) tracePlaces :=
  (s.only_put_words (lo := 0xD0000) (bytes := 0x10000) v h).mono (by simp [tracePlaces])

theorem State.only_trace_bump (s : State) {f : Fld} (h : 0xD0000 ≤ f.off ∧ f.off < 0xE0000) : s.only (s.bump f) tracePlaces :=
  s.only_trace_put _ h

theorem State.only_trace_withDbg (s : State) (d : Debug) : s.only (s.withDbg d) tracePlaces :=
  (s.only_withDbg d).mono (by simp [tracePlaces])

theorem State.only_trace_post (s : State) (p : Posted) : s.only (s.post p) tracePlaces :=
  (s.only_post p).mono (by simp [tracePlaces])

/-- An operation that is run under a condition keeps to its frame. -/
theorem State.only_when {s : State} {c : Bool} {f : State → State} {l : List Place} (h : s.only (f s) l) : s.only (s.when_ c f) l :=
  State.only_ite h State.only.nil

/-- Two operations that keep to the same places do so in turn. -/
theorem State.only.seq {s t u : State} {l : List Place} (h : s.only t l) (h' : t.only u l) : s.only u l := h.step h' (fun _ hp => hp)

theorem State.only_traceChip (s : State) (b : List Byte) : s.only (s.traceChip b) tracePlaces := by
  unfold State.traceChip
  extract_lets n wp d stored
  have hstored : s.only stored tracePlaces := (s.only_trace_withDbg _).seq (State.only_trace_put _ _ (by decide))
  have hwrapped : s.only (stored.when_ (decide (0x40000 < s.dbg.bufUsed + n)) (·.put Reg.DBG_TRACE_STATUS.wrapped 1)) tracePlaces :=
    hstored.seq (State.only_when (State.only_trace_put _ _ (by decide)))
  split
  · exact s.only_trace_put _ (by decide)
  · exact hwrapped.seq (State.only_trace_bump _ (by decide))

theorem State.only_traceHost (s : State) (b : List Byte) : s.only (s.traceHost b) tracePlaces := by
  unfold State.traceHost
  extract_lets n base size wp rp part d dequeued head tail sent
  have hdequeued : s.only dequeued tracePlaces := s.only_trace_withDbg _
  split
  · refine .seq (.seq (.seq ?_ (State.only_trace_withDbg _ _)) (State.only_trace_put _ _ (by decide))) (State.only_trace_bump _ (by decide))
    exact (hdequeued.seq (State.only_trace_post _ _)).seq (State.only_when (State.only_trace_post _ _))
  · exact hdequeued.seq (State.only_trace_bump _ (by decide))

theorem State.only_traceDrain (s : State) : s.only s.traceDrain tracePlaces := by
  unfold State.traceDrain
  split
  · exact State.only.nil
  · exact State.only_ite State.only.nil (State.only_ite (s.only_traceHost _) (s.only_traceChip _))

theorem State.only_gateTiles (s : State) : s.only s.gateTiles commitPlaces := by
  refine State.only_each_of_mem (fun k hk x => ?_) s
  have hlt : k < 64 := List.mem_range.mp hk
  exact (x.only_put_words (lo := 0x20100) (bytes := 0x100) 0 (by simp only [Reg.FAB_TILE_STATUS.mode]; omega)).mono (by simp [commitPlaces])

theorem State.only_linksIdle (s : State) : s.only s.linksIdle commitPlaces := by
  refine State.only.seq (State.only_each_of_mem (fun p hp x => ?_) s) (State.only_each_of_mem (fun p hp x => State.only_ite ?_ State.only.nil) _)
  · have hlt : p < 2 := by simp at hp; omega
    exact (x.only_put_words (lo := 0x50104) (bytes := 0x80) 0 (by simp only [Reg.CAP_ETH_MAC_HI.link_up]; omega)).mono (by simp [commitPlaces])
  · have hlt : p < 4 := List.mem_range.mp hp
    exact (x.only_put_words (lo := 0x70100) (bytes := 0x80) _ (by simp only [Reg.AKG_PORT_STATUS.state]; omega)).mono (by simp [commitPlaces])

theorem State.only_commitTick (s : State) : s.only s.commitTick commitPlaces :=
  State.only_ite (State.only_ite ((((s.only_withFab _).mono (by simp [commitPlaces])).seq (State.only_gateTiles _)).seq
    (State.only_linksIdle _)) State.only.nil) State.only.nil

theorem State.commitTick_before {s : State} (h : s.service ≠ svcEntering ∨ s.now < s.svc.commitAt) : s.commitTick = s := by
  refine if_neg (fun hdue => ?_)
  simp only [Bool.and_eq_true, decide_eq_true_eq] at hdue
  obtain ⟨hentering, hreached⟩ := hdue
  exact h.elim (fun hne => hne hentering) (fun hlt => absurd hlt (by omega))

theorem State.only_imageTick (s : State) : s.only s.imageTick [.part .gpPsh, .part .svc] :=
  State.only_ite (((s.only_toGld _).mono (by simp)).step (State.only_withSvc _ _) (by simp)) State.only.nil

theorem State.only_mirrorOut (s : State) : s.only s.mirrorOut [.part .gpPsh] :=
  State.only_ite (State.only_each _ (fun x _ => State.only_ite State.only.nil (x.only_toGld _)) _ s) State.only.nil

/-- PSH2 fills the link: no register word. -/
theorem State.only_fillLink (s : State) : s.only s.imageTick.mirrorOut [.part .gpPsh, .part .svc] :=
  s.only_imageTick.step (State.only_mirrorOut _) (by simp)

theorem State.idle_now (s : State) : s.idle.now = s.now + 1 := by
  have htrace := ((s.withNow (s.now + 1)).only_traceDrain.part (p := .clock) (by simp [tracePlaces])).1
  have hcommit := ((s.withNow (s.now + 1)).traceDrain.only_commitTick.part (p := .clock) (by simp [commitPlaces])).1
  have hlink := ((s.withNow (s.now + 1)).traceDrain.commitTick.only_fillLink.part (p := .clock) (by simp)).1
  exact hlink.trans (hcommit.trans htrace)

/-- Short of a commit point the nanosecond writes registers of DBG alone. -/
theorem State.idle_word {s : State} (h : s.service ≠ svcEntering ∨ s.now + 1 < s.svc.commitAt) {off : Nat} (hoff : off < 0xD0000) :
    s.idle.word off = s.word off := by
  have htrace := (s.withNow (s.now + 1)).only_traceDrain
  have hservice : (s.withNow (s.now + 1)).traceDrain.service = s.service := htrace.get (by decide) (by decide)
  have hnow := (htrace.part (p := .clock) (by simp [tracePlaces])).1
  have hsvc := htrace.part (p := .svc) (by simp [tracePlaces])
  have hbefore := State.commitTick_before (s := (s.withNow (s.now + 1)).traceDrain) (by rw [hservice, hnow, hsvc]; exact h)
  rw [State.idle, hbefore, (State.only_fillLink _).word (by simp)]
  refine htrace.word_of_holds (fun p hp i => ?_)
  simp only [tracePlaces, List.mem_cons, List.not_mem_nil, or_false] at hp
  rcases hp with rfl | rfl | rfl
  · simp [Place.holds]; omega
  · rfl
  · rfl

/-- Settles O56: a step unfolds to the command at the front, or to the nanosecond that passes. -/
theorem stepRunsTheFrontCommand : Obligations.StepRunsTheFrontCommand := by
  unfold Obligations.StepRunsTheFrontCommand
  refine ⟨fun s c rest hpending => ?_, fun s hpending => ⟨s.idle, ?_, s.idle_now, ?_, fun h off hoff => State.idle_word h hoff⟩⟩
  · simp only [step, hpending]
  · simp only [step, hpending]
  · exact State.Kept.refl.idle.1.trans hpending

end Sys2Proof.Machine

/-! The controls of the cell fabric (07 R166, R186 to R188) and the health tests of the entropy source (08 R204). -/

namespace Sys2Proof.Machine

open Sys2Proof

/-! Configuration writes of the fabric (07 R166, R188): what is mirrored to a Deputy leaves the registers alone. -/

theorem State.get_mirrorWrite (s : State) (off v : Nat) (expert : Bool) {g : Fld} (hg : g.lo + g.width ≤ 32)
    (ha : cfgPlaces.all (Place.apart g) = true) : (s.mirrorWrite off v expert).get g = s.get g :=
  (s.only_mirrorWrite off v expert).get hg ha

theorem State.word_mirrorWrite (s : State) (off v : Nat) (expert : Bool) {o : Nat} (ho : o < 0x70000) :
    (s.mirrorWrite off v expert).word o = s.word o := by
  refine (s.only_mirrorWrite off v expert).word_of_holds (fun p hp i => ?_)
  simp only [cfgPlaces, List.mem_cons, List.not_mem_nil, or_false] at hp
  rcases hp with rfl | rfl | rfl
  · have hoff : (Reg.AKG_PORT_RETRAIN.replay_fill 0).off ≠ o := by
      simp only [Reg.AKG_PORT_RETRAIN.replay_fill]
      omega
    simp [Place.holds, hoff]
  · rfl
  · rfl

theorem exec_fabGangCfg {s : State} (h : s.bar0Open) (v : Nat) :
    exec (.fabGangCfg v) s = .next ((s.gangCfgWrite v).mirrorWrite Reg.FAB_GANG_CFG.quad4.off v (s.expert blk.fab)) := by
  change Host.Outcome.next (s.viaHost _) = _
  rw [State.viaHost_of_bar0Open h]
  rfl

/-- The layout a write of FAB_GANG_CFG asks for. -/
def State.askedLayout (s : State) (v : Nat) : Layout := { s.layout with quad4 := v % 2 ^ 16, region16 := v / 2 ^ 16 % 16 }

theorem State.gangCfgWrite_taken {s : State} {v : Nat} (hfree : s.layoutFree (s.askedLayout v) = true)
    (hwhole : ∀ R, R < 4 → (v / 2 ^ 16 % 16).testBit R = true → s.regionWhole R = true) :
    s.gangCfgWrite v = (s.put Reg.FAB_GANG_CFG.quad4 (v % 2 ^ 16)).put Reg.FAB_GANG_CFG.region16 (v / 2 ^ 16 % 16) := by
  refine if_pos (Bool.and_eq_true_iff.mpr ⟨hfree, List.all_eq_true.mpr (fun R hR => ?_)⟩)
  cases hbit : (v / 2 ^ 16 % 16).testBit R with
  | false => rfl
  | true => exact hwhole R (List.mem_range.mp hR) hbit

theorem State.gangCfgWrite_refused {s : State} {v : Nat} (h : s.layoutFree (s.askedLayout v) = false ∨
    ∃ R, R < 4 ∧ (v / 2 ^ 16 % 16).testBit R = true ∧ s.regionWhole R = false) : s.gangCfgWrite v = s.cfgRefused := by
  refine if_neg (fun htaken => ?_)
  obtain ⟨hfree, hwhole⟩ := Bool.and_eq_true_iff.mp htaken
  rcases h with hbusy | ⟨R, hR, hbit, hpart⟩
  · exact Bool.false_ne_true (hbusy.symm.trans hfree)
  · have hR := List.all_eq_true.mp hwhole R (List.mem_range.mpr hR)
    rw [hbit, hpart] at hR
    exact Bool.false_ne_true hR

theorem State.only_gangCfgWrite (s : State) (v : Nat) :
    s.only (s.gangCfgWrite v) [.fld Reg.FAB_GANG_CFG.quad4, .fld Reg.FAB_GANG_CFG.region16, .fld Reg.FAB_STATUS.cfg_refused] :=
  State.only_ite ((State.only.nil.put (by simp)).put (by simp)) (State.only.nil.put (by simp))

/-- A refused write leaves its mark in FAB_STATUS and the word it was for as it was. -/
theorem State.cfgRefused_shows (s : State) (off v : Nat) (expert : Bool) {o : Nat} (ho : o < 0x70000) (hne : o ≠ Reg.FAB_STATUS.cfg_refused.off) :
    (s.cfgRefused.mirrorWrite off v expert).word o = s.word o ∧
      (s.cfgRefused.mirrorWrite off v expert).get Reg.FAB_STATUS.cfg_refused = 1 := by
  rw [State.word_mirrorWrite _ _ _ _ ho, State.get_mirrorWrite _ _ _ _ (by decide) (by decide)]
  exact ⟨State.word_put_ne _ _ hne, State.get_put_self _ _ _ (by decide)⟩

theorem gangCfg_taken_or_refused (s : State) (v : Nat) (h : s.bar0Open) :
    ∃ t, exec (.fabGangCfg v) s = .next t ∧
      (s.layoutFree (s.askedLayout v) = true → (∀ R, R < 4 → (v / 2 ^ 16 % 16).testBit R = true → s.regionWhole R = true) →
        t.get Reg.FAB_GANG_CFG.quad4 = v % 2 ^ 16 ∧ t.get Reg.FAB_GANG_CFG.region16 = v / 2 ^ 16 % 16 ∧
        t.get Reg.FAB_STATUS.cfg_refused = s.get Reg.FAB_STATUS.cfg_refused) ∧
      (s.layoutFree (s.askedLayout v) = false → t.word 0x20010 = s.word 0x20010 ∧ t.get Reg.FAB_STATUS.cfg_refused = 1) ∧
      ((∃ R, R < 4 ∧ (v / 2 ^ 16 % 16).testBit R = true ∧ s.regionWhole R = false) →
        t.word 0x20010 = s.word 0x20010 ∧ t.get Reg.FAB_STATUS.cfg_refused = 1) ∧
      s.only t (([.fld Reg.FAB_GANG_CFG.quad4, .fld Reg.FAB_GANG_CFG.region16, .fld Reg.FAB_STATUS.cfg_refused] : List Place) ++ cfgPlaces) := by
  refine ⟨_, exec_fabGangCfg h v, fun hfree hwhole => ?_, fun hbusy => ?_, fun hpart => ?_,
    (s.only_gangCfgWrite v).trans (State.only_mirrorWrite _ _ _ _)⟩
  · rw [State.gangCfgWrite_taken hfree hwhole]
    refine ⟨?_, ?_, ?_⟩ <;> rw [State.get_mirrorWrite _ _ _ _ (by decide) (by decide)]
    · rw [State.get_put_ne _ _ (by decide) (by decide), State.get_put_self _ _ _ (by decide)]
      exact Nat.mod_mod _ _
    · rw [State.get_put_self _ _ _ (by decide)]
      exact Nat.mod_mod _ _
    · rw [State.get_put_off _ _ (by decide), State.get_put_off _ _ (by decide)]
  · rw [State.gangCfgWrite_refused (.inl hbusy)]
    exact s.cfgRefused_shows _ _ _ (by decide) (by decide)
  · rw [State.gangCfgWrite_refused (.inr hpart)]
    exact s.cfgRefused_shows _ _ _ (by decide) (by decide)

/-! SPARE_QUAD_WRITE (07 R187, R188). -/

theorem exec_spareQuadWrite {s : State} (h : s.bar0Open) (v : Nat) : ∃ w,
    exec (.spareQuadWrite v) s = .next ((s.spareWrite (v % 16)).mirrorWrite Reg.FAB_PROFILE.profile.off w (s.expert blk.fab)) := by
  refine ⟨(withField (s.word Reg.FAB_PROFILE.profile.off) 4 4 (v % 16)).toNat, ?_⟩
  change Host.Outcome.next (s.viaHost _) = _
  rw [State.viaHost_of_bar0Open h]
  rfl

theorem State.spareWrite_locked {s : State} (h : s.expert blk.fab = false) (q : Nat) : s.spareWrite q = s := by
  simp [State.spareWrite, h]

theorem State.spareWrite_refused {s : State} {q : Nat} (h : s.expert blk.fab = true) (hprofile : s.get Reg.FAB_PROFILE.profile = 0)
    (hmay : s.spareMay (some (q % 16)) = false) : s.spareWrite q = s.cfgRefused := by
  simp [State.spareWrite, h, hprofile, hmay]

theorem State.get_spareWrite_taken {s : State} {q : Nat} (h : s.expert blk.fab = true)
    (hmay : s.get Reg.FAB_PROFILE.profile ≠ 0 ∨ s.spareMay (some (q % 16)) = true) :
    (s.spareWrite q).get Reg.FAB_PROFILE.spare_quad = q % 16 := by
  have hput : (s.put Reg.FAB_PROFILE.spare_quad q).get Reg.FAB_PROFILE.spare_quad = q % 16 := State.get_put_self _ _ _ (by decide)
  by_cases hprofile : s.get Reg.FAB_PROFILE.profile = 0
  · have hshown := (State.only_showCapacity (s.put Reg.FAB_PROFILE.spare_quad q)).get (g := Reg.FAB_PROFILE.spare_quad) (by decide) (by decide)
    simp only [State.spareWrite, h, hprofile, hmay.resolve_left (fun hne => hne hprofile), Bool.not_true, Bool.false_eq_true, if_false,
      ne_eq, not_true_eq_false, if_true]
    exact hshown.trans hput
  · simpa [State.spareWrite, h, hprofile] using hput

theorem State.only_spareWrite (s : State) (q : Nat) : s.only (s.spareWrite q)
    [.fld Reg.FAB_PROFILE.spare_quad, .fld Reg.FAB_STATUS.cfg_refused, .words 0x20008 4, .words 0x20100 0x100] :=
  State.only_ite State.only.nil (State.only_ite (State.only.nil.put (by simp)) (State.only_ite
    ((State.only.nil.put (by simp)).step (State.only_showCapacity _) (by simp)) (State.only.nil.put (by simp))))

theorem spareQuad_changes_in_expert (s : State) (v : Nat) (h : s.bar0Open) :
    ∃ t, exec (.spareQuadWrite v) s = .next t ∧
      (s.expert blk.fab = false → t.get Reg.FAB_PROFILE.spare_quad = s.get Reg.FAB_PROFILE.spare_quad ∧
        t.get Reg.FAB_STATUS.cfg_refused = s.get Reg.FAB_STATUS.cfg_refused) ∧
      (s.expert blk.fab = true → (s.get Reg.FAB_PROFILE.profile ≠ 0 ∨ s.spareMay (some (v % 16)) = true) →
        t.get Reg.FAB_PROFILE.spare_quad = v % 16) ∧
      (s.expert blk.fab = true → s.get Reg.FAB_PROFILE.profile = 0 → s.spareMay (some (v % 16)) = false →
        t.get Reg.FAB_PROFILE.spare_quad = s.get Reg.FAB_PROFILE.spare_quad ∧ t.get Reg.FAB_STATUS.cfg_refused = 1) ∧
      s.only t (([.fld Reg.FAB_PROFILE.spare_quad, .fld Reg.FAB_STATUS.cfg_refused, .words 0x20008 4, .words 0x20100 0x100] : List Place) ++ cfgPlaces) := by
  obtain ⟨w, hexec⟩ := exec_spareQuadWrite h v
  have hlow : v % 16 % 16 = v % 16 := Nat.mod_mod _ _
  refine ⟨_, hexec, fun hlocked => ?_, fun hexpert hmay => ?_, fun hexpert hprofile hmay => ?_,
    (s.only_spareWrite (v % 16)).trans (State.only_mirrorWrite _ _ _ _)⟩
  · rw [State.spareWrite_locked hlocked]
    exact ⟨s.get_mirrorWrite _ _ _ (by decide) (by decide), s.get_mirrorWrite _ _ _ (by decide) (by decide)⟩
  · rw [State.get_mirrorWrite _ _ _ _ (by decide) (by decide), State.get_spareWrite_taken hexpert (by rwa [hlow]), hlow]
  · rw [State.spareWrite_refused hexpert hprofile (by rwa [hlow])]
    obtain ⟨hword, hmark⟩ := s.cfgRefused_shows Reg.FAB_PROFILE.profile.off w (s.expert blk.fab) (o := Reg.FAB_PROFILE.spare_quad.off)
      (by decide) (by decide)
    exact ⟨by rw [State.get, hword, State.get], hmark⟩

/-! The accumulator read-out (07 R186). -/

/-- The accumulator that FAB_ACC_SEL selects. -/
def State.selectedAcc (s : State) : Int :=
  Store.read (fun _ => (0 : Int)) s.fab.accs
    (s.get Reg.FAB_ACC_SEL.tile * 4096 + s.get Reg.FAB_ACC_SEL.row * 64 + s.get Reg.FAB_ACC_SEL.col)

theorem State.captureAcc_fab (s : State) : s.captureAcc.fab = { s.fab with captured := some s.selectedAcc, capturing := false } := rfl

theorem State.only_captureAcc (s : State) : s.only s.captureAcc
    [.fld Reg.FAB_ACC_SEL.valid, .fld Reg.FAB_ACC_LO.acc_lo, .fld Reg.FAB_ACC_HI.acc_hi, .fld Reg.FAB_ACC_WRAP.wrap, .part .fab] :=
  ((((State.only.nil.withFab (by simp)).put (by simp)).put (by simp)).put (by simp)).put (by simp)

theorem State.get_captureAcc_valid (s : State) : s.captureAcc.get Reg.FAB_ACC_SEL.valid = 1 := by
  unfold State.captureAcc
  rw [State.get_put_off _ _ (by decide), State.get_put_off _ _ (by decide), State.get_put_off _ _ (by decide), State.get_put_self _ _ _ (by decide)]
  rfl

/-- The three read-out registers hold the 68 bits of the captured value. -/
theorem State.captureAcc_reads (s : State) : s.captureAcc.get Reg.FAB_ACC_LO.acc_lo + s.captureAcc.get Reg.FAB_ACC_HI.acc_hi * 2 ^ 32 +
    s.captureAcc.get Reg.FAB_ACC_WRAP.wrap * 2 ^ 64 = unsigned 68 s.selectedAcc := by
  have hlt : unsigned 68 s.selectedAcc < 2 ^ 68 := by
    unfold unsigned
    omega
  have hlo : s.captureAcc.get Reg.FAB_ACC_LO.acc_lo = unsigned 68 s.selectedAcc % 2 ^ 32 := by
    unfold State.captureAcc
    rw [State.get_put_off _ _ (by decide), State.get_put_off _ _ (by decide), State.get_put_self _ _ _ (by decide)]
    rfl
  have hhi : s.captureAcc.get Reg.FAB_ACC_HI.acc_hi = unsigned 68 s.selectedAcc / 2 ^ 32 % 2 ^ 32 := by
    unfold State.captureAcc
    rw [State.get_put_off _ _ (by decide), State.get_put_self _ _ _ (by decide)]
    rfl
  have hwrap : s.captureAcc.get Reg.FAB_ACC_WRAP.wrap = unsigned 68 s.selectedAcc / 2 ^ 64 % 2 ^ 4 := State.get_put_self _ _ _ (by decide)
  rw [hlo, hhi, hwrap]
  omega

/-- FAB_ACC_SEL with the selection written and valid clear. -/
def State.selectAcc (s : State) (tile row col : Nat) : State :=
  (((s.put Reg.FAB_ACC_SEL.tile tile).put Reg.FAB_ACC_SEL.row row).put Reg.FAB_ACC_SEL.col col).put Reg.FAB_ACC_SEL.valid 0

/-- FAB_ACC_SEL selects this cell. -/
def State.selects (s : State) (tile row col : Nat) : Prop :=
  s.get Reg.FAB_ACC_SEL.tile = tile % 64 ∧ s.get Reg.FAB_ACC_SEL.row = row % 64 ∧ s.get Reg.FAB_ACC_SEL.col = col % 64

theorem State.selects_selectAcc (s : State) (tile row col : Nat) : (s.selectAcc tile row col).selects tile row col := by
  unfold State.selectAcc
  refine ⟨?_, ?_, ?_⟩
  · rw [State.get_put_ne _ _ (by decide) (by decide), State.get_put_ne _ _ (by decide) (by decide),
      State.get_put_ne _ _ (by decide) (by decide), State.get_put_self _ _ _ (by decide)]
    rfl
  · rw [State.get_put_ne _ _ (by decide) (by decide), State.get_put_ne _ _ (by decide) (by decide), State.get_put_self _ _ _ (by decide)]
    rfl
  · rw [State.get_put_ne _ _ (by decide) (by decide), State.get_put_self _ _ _ (by decide)]
    rfl

theorem State.get_selectAcc_valid (s : State) (tile row col : Nat) : (s.selectAcc tile row col).get Reg.FAB_ACC_SEL.valid = 0 :=
  State.get_put_self _ _ _ (by decide)

/-- What writing the selection and asking for a capture reaches. -/
def accPlaces : List Place := [.fld Reg.FAB_ACC_SEL.tile, .fld Reg.FAB_ACC_SEL.row, .fld Reg.FAB_ACC_SEL.col, .fld Reg.FAB_ACC_SEL.valid,
  .fld Reg.FAB_ACC_LO.acc_lo, .fld Reg.FAB_ACC_HI.acc_hi, .fld Reg.FAB_ACC_WRAP.wrap, .part .fab]

theorem State.only_selectAcc (s : State) (tile row col : Nat) : s.only (s.selectAcc tile row col) accPlaces :=
  (((State.only.nil.put (by simp [accPlaces])).put (by simp [accPlaces])).put (by simp [accPlaces])).put (by simp [accPlaces])

theorem State.selects_captureAcc {s : State} {tile row col : Nat} (h : s.selects tile row col) : s.captureAcc.selects tile row col := by
  have hkeeps (g : Fld) (hg : g.lo + g.width ≤ 32) (ha : [Place.fld Reg.FAB_ACC_SEL.valid, .fld Reg.FAB_ACC_LO.acc_lo, .fld Reg.FAB_ACC_HI.acc_hi,
      .fld Reg.FAB_ACC_WRAP.wrap, .part .fab].all (Place.apart g) = true) : s.captureAcc.get g = s.get g := s.only_captureAcc.get hg ha
  unfold State.selects
  rwa [hkeeps _ (by decide) (by decide), hkeeps _ (by decide) (by decide), hkeeps _ (by decide) (by decide)]

/-- Outside debug mode a latch asks for nothing. -/
theorem State.accSelWrite_locked {s : State} (h : s.debugMode = false) (tile row col : Nat) :
    s.accSelWrite tile row col true = (s.selectAcc tile row col).setFab (fun f => { f with capturing := false }) := by
  simp [State.accSelWrite, State.selectAcc, h]

theorem State.accSelWrite_asks {s : State} (h : s.debugMode = true) {tile : Nat} (hmode : s.get (Reg.FAB_TILE_STATUS.mode (tile % 64)) ≠ 0 ∧
    s.get (Reg.FAB_TILE_STATUS.mode (tile % 64)) ≠ 3) (row col : Nat) :
    s.accSelWrite tile row col true = (s.selectAcc tile row col).setFab (fun f => { f with capturing := true }) := by
  simp [State.accSelWrite, State.selectAcc, h, hmode]

theorem State.accSelWrite_captures {s : State} (h : s.debugMode = true) {tile : Nat} (hmode : s.get (Reg.FAB_TILE_STATUS.mode (tile % 64)) = 0 ∨
    s.get (Reg.FAB_TILE_STATUS.mode (tile % 64)) = 3) (row col : Nat) :
    s.accSelWrite tile row col true = ((s.selectAcc tile row col).setFab (fun f => { f with capturing := true })).captureAcc := by
  simp [State.accSelWrite, State.selectAcc, h, hmode]

theorem exec_accLatch {s : State} (h : s.bar0Open) (tile row col : Nat) :
    exec (.accLatch tile row col) s = .next (s.accSelWrite tile row col true) := by
  change Host.Outcome.next (s.viaHost _) = _
  rw [State.viaHost_of_bar0Open h]

theorem State.accSelWrite_latch_shows (s : State) (tile row col : Nat) :
    (s.accSelWrite tile row col true).selects tile row col ∧ s.only (s.accSelWrite tile row col true) accPlaces := by
  have hselects := s.selects_selectAcc tile row col
  have hframe (f : Fabric) : s.only ((s.selectAcc tile row col).withFab f) accPlaces :=
    (s.only_selectAcc tile row col).withFab (by simp [accPlaces])
  cases hdebug : s.debugMode with
  | false =>
    rw [State.accSelWrite_locked hdebug]
    exact ⟨hselects, hframe _⟩
  | true =>
    by_cases hmode : s.get (Reg.FAB_TILE_STATUS.mode (tile % 64)) = 0 ∨ s.get (Reg.FAB_TILE_STATUS.mode (tile % 64)) = 3
    · rw [State.accSelWrite_captures hdebug hmode]
      exact ⟨State.selects_captureAcc hselects, (hframe _).step (State.only_captureAcc _) (by simp [accPlaces])⟩
    · rw [State.accSelWrite_asks hdebug (not_or.mp hmode)]
      exact ⟨hselects, hframe _⟩

theorem accLatch_asks_in_debug_mode (s : State) (k row col : Nat) (h : s.bar0Open) :
    ∃ t, exec (.accLatch k row col) s = .next t ∧
      t.get Reg.FAB_ACC_SEL.tile = k % 64 ∧ t.get Reg.FAB_ACC_SEL.row = row % 64 ∧ t.get Reg.FAB_ACC_SEL.col = col % 64 ∧
      (s.debugMode = false → t.get Reg.FAB_ACC_SEL.valid = 0 ∧ t.fab = { s.fab with capturing := false }) ∧
      (s.debugMode = true → (s.get (Reg.FAB_TILE_STATUS.mode (k % 64)) = 1 ∨ s.get (Reg.FAB_TILE_STATUS.mode (k % 64)) = 2) →
        t.get Reg.FAB_ACC_SEL.valid = 0 ∧ t.fab = { s.fab with capturing := true }) ∧
      (s.debugMode = true → (s.get (Reg.FAB_TILE_STATUS.mode (k % 64)) = 0 ∨ s.get (Reg.FAB_TILE_STATUS.mode (k % 64)) = 3) →
        t.get Reg.FAB_ACC_SEL.valid = 1 ∧
        t.fab.captured = some (Store.read (fun _ => (0 : Int)) s.fab.accs (k % 64 * 4096 + row % 64 * 64 + col % 64))) ∧
      s.only t accPlaces := by
  obtain ⟨⟨htile, hrow, hcol⟩, hframe⟩ := s.accSelWrite_latch_shows k row col
  refine ⟨_, exec_accLatch h k row col, htile, hrow, hcol, fun hdebug => ?_, fun hdebug hmode => ?_, fun hdebug hmode => ?_, hframe⟩
  · rw [State.accSelWrite_locked hdebug]
    exact ⟨s.get_selectAcc_valid k row col, rfl⟩
  · rw [State.accSelWrite_asks hdebug (by omega)]
    exact ⟨s.get_selectAcc_valid k row col, rfl⟩
  · rw [State.accSelWrite_captures hdebug hmode, State.captureAcc_fab]
    obtain ⟨htile, hrow, hcol⟩ := s.selects_selectAcc k row col
    refine ⟨State.get_captureAcc_valid _, congrArg some ?_⟩
    rw [← htile, ← hrow, ← hcol]
    rfl

theorem accCapture_reads_selected (s : State) (hasked : s.fab.capturing = true) (hdebug : s.debugMode = true) :
    ∃ t, exec (.accCapture) s = .next t ∧
      t.get Reg.FAB_ACC_SEL.valid = 1 ∧
      t.fab = { s.fab with capturing := false, captured := some s.selectedAcc } ∧
      (∀ v, t.fab.captured = some v →
        t.get Reg.FAB_ACC_LO.acc_lo + t.get Reg.FAB_ACC_HI.acc_hi * 2 ^ 32 + t.get Reg.FAB_ACC_WRAP.wrap * 2 ^ 64 = unsigned 68 v) ∧
      s.only t [.fld Reg.FAB_ACC_SEL.valid, .fld Reg.FAB_ACC_LO.acc_lo, .fld Reg.FAB_ACC_HI.acc_hi, .fld Reg.FAB_ACC_WRAP.wrap, .part .fab] := by
  have hexec : exec .accCapture s = .next s.captureAcc := by
    change execAccCapture s = _
    simp [execAccCapture, hasked, hdebug]
  refine ⟨_, hexec, s.get_captureAcc_valid, rfl, fun v hv => ?_, s.only_captureAcc⟩
  obtain rfl : s.selectedAcc = v := Option.some.inj hv
  exact s.captureAcc_reads

/-! The health tests of the entropy source (08 R204). -/

theorem exec_entropyTestFail {s : State} (h : s.svc.rstLow = false) :
    exec .entropyTestFail s = .next ((s.put Reg.SMP_ENTROPY.health_ok 0).put Reg.SMP_ENTROPY.health_fail 1) := by
  change execEntropyTestFail s = _
  simp [execEntropyTestFail, h]

theorem exec_entropyTestPass {s : State} (h : s.svc.rstLow = false) : exec .entropyTestPass s = .next (s.put Reg.SMP_ENTROPY.health_ok 1) := by
  change execEntropyTestPass s = _
  simp [execEntropyTestPass, h]

theorem entropyTestFail_marks (s : State) (h : s.svc.rstLow = false) :
    ∃ t, exec .entropyTestFail s = .next t ∧ t.get Reg.SMP_ENTROPY.health_ok = 0 ∧ t.get Reg.SMP_ENTROPY.health_fail = 1 ∧
      s.only t [.fld Reg.SMP_ENTROPY.health_ok, .fld Reg.SMP_ENTROPY.health_fail] := by
  refine ⟨_, exec_entropyTestFail h, ?_, State.get_put_self _ _ _ (by decide), (State.only.nil.put (by simp)).put (by simp)⟩
  rw [State.get_put_ne _ _ (by decide) (by decide), State.get_put_self _ _ _ (by decide)]
  rfl

/-- Settles O42, clause by clause: a layout taken or refused, the spare quad in Expert, the latch and its capture, the health tests. -/
theorem fabricControlsAreApplied : Obligations.FabricControlsAreApplied :=
  ⟨gangCfg_taken_or_refused, spareQuad_changes_in_expert, accLatch_asks_in_debug_mode, accCapture_reads_selected, entropyTestFail_marks,
    fun s h => ⟨_, exec_entropyTestPass h, State.get_put_self _ _ _ (by decide), s.only_put _ _⟩⟩

end Sys2Proof.Machine

/-! The statements on loads, runs and boundaries of chapters 07 and 08 fail, each at one clause: a LOAD_COEFF that names a gang outside the
layout, a TRAIN_STEP on a model of another partition, and a run that ends on a slot beyond the 256 of the register map. -/

namespace Sys2Proof.Machine

open Sys2Proof

/-! How a descriptor's work ends (06 R147), and what a step leaves where it has nothing to do. -/

theorem State.flight_finishWith {s : State} {id : Nat} {f : Flight} (h : s.flight id = some f) (hstage : f.stage ≠ .ended)
    (status r0 r1 : Nat) (info : Info) : (s.finishWith id status r0 r1 info).flight id =
      some { f with stage := .ended, status := status, standing := false, heldBack := false } := by
  have hid : f.id = id := of_decide_eq_true (List.find?_some (p := fun g : Flight => decide (g.id = id)) h)
  have hmark : (fun g : Flight => decide ((if g.id = id then
      { g with stage := .ended, status := status, standing := false, heldBack := false } else g).id = id)) = fun g => decide (g.id = id) := by
    funext g
    split <;> rfl
  have hflights : (s.finishWith id status r0 r1 info).host.flights = s.host.flights.map (fun g =>
      if g.id = id then { g with stage := .ended, status := status, standing := false, heldBack := false } else g) := by
    rw [State.finishWith, h]
    simp only [if_neg hstage]
    rfl
  rw [State.flight, hflights, List.find?_map, Function.comp_def, hmark]
  simp only [State.flight] at h
  rw [h]
  simp [hid]

theorem State.only_finishWith (s : State) (id status r0 r1 : Nat) (info : Info) : s.only (s.finishWith id status r0 r1 info) endPlaces := by
  unfold State.finishWith
  split
  · exact State.only.nil
  · exact State.only_ite State.only.nil
      (((State.only.nil.withHost (by simp [endPlaces])).step (State.only_hold _ _) (by simp [endPlaces])).putFlag (by simp [endPlaces]))

theorem State.only_finishMirrored (s : State) (id status r0 r1 : Nat) (m : AkMsg) :
    s.only (s.finishMirrored id status r0 r1 m) (cfgPlaces ++ endPlaces) :=
  State.only_ite (((s.only_withAkg _).mono (by simp [cfgPlaces])).step ((State.only_sendPair _ 2 m).mono (fun _ => List.mem_append_left _)) (fun _ h => h))
    ((s.only_mirrorMsg m).trans (State.only_finishWith _ _ _ _ _ _))

theorem State.traceIn_untraced {s : State} (h : s.tracing = false) (part : Nat) (dev : Bool) (addr : Nat) (bytes : List Byte) :
    s.traceIn part dev addr bytes = s := by
  simp [State.traceIn, State.traceAccess, h]

theorem State.reroute_of_no_standing {s : State} (h : s.cap.standing = []) : s.reroute = s := by
  simp [State.reroute, State.each, h]

/-! What the counterexamples share: a descriptor on slot 0 with its operand at host address 64, its flight, and a model on one gang of four tiles. -/

/-- The 64 bytes of a descriptor (06 Tables 06-6, 06-8) on slot 0: opcode, gang, result address, and its fields from byte 24 on. -/
def slotDescriptor (op gang addr1 : Nat) (fields : List Byte) : List Byte :=
  leBytes 6 op ++ leBytes 2 gang ++ leBytes 8 64 ++ leBytes 8 addr1 ++ fields

/-- Descriptor 1 of partition 0, fetched and waiting on SQ 0. -/
def waitingFlight (bytes : List Byte) : Flight := ⟨1, 0, 0, bytes, .waiting, 0, false, false, none, false, State.reset.smpDefaults⟩

/-- A model without couplings, trainable in exact mode, on the gang of four tiles at tile 0. -/
def quadModel : Model where
  part := 0
  gangs := [0]
  size := 1
  kind := 1
  colours := 1
  positions := 1
  exactDefault := true
  rotation := false
  trainable := true
  columnLen := 128
  blockSweeps := 0
  betaCold := 0x3F800000
  betaHot := 0x3F000000
  offset := 0
  opsPerByte := 1
  epochs := 1
  posSweeps := 1
  devBase := 0
  devBytes := 0
  image := 0
  eMin := 0
  mants := []
  exps := []
  columns := []
  rows := []
  vars := [⟨0, 1, 0, 0, 0⟩]
  blocks := []
  own := none
  table := ⟨false, 4, 64, 0, [⟨⟨1, 0⟩, 0, 0⟩]⟩
  trainMap := []
  dataPos := []
  verdict := none
  exactOk := true
  boundLog2 := 0
  homeroom := false
  last := none
  kept := []
  chains := []
  masters := []
  trained := false

/-- A state with one descriptor in flight, and models and runs on the fabric. -/
def withWork (f : Flight) (models : List (Nat × Model)) (runs : List Run) : State :=
  (State.reset.withHost { HostIf.reset with flights := [f], nextId := 2 }).withFab { Fabric.reset with models := models, runs := runs }

/-! LOAD_COEFF that names a gang outside the layout (07 R167). -/

theorem State.loadCoeff_of_gang_outside {s : State} {f : Flight} {m : Model} (hm : s.model (dModel f.bytes) = some m)
    (hnamed : dGang f.bytes ≠ 0xFF) (hout : s.layout.has m.size (dGang f.bytes) = false) (b : List Byte) :
    s.loadCoeff f b = s.finish f.id 0x20 0 0 := by
  simp [State.loadCoeff, hm, hnamed, hout]

/-- LOAD_COEFF of the first 16 couplings; the gang it names is 1, at which no gang of four tiles lies. -/
def strayCoeff : Flight := waitingFlight (slotDescriptor opLoadCoeff 1 0 (leBytes 40 16))

/-- The descriptor waits for its work on the model in slot 0. -/
def strayLoad : State := withWork strayCoeff [(0, quadModel)] []

theorem exec_strayLoad : exec (.loadCoeff 1 (some [])) strayLoad = .next (strayLoad.finish 1 0x20 0 0) := by
  have hstart : strayLoad.startSlot 1 opLoadCoeff = some strayCoeff := by decide +kernel
  have hread : strayLoad.readIn 0 (dDev0 strayCoeff.bytes) (dAddr0 strayCoeff.bytes) (4 * natAt strayCoeff.bytes 24 4) (some []) =
      some (List.replicate 64 0) := by decide +kernel
  have hrefused : strayLoad.loadCoeff strayCoeff (List.replicate 64 0) = strayLoad.finish 1 0x20 0 0 :=
    State.loadCoeff_of_gang_outside (m := quadModel) (by decide +kernel) (by decide +kernel) (by decide +kernel) _
  have hstanding : (strayLoad.finish 1 0x20 0 0).cap.standing = [] :=
    congrArg Capture.standing ((strayLoad.only_finishWith 1 0x20 0 0 Info.plain).part (p := .cap) (by simp [endPlaces]))
  change execLoadCoeff 1 (some []) strayLoad = _
  simp only [execLoadCoeff, hstart]
  rw [show strayCoeff.part = 0 from rfl, hread]
  simp only
  rw [State.traceIn_untraced (by decide +kernel), hrefused, State.reroute_of_no_standing hstanding]

/-- Refutes O39: its LOAD_COEFF clause asks nothing of the gang the descriptor names, and R167 ends a descriptor with BAD_DESC whose gang is
none of the layout's, as `strayCoeff`'s is. -/
theorem not_loadsFillTheirBanks : ¬ Obligations.LoadsFillTheirBanks := by
  unfold Obligations.LoadsFillTheirBanks
  rintro ⟨-, -, hcoeff⟩
  obtain ⟨t, ht, -, hends, -⟩ := hcoeff strayLoad 1 strayCoeff quadModel [] (by decide +kernel) (by decide +kernel) (by decide +kernel)
    (by decide +kernel) (by decide +kernel) (by decide +kernel) (by decide +kernel) rfl
  rw [exec_strayLoad] at ht
  obtain rfl := Host.Outcome.next.inj ht
  have hflight : strayLoad.flight 1 = some strayCoeff := by decide +kernel
  obtain ⟨-, hok⟩ := (hends (by decide +kernel)).2 _ (State.flight_finishWith hflight (by decide +kernel) 0x20 0 0 Info.plain)
  exact absurd hok (by decide)

/-! TRAIN_STEP on a model whose dev_bytes area lies in the memory of another partition (08 R196, R216; 06 R151). -/

theorem exec_trainStep {s : State} {id : Nat} {f : Flight} {m : Model} (hstart : s.startSlot id opTrain = some f)
    (hm : s.model (dModel f.bytes) = some m) (hfits : s.modelFits f.bytes = true) (hready : s.trainReady f m = true)
    (hdev : dDev0 f.bytes = false) (hseed : (natAt f.bytes 48 1).testBit 0 = true) (b : List Byte) :
    ∃ data, exec (.trainStep id (some b)) s =
      .next ((s.traceIn f.part false (dAddr0 f.bytes) data).trainStep f m (natAt f.bytes 40 8) data) := by
  refine ⟨bytesAt b 0 (natAt f.bytes 24 4 * m.vectorBytes), ?_⟩
  change execTrainStep id (some b) s = _
  simp [execTrainStep, hstart, hm, hfits, hready, hdev, hseed, State.readIn]

/-- A step that writes no statistics reaches LPDDR5X in the model's dev_bytes area alone, which is counted from the base of the model's partition. -/
theorem State.trainStep_dram (s : State) {f : Flight} (m : Model) (seed : Nat) (data : List Byte) (h : dAddr1 f.bytes = 0) :
    (s.trainStep f m seed data).dram = (s.dramRenew (s.dramAddr m.part m.devBase) m.devBytes).dram ∧
      (s.trainStep f m seed data).dramEra = (s.dramRenew (s.dramAddr m.part m.devBase) m.devBytes).dramEra := by
  have hends (x : State) (status r0 r1 : Nat) (a : AkMsg) : (x.finishMirrored f.id status r0 r1 a).dram = x.dram ∧
      (x.finishMirrored f.id status r0 r1 a).dramEra = x.dramEra :=
    ⟨(x.only_finishMirrored _ _ _ _ a).part (p := .dram) (by simp [cfgPlaces, endPlaces]),
      (x.only_finishMirrored _ _ _ _ a).part (p := .dramEra) (by simp [cfgPlaces, endPlaces])⟩
  unfold State.trainStep
  simp only [h, if_true]
  exact hends _ _ _ _ _

/-- TRAIN_STEP of partition 0: a batch of 1, rate 1.0, 1 negative sweep, 1 chain, seed 5. -/
def foreignStep : Flight := waitingFlight (slotDescriptor opTrain 0xFF 0
  (leBytes 4 1 ++ leBytes 4 0x3F800000 ++ leBytes 4 1 ++ leBytes 4 1 ++ leBytes 8 5 ++ leBytes 16 1))

/-- A model that partition 1 loaded, with a page of dev_bytes at the start of its memory. -/
def foreignModel : Model := { quadModel with part := 1, devBytes := 4096 }

/-- Where the memory of partition 1 begins. -/
def foreignBase : Nat := 64 * 2 ^ 28

/-- The areas of LPDDR5X once the page has been written anew. -/
def renewedEra : DramEra := ⟨[0, 0, 0, 0], [⟨foreignBase, 4096, 1⟩]⟩

/-- Units READY: the tiles of the gang at tile 0, and the gang of four itself. -/
def readyQuad (s : State) : State := s.each [0, 1, 8, 9, 64] (fun t u => t.put (Reg.FAB_LEDGER.data_state u) dataReady)

/-- Partition 0's step waits on the model of partition 1, the first byte of whose page is not what an unwritten one reads as after the step. -/
def foreignTraining : State :=
  ((readyQuad (withWork foreignStep [(0, foreignModel)] [])).withHost { HostIf.reset with
      flights := [foreignStep], nextId := 2
      parts := HostIf.reset.parts.set 1 { PartCfg.none with memBase := 64, memSize := 64 } }).withDram
    [(foreignBase, ~~~(dramBlank renewedEra foreignBase))]

theorem foreignTraining_renewed :
    (foreignTraining.dramRenew (foreignTraining.dramAddr foreignModel.part foreignModel.devBase) foreignModel.devBytes).dram = [] ∧
    (foreignTraining.dramRenew (foreignTraining.dramAddr foreignModel.part foreignModel.devBase) foreignModel.devBytes).dramEra = renewedEra := by
  decide +kernel

/-- Refutes O40: its TRAIN_STEP clause counts the model's dev_bytes area from the base of the descriptor's partition, and the step writes that area in
the memory of the partition that loaded the model. -/
theorem not_runsAreSubmittedToTheirGangs : ¬ Obligations.RunsAreSubmittedToTheirGangs := by
  unfold Obligations.RunsAreSubmittedToTheirGangs
  rintro ⟨-, -, -, htrain, -⟩
  have hstart : foreignTraining.startSlot 1 opTrain = some foreignStep := by decide +kernel
  have hmodel : foreignTraining.model (dModel foreignStep.bytes) = some foreignModel := by decide +kernel
  have hfits : foreignTraining.modelFits foreignStep.bytes = true := by decide +kernel
  have hready : foreignTraining.trainReady foreignStep foreignModel = true := by decide +kernel
  obtain ⟨t, ht, -, -, -, hkeeps, -⟩ := htrain foreignTraining 1 foreignStep foreignModel [] hstart hmodel hfits (by decide +kernel) (by decide +kernel)
  obtain ⟨data, hexec⟩ := exec_trainStep hstart hmodel hfits hready (by decide +kernel) (by decide +kernel) []
  rw [State.traceIn_untraced (by decide +kernel)] at hexec
  obtain rfl := Host.Outcome.next.inj (hexec.symm.trans ht)
  obtain ⟨hdram, hera⟩ := foreignTraining.trainStep_dram (f := foreignStep) foreignModel (natAt foreignStep.bytes 40 8) data (by decide +kernel)
  have hread := hkeeps foreignBase (.inl (by decide +kernel)) (.inr (by decide +kernel))
  rw [hdram, hera, foreignTraining_renewed.1, foreignTraining_renewed.2] at hread
  have hbit : (dramBlank renewedEra foreignBase).getLsbD 0 = (~~~(dramBlank renewedEra foreignBase)).getLsbD 0 :=
    congrArg (fun w : Byte => w.getLsbD 0) hread
  simp at hbit

/-! A run that ends on a slot outside the register map (07 Table 07-8: slots 0 to 255). -/

/-- A slot number whose FAB_MODEL_STATUS would stand at 0xA0000, the offset of PSH2's PWR_STATE. -/
def straySlot : Nat := 130816

/-- RUN_SAMPLE of 1 sweep of 1 replica with 1 state tracked, its work running. -/
def strayFlight : Flight :=
  { waitingFlight (slotDescriptor opRunSample 0xFF 4096 (leBytes 4 1 ++ leBytes 2 1 ++ leBytes 34 1)) with stage := .running }

/-- A run on the slot that has done its sweep and waits for its epoch boundary. -/
def strayRun : Run :=
  { Run.ofFlight strayFlight quadModel .sample 0 0xFF with
    slot := straySlot, gangs := some [0], live := true, started := true, boundary := true
    total := 1, k := 1, path := { Path.empty with reps := [⟨[0], 0, 0⟩], sweeps := 1, inEpoch := 1, track := [⟨0, 0, 1, 0⟩] } }

def strayEnd : State := withWork strayFlight [(straySlot, quadModel)] [strayRun]

theorem exec_epochBoundary {s : State} (h : s.halted 2 = false) (id : Nat) : exec (.epochBoundary id) s = .next (s.epochEnd id) := by
  change Host.Outcome.next (s.onCore 2 _) = _
  simp [State.onCore, h]

/-- The end of the run marks the slot as loaded, in the word of PWR_STATE. -/
theorem epochEnd_strayEnd : (strayEnd.epochEnd 1).get (Reg.FAB_MODEL_STATUS.loaded straySlot) = 1 ∧
    strayEnd.get (Reg.FAB_MODEL_STATUS.loaded straySlot) = 0 := by decide +kernel

/-- Refutes O41: the end of a run shows its slot in FAB_MODEL_STATUS, its EPOCH_BOUNDARY clause asks for no bound on the slot, and the word of `straySlot`
is PSH2's, outside `gld1Places`. -/
theorem not_passesSweepsAndBoundariesEnd : ¬ Obligations.PassesSweepsAndBoundariesEnd := by
  unfold Obligations.PassesSweepsAndBoundariesEnd
  rintro ⟨-, -, -, hboundary, -⟩
  obtain ⟨t, ht, -, -, -, -, -, hframe⟩ := hboundary strayEnd 1 strayRun strayFlight quadModel (by decide +kernel) (.inl rfl) (by decide +kernel) rfl
    (by decide +kernel) (by decide +kernel) (by decide +kernel) (by decide +kernel) (by decide +kernel) (by decide +kernel)
  rw [exec_epochBoundary rfl] at ht
  obtain rfl := Host.Outcome.next.inj ht
  obtain ⟨hshown, hclear⟩ := epochEnd_strayEnd
  have hkept : (strayEnd.epochEnd 1).get (Reg.FAB_MODEL_STATUS.loaded straySlot) = strayEnd.get (Reg.FAB_MODEL_STATUS.loaded straySlot) :=
    hframe.get (by decide) (by decide)
  exact absurd (hshown.symm.trans (hkept.trans hclear)) (by decide)

end Sys2Proof.Machine
